-- ==== Sys2Proof/Word.lean ====
section
/-! DEFINITION. The word types of the block: bytes, the 32-bit and 64-bit words, and byte strings.
R4: bit 0 is the least significant bit and byte 0 the byte at the lowest address. -/

namespace Sys2Proof

/-- One byte. -/
abbrev Byte := BitVec 8
/-- A byte string, first byte first (R6: the device never reorders the bytes of cryptographic inputs and outputs). -/
abbrev Bytes := List Byte
/-- A 32-bit word. -/
abbrev W32 := BitVec 32
/-- A 64-bit word. -/
abbrev W64 := BitVec 64

end Sys2Proof
end

