-- ==== Sys2Proof/Syntax.lean ====
section
/-! DEFINITION. The commands of the OQ7168 as the block takes them, and the records their operands are made of.
One constructor of `Instr` for each row of spec/opcode_table.json. -/

namespace Sys2Proof.Machine

/-! ### What a migration image holds (R408) -/

/-- The states of a queue pair (R24). -/
inductive QpState where
  | unconfigured | disabled | active | faulted
  deriving DecidableEq, Repr

/-- The stamp of one posted descriptor number (R34): void, or its acceptance time and sequence number. -/
structure Stamp where
  void : Bool
  time : Int
  seq : Nat
  deriving DecidableEq, Repr

/-- A queue pair (R22, R24, R28, R34, R49 to R56). Its configuration words are dictionary rows (R524). -/
structure Qp where
  state : QpState
  /-- QP_DISABLE was accepted and admitted requests remain (R24). -/
  disabling : Bool
  /-- The doorbell page and slot bound to it (R27). -/
  binding : Option (Nat × Nat)
  /-- Doorbell count b and retired count R (R34). -/
  b : Nat
  r : Nat
  /-- The credit last written to the credit word (R33). -/
  lastCredit : Nat
  /-- A credit-word write waits for the translation of its page (R60). -/
  creditOwed : Bool
  /-- The stamps of numbers r to b − 1, in order. -/
  stamps : List Stamp
  /-- Descriptor r was read and could not be admitted (R36). -/
  parked : Bool
  wpos : Nat
  phase : Bool
  pubRecords : Nat
  pubUnits : Nat
  relRecords : Nat
  relUnits : Nat
  /-- The 16-byte units of each published and unreleased record, oldest first. -/
  unreleased : List Nat
  /-- Requests past their release point whose records wait to be written, in release order (R53). -/
  staged : List Nat
  /-- The wait of the first staged record has been counted (R50). -/
  waitCounted : Bool
  armed : Bool
  deriving DecidableEq, Repr

/-- The 64 bytes of a descriptor by field (R38). -/
structure Descriptor where
  opcode : Nat
  flags : Nat
  profile : Nat
  tag : Nat
  deadlineUs : Nat
  flow : Nat
  byte15 : Nat
  keyA : Nat
  keyB : Nat
  inPtr : Nat
  inLen : Nat
  outCap : Nat
  outPtr : Nat
  aux : Nat
  deriving DecidableEq, Repr

/-- What the host memory returns for one descriptor (R36, R41, R43): the 64 descriptor bytes, the input-list bytes and the
input bytes read for it, whether the descriptor read completed, and whether every input and output page has a translation. (DESIGN CHOICE, assumption log 110) -/
structure DescRead where
  readable : Bool
  desc : Bytes
  list : Bytes
  input : Bytes
  inputReadable : Bool
  pagesTranslate : Bool
  deriving DecidableEq, Repr

/-- An entry of a re-issue list (R405, R408). -/
structure Reissue where
  /-- Its descriptor, and what the host memory behind it held (R42). -/
  read : DescRead
  qp : Nat
  number : Nat
  /-- Its absolute deadline; in an image, relative to the commit of the save. `none`: NO_DEADLINE. -/
  deadline : Option Int
  /-- Its acceptance time, in an image relative in the same way. -/
  accept : Int
  /-- The acceptance sequence number it takes when it is issued again (R410); 0 until then. -/
  seq : Nat
  deriving DecidableEq, Repr

/-- The window of a stateful key (R225 to R232). -/
structure Stateful where
  total : Nat
  committed : Nat
  next : Nat
  block : Nat
  /-- A reservation is being journaled (R228). -/
  reserving : Bool
  /-- The window is open (R230). -/
  window : Bool
  lowRaised : Bool
  deriving DecidableEq, Repr

/-- One object of the node table (R296, R300 to R307). The table is keyed by OBJECT, so VOL is bit 27 of the key. -/
structure Node where
  slice : Nat
  tag : Nat
  parent : Option Nat
  source : Option Nat
  level : Nat
  cls : Nat
  alg : Nat
  gen : Nat
  pgen : Nat
  sgen : Nat
  version : Nat
  exportable : Bool
  childExport : Bool
  seedForm : Bool
  destroyed : Bool
  /-- Its creation is journaled and not committed (R313 to R315). -/
  pending : Bool
  /-- Key material (R305); for a public key object, the public key. -/
  material : Bytes
  /-- Its public key, where it holds one beside its key material (R188, R305). -/
  pub : Bytes
  /-- The traversal state of a stateful key (R225). -/
  tree : Bytes
  /-- The parameters fixed at creation: the descriptor of R224, or the curve of R264 from its L field on. -/
  params : Bytes
  resident : Bool
  /-- In the cache: its secret bytes as two shares (R306, R323); empty where it is not resident, or public. -/
  shares : List Bytes
  /-- Stamp of its last use, for eviction (R307). -/
  used : Nat
  stateful : Option Stateful
  /-- In the key store: IV, ciphertext and tag under its slice's storage key (R298); empty before its commit, and of a volatile object. -/
  stored : Bytes
  deriving DecidableEq, Repr

/-- What a replicated journal record says of one node (R328, R329): its state, that it is freed, or that its index is taken by a key that does not replicate. -/
inductive NodeChange where
  | state (x : Node)
  | freed
  | reserved
  deriving DecidableEq, Repr

/-- A committed journal record as a member receives it (R314, R328): the nodes that it changes, and the slice root's generation. -/
structure ReplRecord where
  changes : List (Nat × NodeChange)
  rootGen : Nat
  deriving DecidableEq, Repr

/-- A queue pair as an image carries it: its configuration rows and its counts, its stamps relative to the commit of the save. -/
structure ImageQp where
  qp : Nat
  cfg : List (Nat × Nat)
  saved : Qp
  deriving DecidableEq, Repr

/-- A migration image (R408), its body by content. -/
structure SliceImage where
  slice : Nat
  source : Bytes
  dest : Bytes
  nonce : Bytes
  gen : Nat
  home : Bool
  replMark : Nat
  params : List (Nat × Nat)
  qps : List ImageQp
  reissue : List Reissue
  /-- Monitor channels of the slice: channel, source, filter. -/
  channels : List (Nat × Nat × Nat)
  /-- Stateful keys, with COMMITTED (R233), where the source was the home. -/
  stateful : List (Nat × Node)
  /-- Handles of volatile objects, which do not migrate. -/
  volatiles : List Nat
  /-- Bytes of the encrypted body; the ciphertext and the tag behind it (R408). -/
  bodyLen : Nat
  body : Bytes
  deriving DecidableEq, Repr

/-- What SLC_CMD_RESTORE reads in the image buffer (R409): the header, the bytes behind it, and what the body holds where its tag verifies. -/
structure ImageRead where
  header : Bytes
  rest : Bytes
  content : SliceImage
  deriving DecidableEq, Repr

end Sys2Proof.Machine

namespace Sys2Proof

/-- Who sent a management message (R513, R517): a Scega session, the mailbox page of a slice, or the device mailbox page. -/
inductive Src where
  | session (n : Nat)
  | slicePage (i : Nat)
  | devicePage
  deriving DecidableEq, Repr

/-- A management request as it reaches the dictionary (R510): its sender, REQ_ID, ROW and body.
The parameter is named by the command that carries the message. -/
structure Msg where
  src : Src
  reqId : BitVec 32
  row : BitVec 32
  body : Bytes
  deriving DecidableEq, Repr

/-- A mailbox page of BAR2 (R25). -/
inductive MbPage where
  | device
  | slice (i : Nat)
  deriving DecidableEq, Repr

/-- A BAR write that no register takes (R26, R29): into the doorbell page and slot named, into a mailbox page, or into reserved space. -/
inductive StrayWrite where
  | doorbellSlot (page slot : Nat)
  | mailboxPage (i : Nat)
  | reservedSpace (bar offset : Nat)
  deriving DecidableEq, Repr

/-- Where a checked word lies (R99, R102). -/
inductive WordPlace where
  | tileMemory
  | keyRegister
  | slot (n : Nat)
  | registerFile
  deriving DecidableEq, Repr

/-- A word that a read met with erroneous symbols (R99 to R102): where it lies, the element of the instruction that read it, how many of its 37 symbols
were erroneous, and how many are in the re-read, or after the reload. -/
structure WordRead where
  place : WordPlace
  element : Nat
  symbols : Nat
  again : Nat
  deriving DecidableEq, Repr

/-- The words with erroneous symbols among those that one instruction or one pass reads, in the order they are met; empty where every word is clean. -/
abbrev WordCheck := List WordRead

/-- The operands of an instruction or a step as it runs, with the words that its reads met (R100, R102). -/
structure Met (α : Type) where
  fields : α
  words : WordCheck
  deriving DecidableEq, Repr

/-- A group of journal records (R314): how many updates it holds, and whether the flash interface could write it (R229). -/
structure CommitGroup where
  count : Nat
  written : Bool
  deriving DecidableEq, Repr

/-- Format V (R137). -/
structure VFields where
  d : BitVec 5
  a : BitVec 5
  b : BitVec 5
  pb : Bool
  deriving DecidableEq, Repr

/-- Format I (R137). -/
structure IFields where
  d : BitVec 5
  a : BitVec 5
  imm : BitVec 16
  deriving DecidableEq, Repr

/-- Format B (R137). -/
structure BFields where
  a : BitVec 5
  b : BitVec 5
  off : BitVec 16
  deriving DecidableEq, Repr

/-- Format T (R137). -/
structure TFields where
  d : BitVec 5
  a : BitVec 5
  b : BitVec 5
  rep : BitVec 4
  gs : Bool
  deriving DecidableEq, Repr

/-- Format M (R137). -/
structure MFields where
  d : BitVec 5
  a : BitVec 5
  b : BitVec 5
  sp : Bool
  deriving DecidableEq, Repr

/-- Format L (R137). -/
structure LFields where
  d : BitVec 5
  a : BitVec 5
  b : BitVec 5
  pb : Bool
  deriving DecidableEq, Repr

/-- The codes of one probe (R361, R367): per sensor, one code a tile cycle. -/
structure ProbeSample where
  codes : List (List Nat)
  deriving DecidableEq, Repr

/-- The outcome of the quench window analysis that the control cores report (R369 to R373): T in hundredths, the sensor and
point where it was found, and whether the window was valid. -/
structure WelchResult where
  valid : Bool
  tHundredths : Nat
  sensor : Nat
  point : Nat
  deriving DecidableEq, Repr

/-- What boot found by its end (R471): whether each step passed, the units that failed, and whether the key store opened. -/
structure BootReport where
  failedUnits : List Nat
  storeTagOk : Bool
  deriving DecidableEq, Repr

/-- A JTAG access beyond base debug (R457). -/
inductive JtagAccess where
  | smithHalt (core : Nat)
  | smithStep (core : Nat)
  | tileRead (tile : Nat) (address : Nat)
  | vectorRead (tile plane register : Nat)
  | scalarRead (tile register : Nat)
  | engineRead (engine : Nat) (address : Nat)
  | logRead (index : Nat)
  | smithAccess (core : Nat) (address : Nat)
  | hearthRead (hearth : Nat) (address : Nat)
  | vaultRead (address : Nat)
  | flashRead (address : Nat)
  | sensorTrace (tile : Nat)
  | boundaryScan
  | keyRegisterRead (tile : Nat)
  deriving DecidableEq, Repr

/-- One handshake message (R502, R504, R509): the session and SEQ of its record, its sender's claims, what the certificate and signature checks of the message
found, and its bytes: in `sealed` what follows the key agreement of a REPLY, or the ciphertext of a FINISH or ACCEPT with its tag in `tag`. (DESIGN CHOICE, assumption log 112) -/
structure Handshake where
  session : Nat
  role : Nat
  version : Nat
  reserved : Nat
  nonce : Bytes
  kem : Bytes
  leafKey : Bytes
  rootMlDsa : Bytes
  rootP384 : Bytes
  chainsWellFormed : Bool
  datesValid : Bool
  signaturesOk : Bool
  seq : Nat
  sealed : Bytes
  tag : Bytes
  deriving DecidableEq, Repr

/-- A message between group members (R327, R329, R330, R407, R409, R410). Its bytes are read only by devices; the model
takes what it says. -/
inductive PeerMsg where
  | records (slice firstSeq : Nat) (l : List Machine.ReplRecord)
  | applied (slice member seq : Nat)
  | setHome (slice : Nat) (identity : Bytes)
  | transportKey (nonce : Bytes) (key : Bytes)
  | restored (slice : Nat)
  | slicePurged (slice : Nat)
  /-- A slice root, wrapped under the session's transport key, and the sequence number of the records that come before it. -/
  | sliceRoot (slice upTo : Nat) (root : Bytes)
  | ackRecords (slice member upTo : Nat)
  deriving DecidableEq, Repr

/-- How an SPDM request arrives (R477). (DESIGN CHOICE, assumption log 112) -/
inductive SpdmSrc where
  | mctp
  | scega (session : Nat)
  | doe
  deriving DecidableEq, Repr

/-- One PTP synchronisation (R516). -/
structure PtpSync where
  port : Nat
  domain : Nat
  seconds : Nat
  nanoseconds : Nat
  ratioPpb : Int
  errorNs : Nat
  deriving DecidableEq, Repr

/-- A frame on a management port (R499, R500). -/
structure Frame where
  port : Nat
  source : Bytes
  destination : Bytes
  udpPort : Nat
  payload : Bytes
  deriving DecidableEq, Repr

/-- The commands the block takes: one constructor per row of spec/opcode_table.json, in the table's order (the rule each row cites is in its docstring). -/
inductive Instr where
  /-- SQ_DOORBELL (R34): A 4-byte write to a slot's SQ_DOORBELL stamps the newly posted descriptors with acceptance time and sequence numbers, or marks them void beyond credit. -/
  | sqDoorbell (page slot : Nat) (value : BitVec 32)
  /-- CQ_RELEASE (R54): An 8-byte write to CQ_RELEASE releases consumed records and units, re-arming the ring interrupt when the fill level drops below its level. -/
  | cqRelease (page slot : Nat) (value : BitVec 64)
  /-- MB_CONTROL_GO (R30): Writing GO to a mailbox page submits the Scega message in MB_REQUEST, sets BUSY, and later sets DONE with the response. -/
  | mbControlGo (page : MbPage) (value : BitVec 32) (request : Bytes)
  /-- BAR_STRAY_WRITE (R26): A write to reserved BAR space, an unbound doorbell slot, an unassigned mailbox page or of the wrong form is ignored and counted in QP_STRAY_WRITE_COUNT. -/
  | barStrayWrite (w : StrayWrite)
  /-- MSIX_UNMASK (R57): Unmasking an MSI-X vector or the function sends one message for a set pending bit. -/
  | msixUnmask (vector : Option Nat)
  /-- QP_ENABLE (R24): QP_ENABLE checks the queue-pair configuration, zeroes its counts, sets the credit to N, writes the credit word and makes the queue pair ACTIVE. -/
  | qpEnable (m : Msg)
  /-- QP_DISABLE (R24): QP_DISABLE stops admission at once and leaves the queue pair DISABLED when its admitted requests have published. -/
  | qpDisable (m : Msg)
  /-- QP_DESTROY (R24): QP_DESTROY, accepted only in DISABLED, returns the queue pair to UNCONFIGURED and releases its doorbell binding. -/
  | qpDestroy (m : Msg)
  /-- QP_IRQ_LEVEL (R56): A write to QP_IRQ_LEVEL takes effect at once and arms or disarms the ring by its fill level without sending a message. -/
  | qpIrqLevel (m : Msg)
  /-- PARAMETER_WRITE (R511): A Scega or mailbox WRITE to a dictionary parameter without behaviour of its own stores the value after access and range checks. -/
  | parameterWrite (m : Msg) (param offset : Nat)
  /-- RECORD_PUBLISH (R53): When completion-ring space holds a staged record, the tuyere writes any pad, the body and header, then the LENGTH word, and updates credit and interrupts. -/
  | recordPublish (qp : Nat)
  /-- QUEUE_FAULT (R60): A failed write to the completion ring or credit word makes the queue pair FAULTED and raises QUEUE_FAULT. -/
  | queueFault (qp : Nat) (address : BitVec 64) (atCredit : Bool)
  /-- PRI_RESPONSE (R43): The response to a PRI request for a missing translation lets the request proceed or completes it with 0x0105. -/
  | priResponse (req : Nat) (ok : Bool)
  /-- ATS_INVALIDATION (R395): An ATS invalidation for a PASID completes once accesses using the old translation are issued and no cached translation covers the range. -/
  | atsInvalidation (pasid : Nat) (address : BitVec 64) (bytes : Nat)
  /-- ASSIGNMENT_PASS (R69): When a unit frees, a request becomes ready or an epoch boundary passes, the tuyere assigns ready requests to eligible free units by rank and estimated finish. -/
  | assignmentPass
  /-- EPOCH_BOUNDARY (R82): After a pending pool change the tuyere takes an epoch boundary, increments DSP_EPOCH and applies all pending joins and departures. -/
  | epochBoundary
  /-- CACHE_MISS_DONE (R308): A key-store load into the vault cache completes after its tag check, making the key resident or failing with 0x0206. -/
  | cacheMissDone (object : Nat) (tagOk : Bool)
  /-- KEY_LOAD_DONE (R77): The vault finishes loading key shares into the assigned unit's key register or context after re-checking ancestor generations. -/
  | keyLoadDone (unit : Nat)
  /-- RESULT_FINISHED (R90): A unit reports a result finished and the tuyere applies release checks 1 to 6, releasing, withholding, re-executing or failing it. -/
  | resultFinished (job : Nat)
  /-- RELEASE_HOLD_EXPIRE (R91): One microsecond after a result ended while a rail was below guard, with no warning crossing, check 3 passes and the result continues to release. -/
  | releaseHoldExpire (job : Nat)
  /-- PROBATION_COMPLETE (R81): When 4,096 shadow results have matched and 50 ms have passed, a probation unit becomes JOINING. -/
  | probationComplete (unit : Nat)
  /-- RETURN_STEP_DONE (R122): A returning unit completes a returning step (known answers, scrub, calibration) and proceeds to the next step or PROBATION, or goes OUT on failure. -/
  | returnStepDone (unit : Nat) (ok : Met Bool)
  /-- SCRUB_DONE (R116): A unit finishes overwriting its memories with scrub output and may take a new operation. -/
  | scrubDone (unit : Nat)
  /-- PATROL_SCRUB (R101): Every 16 ms the patrol scrubber reads every word of tile memory, key register and microprogram store, correcting or escalating errors. -/
  | patrolScrub (unit : Nat) (found : WordCheck)
  /-- SPARK_SEED_REQUEST (R111): After 2^19 outputs a spark generator requests its next seed from the hearth DRBG. -/
  | sparkSeedRequest (unit : Nat)
  /-- SPARK_SEED_ARRIVE (R111): A spark seed arrives from the hearth DRBG, seeding the generator and ending any spark stall. -/
  | sparkSeedArrive (unit : Nat)
  /-- SPARK_SEED_SWITCH (R111): At 2^20 outputs the spark generator changes to its new seed, or stalls at the next spark-consuming instruction if none has arrived. -/
  | sparkSeedSwitch (unit : Nat)
  /-- ABORT_CHECKPOINT_TIMEOUT (R163): When 32,000 tile cycles pass with an abort pending and no CHKPT, the tile acts on the abort at the next instruction boundary. -/
  | abortCheckpointTimeout (tile : Nat)
  /-- CYCLE_CEILING_EXCEEDED (R164): An operation that runs past its declared cycle ceiling ends with program fault 0x080A. -/
  | cycleCeilingExceeded (tile : Nat)
  /-- LV_WAKE_DONE (R167): A gated or powered-off long-vector unit finishes waking and the stalled long-vector instruction proceeds. -/
  | lvWakeDone (tile : Nat)
  /-- VEC_AUTOGATE_IDLE (R168): After VEC_IDLE_CYCLES without a long-vector instruction, automatic gating gates a unit's clock or powers the quadrant's VEC domain off. -/
  | vecAutogateIdle (tile : Nat)
  /-- ILLEGAL_INSTRUCTION (R138): A word with an unlisted MAJOR, FUNC, OP or SUB, a reserved bit or a forbidden field ends the operation with program fault 0x0801. -/
  | illegalInstruction (tile : Nat) (word : BitVec 32)
  /-- SADD (R140): Scalar add of two registers modulo 2^64. -/
  | sadd (t : Nat) (f : Met VFields)
  /-- SSUB (R140): Scalar subtract of two registers modulo 2^64. -/
  | ssub (t : Nat) (f : Met VFields)
  /-- SAND (R140): Scalar bitwise AND of two registers. -/
  | sand (t : Nat) (f : Met VFields)
  /-- SOR (R140): Scalar bitwise OR of two registers. -/
  | sor (t : Nat) (f : Met VFields)
  /-- SXOR (R140): Scalar bitwise XOR of two registers. -/
  | sxor (t : Nat) (f : Met VFields)
  /-- SSLL (R140): Scalar logical left shift by a register count. -/
  | ssll (t : Nat) (f : Met VFields)
  /-- SSRL (R140): Scalar logical right shift by a register count. -/
  | ssrl (t : Nat) (f : Met VFields)
  /-- SSRA (R140): Scalar arithmetic right shift by a register count. -/
  | ssra (t : Nat) (f : Met VFields)
  /-- SMUL (R140): Scalar multiply keeping the low 64 bits. -/
  | smul (t : Nat) (f : Met VFields)
  /-- SSLTU (R140): Scalar unsigned set-less-than. -/
  | ssltu (t : Nat) (f : Met VFields)
  /-- SADDI (R140): Scalar add of a sign-extended immediate. -/
  | saddi (t : Nat) (f : Met IFields)
  /-- SANDI (R140): Scalar AND with a sign-extended immediate. -/
  | sandi (t : Nat) (f : Met IFields)
  /-- SSLLI (R140): Scalar left shift by an immediate count. -/
  | sslli (t : Nat) (f : Met IFields)
  /-- SSRLI (R140): Scalar logical right shift by an immediate count. -/
  | ssrli (t : Nat) (f : Met IFields)
  /-- SLIH (R140): Inserts a 16-bit immediate into one 16-bit lane of a scalar register. -/
  | slih (t : Nat) (f : Met IFields)
  /-- SLD (R140): Loads 8 aligned bytes of tile memory into a scalar register. -/
  | sld (t : Nat) (f : IFields) (w : WordCheck)
  /-- SST (R140): Stores a scalar register to 8 aligned bytes of tile memory. -/
  | sst (t : Nat) (f : Met IFields)
  /-- BEQ (R141): Branches when two scalar registers are equal. -/
  | beq (t : Nat) (f : Met BFields)
  /-- BNE (R141): Branches when two scalar registers differ. -/
  | bne (t : Nat) (f : Met BFields)
  /-- BLT (R141): Branches on signed less-than. -/
  | blt (t : Nat) (f : Met BFields)
  /-- BGE (R141): Branches on signed greater-or-equal. -/
  | bge (t : Nat) (f : Met BFields)
  /-- BLTU (R141): Branches on unsigned less-than. -/
  | bltu (t : Nat) (f : Met BFields)
  /-- BGEU (R141): Branches on unsigned greater-or-equal. -/
  | bgeu (t : Nat) (f : Met BFields)
  /-- JAL (R141): Writes the return address to s31 and jumps by a 26-bit offset. -/
  | jal (t : Nat) (off : Met (BitVec 26))
  /-- JR (R141): Jumps to the code offset held in a scalar register. -/
  | jr (t : Nat) (f : Met VFields)
  /-- VADD (R142): Vector add modulo 2^EW. -/
  | vadd (t : Nat) (vs : Bool) (f : Met VFields)
  /-- VSUB (R142): Vector subtract modulo 2^EW. -/
  | vsub (t : Nat) (vs : Bool) (f : Met VFields)
  /-- VAND (R142): Vector bitwise AND, with B public when masked. -/
  | vand (t : Nat) (vs : Bool) (f : Met VFields)
  /-- VOR (R142): Vector bitwise OR, with B public when masked. -/
  | vor (t : Nat) (vs : Bool) (f : Met VFields)
  /-- VXOR (R142): Vector bitwise XOR. -/
  | vxor (t : Nat) (vs : Bool) (f : Met VFields)
  /-- VNOT (R142): Vector bitwise NOT, inverting plane 0 only when masked. -/
  | vnot (t : Nat) (vs : Bool) (f : Met VFields)
  /-- VSLL (R142): Vector left shift. -/
  | vsll (t : Nat) (vs : Bool) (f : Met VFields)
  /-- VSRL (R142): Vector logical right shift. -/
  | vsrl (t : Nat) (vs : Bool) (f : Met VFields)
  /-- VSRA (R142): Vector arithmetic right shift. -/
  | vsra (t : Nat) (vs : Bool) (f : Met VFields)
  /-- VMUL (R142): Vector multiply keeping the low EW bits. -/
  | vmul (t : Nat) (vs : Bool) (f : Met VFields)
  /-- VSEQ (R142): Vector equality compare giving all-ones or zero elements. -/
  | vseq (t : Nat) (vs : Bool) (f : Met VFields)
  /-- VSLTU (R142): Vector unsigned less-than compare. -/
  | vsltu (t : Nat) (vs : Bool) (f : Met VFields)
  /-- VMADD (R143): Vector modular add under the selected modulus. -/
  | vmadd (t : Nat) (vs : Bool) (f : Met VFields)
  /-- VMSUB (R143): Vector modular subtract. -/
  | vmsub (t : Nat) (vs : Bool) (f : Met VFields)
  /-- VMNEG (R143): Vector modular negate. -/
  | vmneg (t : Nat) (vs : Bool) (f : Met VFields)
  /-- VMMUL (R143): Vector modular multiply. -/
  | vmmul (t : Nat) (vs : Bool) (f : Met VFields)
  /-- VMMAC (R143): Vector modular multiply-accumulate into the destination. -/
  | vmmac (t : Nat) (vs : Bool) (f : Met VFields)
  /-- VMRED (R143): Vector reduction to the canonical residue. -/
  | vmred (t : Nat) (vs : Bool) (f : Met VFields)
  /-- VMCENT (R143): Vector centred residue in two's complement. -/
  | vmcent (t : Nat) (vs : Bool) (f : Met VFields)
  /-- VMP2R (R143): Vector FIPS 204 Power2Round high part. -/
  | vmp2r (t : Nat) (vs : Bool) (f : Met VFields)
  /-- VMHIGH (R143): Vector FIPS 204 Decompose high part. -/
  | vmhigh (t : Nat) (vs : Bool) (f : Met VFields)
  /-- BFLY_CT (R144): Cooley–Tukey butterflies on a register pair with twiddles from the table. -/
  | bflyCt (t : Nat) (f : Met TFields)
  /-- BFLY_GS (R144): Gentleman–Sande butterflies on a register pair with twiddles from the table. -/
  | bflyGs (t : Nat) (f : Met TFields)
  /-- VMV (R145): Vector element copy. -/
  | vmv (t : Nat) (f : Met VFields)
  /-- VSLIDEUP (R145): Slides vector elements up by a scalar count. -/
  | vslideup (t : Nat) (f : Met VFields)
  /-- VSLIDEDN (R145): Slides vector elements down by a scalar count, filling with zero. -/
  | vslidedn (t : Nat) (f : Met VFields)
  /-- VZIPLO (R145): Interleaves the low halves of two vectors. -/
  | vziplo (t : Nat) (f : Met VFields)
  /-- VZIPHI (R145): Interleaves the high halves of two vectors. -/
  | vziphi (t : Nat) (f : Met VFields)
  /-- VUNZIPE (R145): Gathers the even elements of two vectors. -/
  | vunzipe (t : Nat) (f : Met VFields)
  /-- VUNZIPO (R145): Gathers the odd elements of two vectors. -/
  | vunzipo (t : Nat) (f : Met VFields)
  /-- VREVB (R145): Permutes vector elements by bit-reversed index. -/
  | vrevb (t : Nat) (f : Met VFields)
  /-- VBCAST (R145): Broadcasts one vector element to all elements. -/
  | vbcast (t : Nat) (f : Met VFields)
  /-- VMVSX (R145): Moves one public vector element to a scalar register. -/
  | vmvsx (t : Nat) (f : Met VFields)
  /-- VMVXS (R145): Writes a scalar value into one public vector element. -/
  | vmvxs (t : Nat) (f : Met VFields)
  /-- VREDADD (R145): Sums the vector elements into element 0. -/
  | vredadd (t : Nat) (f : Met VFields)
  /-- VCLMULL (R146): Low half of a carry-less product. -/
  | vclmull (t : Nat) (f : Met VFields)
  /-- VCLMULH (R146): High half of a carry-less product. -/
  | vclmulh (t : Nat) (f : Met VFields)
  /-- VGFMUL (R146): Multiplication in GF(2^m). -/
  | vgfmul (t : Nat) (f : Met VFields)
  /-- VGFSQ (R146): Squaring in GF(2^m), plane by plane. -/
  | vgfsq (t : Nat) (f : Met VFields)
  /-- VGFINV (R146): Public inversion in GF(2^m). -/
  | vgfinv (t : Nat) (f : Met VFields)
  /-- VGFMAC (R146): GF(2^m) multiply-accumulate by XOR. -/
  | vgfmac (t : Nat) (f : Met VFields)
  /-- VPOPC (R146): Public per-element population count. -/
  | vpopc (t : Nat) (f : Met VFields)
  /-- VLD (R148): Unit-stride vector load from tile memory. -/
  | vld (t : Nat) (f : MFields) (w : WordCheck)
  /-- VLDS2 (R148): Two-field structure load, or share load with SP. -/
  | vlds2 (t : Nat) (f : MFields) (w : WordCheck)
  /-- VLDS3 (R148): Three-field structure load, or share load with SP. -/
  | vlds3 (t : Nat) (f : MFields) (w : WordCheck)
  /-- VLDS4 (R148): Four-field structure load, or share load with SP. -/
  | vlds4 (t : Nat) (f : MFields) (w : WordCheck)
  /-- VLDST (R148): Strided vector load. -/
  | vldst (t : Nat) (f : MFields) (w : WordCheck)
  /-- VLDX (R148): Indexed gather load at worst-case bank time. -/
  | vldx (t : Nat) (f : MFields) (w : WordCheck)
  /-- VST (R148): Unit-stride vector store. -/
  | vst (t : Nat) (f : Met MFields)
  /-- VSTS2 (R148): Two-field structure store. -/
  | vsts2 (t : Nat) (f : Met MFields)
  /-- VSTS3 (R148): Three-field structure store. -/
  | vsts3 (t : Nat) (f : Met MFields)
  /-- VSTS4 (R148): Four-field structure store. -/
  | vsts4 (t : Nat) (f : Met MFields)
  /-- VSTST (R148): Strided vector store. -/
  | vstst (t : Nat) (f : Met MFields)
  /-- VSTX (R148): Indexed scatter store, highest element winning on equal indices. -/
  | vstx (t : Nat) (f : Met MFields)
  /-- LV_ADD (R151): Long-vector add modulo 2^EW over tile-memory arrays. -/
  | lvAdd (t : Nat) (f : Met LFields)
  /-- LV_SUB (R151): Long-vector subtract modulo 2^EW. -/
  | lvSub (t : Nat) (f : Met LFields)
  /-- LV_XOR (R151): Long-vector XOR. -/
  | lvXor (t : Nat) (f : Met LFields)
  /-- LV_AND (R151): Long-vector AND. -/
  | lvAnd (t : Nat) (f : Met LFields)
  /-- LV_MADD (R151): Long-vector modular add. -/
  | lvMadd (t : Nat) (f : Met LFields)
  /-- LV_MSUB (R151): Long-vector modular subtract. -/
  | lvMsub (t : Nat) (f : Met LFields)
  /-- LV_MMUL (R151): Long-vector modular multiply. -/
  | lvMmul (t : Nat) (f : Met LFields)
  /-- LV_MMAC (R151): Long-vector modular multiply-accumulate. -/
  | lvMmac (t : Nat) (f : Met LFields)
  /-- LV_COPY (R151): Long-vector copy. -/
  | lvCopy (t : Nat) (f : Met LFields)
  /-- LV_BFLY_CT (R151): In-place long-vector Cooley–Tukey butterfly layer. -/
  | lvBflyCt (t : Nat) (f : Met LFields)
  /-- LV_BFLY_GS (R151): In-place long-vector Gentleman–Sande butterfly layer. -/
  | lvBflyGs (t : Nat) (f : Met LFields)
  /-- LV_BCM (R151): Long-vector base-case multiplication of pairs. -/
  | lvBcm (t : Nat) (f : Met LFields)
  /-- LV_BCMAC (R151): Long-vector base-case multiplication accumulated into the destination. -/
  | lvBcmac (t : Nat) (f : Met LFields)
  /-- LV_CLMUL (R151): Long-vector carry-less product of two bit strings. -/
  | lvClmul (t : Nat) (f : Met LFields)
  /-- KLD (R154): Loads key bytes from the key register into a vector register, one share per plane. -/
  | kld (t : Nat) (f : VFields) (w : WordCheck)
  /-- KABS (R154): Absorbs key bytes into a masked Keccak core. -/
  | kabs (t : Nat) (f : Met VFields)
  /-- KSH2 (R154): Absorbs key bytes into the masked SHA-2 core. -/
  | ksh2 (t : Nat) (f : Met VFields)
  /-- KLV (R154): Copies key bytes to tile memory as share planes. -/
  | klv (t : Nat) (f : VFields) (w : WordCheck)
  /-- KC_INIT (R155): Zeroes a Keccak core, sets its rate and fixes it masked or public. -/
  | kcInit (t : Nat) (f : Met VFields)
  /-- KC_ABS (R155): Absorbs a vector register into a Keccak core. -/
  | kcAbs (t : Nat) (f : Met VFields)
  /-- KC_ABSM (R155): Absorbs tile-memory bytes into a Keccak core. -/
  | kcAbsm (t : Nat) (f : Met VFields)
  /-- KC_FIN (R155): Pads with the given suffix, permutes and enters the squeeze phase. -/
  | kcFin (t : Nat) (f : Met VFields)
  /-- KC_SQZ (R155): Squeezes bytes into a vector register. -/
  | kcSqz (t : Nat) (f : Met VFields)
  /-- KC_SQZM (R155): Squeezes bytes to tile memory. -/
  | kcSqzm (t : Nat) (f : Met VFields)
  /-- KC_PERM (R155): Applies Keccak-f[1600] once to a core state. -/
  | kcPerm (t : Nat) (f : Met VFields)
  /-- SH2_INIT (R156): Initialises the SHA-2 core for a selected variant. -/
  | sh2Init (t : Nat) (f : Met VFields)
  /-- SH2_ABSM (R156): Absorbs tile-memory bytes into the SHA-2 core. -/
  | sh2Absm (t : Nat) (f : Met VFields)
  /-- SH2_FIN (R156): Pads the SHA-2 message per FIPS 180-4. -/
  | sh2Fin (t : Nat) (f : Met VFields)
  /-- SH2_OUT (R156): Writes the SHA-2 digest to tile memory. -/
  | sh2Out (t : Nat) (f : Met VFields)
  /-- SMP_UNI12 (R157): Rejection-samples 12-bit candidates below q (SampleNTT). -/
  | smpUni12 (t : Nat) (f : Met VFields)
  /-- SMP_UNI23 (R157): Rejection-samples 23-bit candidates below q (RejNTTPoly). -/
  | smpUni23 (t : Nat) (f : Met VFields)
  /-- SMP_CBD (R157): Samples centred-binomial coefficients as arithmetic shares. -/
  | smpCbd (t : Nat) (f : Met VFields)
  /-- SMP_ETA (R157): Samples bounded coefficients by masked rejection (RejBoundedPoly). -/
  | smpEta (t : Nat) (f : Met VFields)
  /-- SMP_BALL (R157): Continues SampleInBall on a 256-element array. -/
  | smpBall (t : Nat) (f : Met VFields)
  /-- SMP_GAUSS (R157): Draws FN-DSA base-sampler values comparing every table entry. -/
  | smpGauss (t : Nat) (f : Met VFields)
  /-- G_A2B (R158): Converts arithmetic shares to Boolean shares. -/
  | gA2b (t : Nat) (f : Met VFields)
  /-- G_B2A (R158): Converts Boolean shares to arithmetic shares. -/
  | gB2a (t : Nat) (f : Met VFields)
  /-- G_AND (R158): Masked AND of two Boolean-shared operands. -/
  | gAnd (t : Nat) (f : Met VFields)
  /-- G_MUL (R158): Masked modular multiplication. -/
  | gMul (t : Nat) (f : Met VFields)
  /-- G_GFMUL (R158): Masked GF(2^m) multiplication. -/
  | gGfmul (t : Nat) (f : Met VFields)
  /-- G_REFRESH (R158): Refreshes the shares of a value. -/
  | gRefresh (t : Nat) (f : Met VFields)
  /-- G_CMPEQ (R158): Masked equality compare. -/
  | gCmpeq (t : Nat) (f : Met VFields)
  /-- G_RANDR (R158): Masked AND-reduction of elements into element 0. -/
  | gRandr (t : Nat) (f : Met VFields)
  /-- G_COMPRESS (R158): Masked FIPS 203 Compress. -/
  | gCompress (t : Nat) (f : Met VFields)
  /-- G_DECOMP (R158): Masked FIPS 204 Decompose high part. -/
  | gDecomp (t : Nat) (f : Met VFields)
  /-- G_INRANGE (R158): Masked centred-magnitude bound test. -/
  | gInrange (t : Nat) (f : Met VFields)
  /-- G_SEL (R158): Masked select under a Boolean-shared mask. -/
  | gSel (t : Nat) (f : Met VFields)
  /-- G_UNMASK (R159): Recombines shares into plane 0, the only unmasking instruction. -/
  | gUnmask (t : Nat) (f : Met VFields)
  /-- XIN (R161): Copies input bytes from the staging area into tile memory. -/
  | xin (t : Nat) (f : Met VFields)
  /-- XOUT (R161): Copies public bytes from tile memory to the output staging area. -/
  | xout (t : Nat) (f : Met VFields)
  /-- XPUB (R161): Copies bytes of the bound public object into tile memory. -/
  | xpub (t : Nat) (f : Met VFields)
  /-- NOP (R162): Does nothing. -/
  | nop (t : Nat) (f : Met VFields)
  /-- VSETVL (R162): Sets VL from a scalar register and clears VSTART. -/
  | vsetvl (t : Nat) (f : Met VFields)
  /-- VSETVLI (R162): Sets VL from an immediate and clears VSTART. -/
  | vsetvli (t : Nat) (f : Met IFields)
  /-- VSETTYPE (R162): Writes VTYPE, sets VL to 0 and clears VSTART. -/
  | vsettype (t : Nat) (f : Met IFields)
  /-- CSRR (R162): Reads a control register into a scalar register. -/
  | csrr (t : Nat) (f : Met VFields)
  /-- CSRW (R162): Writes a writable control register. -/
  | csrw (t : Nat) (f : Met VFields)
  /-- MSET (R133): Sets a prime-field modulus register and derives its constants. -/
  | mset (t : Nat) (f : Met VFields)
  /-- MSETGF (R133): Sets a GF(2^m) modulus register. -/
  | msetgf (t : Nat) (f : Met VFields)
  /-- CHKPT (R163): Checkpoint at which a pending abort is acted on. -/
  | chkpt (t : Nat) (f : Met VFields)
  /-- DONE (R162): Ends the operation with success and OUT_LEN from a scalar register. -/
  | tileDone (t : Nat) (f : Met VFields)
  /-- REJECT (R162): Ends the operation with a class 0x01 input-rejection status. -/
  | reject (t : Nat) (f : Met VFields)
  /-- FAULT (R162): Ends the operation with program fault 0x080F. -/
  | fault (t : Nat) (f : Met VFields)
  /-- ML_KEM_KEYGEN (R190): Generates an ML-KEM key object and returns its handle and public key. -/
  | mlKemKeygen (job : Nat)
  /-- ML_KEM_ENCAPS (R194): Checks the encapsulation key and outputs ciphertext and shared secret. -/
  | mlKemEncaps (job : Nat)
  /-- ML_KEM_DECAPS (R196): Decapsulates under masking with implicit rejection. -/
  | mlKemDecaps (job : Nat)
  /-- ML_KEM_CHECK_EK (R193): Applies the FIPS 203 modulus check to an encapsulation key. -/
  | mlKemCheckEk (job : Nat)
  /-- ML_DSA_KEYGEN (R190): Generates an ML-DSA key object. -/
  | mlDsaKeygen (job : Nat)
  /-- ML_DSA_SIGN (R200): Signs under masking with a bounded rejection loop and verify-after-sign. -/
  | mlDsaSign (job : Nat)
  /-- ML_DSA_VERIFY (R202): Verifies an ML-DSA signature. -/
  | mlDsaVerify (job : Nat)
  /-- FN_DSA_KEYGEN (R190): Generates an FN-DSA key object, unmasked, with scrub after. -/
  | fnDsaKeygen (job : Nat)
  /-- FN_DSA_SIGN (R200): Signs randomised FN-DSA twice and compares. -/
  | fnDsaSign (job : Nat)
  /-- FN_DSA_VERIFY (R202): Verifies a padded or compressed FN-DSA signature. -/
  | fnDsaVerify (job : Nat)
  /-- HYBRID_KEM_ENCAPS (R212): Composite lattice and classical encapsulation with combined secret. -/
  | hybridKemEncaps (job : Nat)
  /-- HYBRID_KEM_DECAPS (R212): Composite lattice and classical decapsulation with combined secret. -/
  | hybridKemDecaps (job : Nat)
  /-- HYBRID_SIGN (R213): Composite ML-DSA and classical signature over a labelled message. -/
  | hybridSign (job : Nat)
  /-- HYBRID_VERIFY (R214): Verifies both halves of a composite signature and reports each outcome. -/
  | hybridVerify (job : Nat)
  /-- SLH_DSA_KEYGEN (R218): Generates an SLH-DSA key object. -/
  | slhDsaKeygen (job : Nat)
  /-- SLH_DSA_SIGN (R221): Produces an SLH-DSA signature. -/
  | slhDsaSign (job : Nat)
  /-- SLH_DSA_VERIFY (R221): Verifies an SLH-DSA signature. -/
  | slhDsaVerify (job : Nat)
  /-- LMS_HSS_KEYGEN (R224): Generates a persistent LMS/HSS key object with index window. -/
  | lmsHssKeygen (job : Nat)
  /-- LMS_HSS_SIGN (R227): Signs with an assigned one-time index inside the key flow. -/
  | lmsHssSign (job : Nat)
  /-- LMS_HSS_VERIFY (R226): Parses and verifies an HSS signature level by level. -/
  | lmsHssVerify (job : Nat)
  /-- LMS_HSS_QUERY (R232): Reports TOTAL, COMMITTED, NEXT and BLOCK of a stateful key. -/
  | lmsHssQuery (job : Nat)
  /-- XMSS_KEYGEN (R224): Generates a persistent XMSS or XMSS^MT key object. -/
  | xmssKeygen (job : Nat)
  /-- XMSS_SIGN (R227): Signs with an assigned one-time index inside the key flow. -/
  | xmssSign (job : Nat)
  /-- XMSS_VERIFY (R226): Verifies an XMSS or XMSS^MT signature. -/
  | xmssVerify (job : Nat)
  /-- XMSS_QUERY (R232): Reports the index state of an XMSS key. -/
  | xmssQuery (job : Nat)
  /-- HQC_KEYGEN (R218): Generates an HQC key object. -/
  | hqcKeygen (job : Nat)
  /-- HQC_ENCAPS (R236): Checks the key and encapsulates with HQC. -/
  | hqcEncaps (job : Nat)
  /-- HQC_DECAPS (R236): Decapsulates HQC under masking with implicit rejection. -/
  | hqcDecaps (job : Nat)
  /-- HQC_CHECK_EK (R236): Checks an HQC encapsulation key's length and padding bits. -/
  | hqcCheckEk (job : Nat)
  /-- CLASSIC_MCELIECE_KEYGEN (R239): Generates a Classic McEliece secret and optional public object. -/
  | classicMcelieceKeygen (job : Nat)
  /-- CLASSIC_MCELIECE_ENCAPS (R242): Encapsulates with a placed or streamed public key. -/
  | classicMcelieceEncaps (job : Nat)
  /-- CLASSIC_MCELIECE_DECAPS (R243): Decapsulates under masking with implicit rejection. -/
  | classicMcelieceDecaps (job : Nat)
  /-- PLACE (R240): Copies a public key object into the public-object areas of named hearths, all or nothing. -/
  | place (job : Nat)
  /-- EVICT (R240): Removes placed copies after operations reading them finish. -/
  | evict (job : Nat)
  /-- RSA_KEYGEN (R255): Generates an RSA key pair with pairwise test. -/
  | rsaKeygen (job : Nat)
  /-- RSA_PRIVATE (R252): Raw blinded CRT RSA secret operation with double strike. -/
  | rsaPrivate (job : Nat)
  /-- RSA_PUBLIC (R252): Raw RSA public operation. -/
  | rsaPublic (job : Nat)
  /-- RSASSA_PSS_SIGN (R256): RSASSA-PSS signature. -/
  | rsassaPssSign (job : Nat)
  /-- RSASSA_PSS_VERIFY (R256): RSASSA-PSS verification. -/
  | rsassaPssVerify (job : Nat)
  /-- RSASSA_PKCS1_V1_5_SIGN (R256): RSASSA-PKCS1-v1_5 signature. -/
  | rsassaPkcs1V15Sign (job : Nat)
  /-- RSASSA_PKCS1_V1_5_VERIFY (R256): RSASSA-PKCS1-v1_5 verification. -/
  | rsassaPkcs1V15Verify (job : Nat)
  /-- RSAES_OAEP_DECRYPT (R256): RSAES-OAEP decryption reporting every decoding failure as 0x0148. -/
  | rsaesOaepDecrypt (job : Nat)
  /-- RSAES_OAEP_ENCRYPT (R256): RSAES-OAEP encryption. -/
  | rsaesOaepEncrypt (job : Nat)
  /-- ECDSA_KEYGEN (R255): Generates an ECDSA key object. -/
  | ecdsaKeygen (job : Nat)
  /-- ECDSA_SIGN (R260): Signs with an RFC 6979 nonce and double strike. -/
  | ecdsaSign (job : Nat)
  /-- ECDSA_VERIFY (R257): Verifies an ECDSA signature. -/
  | ecdsaVerify (job : Nat)
  /-- ECDSA_CHECK_PK (R262): Validates an ECDSA public key in a fixed window. -/
  | ecdsaCheckPk (job : Nat)
  /-- LOAD_CURVE (R265): Checks short Weierstrass parameters and creates a loaded-curve object. -/
  | loadCurve (job : Nat)
  /-- UNLOAD_CURVE (R267): Destroys a loaded curve, orphaning every key on it. -/
  | unloadCurve (job : Nat)
  /-- EDDSA_KEYGEN (R255): Generates an EdDSA key object. -/
  | eddsaKeygen (job : Nat)
  /-- EDDSA_SIGN (R258): Produces a deterministic EdDSA signature. -/
  | eddsaSign (job : Nat)
  /-- EDDSA_VERIFY (R258): Verifies an EdDSA signature cofactorless. -/
  | eddsaVerify (job : Nat)
  /-- ECDH_XDH_KEYGEN (R255): Generates an ECDH or XDH key object. -/
  | ecdhXdhKeygen (job : Nat)
  /-- DERIVE (R259): Derives a shared secret from a static key and a peer public key. -/
  | derive (job : Nat)
  /-- EPHEMERAL (R259): Generates an ephemeral key pair and derives a shared secret. -/
  | ephemeral (job : Nat)
  /-- ECDH_XDH_CHECK_PK (R259): Validates an ECDH public key. -/
  | ecdhXdhCheckPk (job : Nat)
  /-- AES_ECB_ENCRYPT (R285): AES-ECB encryption. -/
  | aesEcbEncrypt (job : Nat)
  /-- AES_ECB_DECRYPT (R285): AES-ECB decryption. -/
  | aesEcbDecrypt (job : Nat)
  /-- AES_CBC_ENCRYPT (R285): AES-CBC encryption. -/
  | aesCbcEncrypt (job : Nat)
  /-- AES_CBC_DECRYPT (R285): AES-CBC decryption. -/
  | aesCbcDecrypt (job : Nat)
  /-- AES_CTR_ENCRYPT (R285): AES-CTR encryption. -/
  | aesCtrEncrypt (job : Nat)
  /-- AES_CTR_DECRYPT (R285): AES-CTR decryption. -/
  | aesCtrDecrypt (job : Nat)
  /-- AES_GCM_ENCRYPT (R285): AES-GCM encryption, optionally with a drawn IV. -/
  | aesGcmEncrypt (job : Nat)
  /-- AES_GCM_DECRYPT (R286): AES-GCM decryption with tag check. -/
  | aesGcmDecrypt (job : Nat)
  /-- AES_CCM_ENCRYPT (R285): AES-CCM encryption. -/
  | aesCcmEncrypt (job : Nat)
  /-- AES_CCM_DECRYPT (R286): AES-CCM decryption with tag check. -/
  | aesCcmDecrypt (job : Nat)
  /-- AES_XTS_ENCRYPT (R285): AES-XTS encryption with ciphertext stealing. -/
  | aesXtsEncrypt (job : Nat)
  /-- AES_XTS_DECRYPT (R285): AES-XTS decryption. -/
  | aesXtsDecrypt (job : Nat)
  /-- AES_KW_WRAP (R285): AES-KW wrap of host data. -/
  | aesKwWrap (job : Nat)
  /-- AES_KW_UNWRAP (R286): AES-KW unwrap of host data with integrity check. -/
  | aesKwUnwrap (job : Nat)
  /-- AES_KWP_WRAP (R285): AES-KWP wrap of host data. -/
  | aesKwpWrap (job : Nat)
  /-- AES_KWP_UNWRAP (R286): AES-KWP unwrap with integrity check. -/
  | aesKwpUnwrap (job : Nat)
  /-- AES_CMAC_GENERATE (R285): Generates an AES-CMAC tag. -/
  | aesCmacGenerate (job : Nat)
  /-- AES_CMAC_VERIFY (R286): Verifies an AES-CMAC tag. -/
  | aesCmacVerify (job : Nat)
  /-- TDES_ECB_ENCRYPT (R285): TDES-ECB encryption. -/
  | tdesEcbEncrypt (job : Nat)
  /-- TDES_ECB_DECRYPT (R285): TDES-ECB decryption. -/
  | tdesEcbDecrypt (job : Nat)
  /-- TDES_CBC_ENCRYPT (R285): TDES-CBC encryption. -/
  | tdesCbcEncrypt (job : Nat)
  /-- TDES_CBC_DECRYPT (R285): TDES-CBC decryption. -/
  | tdesCbcDecrypt (job : Nat)
  /-- MAC_ALGORITHM_3_GENERATE (R285): Generates an ISO/IEC 9797-1 algorithm 3 MAC. -/
  | macAlgorithm3Generate (job : Nat)
  /-- MAC_ALGORITHM_3_VERIFY (R286): Verifies an ISO/IEC 9797-1 algorithm 3 MAC. -/
  | macAlgorithm3Verify (job : Nat)
  /-- HASH (R285): Computes a hash or SHAKE output. -/
  | hash (job : Nat)
  /-- HMAC_GENERATE (R285): Generates an HMAC tag. -/
  | hmacGenerate (job : Nat)
  /-- HMAC_VERIFY (R286): Verifies an HMAC tag. -/
  | hmacVerify (job : Nat)
  /-- KMAC_GENERATE (R285): Generates a KMAC tag. -/
  | kmacGenerate (job : Nat)
  /-- KMAC_VERIFY (R286): Verifies a KMAC tag. -/
  | kmacVerify (job : Nat)
  /-- HKDF (R287): Derives a child key object into the vault with HKDF. -/
  | hkdf (job : Nat)
  /-- SP_800_108_KDF (R287): Derives a child key object with an SP 800-108 KDF. -/
  | sp800108Kdf (job : Nat)
  /-- PIN_TRANSLATE (R290): Decrypts, checks under masking and re-encrypts a PIN block. -/
  | pinTranslate (job : Nat)
  /-- DUKPT_DERIVE (R291): Derives an AES DUKPT working key object. -/
  | dukptDerive (job : Nat)
  /-- KB_EXPORT (R292): Exports an exportable object as an ISO 20038 key block. -/
  | kbExport (job : Nat)
  /-- KB_IMPORT (R293): Imports an ISO 20038 key block as a new object. -/
  | kbImport (job : Nat)
  /-- GENERATE (R318): Generates a symmetric key object in the vault. -/
  | generate (job : Nat)
  /-- WRAP_EXPORT (R320): Exports an object wrapped with AES-KWP. -/
  | wrapExport (job : Nat)
  /-- UNWRAP_IMPORT (R320): Unwraps, checks and imports a wrapped object. -/
  | unwrapImport (job : Nat)
  /-- DESTROY (R310): Destroys a node, invalidating it and everything below it. -/
  | destroy (job : Nat)
  /-- REVOKE_CHILDREN (R310): Increments a node's generation, invalidating every object below it. -/
  | revokeChildren (job : Nat)
  /-- RESTRICT (R318): Clears EXPORTABLE and CHILD_EXPORT of an object. -/
  | restrict (job : Nat)
  /-- QUERY (R322): Returns an object's node attributes. -/
  | query (job : Nat)
  /-- SEQ_QUERY (R322): Reports the state of an update sequence number. -/
  | seqQuery (job : Nat)
  /-- SOFTWARE_PORT_GENERATE (R355): Returns random bytes from DRBG instance 16, optionally with prediction resistance. -/
  | softwarePortGenerate (job : Nat)
  /-- INTEGRATOR_MICROPROGRAM (R181): Runs an integrator microprogram bound to a 0x70xx opcode. -/
  | integratorMicroprogram (job : Met Nat)
  /-- INVALIDATION_ACK (R311): The vault acknowledges an invalidation once every match is cleared and affected results have finished or been dropped. -/
  | invalidationAck (node : Nat)
  /-- JOURNAL_COMMIT_DONE (R314): A commit record is written, committing a group of updates and posting their completions; or the flash interface could not
  write the group's records after its own retries (R229). -/
  | journalCommitDone (group : CommitGroup)
  /-- RECLAIM_TASK (R312): A background service task frees orphaned and destroyed objects with journaled records. -/
  | reclaimTask
  /-- JOURNAL_COMPACTION (R317): The vault compacts the journal area in the background, freeing space for waiting updates. -/
  | journalCompaction
  /-- TEMPER_PASS_START (R323): Every VLT_TEMPER_MS a temper pass refreshes cache granules, idle key registers and idle contexts, or is skipped if the previous pass runs on. -/
  | temperPassStart
  /-- SOURCE_STARTUP_TEST_END (R336): A noise source's 1,024-bit start-up test ends, admitting it or retesting and declaring it failed. -/
  | sourceStartupTestEnd (source : Nat) (bits : Bytes)
  /-- BELLOWS_KAT_DONE (R346): The conditioner and DRBG known-answer tests finish, passing or sending the bellows to EXHAUSTED. -/
  | bellowsKatDone (failed : Nat)
  /-- CONDITIONING_WINDOW_END (R337): A 640-bit conditioning window of a source ends and is conditioned into a block held for release. Its raw bits come in two halves. -/
  | conditioningWindowEnd (source : Nat) (first second : Bytes)
  /-- ADAPTIVE_PROPORTION_WINDOW_END (R334): An adaptive-proportion window ends, releasing the blocks it overlapped to the pool or discarding them. -/
  | adaptiveProportionWindowEnd (source : Nat) (bits : Bytes)
  /-- DRBG_BLOCK_REQUEST (R341): An instance reaching reseed age 2^16 − 4,096 requests a block. -/
  | drbgBlockRequest (instance_ : Nat)
  /-- DRBG_RESEED_DUE (R341): An instance reaching age 2^16 reseeds, stops, or stretches by the shortage mode. -/
  | drbgReseedDue (instance_ : Nat)
  /-- DRBG_AGE_LIMIT (R342): An instance reaching age 2^32 stops generating. -/
  | drbgAgeLimit (instance_ : Nat)
  /-- DRBG_DRAW_DONE (R344): An operation draw of DRBG bytes is delivered to a request, letting it start. -/
  | drbgDrawDone (job : Nat)
  /-- SHORTAGE_DEADLINE_EXPIRY (R353): A software-port request waiting for a block past its deadline completes with 0x0501 at the next conditioning window end. -/
  | shortageDeadlineExpiry (req : Nat)
  /-- BLW_CMD_SOURCE_RETEST (R349): Retests named failed sources and the known-answer tests, returning passing sources to service. -/
  | blwCmdSourceRetest (m : Msg)
  /-- RETEST_DONE (R349): The retest finishes and its response is sent, with reseeds on leaving EXHAUSTED. -/
  | retestDone (passed : Nat) (katOk : Bool)
  /-- BLW_RAW_CAPTURE (R359): Captures raw bits of one source for assessment. -/
  | blwRawCapture (m : Msg)
  /-- PROBE_RUN (R365): A due probe runs between two live operations and its credit is subtracted. -/
  | probeRun (tile : Nat)
  /-- IDLE_PROBE_START (R366): An idle in-service tile starts an idle probe when QNC_IDLE_PROBE is true. -/
  | idleProbeStart (tile : Nat)
  /-- PROBE_SAMPLE_COMMIT (R367): One microsecond after a probe ends without an excursion, its samples enter the accumulator. -/
  | probeSampleCommit (tile : Nat) (p : ProbeSample)
  /-- QUENCH_WINDOW_END (R368): The 16,384th accepted probe ends a window and starts the t-statistic computation. -/
  | quenchWindowEnd (tile : Nat)
  /-- WELCH_STATISTIC_DONE (R373): T is computed and the tile raises, holds or lowers its level, updates baselines and calibration. -/
  | welchStatisticDone (tile : Nat) (r : WelchResult)
  /-- QNC_FLOOR (R377): A write to QNC_FLOOR raises tiles below it at their next gap. -/
  | qncFloor (m : Msg)
  /-- QNC_CEILING (R377): A write to QNC_CEILING lowers tiles above it at their next gap. -/
  | qncCeiling (m : Msg)
  /-- QNC_DUTY_EXP (R377): A write to QNC_DUTY_EXP sets every probe credit to 0. -/
  | qncDutyExp (m : Msg)
  /-- QNC_MODE (R378): A write to QNC_MODE fixes tiles at the floor or restarts windows under RUN. -/
  | qncMode (m : Msg)
  /-- RAIL_SAMPLE_TICK (R381): Every microsecond each rail voltage is sampled into its monitor. -/
  | railSampleTick (rail : Nat) (millivolts : Nat)
  /-- RESEED_AGE_SAMPLE (R381): Every 100 µs each DRBG instance's reseed age is sampled into its monitor. -/
  | reseedAgeSample
  /-- MON_WINDOW_EXPIRE (R386): An armed capture closes MON_WINDOW ticks after its arm, setting END and ARMED_DONE. -/
  | monWindowExpire (monitor : Nat)
  /-- MON_CMD_ARM (R386): Clears a monitor record and opens an armed capture. -/
  | monCmdArm (m : Msg)
  /-- MON_CMD_SNAP (R387): Returns a monitor's record and clears it in one tick. -/
  | monCmdSnap (m : Msg)
  /-- MON_CMD_SNAP_RANGE (R387): Snapshots a range of monitors with one shared END. -/
  | monCmdSnapRange (m : Msg)
  /-- MON_BASE (R388): A write to a monitor's BASE clears its record and ends an armed capture. -/
  | monBase (m : Msg)
  /-- MON_WIDTH_EXP (R388): A write to a monitor's width exponent clears its record. -/
  | monWidthExp (m : Msg)
  /-- MON_BINMODE (R388): A write to a monitor's bin mode clears its record. -/
  | monBinmode (m : Msg)
  /-- MON_CH_SOURCE (R388): A write to a channel's source clears its record. -/
  | monChSource (m : Msg)
  /-- MON_CH_FILTER (R388): A write to a channel's filter clears its record. -/
  | monChFilter (m : Msg)
  /-- MON_CH_OWNER (R383): Assigns a channel to a slice, forcing its SLICE filter. -/
  | monChOwner (m : Msg)
  /-- SLC_CMD_CREATE (R389): Creates a slice instance with its allotments and policy, obtaining or drawing its slice root. -/
  | slcCmdCreate (m : Msg)
  /-- SLC_CMD_RESET (R401): Resets a slice: new generation, queue pairs disabled, admitted work aborted. -/
  | slcCmdReset (m : Msg)
  /-- SLICE_RESET_COMPLETE (R401): The reset's aborts and commits finish and the instance becomes ACTIVE, raising SLICE_RESET. -/
  | sliceResetComplete (slice : Nat)
  /-- SLC_CMD_REMOVE (R403): Removes a slice instance locally or purges its root group-wide. -/
  | slcCmdRemove (m : Msg)
  /-- SLC_CMD_FREEZE (R405): Stops admission on every queue pair of the slice. -/
  | slcCmdFreeze (m : Msg)
  /-- FREEZE_DRAIN_LIMIT (R405): When SLC_DRAIN_LIMIT_US expires, unpublished requests are cancelled to the re-issue list except those drained. -/
  | freezeDrainLimit (slice : Nat)
  /-- SLC_CMD_THAW (R406): Returns a frozen slice to ACTIVE and replays its re-issue list. -/
  | slcCmdThaw (m : Msg)
  /-- SLC_CMD_SAVE (R407): Saves a drained frozen slice to a migration image for one destination. -/
  | slcCmdSave (m : Msg)
  /-- SLC_CMD_RESTORE (R409): Checks a migration image and waits for replication to reach REPL_MARK. -/
  | slcCmdRestore (m : Msg) (image : Machine.ImageRead)
  /-- RESTORE_REPL_MARK_REACHED (R410): Once REPL_MARK is applied the restore recreates the instance, rebinds queues and re-admits work. -/
  | restoreReplMarkReached (slice : Nat)
  /-- SLC_CMD_IMAGE_FETCH (R407): Writes a stored migration image to a host buffer again. -/
  | slcCmdImageFetch (m : Msg)
  /-- SLC_CMD_IMAGE_DISCARD (R407): Discards a stored migration image and its stateful keys. -/
  | slcCmdImageDiscard (m : Msg)
  /-- SLC_EVENTS (R404): A read of the slice event ring returns whole records oldest first and removes them. -/
  | slcEvents (m : Msg)
  /-- TIL_CMD_OUT (R120): Takes a tile to DRAINING. -/
  | tilCmdOut (m : Msg)
  /-- TIL_CMD_RETURN (R120): Returns an OUT tile to RETURNING. -/
  | tilCmdReturn (m : Msg)
  /-- TIL_CMD_RESET (R121): Resets one tile, re-executing its work elsewhere and leaving it OUT. -/
  | tilCmdReset (m : Msg)
  /-- HAM_CMD_OUT (R276): Takes a big-number engine to DRAINING. -/
  | hamCmdOut (m : Msg)
  /-- HAM_CMD_RETURN (R276): Returns a big-number engine to RETURNING. -/
  | hamCmdReturn (m : Msg)
  /-- HAM_CMD_RESET (R276): Resets one big-number engine. -/
  | hamCmdReset (m : Msg)
  /-- FUL_CMD_OUT (R281): Takes a symmetric engine to DRAINING. -/
  | fulCmdOut (m : Msg)
  /-- FUL_CMD_RETURN (R281): Returns a symmetric engine to RETURNING. -/
  | fulCmdReturn (m : Msg)
  /-- FUL_CMD_RESET (R281): Resets one symmetric engine. -/
  | fulCmdReset (m : Msg)
  /-- MPG_INSTALL (R176): Checks and installs a microprogram container into the library. -/
  | mpgInstall (m : Msg)
  /-- MPG_REMOVE (R177): Removes an unused microprogram version from the library. -/
  | mpgRemove (m : Msg)
  /-- MPG_MIN_SVN (R177): Raises the minimum SVN of an MP_ID, never lowering it. -/
  | mpgMinSvn (m : Msg)
  /-- MPG_CMD_ROLLOUT (R182): Moves named tiles one at a time to their target slot configuration. -/
  | mpgCmdRollout (m : Msg)
  /-- VLT_CMD_INIT (R325): Provisions a new ember key and vault master and erases the key store. -/
  | vltCmdInit (m : Msg)
  /-- VLT_CMD_RECOVER (R325): Provisions a new vault master, keeps the key store and accepts slice roots from a peer. -/
  | vltCmdRecover (m : Msg)
  /-- VLT_CMD_SET_HOME (R330): Moves a slice's home to another group member. -/
  | vltCmdSetHome (m : Msg)
  /-- MOD_CMD_QUIESCE (R15): Takes the device from SERVICE or PARTIAL to QUIESCED. -/
  | modCmdQuiesce (m : Msg)
  /-- MOD_CMD_RESUME (R15): Returns QUIESCED to SERVICE or PARTIAL, or lifts the DEBUG hold. -/
  | modCmdResume (m : Msg)
  /-- MOD_CMD_ZEROISE (R413): Performs every A4 action and goes to SEALED. -/
  | modCmdZeroise (m : Msg)
  /-- MOD_CMD_RECOVERY_DONE (R325): After a committed recovery, takes SEALED to BOOT. -/
  | modCmdRecoveryDone (m : Msg)
  /-- PWR_STATE_CMD (R488): Enters S2 from QUIESCED or leaves it by switching domains on. -/
  | pwrStateCmd (m : Msg)
  /-- PWR_DOMAIN_CMD (R485): Switches named power domains off after draining or on with paced ramps. -/
  | pwrDomainCmd (m : Msg)
  /-- PWR_TILE_CMD (R483): Opens or closes tile switches within a TILE domain. -/
  | pwrTileCmd (m : Msg)
  /-- DOMAIN_DRAINED (R486): The last operation on a draining domain ends and the domain switches off. -/
  | domainDrained (domain : Nat)
  /-- RST_CMD_WARM (R495): Warm reset: aborts admitted work, commits written journal records and reboots. -/
  | rstCmdWarm (m : Msg)
  /-- RST_CMD_COLD (R494): Cold reset of every main domain without a supply ramp. -/
  | rstCmdCold (m : Msg)
  /-- POR_N_ASSERT (R15): Assertion of POR_N resets the main domains by the power-forced edge. -/
  | porNAssert
  /-- POR_N_RELEASE (R494): Release of POR_N starts the power-on reset and boot. -/
  | porNRelease
  /-- MAIN_POWER_APPLIED (R494): Every main rail rises above warning with POR_N high, starting a power-on reset. -/
  | mainPowerApplied
  /-- COLD_RST_N (R494): Assertion of COLD_RST_N performs a cold reset. -/
  | coldRstN
  /-- PERST_N (R62): PERST_N holds the PCIe controller in host link reset, resetting every slice's queue state. -/
  | perstN (hostPowerLost : Bool)
  /-- PCIE_HOT_RESET (R62): A PCIe hot reset performs a host link reset. -/
  | pcieHotReset
  /-- PLL_LOCK (R490): The main PLL locks and the derived clocks and device time start. -/
  | pllLock
  /-- BOOT_COMPLETE (R471): Boot extends M7 with SEPARATOR and takes its exit edge to SERVICE, PARTIAL, QUIESCED, SEALED or DEBUG. -/
  | bootComplete (b : BootReport)
  /-- BACKUP_CELL_INSERTED (R15): Insertion of the backup cell takes OFF to BACKUP. -/
  | backupCellInserted
  /-- BACKUP_CELL_REMOVED (R482): Removal of the cell records source 0x0720 on main power or leads to backup reset without it. -/
  | backupCellRemoved
  /-- BACKUP_RESET (R435): Loss of every backup source erases all backup state and asserts TAMPER_OUT. -/
  | backupReset
  /-- RAIL_BELOW_WARNING (R416): A rail crosses below warning, raising A1 and opening an excursion window. -/
  | railBelowWarning (rail : Nat) (millivolts : Nat)
  /-- RAIL_WARNING_1MS (R416): A rail still below warning 1 ms after its crossing raises A2 and takes QUIESCED. -/
  | railWarning1ms (rail : Nat) (millivolts : Nat)
  /-- RAIL_RECOVER (R415): A rail rises to recovery and the excursion duration enters its histogram. -/
  | railRecover (rail : Nat) (millivolts : Nat)
  /-- EXCURSION_WINDOW_END (R91): Five microseconds after recovery the excursion window closes and key-bearing dispatch resumes. -/
  | excursionWindowEnd
  /-- RAIL_OVER_VOLTAGE (R416): A rail above over-voltage raises source 0x0120 + r. -/
  | railOverVoltage (rail : Nat) (millivolts : Nat)
  /-- RAIL_BELOW_RESET (R416): A rail below reset resets the main domains to BACKUP or OFF by the power-forced edge. -/
  | railBelowReset (rail : Nat) (millivolts : Nat)
  /-- CLOCK_MONITOR_WINDOW (R419): At each 1,024-cycle RC window the clock monitor checks each running clock for too high or too low. -/
  | clockMonitorWindow (clock : Nat) (countPermille : Nat)
  /-- CLOCK_SHORT_CYCLE (R419): A clock cycle shorter than 75 % of nominal raises an A3 response. -/
  | clockShortCycle (clock : Nat)
  /-- RC_CRYSTAL_CHECK (R419): Every 1,024 crystal cycles the RC oscillator is checked against the backup crystal. -/
  | rcCrystalCheck (countPermille : Nat)
  /-- TEMPERATURE_SAMPLE (R421): Every 100 µs the twenty die sensors are sampled against warning and alarm thresholds. -/
  | temperatureSample (sensor : Nat) (eighths : Int)
  /-- TILE_GLITCH (R423): A sensor sample outside the glitch thresholds opens a tile window and raises A1. -/
  | tileGlitch (tile sensor code : Nat)
  /-- SHIELD_PATTERN_CHANGE (R424): Every 10.24 µs the active-shield patterns change and the far ends are compared. -/
  | shieldPatternChange (mismatch : Bool)
  /-- ENCLOSURE_SAMPLE (R425): At 64 Hz the backup domain drives and checks each enabled mesh pair and samples the switches. -/
  | enclosureSample (meshMismatch : BitVec 8) (switchLevels : BitVec 4)
  /-- VBAT_LOW_WARNING (R417): VBAT below its low warning is recorded. -/
  | vbatLowWarning (millivolts : Nat)
  /-- VBAT_OVER_VOLTAGE (R414): VBAT above over-voltage raises A4. -/
  | vbatOverVoltage (millivolts : Nat)
  /-- BACKUP_CRYSTAL_STOPPED (R436): The backup crystal stopped for 1 ms raises source 0x0722. -/
  | backupCrystalStopped
  /-- BACKUP_TEMPERATURE_LOW (R414): Backup-domain temperature below −30 °C raises source 0x0723. -/
  | backupTemperatureLow (eighths : Int)
  /-- MONITOR_BIST_TICK (R431): Every TMP_BIST_PERIOD_S or 64 s the next monitor's path B is stimulated under suppressed response. -/
  | monitorBistTick (backupDomain : Bool)
  /-- MONITOR_TEST_WINDOW_END (R431): A monitor test window ends and its outcome is logged, raising 0x0600 or 0x0724 if path B failed to trip. -/
  | monitorTestWindowEnd (pathBTripped : Bool)
  /-- PATH_DISAGREEMENT (R430): Monitor paths A and B disagreeing for more than 1 µs raise source 0x0601. -/
  | pathDisagreement (source : Nat)
  /-- TMP_CMD_BIST (R431): Starts a built-in monitor test on command. -/
  | tmpCmdBist (m : Msg)
  /-- TMP_CMD_ACK (R439): Acknowledges alarm-log entries up to a position and their backup-log sources. -/
  | tmpCmdAck (m : Msg)
  /-- TMP_CMD_TAMPER_CLEAR (R440): Deasserts TAMPER_OUT after a committed vault initialisation or recovery. -/
  | tmpCmdTamperClear (m : Msg)
  /-- TMP_CLASS (R412): Writes an alarm class row, refused below its floor. -/
  | tmpClass (m : Msg)
  /-- TMP_MESH_ENABLE (R426): Writes the mesh enable mask, refusing cleared bits in FIELDED. -/
  | tmpMeshEnable (m : Msg)
  /-- TMP_SWITCH_ENABLE (R426): Writes the switch enable mask, refusing cleared bits in FIELDED. -/
  | tmpSwitchEnable (m : Msg)
  /-- TMP_A4_SCRAP (R437): Sets or clears scrap-on-A4, refusing a clear in FIELDED. -/
  | tmpA4Scrap (m : Msg)
  /-- LCY_CMD_PREPARE (R449): Prepares a life-cycle transition, performing the RETURNED wipes when targeted. -/
  | lcyCmdPrepare (m : Msg)
  /-- LCY_WIPES_DONE (R452): The RETURNED wipes finish and LCY_PREPARED is set. -/
  | lcyWipesDone
  /-- LCY_PREPARE_EXPIRE (R448): A preparation unused 10 s after completion lapses. -/
  | lcyPrepareExpire
  /-- LCY_CMD_BURN (R449): Programs the target life-cycle field in OTP bit by bit. -/
  | lcyCmdBurn (m : Msg)
  /-- OTP_BIT_DONE (R442): One OTP field bit finishes programming, and the controller moves on, stops on a warning, or decodes the new state. -/
  | otpBitDone (marginal : Bool)
  /-- LCY_CMD_DBG_KEY_BURN (R455): Burns an integrator debug-key slot. -/
  | lcyCmdDbgKeyBurn (m : Msg)
  /-- LCY_CMD_DBG_KEY_REVOKE (R455): Revokes an integrator debug-key slot. -/
  | lcyCmdDbgKeyRevoke (m : Msg)
  /-- DBG_CMD_NONCE (R459): Draws a fresh debug nonce. -/
  | dbgCmdNonce (m : Msg)
  /-- DBG_CMD_APPLY (R460): Checks a debug certificate and enters DEBUG under the test root. -/
  | dbgCmdApply (m : Msg)
  /-- DBG_CMD_END (R462): Ends the rights of the active debug certificate. -/
  | dbgCmdEnd (m : Msg)
  /-- DEBUG_RIGHTS_EXPIRY (R462): The millisecond check finds the backup stamp at NOT_AFTER and clears DBG_RIGHTS. -/
  | debugRightsExpiry
  /-- JTAG_IDCODE (R446): Base-debug JTAG instruction returning the identification code. -/
  | jtagIdcode (tdi : List Bool)
  /-- JTAG_BYPASS (R446): Base-debug JTAG bypass instruction. -/
  | jtagBypass (tdi : List Bool)
  /-- JTAG_LC_STATUS (R446): Shifts out LCY_STATE and LCY_TOKENS_LEFT. -/
  | jtagLcStatus (tdi : List Bool)
  /-- ATT_CMD_QUOTE (R475): Snapshots the measurement slots and returns a signed quote. -/
  | attCmdQuote (m : Msg)
  /-- FW_CMD_STAGE_BEGIN (R478): Begins staging an image into the inactive bank. -/
  | fwCmdStageBegin (m : Msg)
  /-- FW_STAGE_DATA (R478): Appends one in-order chunk of the staged image. -/
  | fwStageData (m : Msg)
  /-- FW_CMD_STAGE_END (R478): Checks the staged image and commits the bank as staged. -/
  | fwCmdStageEnd (m : Msg)
  /-- FW_CMD_ACTIVATE (R479): Sets FW_PENDING_BANK for a trial at the next reset. -/
  | fwCmdActivate (m : Msg)
  /-- FW_CMD_CONFIRM (R479): Confirms a trial bank as active. -/
  | fwCmdConfirm (m : Msg)
  /-- FW_CMD_CANCEL (R479): Clears a pending activation. -/
  | fwCmdCancel (m : Msg)
  /-- FW_CMD_COMMIT_SVN (R480): Burns FW_MIN_SVN up to the active bank's SVN. -/
  | fwCmdCommitSvn (m : Msg)
  /-- FW_RECOVER (R470): In recovery wait, loads an image into bank A and restarts. -/
  | fwRecover (m : Msg)
  /-- HELLO (R504): A client HELLO opens a handshake and the device answers with REPLY. -/
  | hello (h : Handshake)
  /-- FINISH (R506): A client FINISH is verified, a role granted and ACCEPT sent. -/
  | finish (h : Handshake)
  /-- CLOSE (R508): A CLOSE record ends a session. -/
  | close (session : Nat)
  /-- HANDSHAKE_TIMEOUT (R504): A handshake not reaching ACCEPT within 5 s is dropped. -/
  | handshakeTimeout (session : Nat)
  /-- SESSION_IDLE_TIMEOUT (R508): A session without a client record for SCG_IDLE_S ends. -/
  | sessionIdleTimeout (session : Nat)
  /-- CONFIRM (R514): A second officer confirms a pending dual-control action, which then executes. -/
  | confirm (m : Msg)
  /-- DUAL_TICKET_LAPSE (R514): A dual-control ticket lapses 60 s after its request. -/
  | dualTicketLapse (ticket : Nat)
  /-- ECHO (R510): Returns the message bytes unchanged. -/
  | echo (m : Msg)
  /-- PEER (R509): A PEER message carries replication, recovery or migration traffic between group members. -/
  | peer (session : Nat) (p : PeerMsg)
  /-- GET_VERSION (R477): SPDM GET_VERSION request. -/
  | getVersion (src : SpdmSrc) (body : Bytes)
  /-- GET_CAPABILITIES (R477): SPDM GET_CAPABILITIES request. -/
  | getCapabilities (src : SpdmSrc) (body : Bytes)
  /-- NEGOTIATE_ALGORITHMS (R477): SPDM NEGOTIATE_ALGORITHMS selecting P-384 and SHA-384. -/
  | negotiateAlgorithms (src : SpdmSrc) (body : Bytes)
  /-- GET_DIGESTS (R477): SPDM GET_DIGESTS request. -/
  | getDigests (src : SpdmSrc) (body : Bytes)
  /-- GET_CERTIFICATE (R477): SPDM GET_CERTIFICATE returning slot 0 or slot 1 chains. -/
  | getCertificate (src : SpdmSrc) (body : Bytes)
  /-- CHALLENGE (R477): SPDM CHALLENGE signed with the P-384 attestation key. -/
  | challenge (src : SpdmSrc) (body : Bytes)
  /-- GET_MEASUREMENTS (R477): SPDM GET_MEASUREMENTS reporting slots and LOG_DIGEST. -/
  | getMeasurements (src : SpdmSrc) (body : Bytes)
  /-- SPDM_UNSUPPORTED_REQUEST (R477): Any other SPDM request is answered with UnsupportedRequest. -/
  | spdmUnsupportedRequest (src : SpdmSrc) (body : Bytes)
  /-- SCG_CMD_CLOSE (R508): Closes a named Scega session. -/
  | scgCmdClose (m : Msg)
  /-- SCG_ANCHORS (R508): A write to a trust-anchor row ends the sessions resting on it. -/
  | scgAnchors (m : Msg)
  /-- NET_CMD_APPLY (R501): Applies network parameters after responding and ends every Scega session. -/
  | netCmdApply (m : Msg)
  /-- PRP_SUPERVISION_TICK (R499): Every 2 s a PRP supervision frame is sent on both ports. -/
  | prpSupervisionTick
  /-- REASSEMBLY_TIMEOUT (R500): An IP reassembly incomplete after 1 s is dropped. -/
  | reassemblyTimeout (key : Nat)
  /-- PTP_SYNC (R516): A PTP synchronisation updates NET_PTP_MAP. -/
  | ptpSync (p : PtpSync)
  /-- DESCRIPTOR_READ_COMPLETE (R36): The host-memory read of a descriptor, its input list or input bytes completes, and the tuyere runs the checks of R43 and admits, parks or completes the request. -/
  | descriptorReadComplete (qp : Nat) (rd : Machine.DescRead)
  /-- ATS_TRANSLATION_COMPLETION (R45): An ATS translation completion arrives from the host for a page the device needs, letting the access proceed or leading to a PRI request or status 0x0105. -/
  | atsTranslationCompletion (pasid : Nat) (page : Nat) (ok : Bool)
  /-- COLD_RST_N_RELEASE (R471): Release of COLD_RST_N starts the boot sequence after a pin cold reset. -/
  | coldRstNRelease
  /-- PERST_N_RELEASE (R552): Release of PERST_N ends host link reset and lets link training start at step 6 of R471. -/
  | perstNRelease
  /-- KEY_REGISTER_REFRESH_DONE (R109): A temper-pass refresh of an idle key register ends, and an assignment that arrived during it starts. -/
  | keyRegisterRefreshDone (unit : Nat)
  /-- PROBE_END (R374): A probe finishes its last kernel cycle, the tile becomes free, and any pending quench level change takes effect. -/
  | probeEnd (tile : Nat)
  /-- ENGINE_CHECKPOINT (R272): A big-number engine after each modular multiplication, or a symmetric engine at the end of each block, acts on a pending abort. -/
  | engineCheckpoint (unit : Nat)
  /-- ENGINE_UNCORRECTABLE_WORD (R273): A big-number engine meets an uncorrectable word in operand memory or its key register and recovers locally or moves the operation. -/
  | engineUncorrectableWord (unit : Nat) (inKeyRegister rereadOk : Bool)
  /-- DOMAIN_RAMP_DONE (R487): A switched-on domain finishes its ramp and each unit whose power is good takes the OFF edge to RETURNING. -/
  | domainRampDone (domain : Nat)
  /-- JTAG_DEBUG_ACCESS (R457): A JTAG instruction beyond base debug exercises a right of DBG_RIGHTS, such as smith halt and step or a memory read. -/
  | jtagDebugAccess (a : JtagAccess)
  /-- REPLY (R509): A REPLY record arrives at a device that opened a PEER session, which then verifies it and sends FINISH. -/
  | reply (h : Handshake)
  /-- ACCEPT (R504): An ACCEPT record arrives at a device that opened a PEER session, establishing the session. -/
  | accept (h : Handshake)
  /-- ICMP_ECHO_REQUEST (R500): An ICMPv6 or ICMP echo request arrives on a management port and the device answers it. -/
  | icmpEchoRequest (fr : Frame)
  /-- NEIGHBOR_DISCOVERY (R500): A neighbour-discovery message, including a router advertisement used by SLAAC, arrives and the device answers or takes its address. -/
  | neighborDiscovery (fr : Frame)
  /-- ARP_REQUEST (R500): An ARP request arrives while IPv4 is enabled and the device answers it. -/
  | arpRequest (fr : Frame)
  /-- DATAGRAM_DISCARD (R500): A datagram to any port other than Scega or PTP is discarded and counted in NET_DISCARD_COUNT. -/
  | datagramDiscard (fr : Frame)
  deriving DecidableEq, Repr

end Sys2Proof
end

