-- ==== Sys2Proof/Decode.lean ====
section
/-! DEFINITION. The table gives no command an encoding in bits (spec/opcode_table.json lists no fields), so no word spells a
command. -/

namespace Sys2Proof

/-- The command a word spells: none, since the table gives no row any bits. -/
def decodeTableWord (_nbits _w : Nat) : Option Instr := none

end Sys2Proof
end

