-- ==== Sys2Proof/Machine/Bytes.lean ====
section
/-! DEFINITION. Byte strings as numbers (R5: little-endian unless a field says otherwise) and the fields of a number. -/

namespace Sys2Proof.Machine

/-- The number that bytes spell little-endian. -/
def leNat : Bytes → Nat
  | [] => 0
  | b :: r => b.toNat + 256 * leNat r

/-- The number that bytes spell big-endian. -/
def beNat (bs : Bytes) : Nat := leNat bs.reverse

/-- `n` little-endian bytes of a number. -/
def natLE : Nat → Nat → Bytes
  | 0, _ => []
  | n + 1, v => BitVec.ofNat 8 v :: natLE n (v / 256)

/-- `n` big-endian bytes of a number. -/
def natBE (n v : Nat) : Bytes := (natLE n v).reverse

/-- `n` bytes from offset `o`. -/
def slice (o n : Nat) (bs : Bytes) : Bytes := (bs.drop o).take n

/-- The little-endian number in bytes `o` to `o + n − 1`. -/
def leAt (o n : Nat) (bs : Bytes) : Nat := leNat (slice o n bs)

/-- `n` zero bytes. -/
def zeros (n : Nat) : Bytes := List.replicate n 0

/-- The first `n` bytes, with zero bytes added to reach `n`. -/
def fitLen (n : Nat) (bs : Bytes) : Bytes := bs.take n ++ zeros (n - bs.length)

/-- Bits `hi` down to `lo` of a number. -/
def bits (hi lo v : Nat) : Nat := v / 2 ^ lo % 2 ^ (hi + 1 - lo)

/-- Bit `i` of a number. -/
def bit (i v : Nat) : Bool := v.testBit i

/-- A truth value as a bit. -/
def bnat (b : Bool) : Nat := if b then 1 else 0

/-- Division rounding up. -/
def ceilDiv (a b : Nat) : Nat := (a + b - 1) / b

/-- Bytes XORed position by position, as long as the shorter. -/
def xorBytes (a b : Bytes) : Bytes := List.zipWith (· ^^^ ·) a b

/-- Write bytes over a byte string at an offset, zero-filling up to it. -/
def overlay (o : Nat) (new old : Bytes) : Bytes := fitLen o old ++ new ++ old.drop (o + new.length)

/-- Are all bytes zero? -/
def allZero (bs : Bytes) : Bool := bs.all (· == 0)

/-- The bytes of an ASCII string. -/
def ascii (s : String) : Bytes := s.toList.map (fun c => BitVec.ofNat 8 c.toNat)

/-- An integer as 64 bits of two's complement. -/
def int64 (i : Int) : Nat := (i % (2 ^ 64 : Int)).toNat

end Sys2Proof.Machine
end

