-- ==== Sys2Proof/Machine/Keccak.lean ====
section
/-! DEFINITION. Keccak-f[1600] and the functions of FIPS 202 that the manual names (R96, R155, R285, R337). -/

namespace Sys2Proof.Machine.Keccak

/-- A state is 25 lanes of 64 bits, lane x + 5y. -/
abbrev Lanes := List Nat

/-- Lane of a state. -/
def lane (s : Lanes) (x y : Nat) : Nat := s.getD (x % 5 + 5 * (y % 5)) 0

/-- Rotate left in 64 bits. -/
def rotl (n v : Nat) : Nat := (v * 2 ^ (n % 64) + v / 2 ^ (64 - n % 64)) % 2 ^ 64

/-- The rotation offsets of ρ, lane x + 5y. -/
def rho : List Nat := [0, 1, 62, 28, 27, 36, 44, 6, 55, 20, 3, 10, 43, 25, 39, 41, 45, 15, 21, 8, 18, 2, 61, 56, 14]

/-- One step of the round-constant register. -/
def lfsr (r : Nat) : Nat := if r ≥ 128 then (r * 2) % 256 ^^^ 0x71 else r * 2

/-- The constant of one round and the register after it: seven output bits at positions 2^j − 1. -/
def roundConst : Nat → Nat → Nat → Nat × Nat
  | 0, r, acc => (acc, r)
  | k + 1, r, acc => let j := 6 - k
                     roundConst k (lfsr r) (if r % 2 == 1 then acc ^^^ 2 ^ (2 ^ j - 1) else acc)

/-- One round: θ, ρ, π, χ, ι. -/
def round (s : Lanes) (rc : Nat) : Lanes :=
  let c := (List.range 5).map (fun x => (List.range 5).foldl (fun a y => a ^^^ lane s x y) 0)
  let dd := (List.range 5).map (fun x => c.getD ((x + 4) % 5) 0 ^^^ rotl 1 (c.getD ((x + 1) % 5) 0))
  let t := (s.zip (List.range 25)).map (fun e => rotl (rho.getD e.2 0) (e.1 ^^^ dd.getD (e.2 % 5) 0))
  let b := (List.range 25).map (fun i => let x := i % 5
                                         let y := i / 5
                                         t.getD ((x + 3 * y) % 5 + 5 * x) 0)
  (List.range 25).map (fun i =>
    let x := i % 5
    let y := i / 5
    let v := lane b x y ^^^ ((2 ^ 64 - 1 - lane b (x + 1) y) &&& lane b (x + 2) y)
    if i == 0 then v ^^^ rc else v)

/-- `n` rounds. -/
def rounds : Nat → Nat → Lanes → Lanes
  | 0, _, s => s
  | n + 1, r, s => let (rc, r') := roundConst 7 r 0
                   rounds n r' (round s rc)

/-- Keccak-f[1600]: 24 rounds. -/
def f1600 (s : Lanes) : Lanes := rounds 24 1 s

/-- Lanes from bytes. -/
def lanesOf : Nat → Bytes → Lanes
  | 0, _ => []
  | n + 1, b => leNat (b.take 8) :: lanesOf n (b.drop 8)

/-- XOR a block into a state. -/
def xorIn (s : Lanes) (b : Bytes) : Lanes := List.zipWith (· ^^^ ·) s (lanesOf 25 (fitLen 200 b))

/-- The bytes of a state. -/
def bytesOf (s : Lanes) : Bytes := s.flatMap (natLE 8)

/-- Absorb `k` blocks of `r` bytes. -/
def absorb (r : Nat) : Nat → Lanes → Bytes → Lanes
  | 0, s, _ => s
  | k + 1, s, b => absorb r k (f1600 (xorIn s (b.take r))) (b.drop r)

/-- Squeeze `k` blocks. -/
def squeeze (r : Nat) : Nat → Lanes → Bytes
  | 0, _ => []
  | k + 1, s => (bytesOf s).take r ++ squeeze r k (f1600 s)

/-- Multi-rate padding with a domain byte. -/
def pad (r dom : Nat) (m : Bytes) : Bytes :=
  let q := r - m.length % r
  if q == 1 then m ++ [BitVec.ofNat 8 (dom ^^^ 0x80)]
  else m ++ (BitVec.ofNat 8 dom :: zeros (q - 2)) ++ [0x80]

/-- The sponge: rate, domain byte, message, output length. -/
def sponge (r dom : Nat) (m : Bytes) (n : Nat) : Bytes :=
  let p := pad r dom m
  (squeeze r (ceilDiv n r) (absorb r (p.length / r) (List.replicate 25 0) p)).take n

def sha3_224 (m : Bytes) : Bytes := sponge 144 6 m 28
def sha3_256 (m : Bytes) : Bytes := sponge 136 6 m 32
def sha3_384 (m : Bytes) : Bytes := sponge 104 6 m 48
def sha3_512 (m : Bytes) : Bytes := sponge 72 6 m 64
def shake128 (m : Bytes) (n : Nat) : Bytes := sponge 168 0x1F m n
def shake256 (m : Bytes) (n : Nat) : Bytes := sponge 136 0x1F m n

/-- Minimal big-endian bytes of a number, at least one. -/
def minBE (v : Nat) : Bytes := natBE (max 1 (ceilDiv (Nat.log2 (max v 1) + 1) 8)) v
/-- left_encode and right_encode of SP 800-185. -/
def leftEncode (v : Nat) : Bytes := natLE 1 (minBE v).length ++ minBE v
def rightEncode (v : Nat) : Bytes := minBE v ++ natLE 1 (minBE v).length
/-- encode_string. -/
def encodeString (s : Bytes) : Bytes := leftEncode (8 * s.length) ++ s
/-- bytepad. -/
def bytepad (x : Bytes) (w : Nat) : Bytes :=
  let z := leftEncode w ++ x
  z ++ zeros ((w - z.length % w) % w)

/-- cSHAKE of SP 800-185 with function name `n`. -/
def cshake (r : Nat) (n s m : Bytes) (len : Nat) : Bytes :=
  if n.isEmpty && s.isEmpty then sponge r 0x1F m len else sponge r 0x04 (bytepad (encodeString n ++ encodeString s) r ++ m) len

/-- KMAC128 (rate 168) and KMAC256 (rate 136). -/
def kmac (r : Nat) (key m : Bytes) (len : Nat) (cust : Bytes) : Bytes :=
  cshake r (ascii "KMAC") cust (bytepad (encodeString key) r ++ m ++ rightEncode (8 * len)) len

end Sys2Proof.Machine.Keccak
end

