-- ==== Sys2Proof/Machine/MlKem.lean ====
section
/-! DEFINITION. ML-KEM as FIPS 203 defines it (R6, R186 to R196): arithmetic modulo 3,329, the component scheme K-PKE, and the checks of its sections
7.2 and 7.3. The arithmetic modulo q and the packing of coefficients also serve ML-DSA. (PRESUMED, assumption log 122) -/

namespace Sys2Proof.Machine

/-! ### Polynomials modulo q -/

/-- 256 coefficients below q. -/
abbrev Poly := List Nat

/-- b^n mod q by squaring over `k` bits of n. -/
def powMod (q b : Nat) : Nat → Nat → Nat
  | 0, _ => 1 % q
  | k + 1, n => let h := powMod q (b * b % q) k (n / 2)
                if n % 2 == 1 then b * h % q else h

/-- a − b mod q for residues. -/
def subMod (q a b : Nat) : Nat := (a % q + (q - b % q)) % q

/-- Bit-reverse `k` bits. -/
def bitrev : Nat → Nat → Nat
  | 0, _ => 0
  | k + 1, v => v % 2 * 2 ^ k + bitrev k (v / 2)

def polyAdd (q : Nat) (a b : Poly) : Poly := List.zipWith (fun x y => (x + y) % q) a b
def polySub (q : Nat) (a b : Poly) : Poly := List.zipWith (subMod q) a b

/-- `n` layers of the number-theoretic transform below node `i`: node i multiplies by ζ to the bit-reversed i of `w` bits. -/
def nttNode (q zeta w : Nat) : Nat → Nat → Poly → Poly
  | 0, _, f => f
  | n + 1, i, f =>
    let h := f.length / 2
    let z := powMod q zeta 9 (bitrev w i)
    let t := (f.drop h).map (fun x => z * x % q)
    nttNode q zeta w n (2 * i) (polyAdd q (f.take h) t) ++ nttNode q zeta w n (2 * i + 1) (polySub q (f.take h) t)

/-- The same layers undone, without the division by 2 of each. -/
def nttBack (q zeta w : Nat) : Nat → Nat → Poly → Poly
  | 0, _, f => f
  | n + 1, i, f =>
    let h := f.length / 2
    let a := nttBack q zeta w n (2 * i) (f.take h)
    let b := nttBack q zeta w n (2 * i + 1) (f.drop h)
    let z := powMod q zeta 11 (1024 - bitrev w i)
    polyAdd q a b ++ (polySub q a b).map (fun x => z * x % q)

/-- Coefficients packed in `d` bits each, little-endian. -/
def packBits (d : Nat) (f : Poly) : Bytes := natLE (ceilDiv (d * f.length) 8) (f.foldr (fun x a => x % 2 ^ d + 2 ^ d * a) 0)
/-- `n` coefficients of `d` bits. -/
def unpackBits (d : Nat) : Nat → Nat → Poly
  | 0, _ => []
  | n + 1, v => v % 2 ^ d :: unpackBits d n (v / 2 ^ d)
/-- One polynomial from bytes. -/
def unpackPoly (d : Nat) (b : Bytes) : Poly := unpackBits d 256 (leNat (b.take (32 * d)))
/-- `k` polynomials from bytes. -/
def unpackVec (d k : Nat) (b : Bytes) : List Poly := (List.range k).map (fun i => unpackPoly d (b.drop (32 * d * i)))
/-- The sum of products of two vectors. -/
def dotWith (zero : Poly) (add mul : Poly → Poly → Poly) (a b : List Poly) : Poly := (List.zipWith mul a b).foldl add zero

namespace MlKem

def q : Nat := 3329
/-- k, η1, du and dv of a parameter set; η2 is 2. -/
def rank (ps : Nat) : Nat := ps + 1
def eta1 (ps : Nat) : Nat := if ps == 1 then 3 else 2
def du (ps : Nat) : Nat := if ps == 3 then 11 else 10
def dv (ps : Nat) : Nat := if ps == 3 then 5 else 4

def zero : Poly := List.replicate 256 0
def add (a b : Poly) : Poly := polyAdd q a b
def sub (a b : Poly) : Poly := polySub q a b
/-- NTT and its inverse; 17^256 = 1. -/
def ntt (f : Poly) : Poly := nttNode q 17 7 7 1 f
def intt (f : Poly) : Poly := (nttBack q 17 7 7 1 f).map (fun x => x * 3303 % q)
/-- The product of two transformed polynomials: 128 products of degree one. -/
def mulFrom : Nat → Nat → Poly → Poly → Poly
  | n + 1, i, a0 :: a1 :: a, b0 :: b1 :: b =>
    let g := powMod q 17 9 (2 * bitrev 7 i + 1)
    (a0 * b0 + a1 * b1 % q * g) % q :: (a0 * b1 + a1 * b0) % q :: mulFrom n (i + 1) a b
  | _, _, _, _ => []
def mul (a b : Poly) : Poly := mulFrom 128 0 a b
def dot (a b : List Poly) : Poly := dotWith zero add mul a b

/-- Candidates of SampleNTT: two of 12 bits in three bytes. -/
def candidates : Nat → Bytes → List Nat
  | n + 1, a :: b :: c :: r => (a.toNat + 256 * (b.toNat % 16)) :: (b.toNat / 16 + 16 * c.toNat) :: candidates n r
  | _, _ => []
/-- SampleNTT over the 280 iterations of FIPS 203 Appendix B. -/
def sampleNtt (seed : Bytes) : Poly := ((candidates 280 (Keccak.shake128 seed 840)).filter (· < q)).take 256
/-- SamplePolyCBD: the difference of two sums of η bits. -/
def sampleCbd (eta : Nat) (b : Bytes) : Poly :=
  let ones := fun v => (List.range eta).foldl (fun a i => a + v / 2 ^ i % 2) 0
  (unpackBits (2 * eta) 256 (leNat b)).map (fun v => subMod q (ones v) (ones (v / 2 ^ eta)))
/-- PRF, and a noise polynomial from it. -/
def noise (eta : Nat) (seed : Bytes) (n : Nat) : Poly := sampleCbd eta (Keccak.shake256 (seed ++ natLE 1 n) (64 * eta))

def compress (d : Nat) (f : Poly) : Poly := f.map (fun x => (x * 2 ^ (d + 1) + q) / (2 * q) % 2 ^ d)
def decompress (d : Nat) (f : Poly) : Poly := f.map (fun y => (2 * q * y + 2 ^ d) / 2 ^ (d + 1))

/-- Row `i` of the matrix Â, and column `i`. -/
def row (ps : Nat) (rho : Bytes) (i : Nat) : List Poly := (List.range (rank ps)).map (fun j => sampleNtt (rho ++ natLE 1 j ++ natLE 1 i))
def col (ps : Nat) (rho : Bytes) (i : Nat) : List Poly := (List.range (rank ps)).map (fun j => sampleNtt (rho ++ natLE 1 i ++ natLE 1 j))

/-- What key generation makes of d and z. -/
structure Key where
  rho : Bytes
  sHat : List Poly
  eHat : List Poly
  tHat : List Poly
  ek : Bytes
  dk : Bytes

def encode12 (v : List Poly) : Bytes := v.flatMap (packBits 12)
/-- t̂ from ŝ and ê (R192). -/
def tOf (ps : Nat) (rho : Bytes) (s e : List Poly) : List Poly := (List.range (rank ps)).map (fun i => add (dot (row ps rho i) s) (e.getD i zero))

/-- ML-KEM.KeyGen_internal. -/
def keygen (ps : Nat) (d z : Bytes) : Key :=
  let k := rank ps
  let g := Keccak.sha3_512 (d ++ natLE 1 k)
  let rho := g.take 32
  let sigma := g.drop 32
  let s := (List.range k).map (fun i => ntt (noise (eta1 ps) sigma i))
  let e := (List.range k).map (fun i => ntt (noise (eta1 ps) sigma (k + i)))
  let t := tOf ps rho s e
  let ek := encode12 t ++ rho
  { rho := rho, sHat := s, eHat := e, tHat := t, ek := ek, dk := encode12 s ++ ek ++ Keccak.sha3_256 ek ++ z }

/-- K-PKE.Encrypt. -/
def encrypt (ps : Nat) (ek m r : Bytes) : Bytes :=
  let k := rank ps
  let rho := slice (384 * k) 32 ek
  let t := unpackVec 12 k ek
  let y := (List.range k).map (fun i => ntt (noise (eta1 ps) r i))
  let u := (List.range k).map (fun i => add (intt (dot (col ps rho i) y)) (noise 2 r (k + i)))
  let v := add (add (intt (dot t y)) (noise 2 r (2 * k))) (decompress 1 (unpackPoly 1 m))
  u.flatMap (fun f => packBits (du ps) (compress (du ps) f)) ++ packBits (dv ps) (compress (dv ps) v)

/-- K-PKE.Decrypt. -/
def decrypt (ps : Nat) (dk c : Bytes) : Bytes :=
  let k := rank ps
  let u := (unpackVec (du ps) k c).map (fun f => ntt (decompress (du ps) f))
  let v := decompress (dv ps) (unpackPoly (dv ps) (c.drop (32 * du ps * k)))
  packBits 1 (compress 1 (sub v (intt (dot (unpackVec 12 k dk) u))))

/-- The modulus check of FIPS 203 section 7.2 (R193): every 12-bit coefficient is below q. -/
def ekOk (ps : Nat) (ek : Bytes) : Bool := (unpackVec 12 (rank ps) ek).all (fun f => f.all (· < q))
/-- The parts of a decapsulation key: ŝ, ek, H(ek) and z. -/
def dkEk (ps : Nat) (dk : Bytes) : Bytes := slice (384 * rank ps) (384 * rank ps + 32) dk
def dkHash (ps : Nat) (dk : Bytes) : Bytes := slice (768 * rank ps + 32) 32 dk
def dkZ (ps : Nat) (dk : Bytes) : Bytes := slice (768 * rank ps + 64) 32 dk
/-- The hash check of section 7.3 (R195). -/
def hashOk (ps : Nat) (dk : Bytes) : Bool := Keccak.sha3_256 (dkEk ps dk) == dkHash ps dk

/-- ML-KEM.Encaps_internal: the ciphertext and K. -/
def encaps (ps : Nat) (ek m : Bytes) : Bytes × Bytes :=
  let g := Keccak.sha3_512 (m ++ Keccak.sha3_256 ek)
  (encrypt ps ek m (g.drop 32), g.take 32)

/-- What a decapsulation computes (R196). -/
structure Opened where
  /-- m′, and K′ and r′ of G(m′ ‖ h). -/
  message : Bytes
  key : Bytes
  coins : Bytes
  /-- The rejection value J(z ‖ c) and the re-encryption c′. -/
  reject : Bytes
  again : Bytes
  /-- The comparison, and the selected secret. -/
  same : Bool
  secret : Bytes

/-- ML-KEM.Decaps_internal. -/
def decaps (ps : Nat) (dk c : Bytes) : Opened :=
  let m := decrypt ps dk c
  let g := Keccak.sha3_512 (m ++ dkHash ps dk)
  let j := Keccak.shake256 (dkZ ps dk ++ c) 32
  let again := encrypt ps (dkEk ps dk) m (g.drop 32)
  { message := m, key := g.take 32, coins := g.drop 32, reject := j, again := again, same := again == c, secret := if again == c then g.take 32 else j }

end MlKem

end Sys2Proof.Machine
end

