-- ==== Sys2Proof/Config.lean ====
section
/-! DEFINITION. The constants an implementation fixes and the values the manual leaves open. Every name here is opaque and
has no body: nothing proves a value of it. A function of a counter gives a fresh free value at each use (assumption log 3);
the functions named after a published scheme stand for the computation that scheme defines (assumption log 4). -/

namespace Sys2Proof.Config

/-- The n-th byte string drawn from noise or a DRBG: seeds, keys, nonces, identities (R343, R345). The length is the caller's. (DESIGN CHOICE, assumption log 3) -/
opaque drawByte : Nat → Nat → Byte
/-- The n-th 64-bit word of masking randomness (R110, R112: its stream is no part of the contract). (DESIGN CHOICE, assumption log 3) -/
opaque sparkWord : Nat → Nat → W64
/-- What a scrub leaves at an address (R116). (DESIGN CHOICE, assumption log 3) -/
opaque scrubByte : Nat → Nat → Byte
/-- A byte that the manual leaves unspecified (bytes after a pad header, R51; vendor diagnostics, R536). -/
opaque freeByte : Nat → Nat → Byte
/-- A count or duration that the manual leaves open. -/
opaque freeNat : Nat → Nat
/-- A choice that the manual leaves open. -/
opaque freeBool : Nat → Bool

/-- A published scheme's function (FIPS 203 to 205, SP 800-208, the HQC and Classic McEliece submissions, FN-DSA): the
scheme's number and parameter set, the function's number, and the byte strings it takes, to one byte string. (DESIGN CHOICE, assumption log 4) (DEDUCED, assumption log 25) -/
opaque scheme : Nat → Nat → Nat → List Bytes → Bytes
/-- A published scheme's verification or check. (DESIGN CHOICE, assumption log 4) (DEDUCED, assumption log 25) -/
opaque schemeOk : Nat → Nat → Nat → List Bytes → Bool
/-- A published scheme's count (a signature length, a number of rejections). (DESIGN CHOICE, assumption log 4) -/
opaque schemeNat : Nat → Nat → Nat → List Bytes → Nat

/-- The byte at a position of the stream that a 256-bit seed of the key register expands to: R106 states no expansion. (DESIGN CHOICE, assumption log 118) -/
opaque seedStream : List Byte → Nat → Byte
/-- The form that a microprogram, by MP_ID and VERSION, declares for the shares of its key (R106; R172 gives the declaration no field): k below 8 is
arithmetic modulo the value of m[k], any other number Boolean. (DESIGN CHOICE, assumption log 118) -/
opaque keyForm : Nat → Nat → Nat
/-- The form of the shares that a microprogram keeps in the registers an instruction reads (R136: the tile does not tag them), by opcode and PC: 0 Boolean,
1 arithmetic modulo q, else arithmetic modulo 2^EW. (DESIGN CHOICE, assumption log 85) -/
opaque shareForm : Nat → Nat → Nat
/-- The five check symbols of 32 data symbols (R99 states neither the field's polynomial nor the generator). (DESIGN CHOICE, assumption log 118) -/
opaque checkSymbol : List Byte → Nat → Byte

/-- A known-answer block holds a record for an opcode at a masking order: R173 names what a record holds and states no layout. (DESIGN CHOICE, assumption log 128) -/
opaque katCovers : List Byte → Nat → Nat → Bool

/-- The device's own data fixed at manufacture: identity, MAC address, chains, OTP constants (R441, R473, R474, R521). -/
opaque unitByte : Nat → Nat → Byte
/-- The RSA size code in ALG [7:0] of an RSA object of so many modulus bits: R302 names it and states no values. (DESIGN CHOICE, assumption log 29) -/
opaque rsaSizeCode : Nat → Byte
/-- Lengths of that data where the manual fixes none (certificate chains). -/
opaque unitLength : Nat → Nat

end Sys2Proof.Config
end

