-- ==== Sys2Proof/Machine/Tab.lean ====
section
/-! DEFINITION. Tables by key (registers, queue pairs, requests, nodes: everything the device numbers) and addressed memory
in one canonical form. -/

namespace Sys2Proof.Machine

/-- A table: the entries that have been written, each key once. -/
abbrev Tab (κ α : Type) := List (κ × α)

/-- The entry of key `k`, if one is listed. -/
def tabGet? {κ α : Type} [DecidableEq κ] (k : κ) : Tab κ α → Option α
  | [] => none
  | e :: r => if e.1 = k then some e.2 else tabGet? k r

/-- The entry of key `k`, or `dflt` where none is listed. -/
def tabGet {κ α : Type} [DecidableEq κ] (dflt : α) (k : κ) (t : Tab κ α) : α := (tabGet? k t).getD dflt

/-- Write the entry of key `k`. -/
def tabSet {κ α : Type} [DecidableEq κ] (k : κ) (v : α) : Tab κ α → Tab κ α
  | [] => [(k, v)]
  | e :: r => if e.1 = k then (k, v) :: r else e :: tabSet k v r

/-- Drop the entries of key `k`. -/
def tabErase {κ α : Type} [DecidableEq κ] (k : κ) (t : Tab κ α) : Tab κ α := t.filter (fun e => decide (e.1 ≠ k))

/-- Apply `f` to the entry of key `k`, starting from `dflt` where none is listed. -/
def tabMod {κ α : Type} [DecidableEq κ] (dflt : α) (k : κ) (f : α → α) (t : Tab κ α) : Tab κ α :=
  tabSet k (f (tabGet dflt k t)) t

/-- Apply `f` to every listed entry. -/
def tabMap {κ α : Type} (f : κ → α → α) (t : Tab κ α) : Tab κ α := t.map (fun e => (e.1, f e.1 e.2))

/-- Keep the entries that satisfy `p`. -/
def tabFilter {κ α : Type} (p : κ → α → Bool) (t : Tab κ α) : Tab κ α := t.filter (fun e => p e.1 e.2)

/-- The keys listed. -/
def tabKeys {κ α : Type} (t : Tab κ α) : List κ := t.map Prod.fst

/-- Byte-addressed memory (tile memory R99, hearth memory R9): the cells that do not read as `fill`, addresses strictly rising. -/
structure Memory where
  /-- What an unlisted address reads as: 0 after power-on (R487 step 2, R497), or the n-th scrub output (R116). -/
  scrub : Option Nat
  cells : List Host.Cell
  deriving DecidableEq, Repr

/-- The list part of the canonical form: strictly rising addresses above `lo`. -/
def cellsAbove (lo : Nat) : List Host.Cell → Bool
  | [] => true
  | c :: r => decide (lo ≤ c.1) && cellsAbove (c.1 + 1) r

/-- A memory into which nothing has been written. -/
def Memory.blank : Memory := { scrub := none, cells := [] }

/-- What an unlisted address reads as. (DEDUCED, assumption log 10) -/
def Memory.fill (m : Memory) (a : Nat) : BitVec 8 := match m.scrub with | none => 0 | some n => Config.scrubByte n a

/-- A byte of a memory as it stands (R99, R116). -/
def Memory.byte (m : Memory) (a : Nat) : BitVec 8 := (tabGet? a m.cells).getD (m.fill a)

/-- The canonical form: addresses strictly rising, no cell equal to what its address reads as unlisted. (DEDUCED, assumption log 10) -/
def Memory.wf (m : Memory) : Bool := cellsAbove 0 m.cells && m.cells.all (fun c => decide (c.2 ≠ m.fill c.1))

/-- Insert or replace a cell, in address order. -/
def putCell (a : Nat) (b : BitVec 8) : List Host.Cell → List Host.Cell
  | [] => [(a, b)]
  | c :: r => if a < c.1 then (a, b) :: c :: r else if a = c.1 then (a, b) :: r else c :: putCell a b r

/-- Write one byte, keeping the canonical form. -/
def Memory.put (m : Memory) (a : Nat) (b : BitVec 8) : Memory :=
  if b = m.fill a then { m with cells := m.cells.filter (fun c => decide (c.1 ≠ a)) } else { m with cells := putCell a b m.cells }

/-- `n` bytes from an address. -/
def Memory.read (m : Memory) (a n : Nat) : List (BitVec 8) := (List.range n).map (fun i => m.byte (a + i))

/-- Write bytes from an address up, in ascending order. -/
def Memory.write (m : Memory) (a : Nat) : List (BitVec 8) → Memory
  | [] => m
  | b :: r => (m.put a b).write (a + 1) r

end Sys2Proof.Machine
end

