-- ==== Sys2Proof/Machine/Catalogue.lean ====
section
/-! DEFINITION. The catalogue of the Scega dictionary (R521 to R536): one row per parameter with its type, access codes,
default, range, persistence class and power domain (R518 to R520). -/

namespace Sys2Proof.Machine

/-- A parameter by its number A.OOO.SS (R8): area in [23:20], object in [19:8], sub-index in [7:0]. -/
abbrev Param := Nat

/-- One access code of R518. -/
inductive Acc where
  | none | read | readWrite | writeOnly | command | dual
  deriving DecidableEq, Repr

/-- The type of a value (R518, R519): an unsigned number of `n` bytes, a BOOL, an ENUM, `n` octets, or a command without argument. -/
inductive Kind where
  | uint (n : Nat) | bool | enum | octets (n : Nat) | cmd
  deriving DecidableEq, Repr

/-- Persistence classes (R497, R520). -/
inductive Persist where
  | none | v | w | p | b | o
  deriving DecidableEq, Repr

/-- The power domain that holds a parameter (R483). -/
inductive ParamDomain where
  | aon | smith | tile | vault | bellows | backup | otp | flash
  deriving DecidableEq, Repr

/-- One row of the catalogue. `rows` is 0 for a scalar. `lo` and `hi` bound a number that may be written (R518). -/
structure CatRow where
  num : Param
  kind : Kind
  rows : Nat
  observer : Acc
  operator : Acc
  officer : Acc
  maker : Acc
  dflt : Nat
  lo : Nat
  hi : Nat
  persist : Persist
  domain : ParamDomain
  deriving DecidableEq, Repr

/-- ID_PART -/
abbrev P.idPart : Param := 0x000000
/-- ID_DEVICE_ID -/
abbrev P.idDeviceId : Param := 0x000100
/-- ID_MAC -/
abbrev P.idMac : Param := 0x000200
/-- ID_FW_VERSION -/
abbrev P.idFwVersion : Param := 0x000300
/-- ID_MPLIB_VERSION -/
abbrev P.idMplibVersion : Param := 0x000400
/-- MOD_STATE -/
abbrev P.modState : Param := 0x100000
/-- MOD_LOG -/
abbrev P.modLog : Param := 0x100100
/-- MOD_CMD_QUIESCE -/
abbrev P.modCmdQuiesce : Param := 0x100200
/-- MOD_CMD_RESUME -/
abbrev P.modCmdResume : Param := 0x100300
/-- MOD_CMD_ZEROISE -/
abbrev P.modCmdZeroise : Param := 0x100400
/-- MOD_CMD_RECOVERY_DONE -/
abbrev P.modCmdRecoveryDone : Param := 0x100500
/-- MOD_DUAL_PENDING -/
abbrev P.modDualPending : Param := 0x100600
/-- PWR_STATE -/
abbrev P.pwrState : Param := 0x101000
/-- PWR_STATE_CMD -/
abbrev P.pwrStateCmd : Param := 0x101100
/-- PWR_DOMAIN_CMD -/
abbrev P.pwrDomainCmd : Param := 0x101200
/-- PWR_TILE_CMD -/
abbrev P.pwrTileCmd : Param := 0x101300
/-- PWR_DOMAIN_STATE -/
abbrev P.pwrDomainState : Param := 0x101400
/-- VEC_AUTOGATE -/
abbrev P.vecAutogate : Param := 0x102000
/-- VEC_IDLE_CYCLES -/
abbrev P.vecIdleCycles : Param := 0x102100
/-- CLK_DEVICE_TIME -/
abbrev P.clkDeviceTime : Param := 0x200000
/-- CLK_BACKUP_STAMP -/
abbrev P.clkBackupStamp : Param := 0x200100
/-- RST_CMD_WARM -/
abbrev P.rstCmdWarm : Param := 0x201000
/-- RST_CMD_COLD -/
abbrev P.rstCmdCold : Param := 0x201100
/-- RST_LAST_CAUSE -/
abbrev P.rstLastCause : Param := 0x201200
/-- QP_SLICE -/
abbrev P.qpSlice : Param := 0x300001
/-- QP_SQ_BASE -/
abbrev P.qpSqBase : Param := 0x300002
/-- QP_CQ_BASE -/
abbrev P.qpCqBase : Param := 0x300003
/-- QP_CREDIT_ADDR -/
abbrev P.qpCreditAddr : Param := 0x300004
/-- QP_SQ_ENTRIES -/
abbrev P.qpSqEntries : Param := 0x300005
/-- QP_CQ_BYTES -/
abbrev P.qpCqBytes : Param := 0x300006
/-- QP_INLINE_LIMIT -/
abbrev P.qpInlineLimit : Param := 0x300007
/-- QP_CREDIT_STEP -/
abbrev P.qpCreditStep : Param := 0x300008
/-- QP_MSIX_VECTOR -/
abbrev P.qpMsixVector : Param := 0x300009
/-- QP_IRQ_LEVEL -/
abbrev P.qpIrqLevel : Param := 0x30000A
/-- QP_DB_PAGE -/
abbrev P.qpDbPage : Param := 0x30000B
/-- QP_DB_SLOT -/
abbrev P.qpDbSlot : Param := 0x30000C
/-- QP_STATE -/
abbrev P.qpState : Param := 0x30000D
/-- QP_ENABLE -/
abbrev P.qpEnable : Param := 0x300010
/-- QP_DISABLE -/
abbrev P.qpDisable : Param := 0x300011
/-- QP_DESTROY -/
abbrev P.qpDestroy : Param := 0x300012
/-- QP_CREDIT_VIOL_COUNT -/
abbrev P.qpCreditViolCount : Param := 0x300020
/-- QP_DB_STALE_COUNT -/
abbrev P.qpDbStaleCount : Param := 0x300021
/-- QP_STRAY_WRITE_COUNT -/
abbrev P.qpStrayWriteCount : Param := 0x300022
/-- QP_RELEASE_INVALID_COUNT -/
abbrev P.qpReleaseInvalidCount : Param := 0x300023
/-- QP_CQ_SPACE_WAIT_COUNT -/
abbrev P.qpCqSpaceWaitCount : Param := 0x300024
/-- QP_LOST_RECORD_COUNT -/
abbrev P.qpLostRecordCount : Param := 0x300025
/-- SLC_PASID -/
abbrev P.slcPasid : Param := 0x400001
/-- SLC_QP_COUNT -/
abbrev P.slcQpCount : Param := 0x400002
/-- SLC_DB_PAGES -/
abbrev P.slcDbPages : Param := 0x400003
/-- SLC_MSIX_COUNT -/
abbrev P.slcMsixCount : Param := 0x400004
/-- SLC_MSIX_BASE -/
abbrev P.slcMsixBase : Param := 0x400005
/-- SLC_INFLIGHT -/
abbrev P.slcInflight : Param := 0x400006
/-- SLC_HEARTH_SET -/
abbrev P.slcHearthSet : Param := 0x400007
/-- SLC_RESERVE -/
abbrev P.slcReserve : Param := 0x400008
/-- SLC_CACHE_GRANULES -/
abbrev P.slcCacheGranules : Param := 0x400009
/-- SLC_KEY_QUOTA -/
abbrev P.slcKeyQuota : Param := 0x40000A
/-- SLC_DRAIN_LIMIT_US -/
abbrev P.slcDrainLimitUs : Param := 0x40000B
/-- SLC_MASK_DEFAULT -/
abbrev P.slcMaskDefault : Param := 0x400101
/-- SLC_STRIKE_SIGN -/
abbrev P.slcStrikeSign : Param := 0x400102
/-- SLC_STRIKE_KEM -/
abbrev P.slcStrikeKem : Param := 0x400103
/-- SLC_STRIKE_HAMMER -/
abbrev P.slcStrikeHammer : Param := 0x400104
/-- SLC_DET_SIGN_ALLOW -/
abbrev P.slcDetSignAllow : Param := 0x400105
/-- SLC_PIN_FMT1_ALLOW -/
abbrev P.slcPinFmt1Allow : Param := 0x400106
/-- SLC_PIN_DOWNGRADE_ALLOW -/
abbrev P.slcPinDowngradeAllow : Param := 0x400107
/-- SLC_STATEFUL_BLOCK -/
abbrev P.slcStatefulBlock : Param := 0x400108
/-- SLC_STATEFUL_LOW -/
abbrev P.slcStatefulLow : Param := 0x400109
/-- SLC_CHILD_EXPORT -/
abbrev P.slcChildExport : Param := 0x40010A
/-- SLC_EVENT_VECTOR -/
abbrev P.slcEventVector : Param := 0x40010B
/-- SLC_STATE -/
abbrev P.slcState : Param := 0x400201
/-- SLC_GENERATION -/
abbrev P.slcGeneration : Param := 0x400202
/-- SLC_SLAG_COUNT -/
abbrev P.slcSlagCount : Param := 0x400203
/-- SLC_CANCEL_COUNT -/
abbrev P.slcCancelCount : Param := 0x400204
/-- SLC_EVENTS -/
abbrev P.slcEvents : Param := 0x400205
/-- SLC_MIGRATION_STATE -/
abbrev P.slcMigrationState : Param := 0x400206
/-- SLC_CMD_CREATE -/
abbrev P.slcCmdCreate : Param := 0x400301
/-- SLC_CMD_RESET -/
abbrev P.slcCmdReset : Param := 0x400302
/-- SLC_CMD_REMOVE -/
abbrev P.slcCmdRemove : Param := 0x400303
/-- SLC_CMD_FREEZE -/
abbrev P.slcCmdFreeze : Param := 0x400304
/-- SLC_CMD_THAW -/
abbrev P.slcCmdThaw : Param := 0x400305
/-- SLC_CMD_SAVE -/
abbrev P.slcCmdSave : Param := 0x400306
/-- SLC_CMD_RESTORE -/
abbrev P.slcCmdRestore : Param := 0x400307
/-- SLC_CMD_IMAGE_FETCH -/
abbrev P.slcCmdImageFetch : Param := 0x400308
/-- SLC_CMD_IMAGE_DISCARD -/
abbrev P.slcCmdImageDiscard : Param := 0x400309
/-- DSP_PREFETCH_DEPTH -/
abbrev P.dspPrefetchDepth : Param := 0x500000
/-- DSP_SVC_BUDGET_US -/
abbrev P.dspSvcBudgetUs : Param := 0x500100
/-- DSP_EPOCH -/
abbrev P.dspEpoch : Param := 0x500200
/-- DSP_LATE_COUNT -/
abbrev P.dspLateCount : Param := 0x500300
/-- DSP_RETRY_COUNT_01 -/
abbrev P.dspRetryCount01 : Param := 0x500401
/-- DSP_RETRY_COUNT_02 -/
abbrev P.dspRetryCount02 : Param := 0x500402
/-- DSP_RETRY_COUNT_03 -/
abbrev P.dspRetryCount03 : Param := 0x500403
/-- DSP_RETRY_COUNT_04 -/
abbrev P.dspRetryCount04 : Param := 0x500404
/-- DSP_SHADOW_MISMATCH_COUNT -/
abbrev P.dspShadowMismatchCount : Param := 0x500500
/-- TIL_CE_COUNT -/
abbrev P.tilCeCount : Param := 0x600001
/-- TIL_UE_COUNT -/
abbrev P.tilUeCount : Param := 0x600002
/-- TIL_SPARK_STALL_COUNT -/
abbrev P.tilSparkStallCount : Param := 0x600003
/-- TIL_LV_WAKE_COUNT -/
abbrev P.tilLvWakeCount : Param := 0x600004
/-- TIL_RETURN_FAIL_COUNT -/
abbrev P.tilReturnFailCount : Param := 0x600005
/-- TIL_LAST_FAULT -/
abbrev P.tilLastFault : Param := 0x600006
/-- TIL_POOL_STATE -/
abbrev P.tilPoolState : Param := 0x600007
/-- TIL_CMD_OUT -/
abbrev P.tilCmdOut : Param := 0x600010
/-- TIL_CMD_RETURN -/
abbrev P.tilCmdReturn : Param := 0x600011
/-- TIL_CMD_RESET -/
abbrev P.tilCmdReset : Param := 0x600012
/-- MPG_LIBRARY -/
abbrev P.mpgLibrary : Param := 0x610000
/-- MPG_CONTAINER -/
abbrev P.mpgContainer : Param := 0x610100
/-- MPG_INSTALL -/
abbrev P.mpgInstall : Param := 0x610200
/-- MPG_REMOVE -/
abbrev P.mpgRemove : Param := 0x610300
/-- MPG_MIN_SVN -/
abbrev P.mpgMinSvn : Param := 0x610400
/-- MPG_SLOT_CONFIG -/
abbrev P.mpgSlotConfig : Param := 0x610500
/-- MPG_SLOT_TARGET -/
abbrev P.mpgSlotTarget : Param := 0x610600
/-- MPG_CMD_ROLLOUT -/
abbrev P.mpgCmdRollout : Param := 0x610700
/-- MPG_ROLLOUT_STATE -/
abbrev P.mpgRolloutState : Param := 0x610800
/-- HAM_CMD_OUT -/
abbrev P.hamCmdOut : Param := 0x700001
/-- HAM_CMD_RETURN -/
abbrev P.hamCmdReturn : Param := 0x700002
/-- HAM_CMD_RESET -/
abbrev P.hamCmdReset : Param := 0x700003
/-- HAM_POOL_STATE -/
abbrev P.hamPoolState : Param := 0x700004
/-- HAM_RETURN_FAIL_COUNT -/
abbrev P.hamReturnFailCount : Param := 0x700005
/-- FUL_CMD_OUT -/
abbrev P.fulCmdOut : Param := 0x700101
/-- FUL_CMD_RETURN -/
abbrev P.fulCmdReturn : Param := 0x700102
/-- FUL_CMD_RESET -/
abbrev P.fulCmdReset : Param := 0x700103
/-- FUL_POOL_STATE -/
abbrev P.fulPoolState : Param := 0x700104
/-- VLT_TEMPER_MS -/
abbrev P.vltTemperMs : Param := 0x800000
/-- VLT_VOLATILE_GRANULES -/
abbrev P.vltVolatileGranules : Param := 0x800100
/-- VLT_ORPHAN_COUNT -/
abbrev P.vltOrphanCount : Param := 0x800200
/-- VLT_TEMPER_OVERRUN_COUNT -/
abbrev P.vltTemperOverrunCount : Param := 0x800300
/-- VLT_CMD_INIT -/
abbrev P.vltCmdInit : Param := 0x801000
/-- VLT_CMD_RECOVER -/
abbrev P.vltCmdRecover : Param := 0x801100
/-- VLT_GROUP_MEMBERS -/
abbrev P.vltGroupMembers : Param := 0x802000
/-- VLT_SLICE_HOME -/
abbrev P.vltSliceHome : Param := 0x802100
/-- VLT_CMD_SET_HOME -/
abbrev P.vltCmdSetHome : Param := 0x802200
/-- VLT_REPL_LAG -/
abbrev P.vltReplLag : Param := 0x802300
/-- BLW_STATE -/
abbrev P.blwState : Param := 0x900000
/-- BLW_FAIL_CAUSE -/
abbrev P.blwFailCause : Param := 0x900100
/-- BLW_HT_FAIL_COUNT -/
abbrev P.blwHtFailCount : Param := 0x900200
/-- BLW_SHORTAGE_MODE -/
abbrev P.blwShortageMode : Param := 0x900300
/-- BLW_STRETCH_COUNT -/
abbrev P.blwStretchCount : Param := 0x900400
/-- BLW_SHORT_WAIT_COUNT -/
abbrev P.blwShortWaitCount : Param := 0x900500
/-- BLW_CMD_SOURCE_RETEST -/
abbrev P.blwCmdSourceRetest : Param := 0x901000
/-- BLW_RAW_CAPTURE -/
abbrev P.blwRawCapture : Param := 0x901100
/-- BLW_RAW_DATA -/
abbrev P.blwRawData : Param := 0x901200
/-- QNC_FLOOR -/
abbrev P.qncFloor : Param := 0xA00000
/-- QNC_CEILING -/
abbrev P.qncCeiling : Param := 0xA00100
/-- QNC_DUTY_EXP -/
abbrev P.qncDutyExp : Param := 0xA00200
/-- QNC_T_ACTION -/
abbrev P.qncTAction : Param := 0xA00300
/-- QNC_T_TARGET -/
abbrev P.qncTTarget : Param := 0xA00400
/-- QNC_IDLE_PROBE -/
abbrev P.qncIdleProbe : Param := 0xA00500
/-- QNC_MODE -/
abbrev P.qncMode : Param := 0xA00600
/-- QNC_LEVEL -/
abbrev P.qncLevel : Param := 0xA01001
/-- QNC_T_LAST -/
abbrev P.qncTLast : Param := 0xA01002
/-- QNC_T_WHERE -/
abbrev P.qncTWhere : Param := 0xA01003
/-- QNC_INVALID_WINDOW_COUNT -/
abbrev P.qncInvalidWindowCount : Param := 0xA01004
/-- QNC_RAISE_COUNT -/
abbrev P.qncRaiseCount : Param := 0xA01005
/-- QNC_LOWER_COUNT -/
abbrev P.qncLowerCount : Param := 0xA01006
/-- QNC_LEAKY_COUNT -/
abbrev P.qncLeakyCount : Param := 0xA01007
/-- QNC_LEAKY -/
abbrev P.qncLeaky : Param := 0xA01008
/-- QNC_BASELINE -/
abbrev P.qncBaseline : Param := 0xA01009
/-- MON_RECORD -/
abbrev P.monRecord : Param := 0xA10000
/-- MON_BASE -/
abbrev P.monBase : Param := 0xA10101
/-- MON_WIDTH_EXP -/
abbrev P.monWidthExp : Param := 0xA10102
/-- MON_BINMODE -/
abbrev P.monBinmode : Param := 0xA10103
/-- MON_CAPTURE -/
abbrev P.monCapture : Param := 0xA10104
/-- MON_WINDOW -/
abbrev P.monWindow : Param := 0xA10105
/-- MON_LIMIT -/
abbrev P.monLimit : Param := 0xA10106
/-- MON_CH_SOURCE -/
abbrev P.monChSource : Param := 0xA10201
/-- MON_CH_FILTER -/
abbrev P.monChFilter : Param := 0xA10202
/-- MON_CH_OWNER -/
abbrev P.monChOwner : Param := 0xA10203
/-- MON_CMD_ARM -/
abbrev P.monCmdArm : Param := 0xA11000
/-- MON_CMD_SNAP -/
abbrev P.monCmdSnap : Param := 0xA11100
/-- MON_CMD_SNAP_RANGE -/
abbrev P.monCmdSnapRange : Param := 0xA11200
/-- TMP_CLASS -/
abbrev P.tmpClass : Param := 0xB00000
/-- TMP_EXCURSION_COUNT -/
abbrev P.tmpExcursionCount : Param := 0xB00100
/-- TMP_EXCURSION_HISTO -/
abbrev P.tmpExcursionHisto : Param := 0xB00200
/-- TMP_GLITCH_K -/
abbrev P.tmpGlitchK : Param := 0xB00300
/-- TMP_MESH_ENABLE -/
abbrev P.tmpMeshEnable : Param := 0xB00400
/-- TMP_SWITCH_ENABLE -/
abbrev P.tmpSwitchEnable : Param := 0xB00500
/-- TMP_SWITCH_POLARITY -/
abbrev P.tmpSwitchPolarity : Param := 0xB00600
/-- TMP_BIST_PERIOD_S -/
abbrev P.tmpBistPeriodS : Param := 0xB00700
/-- TMP_CMD_BIST -/
abbrev P.tmpCmdBist : Param := 0xB00800
/-- TMP_BLOG -/
abbrev P.tmpBlog : Param := 0xB00900
/-- TMP_BLOG_LOST -/
abbrev P.tmpBlogLost : Param := 0xB00A00
/-- TMP_A4_SCRAP -/
abbrev P.tmpA4Scrap : Param := 0xB00B00
/-- TMP_ALARM_LOG -/
abbrev P.tmpAlarmLog : Param := 0xB00C00
/-- TMP_PIN_CLASS -/
abbrev P.tmpPinClass : Param := 0xB00D00
/-- TMP_CMD_ACK -/
abbrev P.tmpCmdAck : Param := 0xB00E00
/-- TMP_CMD_TAMPER_CLEAR -/
abbrev P.tmpCmdTamperClear : Param := 0xB00F00
/-- LCY_STATE -/
abbrev P.lcyState : Param := 0xC00000
/-- LCY_WORD0 -/
abbrev P.lcyWord0 : Param := 0xC00100
/-- LCY_WORD1 -/
abbrev P.lcyWord1 : Param := 0xC00101
/-- LCY_WORD2 -/
abbrev P.lcyWord2 : Param := 0xC00102
/-- LCY_WORD3 -/
abbrev P.lcyWord3 : Param := 0xC00103
/-- LCY_WORD4 -/
abbrev P.lcyWord4 : Param := 0xC00104
/-- LCY_WORD5 -/
abbrev P.lcyWord5 : Param := 0xC00105
/-- LCY_WORD6 -/
abbrev P.lcyWord6 : Param := 0xC00106
/-- LCY_WORD7 -/
abbrev P.lcyWord7 : Param := 0xC00107
/-- LCY_WORD8 -/
abbrev P.lcyWord8 : Param := 0xC00108
/-- LCY_WORD9 -/
abbrev P.lcyWord9 : Param := 0xC00109
/-- LCY_TOKENS_LEFT -/
abbrev P.lcyTokensLeft : Param := 0xC00200
/-- LCY_CMD_PREPARE -/
abbrev P.lcyCmdPrepare : Param := 0xC00300
/-- LCY_CMD_BURN -/
abbrev P.lcyCmdBurn : Param := 0xC00400
/-- LCY_PREPARED -/
abbrev P.lcyPrepared : Param := 0xC00500
/-- LCY_BURN_RESULT -/
abbrev P.lcyBurnResult : Param := 0xC00600
/-- LCY_CMD_DBG_KEY_BURN -/
abbrev P.lcyCmdDbgKeyBurn : Param := 0xC00700
/-- LCY_CMD_DBG_KEY_REVOKE -/
abbrev P.lcyCmdDbgKeyRevoke : Param := 0xC00800
/-- LCY_DBG_KEYS -/
abbrev P.lcyDbgKeys : Param := 0xC00900
/-- DBG_CMD_NONCE -/
abbrev P.dbgCmdNonce : Param := 0xC01000
/-- DBG_NONCE -/
abbrev P.dbgNonce : Param := 0xC01100
/-- DBG_CERT -/
abbrev P.dbgCert : Param := 0xC01200
/-- DBG_CMD_APPLY -/
abbrev P.dbgCmdApply : Param := 0xC01300
/-- DBG_RIGHTS -/
abbrev P.dbgRights : Param := 0xC01400
/-- DBG_CERT_DIGEST -/
abbrev P.dbgCertDigest : Param := 0xC01500
/-- DBG_CMD_END -/
abbrev P.dbgCmdEnd : Param := 0xC01600
/-- ATT_CMD_QUOTE -/
abbrev P.attCmdQuote : Param := 0xD00000
/-- ATT_QUOTE -/
abbrev P.attQuote : Param := 0xD00100
/-- ATT_LOG_READ -/
abbrev P.attLogRead : Param := 0xD00200
/-- ATT_CERTS -/
abbrev P.attCerts : Param := 0xD00300
/-- ATT_SLOTS -/
abbrev P.attSlots : Param := 0xD00400
/-- FW_ACTIVE_BANK -/
abbrev P.fwActiveBank : Param := 0xD01000
/-- FW_PENDING_BANK -/
abbrev P.fwPendingBank : Param := 0xD01100
/-- FW_MIN_SVN -/
abbrev P.fwMinSvn : Param := 0xD01200
/-- FW_BANK_STATE -/
abbrev P.fwBankState : Param := 0xD01300
/-- FW_CMD_STAGE_BEGIN -/
abbrev P.fwCmdStageBegin : Param := 0xD01400
/-- FW_STAGE_DATA -/
abbrev P.fwStageData : Param := 0xD01500
/-- FW_CMD_STAGE_END -/
abbrev P.fwCmdStageEnd : Param := 0xD01600
/-- FW_CMD_ACTIVATE -/
abbrev P.fwCmdActivate : Param := 0xD01700
/-- FW_CMD_CONFIRM -/
abbrev P.fwCmdConfirm : Param := 0xD01800
/-- FW_CMD_CANCEL -/
abbrev P.fwCmdCancel : Param := 0xD01900
/-- FW_CMD_COMMIT_SVN -/
abbrev P.fwCmdCommitSvn : Param := 0xD01A00
/-- FW_RECOVER -/
abbrev P.fwRecover : Param := 0xD01B00
/-- NET_IPV6_MODE -/
abbrev P.netIpv6Mode : Param := 0xE00000
/-- NET_IPV6_ADDR -/
abbrev P.netIpv6Addr : Param := 0xE00100
/-- NET_IPV6_GW -/
abbrev P.netIpv6Gw : Param := 0xE00200
/-- NET_IPV4_ENABLE -/
abbrev P.netIpv4Enable : Param := 0xE00300
/-- NET_IPV4_ADDR -/
abbrev P.netIpv4Addr : Param := 0xE00400
/-- NET_VLAN -/
abbrev P.netVlan : Param := 0xE00500
/-- NET_SCEGA_PORT -/
abbrev P.netScegaPort : Param := 0xE00600
/-- NET_CMD_APPLY -/
abbrev P.netCmdApply : Param := 0xE00700
/-- SCG_ANCHORS -/
abbrev P.scgAnchors : Param := 0xE01000
/-- SCG_IDLE_S -/
abbrev P.scgIdleS : Param := 0xE01100
/-- SCG_SESSIONS -/
abbrev P.scgSessions : Param := 0xE01200
/-- SCG_CMD_CLOSE -/
abbrev P.scgCmdClose : Param := 0xE01300
/-- NET_PRP_STATUS -/
abbrev P.netPrpStatus : Param := 0xE02000
/-- NET_REPLAY_COUNT -/
abbrev P.netReplayCount : Param := 0xE02100
/-- NET_DISCARD_COUNT -/
abbrev P.netDiscardCount : Param := 0xE02200
/-- NET_HS_FAIL_COUNT -/
abbrev P.netHsFailCount : Param := 0xE02300
/-- NET_PTP_ENABLE -/
abbrev P.netPtpEnable : Param := 0xE03000
/-- NET_PTP_DOMAIN -/
abbrev P.netPtpDomain : Param := 0xE03100
/-- NET_PTP_STATE -/
abbrev P.netPtpState : Param := 0xE03200
/-- NET_PTP_MAP -/
abbrev P.netPtpMap : Param := 0xE03300
/-- NET_PTP_ERROR_NS -/
abbrev P.netPtpErrorNs : Param := 0xE03400

/-- Area 0 (R521). -/
def catalogueArea0 : List CatRow := [
  ⟨0x000000, .octets 16, 0, .read, .read, .read, .read, 0, 0, 0, .o, .aon⟩,
  ⟨0x000100, .octets 32, 0, .read, .read, .read, .read, 0, 0, 0, .o, .aon⟩,
  ⟨0x000200, .octets 6, 0, .read, .read, .read, .read, 0, 0, 0, .o, .aon⟩,
  ⟨0x000300, .uint 4, 0, .read, .read, .read, .read, 0, 0, 4294967295, .v, .aon⟩,
  ⟨0x000400, .uint 4, 0, .read, .read, .read, .read, 0, 0, 4294967295, .v, .aon⟩]

/-- Area 1 (R522). -/
def catalogueArea1 : List CatRow := [
  ⟨0x100000, .enum, 0, .read, .read, .read, .read, 2, 0, 255, .v, .aon⟩,
  ⟨0x100100, .octets 16, 256, .read, .read, .read, .read, 0, 0, 0, .p, .aon⟩,
  ⟨0x100200, .cmd, 0, .none, .command, .command, .command, 0, 0, 0, .none, .aon⟩,
  ⟨0x100300, .cmd, 0, .none, .command, .command, .command, 0, 0, 0, .none, .aon⟩,
  ⟨0x100400, .cmd, 0, .none, .none, .dual, .command, 0, 0, 0, .none, .aon⟩,
  ⟨0x100500, .cmd, 0, .none, .none, .dual, .command, 0, 0, 0, .none, .aon⟩,
  ⟨0x100600, .octets 64, 16, .read, .read, .read, .read, 0, 0, 0, .v, .smith⟩,
  ⟨0x101000, .enum, 0, .read, .read, .read, .read, 0, 0, 255, .v, .aon⟩,
  ⟨0x101100, .enum, 0, .none, .command, .command, .command, 0, 0, 2, .none, .aon⟩,
  ⟨0x101200, .octets 5, 0, .none, .command, .command, .command, 0, 0, 0, .none, .aon⟩,
  ⟨0x101300, .octets 17, 0, .none, .command, .command, .command, 0, 0, 0, .none, .aon⟩,
  ⟨0x101400, .enum, 20, .read, .read, .read, .read, 0, 0, 255, .w, .aon⟩,
  ⟨0x102000, .enum, 0, .read, .readWrite, .readWrite, .readWrite, 0, 0, 2, .w, .aon⟩,
  ⟨0x102100, .uint 4, 0, .read, .readWrite, .readWrite, .readWrite, 16384, 64, 16777216, .w, .aon⟩]

/-- Area 2 (R523). -/
def catalogueArea2 : List CatRow := [
  ⟨0x200000, .uint 8, 0, .read, .read, .read, .read, 0, 0, 18446744073709551615, .v, .aon⟩,
  ⟨0x200100, .uint 6, 0, .read, .read, .read, .read, 0, 0, 281474976710655, .b, .backup⟩,
  ⟨0x201000, .cmd, 0, .none, .command, .command, .command, 0, 0, 0, .none, .aon⟩,
  ⟨0x201100, .cmd, 0, .none, .none, .command, .command, 0, 0, 0, .none, .aon⟩,
  ⟨0x201200, .octets 4, 0, .read, .read, .read, .read, 0, 0, 0, .v, .aon⟩]

/-- Area 3 (R524). -/
def catalogueArea3 : List CatRow := [
  ⟨0x300001, .uint 2, 65537, .read, .readWrite, .readWrite, .readWrite, 65535, 0, 65535, .v, .smith⟩,
  ⟨0x300002, .uint 8, 65537, .read, .readWrite, .readWrite, .readWrite, 0, 0, 18446744073709551615, .v, .smith⟩,
  ⟨0x300003, .uint 8, 65537, .read, .readWrite, .readWrite, .readWrite, 0, 0, 18446744073709551615, .v, .smith⟩,
  ⟨0x300004, .uint 8, 65537, .read, .readWrite, .readWrite, .readWrite, 0, 0, 18446744073709551615, .v, .smith⟩,
  ⟨0x300005, .uint 4, 65537, .read, .readWrite, .readWrite, .readWrite, 64, 0, 4294967295, .v, .smith⟩,
  ⟨0x300006, .uint 4, 65537, .read, .readWrite, .readWrite, .readWrite, 65536, 0, 4294967295, .v, .smith⟩,
  ⟨0x300007, .uint 2, 65537, .read, .readWrite, .readWrite, .readWrite, 256, 0, 65535, .v, .smith⟩,
  ⟨0x300008, .uint 4, 65537, .read, .readWrite, .readWrite, .readWrite, 16, 0, 4294967295, .v, .smith⟩,
  ⟨0x300009, .uint 2, 65537, .read, .readWrite, .readWrite, .readWrite, 65535, 0, 65535, .v, .smith⟩,
  ⟨0x30000A, .uint 4, 65537, .read, .readWrite, .readWrite, .readWrite, 1, 0, 4294967295, .v, .smith⟩,
  ⟨0x30000B, .uint 2, 65537, .read, .read, .read, .read, 0, 0, 65535, .v, .smith⟩,
  ⟨0x30000C, .uint 2, 65537, .read, .read, .read, .read, 0, 0, 65535, .v, .smith⟩,
  ⟨0x30000D, .enum, 65537, .read, .read, .read, .read, 0, 0, 255, .v, .smith⟩,
  ⟨0x300010, .cmd, 65537, .none, .command, .command, .command, 0, 0, 0, .none, .smith⟩,
  ⟨0x300011, .cmd, 65537, .none, .command, .command, .command, 0, 0, 0, .none, .smith⟩,
  ⟨0x300012, .cmd, 65537, .none, .command, .command, .command, 0, 0, 0, .none, .smith⟩,
  ⟨0x300020, .uint 8, 65537, .read, .read, .read, .read, 0, 0, 18446744073709551615, .v, .smith⟩,
  ⟨0x300021, .uint 8, 65537, .read, .read, .read, .read, 0, 0, 18446744073709551615, .v, .smith⟩,
  ⟨0x300022, .uint 8, 65537, .read, .read, .read, .read, 0, 0, 18446744073709551615, .v, .smith⟩,
  ⟨0x300023, .uint 8, 65537, .read, .read, .read, .read, 0, 0, 18446744073709551615, .v, .smith⟩,
  ⟨0x300024, .uint 8, 65537, .read, .read, .read, .read, 0, 0, 18446744073709551615, .v, .smith⟩,
  ⟨0x300025, .uint 8, 65537, .read, .read, .read, .read, 0, 0, 18446744073709551615, .v, .smith⟩]

/-- Area 4 (R525). -/
def catalogueArea4 : List CatRow := [
  ⟨0x400001, .uint 4, 4096, .read, .read, .readWrite, .readWrite, 0, 1, 1048575, .p, .aon⟩,
  ⟨0x400002, .uint 4, 4096, .read, .read, .readWrite, .readWrite, 1, 1, 65536, .p, .aon⟩,
  ⟨0x400003, .uint 2, 4096, .read, .read, .readWrite, .readWrite, 0, 0, 65535, .p, .aon⟩,
  ⟨0x400004, .uint 2, 4096, .read, .read, .readWrite, .readWrite, 0, 0, 8192, .p, .aon⟩,
  ⟨0x400005, .uint 2, 4096, .read, .read, .readWrite, .readWrite, 0, 0, 65535, .p, .aon⟩,
  ⟨0x400006, .uint 2, 4096, .read, .read, .readWrite, .readWrite, 256, 1, 32768, .p, .aon⟩,
  ⟨0x400007, .uint 4, 4096, .read, .read, .readWrite, .readWrite, 65535, 1, 65535, .p, .aon⟩,
  ⟨0x400008, .bool, 4096, .read, .read, .readWrite, .readWrite, 0, 0, 1, .p, .aon⟩,
  ⟨0x400009, .uint 4, 4096, .read, .read, .readWrite, .readWrite, 0, 0, 131072, .p, .aon⟩,
  ⟨0x40000A, .uint 4, 4096, .read, .read, .readWrite, .readWrite, 65536, 0, 4194304, .p, .aon⟩,
  ⟨0x40000B, .uint 4, 4096, .read, .read, .readWrite, .readWrite, 2000, 100, 100000, .p, .aon⟩,
  ⟨0x400101, .uint 1, 4096, .read, .read, .dual, .readWrite, 2, 1, 3, .p, .aon⟩,
  ⟨0x400102, .enum, 4096, .read, .read, .dual, .readWrite, 0, 0, 1, .p, .aon⟩,
  ⟨0x400103, .enum, 4096, .read, .read, .dual, .readWrite, 0, 0, 1, .p, .aon⟩,
  ⟨0x400104, .enum, 4096, .read, .read, .dual, .readWrite, 1, 0, 1, .p, .aon⟩,
  ⟨0x400105, .bool, 4096, .read, .read, .dual, .readWrite, 0, 0, 1, .p, .aon⟩,
  ⟨0x400106, .bool, 4096, .read, .read, .dual, .readWrite, 0, 0, 1, .p, .aon⟩,
  ⟨0x400107, .bool, 4096, .read, .read, .dual, .readWrite, 0, 0, 1, .p, .aon⟩,
  ⟨0x400108, .uint 4, 4096, .read, .read, .readWrite, .readWrite, 4096, 256, 65536, .p, .aon⟩,
  ⟨0x400109, .uint 8, 4096, .read, .read, .readWrite, .readWrite, 65536, 0, 18446744073709551615, .p, .aon⟩,
  ⟨0x40010A, .bool, 4096, .read, .read, .dual, .readWrite, 0, 0, 1, .p, .aon⟩,
  ⟨0x40010B, .uint 2, 4096, .read, .readWrite, .readWrite, .readWrite, 65535, 0, 65535, .p, .aon⟩,
  ⟨0x400201, .enum, 4096, .read, .read, .read, .read, 0, 0, 255, .v, .aon⟩,
  ⟨0x400202, .uint 2, 4096, .read, .read, .read, .read, 0, 0, 65535, .p, .aon⟩,
  ⟨0x400203, .uint 8, 4096, .read, .read, .read, .read, 0, 0, 18446744073709551615, .v, .aon⟩,
  ⟨0x400204, .uint 8, 4096, .read, .read, .read, .read, 0, 0, 18446744073709551615, .v, .aon⟩,
  ⟨0x400205, .octets 8192, 4096, .read, .read, .read, .read, 0, 0, 0, .v, .aon⟩,
  ⟨0x400206, .enum, 4096, .read, .read, .read, .read, 0, 0, 255, .v, .aon⟩,
  ⟨0x400301, .octets 64, 4096, .none, .none, .command, .command, 0, 0, 0, .none, .aon⟩,
  ⟨0x400302, .cmd, 4096, .none, .command, .command, .command, 0, 0, 0, .none, .aon⟩,
  ⟨0x400303, .enum, 4096, .none, .none, .command, .command, 0, 0, 1, .none, .aon⟩,
  ⟨0x400304, .cmd, 4096, .none, .none, .command, .command, 0, 0, 0, .none, .aon⟩,
  ⟨0x400305, .cmd, 4096, .none, .none, .command, .command, 0, 0, 0, .none, .aon⟩,
  ⟨0x400306, .octets 48, 4096, .none, .none, .command, .command, 0, 0, 0, .none, .aon⟩,
  ⟨0x400307, .octets 20, 4096, .none, .none, .command, .command, 0, 0, 0, .none, .aon⟩,
  ⟨0x400308, .octets 16, 4096, .none, .none, .command, .command, 0, 0, 0, .none, .aon⟩,
  ⟨0x400309, .cmd, 4096, .none, .none, .dual, .command, 0, 0, 0, .none, .aon⟩]

/-- Area 5 (R526). -/
def catalogueArea5 : List CatRow := [
  ⟨0x500000, .uint 2, 0, .read, .read, .readWrite, .readWrite, 4096, 64, 16384, .p, .aon⟩,
  ⟨0x500100, .uint 4, 0, .read, .read, .readWrite, .readWrite, 500, 50, 100000, .p, .aon⟩,
  ⟨0x500200, .uint 4, 0, .read, .read, .read, .read, 0, 0, 4294967295, .v, .smith⟩,
  ⟨0x500300, .uint 8, 4096, .read, .read, .read, .read, 0, 0, 18446744073709551615, .v, .smith⟩,
  ⟨0x500401, .uint 8, 0, .read, .read, .read, .read, 0, 0, 18446744073709551615, .v, .smith⟩,
  ⟨0x500402, .uint 8, 0, .read, .read, .read, .read, 0, 0, 18446744073709551615, .v, .smith⟩,
  ⟨0x500403, .uint 8, 0, .read, .read, .read, .read, 0, 0, 18446744073709551615, .v, .smith⟩,
  ⟨0x500404, .uint 8, 0, .read, .read, .read, .read, 0, 0, 18446744073709551615, .v, .smith⟩,
  ⟨0x500500, .uint 8, 160, .read, .read, .read, .read, 0, 0, 18446744073709551615, .v, .smith⟩]

/-- Area 6 (R527). -/
def catalogueArea6 : List CatRow := [
  ⟨0x600001, .uint 8, 128, .read, .read, .read, .read, 0, 0, 18446744073709551615, .v, .tile⟩,
  ⟨0x600002, .uint 8, 128, .read, .read, .read, .read, 0, 0, 18446744073709551615, .v, .tile⟩,
  ⟨0x600003, .uint 8, 128, .read, .read, .read, .read, 0, 0, 18446744073709551615, .v, .tile⟩,
  ⟨0x600004, .uint 8, 128, .read, .read, .read, .read, 0, 0, 18446744073709551615, .v, .tile⟩,
  ⟨0x600005, .uint 8, 128, .read, .read, .read, .read, 0, 0, 18446744073709551615, .v, .smith⟩,
  ⟨0x600006, .octets 12, 128, .read, .read, .read, .read, 0, 0, 0, .v, .tile⟩,
  ⟨0x600007, .enum, 128, .read, .read, .read, .read, 0, 0, 255, .v, .smith⟩,
  ⟨0x600010, .cmd, 128, .none, .command, .command, .command, 0, 0, 0, .none, .smith⟩,
  ⟨0x600011, .cmd, 128, .none, .command, .command, .command, 0, 0, 0, .none, .smith⟩,
  ⟨0x600012, .cmd, 128, .none, .command, .command, .command, 0, 0, 0, .none, .smith⟩,
  ⟨0x610000, .octets 64, 1024, .read, .read, .read, .read, 0, 0, 0, .p, .flash⟩,
  ⟨0x610100, .octets 2097152, 0, .none, .none, .readWrite, .readWrite, 0, 0, 0, .v, .smith⟩,
  ⟨0x610200, .cmd, 0, .none, .none, .dual, .command, 0, 0, 0, .none, .smith⟩,
  ⟨0x610300, .octets 8, 0, .none, .none, .dual, .command, 0, 0, 0, .none, .smith⟩,
  ⟨0x610400, .uint 4, 4294967295, .read, .read, .dual, .readWrite, 0, 0, 4294967295, .p, .aon⟩,
  ⟨0x610500, .octets 128, 128, .read, .read, .read, .read, 0, 0, 0, .p, .aon⟩,
  ⟨0x610600, .octets 128, 128, .read, .read, .readWrite, .readWrite, 0, 0, 0, .p, .aon⟩,
  ⟨0x610700, .octets 16, 0, .none, .none, .command, .command, 0, 0, 0, .none, .smith⟩,
  ⟨0x610800, .octets 20, 0, .read, .read, .read, .read, 0, 0, 0, .v, .smith⟩]

/-- Area 7 (R528). -/
def catalogueArea7 : List CatRow := [
  ⟨0x700001, .cmd, 32, .none, .command, .command, .command, 0, 0, 0, .none, .smith⟩,
  ⟨0x700002, .cmd, 32, .none, .command, .command, .command, 0, 0, 0, .none, .smith⟩,
  ⟨0x700003, .cmd, 32, .none, .command, .command, .command, 0, 0, 0, .none, .smith⟩,
  ⟨0x700004, .enum, 32, .read, .read, .read, .read, 0, 0, 255, .v, .smith⟩,
  ⟨0x700005, .uint 8, 32, .read, .read, .read, .read, 0, 0, 18446744073709551615, .v, .smith⟩,
  ⟨0x700101, .cmd, 16, .none, .command, .command, .command, 0, 0, 0, .none, .smith⟩,
  ⟨0x700102, .cmd, 16, .none, .command, .command, .command, 0, 0, 0, .none, .smith⟩,
  ⟨0x700103, .cmd, 16, .none, .command, .command, .command, 0, 0, 0, .none, .smith⟩,
  ⟨0x700104, .enum, 16, .read, .read, .read, .read, 0, 0, 255, .v, .smith⟩]

/-- Area 8 (R529). -/
def catalogueArea8 : List CatRow := [
  ⟨0x800000, .uint 2, 0, .read, .read, .readWrite, .readWrite, 50, 1, 1000, .p, .aon⟩,
  ⟨0x800100, .uint 4, 0, .read, .read, .readWrite, .readWrite, 65536, 0, 131072, .p, .aon⟩,
  ⟨0x800200, .uint 8, 0, .read, .read, .read, .read, 0, 0, 18446744073709551615, .v, .vault⟩,
  ⟨0x800300, .uint 8, 0, .read, .read, .read, .read, 0, 0, 18446744073709551615, .v, .vault⟩,
  ⟨0x801000, .cmd, 0, .none, .none, .dual, .command, 0, 0, 0, .none, .vault⟩,
  ⟨0x801100, .cmd, 0, .none, .none, .dual, .command, 0, 0, 0, .none, .vault⟩,
  ⟨0x802000, .octets 80, 16, .read, .read, .dual, .readWrite, 0, 0, 0, .p, .aon⟩,
  ⟨0x802100, .octets 32, 4096, .read, .read, .read, .read, 0, 0, 0, .p, .aon⟩,
  ⟨0x802200, .octets 34, 0, .none, .none, .dual, .command, 0, 0, 0, .none, .vault⟩,
  ⟨0x802300, .uint 4, 65536, .read, .read, .read, .read, 0, 0, 4294967295, .v, .vault⟩]

/-- Area 9 (R530). -/
def catalogueArea9 : List CatRow := [
  ⟨0x900000, .enum, 0, .read, .read, .read, .read, 0, 0, 255, .w, .bellows⟩,
  ⟨0x900100, .uint 4, 0, .read, .read, .read, .read, 0, 0, 4294967295, .w, .bellows⟩,
  ⟨0x900200, .uint 8, 8, .read, .read, .read, .read, 0, 0, 18446744073709551615, .w, .bellows⟩,
  ⟨0x900300, .enum, 0, .read, .read, .dual, .readWrite, 0, 0, 2, .p, .aon⟩,
  ⟨0x900400, .uint 8, 0, .read, .read, .read, .read, 0, 0, 18446744073709551615, .w, .bellows⟩,
  ⟨0x900500, .uint 8, 0, .read, .read, .read, .read, 0, 0, 18446744073709551615, .w, .bellows⟩,
  ⟨0x901000, .uint 4, 0, .none, .none, .command, .command, 0, 0, 4294967295, .none, .bellows⟩,
  ⟨0x901100, .octets 5, 0, .none, .none, .none, .command, 0, 0, 0, .none, .bellows⟩,
  ⟨0x901200, .octets 125000, 0, .none, .none, .none, .read, 0, 0, 0, .v, .bellows⟩]

/-- Area A (R531). -/
def catalogueAreaA : List CatRow := [
  ⟨0xA00000, .uint 1, 0, .read, .read, .readWrite, .readWrite, 2, 0, 7, .p, .aon⟩,
  ⟨0xA00100, .uint 1, 0, .read, .read, .readWrite, .readWrite, 7, 0, 7, .p, .aon⟩,
  ⟨0xA00200, .uint 1, 0, .read, .read, .readWrite, .readWrite, 8, 6, 12, .p, .aon⟩,
  ⟨0xA00300, .uint 2, 0, .read, .read, .readWrite, .readWrite, 300, 200, 450, .p, .aon⟩,
  ⟨0xA00400, .uint 2, 0, .read, .read, .readWrite, .readWrite, 450, 300, 999, .p, .aon⟩,
  ⟨0xA00500, .bool, 0, .read, .read, .readWrite, .readWrite, 1, 0, 1, .p, .aon⟩,
  ⟨0xA00600, .enum, 0, .read, .read, .readWrite, .readWrite, 0, 0, 1, .p, .aon⟩,
  ⟨0xA01001, .uint 1, 128, .read, .read, .read, .read, 0, 0, 255, .v, .tile⟩,
  ⟨0xA01002, .uint 2, 128, .read, .read, .read, .read, 0, 0, 65535, .v, .tile⟩,
  ⟨0xA01003, .uint 2, 128, .read, .read, .read, .read, 0, 0, 65535, .v, .tile⟩,
  ⟨0xA01004, .uint 8, 128, .read, .read, .read, .read, 0, 0, 18446744073709551615, .v, .tile⟩,
  ⟨0xA01005, .uint 8, 128, .read, .read, .read, .read, 0, 0, 18446744073709551615, .v, .tile⟩,
  ⟨0xA01006, .uint 8, 128, .read, .read, .read, .read, 0, 0, 18446744073709551615, .v, .tile⟩,
  ⟨0xA01007, .uint 8, 128, .read, .read, .read, .read, 0, 0, 18446744073709551615, .v, .tile⟩,
  ⟨0xA01008, .bool, 128, .read, .read, .read, .read, 0, 0, 1, .v, .tile⟩,
  ⟨0xA01009, .octets 16, 128, .read, .read, .read, .read, 0, 0, 0, .v, .tile⟩,
  ⟨0xA10000, .octets 320, 1373, .read, .read, .read, .read, 0, 0, 0, .v, .aon⟩,
  ⟨0xA10101, .uint 8, 1373, .read, .readWrite, .readWrite, .readWrite, 0, 0, 18446744073709551615, .w, .aon⟩,
  ⟨0xA10102, .uint 1, 1373, .read, .readWrite, .readWrite, .readWrite, 10, 0, 255, .w, .aon⟩,
  ⟨0xA10103, .enum, 1373, .read, .readWrite, .readWrite, .readWrite, 1, 0, 1, .w, .aon⟩,
  ⟨0xA10104, .enum, 1373, .read, .readWrite, .readWrite, .readWrite, 0, 0, 1, .w, .aon⟩,
  ⟨0xA10105, .uint 8, 1373, .read, .readWrite, .readWrite, .readWrite, 0, 0, 18446744073709551615, .w, .aon⟩,
  ⟨0xA10106, .uint 8, 1373, .read, .readWrite, .readWrite, .readWrite, 0, 0, 18446744073709551615, .w, .aon⟩,
  ⟨0xA10201, .enum, 1024, .read, .readWrite, .readWrite, .readWrite, 0, 0, 255, .w, .aon⟩,
  ⟨0xA10202, .uint 8, 1024, .read, .readWrite, .readWrite, .readWrite, 3, 0, 18446744073709551615, .w, .aon⟩,
  ⟨0xA10203, .uint 2, 1024, .read, .read, .readWrite, .readWrite, 65535, 0, 65535, .w, .aon⟩,
  ⟨0xA11000, .cmd, 1373, .none, .command, .command, .command, 0, 0, 0, .none, .aon⟩,
  ⟨0xA11100, .cmd, 1373, .none, .command, .command, .command, 0, 0, 0, .none, .aon⟩,
  ⟨0xA11200, .octets 4, 0, .none, .command, .command, .command, 0, 0, 0, .none, .aon⟩]

/-- Area B (R532). -/
def catalogueAreaB : List CatRow := [
  ⟨0xB00000, .uint 1, 2305, .read, .read, .readWrite, .readWrite, 0, 0, 4, .p, .aon⟩,
  ⟨0xB00100, .uint 8, 7, .read, .read, .read, .read, 0, 0, 18446744073709551615, .v, .aon⟩,
  ⟨0xB00200, .octets 320, 7, .read, .read, .read, .read, 0, 0, 0, .v, .aon⟩,
  ⟨0xB00300, .uint 2, 0, .read, .read, .readWrite, .readWrite, 800, 600, 1200, .p, .aon⟩,
  ⟨0xB00400, .uint 1, 0, .read, .read, .dual, .readWrite, 255, 0, 255, .b, .backup⟩,
  ⟨0xB00500, .uint 1, 0, .read, .read, .dual, .readWrite, 15, 0, 255, .b, .backup⟩,
  ⟨0xB00600, .uint 1, 0, .read, .read, .dual, .readWrite, 0, 0, 255, .b, .backup⟩,
  ⟨0xB00700, .uint 2, 0, .read, .read, .readWrite, .readWrite, 10, 1, 3600, .p, .aon⟩,
  ⟨0xB00800, .cmd, 0, .none, .command, .command, .command, 0, 0, 0, .none, .aon⟩,
  ⟨0xB00900, .octets 16, 32, .read, .read, .read, .read, 0, 0, 0, .b, .backup⟩,
  ⟨0xB00A00, .uint 2, 0, .read, .read, .read, .read, 0, 0, 65535, .b, .backup⟩,
  ⟨0xB00B00, .bool, 0, .read, .read, .dual, .readWrite, 0, 0, 1, .b, .backup⟩,
  ⟨0xB00C00, .octets 32, 1024, .read, .read, .read, .read, 0, 0, 0, .p, .aon⟩,
  ⟨0xB00D00, .uint 1, 0, .read, .read, .readWrite, .readWrite, 2, 0, 4, .p, .aon⟩,
  ⟨0xB00E00, .uint 4, 0, .none, .command, .command, .command, 0, 0, 4294967295, .none, .aon⟩,
  ⟨0xB00F00, .cmd, 0, .none, .none, .dual, .command, 0, 0, 0, .none, .backup⟩]

/-- Area C (R533). -/
def catalogueAreaC : List CatRow := [
  ⟨0xC00000, .enum, 0, .read, .read, .read, .read, 0, 0, 255, .o, .aon⟩,
  ⟨0xC00100, .uint 4, 0, .read, .read, .read, .read, 0, 0, 4294967295, .o, .aon⟩,
  ⟨0xC00101, .uint 4, 0, .read, .read, .read, .read, 0, 0, 4294967295, .o, .aon⟩,
  ⟨0xC00102, .uint 4, 0, .read, .read, .read, .read, 0, 0, 4294967295, .o, .aon⟩,
  ⟨0xC00103, .uint 4, 0, .read, .read, .read, .read, 0, 0, 4294967295, .o, .aon⟩,
  ⟨0xC00104, .uint 4, 0, .read, .read, .read, .read, 0, 0, 4294967295, .o, .aon⟩,
  ⟨0xC00105, .uint 4, 0, .read, .read, .read, .read, 0, 0, 4294967295, .o, .aon⟩,
  ⟨0xC00106, .uint 4, 0, .read, .read, .read, .read, 0, 0, 4294967295, .o, .aon⟩,
  ⟨0xC00107, .uint 4, 0, .read, .read, .read, .read, 0, 0, 4294967295, .o, .aon⟩,
  ⟨0xC00108, .uint 4, 0, .read, .read, .read, .read, 0, 0, 4294967295, .o, .aon⟩,
  ⟨0xC00109, .uint 4, 0, .read, .read, .read, .read, 0, 0, 4294967295, .o, .aon⟩,
  ⟨0xC00200, .uint 1, 0, .read, .read, .read, .read, 8, 0, 255, .o, .aon⟩,
  ⟨0xC00300, .enum, 0, .none, .none, .dual, .command, 0, 0, 255, .none, .aon⟩,
  ⟨0xC00400, .enum, 0, .none, .none, .dual, .command, 0, 0, 255, .none, .aon⟩,
  ⟨0xC00500, .bool, 0, .read, .read, .read, .read, 0, 0, 1, .v, .aon⟩,
  ⟨0xC00600, .octets 20, 0, .read, .read, .read, .read, 0, 0, 0, .v, .aon⟩,
  ⟨0xC00700, .octets 49, 0, .none, .none, .dual, .none, 0, 0, 0, .none, .otp⟩,
  ⟨0xC00800, .uint 1, 0, .none, .none, .dual, .none, 0, 0, 255, .none, .otp⟩,
  ⟨0xC00900, .octets 49, 4, .read, .read, .read, .read, 0, 0, 0, .o, .aon⟩,
  ⟨0xC01000, .cmd, 0, .none, .none, .command, .command, 0, 0, 0, .none, .aon⟩,
  ⟨0xC01100, .octets 16, 0, .read, .read, .read, .read, 0, 0, 0, .v, .aon⟩,
  ⟨0xC01200, .octets 14534, 0, .none, .none, .readWrite, .readWrite, 0, 0, 0, .v, .aon⟩,
  ⟨0xC01300, .cmd, 0, .none, .none, .command, .command, 0, 0, 0, .none, .aon⟩,
  ⟨0xC01400, .uint 4, 0, .read, .read, .read, .read, 0, 0, 4294967295, .w, .aon⟩,
  ⟨0xC01500, .octets 48, 0, .read, .read, .read, .read, 0, 0, 0, .w, .aon⟩,
  ⟨0xC01600, .cmd, 0, .none, .none, .command, .command, 0, 0, 0, .none, .aon⟩]

/-- Area D (R534). -/
def catalogueAreaD : List CatRow := [
  ⟨0xD00000, .octets 32, 0, .command, .command, .command, .command, 0, 0, 0, .none, .smith⟩,
  ⟨0xD00100, .octets 3965, 0, .read, .read, .read, .read, 0, 0, 0, .v, .smith⟩,
  ⟨0xD00200, .octets 64, 8192, .read, .read, .read, .read, 0, 0, 0, .v, .smith⟩,
  ⟨0xD00300, .octets 1048576, 0, .read, .read, .read, .read, 0, 0, 0, .o, .flash⟩,
  ⟨0xD00400, .octets 384, 0, .read, .read, .read, .read, 0, 0, 0, .v, .smith⟩,
  ⟨0xD01000, .enum, 0, .read, .read, .read, .read, 0, 0, 255, .p, .aon⟩,
  ⟨0xD01100, .enum, 0, .read, .read, .read, .read, 0, 0, 255, .p, .aon⟩,
  ⟨0xD01200, .uint 1, 0, .read, .read, .read, .read, 0, 0, 255, .o, .aon⟩,
  ⟨0xD01300, .enum, 2, .read, .read, .read, .read, 0, 0, 255, .p, .aon⟩,
  ⟨0xD01400, .uint 4, 0, .none, .none, .dual, .command, 0, 0, 4294967295, .none, .smith⟩,
  ⟨0xD01500, .octets 32505856, 0, .none, .none, .writeOnly, .writeOnly, 0, 0, 0, .none, .smith⟩,
  ⟨0xD01600, .cmd, 0, .none, .none, .command, .command, 0, 0, 0, .none, .smith⟩,
  ⟨0xD01700, .cmd, 0, .none, .none, .dual, .command, 0, 0, 0, .none, .aon⟩,
  ⟨0xD01800, .cmd, 0, .none, .none, .command, .command, 0, 0, 0, .none, .aon⟩,
  ⟨0xD01900, .cmd, 0, .none, .none, .command, .command, 0, 0, 0, .none, .aon⟩,
  ⟨0xD01A00, .cmd, 0, .none, .none, .dual, .command, 0, 0, 0, .none, .otp⟩,
  ⟨0xD01B00, .octets 32505856, 0, .none, .none, .none, .none, 0, 0, 0, .none, .smith⟩]

/-- Area E (R535). -/
def catalogueAreaE : List CatRow := [
  ⟨0xE00000, .enum, 0, .read, .read, .dual, .readWrite, 1, 0, 1, .p, .aon⟩,
  ⟨0xE00100, .octets 17, 0, .read, .read, .dual, .readWrite, 0, 0, 0, .p, .aon⟩,
  ⟨0xE00200, .octets 16, 0, .read, .read, .dual, .readWrite, 0, 0, 0, .p, .aon⟩,
  ⟨0xE00300, .bool, 0, .read, .read, .dual, .readWrite, 0, 0, 1, .p, .aon⟩,
  ⟨0xE00400, .octets 9, 0, .read, .read, .dual, .readWrite, 0, 0, 0, .p, .aon⟩,
  ⟨0xE00500, .uint 2, 0, .read, .read, .dual, .readWrite, 0, 0, 4094, .p, .aon⟩,
  ⟨0xE00600, .uint 2, 0, .read, .read, .dual, .readWrite, 4817, 0, 65535, .p, .aon⟩,
  ⟨0xE00700, .cmd, 0, .none, .none, .dual, .command, 0, 0, 0, .none, .aon⟩,
  ⟨0xE01000, .octets 97, 16, .read, .read, .dual, .readWrite, 0, 0, 0, .p, .aon⟩,
  ⟨0xE01100, .uint 2, 0, .read, .read, .readWrite, .readWrite, 300, 10, 3600, .p, .aon⟩,
  ⟨0xE01200, .octets 48, 47, .read, .read, .read, .read, 0, 0, 0, .v, .smith⟩,
  ⟨0xE01300, .uint 4, 0, .none, .none, .command, .command, 0, 0, 4294967295, .none, .smith⟩,
  ⟨0xE02000, .octets 32, 2, .read, .read, .read, .read, 0, 0, 0, .v, .aon⟩,
  ⟨0xE02100, .uint 8, 0, .read, .read, .read, .read, 0, 0, 18446744073709551615, .v, .aon⟩,
  ⟨0xE02200, .uint 8, 0, .read, .read, .read, .read, 0, 0, 18446744073709551615, .v, .aon⟩,
  ⟨0xE02300, .uint 8, 0, .read, .read, .read, .read, 0, 0, 18446744073709551615, .v, .aon⟩,
  ⟨0xE03000, .bool, 0, .read, .read, .readWrite, .readWrite, 0, 0, 1, .p, .aon⟩,
  ⟨0xE03100, .uint 1, 0, .read, .read, .readWrite, .readWrite, 0, 0, 255, .p, .aon⟩,
  ⟨0xE03200, .enum, 0, .read, .read, .read, .read, 0, 0, 255, .v, .aon⟩,
  ⟨0xE03300, .octets 32, 0, .read, .read, .read, .read, 0, 0, 0, .v, .aon⟩,
  ⟨0xE03400, .uint 4, 0, .read, .read, .read, .read, 4294967295, 0, 4294967295, .v, .aon⟩]

/-- The rows of one area of the catalogue. -/
def catalogueArea (a : Nat) : List CatRow :=
  match a with
  | 0 => catalogueArea0
  | 1 => catalogueArea1
  | 2 => catalogueArea2
  | 3 => catalogueArea3
  | 4 => catalogueArea4
  | 5 => catalogueArea5
  | 6 => catalogueArea6
  | 7 => catalogueArea7
  | 8 => catalogueArea8
  | 9 => catalogueArea9
  | 10 => catalogueAreaA
  | 11 => catalogueAreaB
  | 12 => catalogueAreaC
  | 13 => catalogueAreaD
  | 14 => catalogueAreaE
  | _ => []

/-- The catalogue row of a parameter number, if the catalogue has one. -/
def catFind (p : Param) : Option CatRow := (catalogueArea (p / 0x100000)).find? (fun r => r.num == p)

/-- The default of a parameter where the catalogue gives it as a number (R518). -/
def catDefault (p : Param) : Nat := ((catFind p).map CatRow.dflt).getD 0

end Sys2Proof.Machine
end

