-- ==== Sys2Proof/Machine/Shipped.lean ====
section
/-! DEFINITION. The operations that opcodes name (R38, R186, R217, R252, R282, R318, R355, R211), microprograms and their entry records (R172, R173),
and the vendor microprograms as shipped (R563). -/

namespace Sys2Proof.Machine

/-- What the dispatcher knows of an operation. -/
structure OpInfo where
  /-- ENGINE class: 1 tile, 2 big-number, 3 symmetric, 4 software port, 5 key vault, 6 composite (R47). -/
  cls : Nat
  /-- Key-bearing (R68). -/
  bearing : Bool
  /-- Runs in shares; else it runs in plane 0 (R98). -/
  masked : Bool
  /-- Draws DRBG bytes when it first starts on a unit (R345). -/
  draws : Bool
  /-- Completes with 0x0502 while BLW_STATE is EXHAUSTED (R354). -/
  entropy : Bool
  /-- Creates a key object; AUX [1] is PERSISTENT (R190). -/
  makes : Bool
  /-- Changes an object or the tree of a slice (R316). -/
  acts : Bool
  /-- Check of R114, R269, R281: 0 none, 1 SLC_STRIKE_SIGN, 2 SLC_STRIKE_KEM, 3 SLC_STRIKE_HAMMER, 4 always twice, 5 its own single check. -/
  strike : Nat
  /-- Belongs to the key flow of KEY_A (R73). -/
  stateful : Bool
  /-- The unit scrubs after normal completion too (R116, R271). -/
  scrub : Bool
  deriving DecidableEq, Repr

/-- An operation that names no secret and changes nothing. -/
def OpInfo.plain (c : Nat) : OpInfo :=
  { cls := c, bearing := false, masked := false, draws := false, entropy := false, makes := false, acts := false, strike := 0, stateful := false, scrub := false }

/-- Key generation on a unit of class `c` (R190): key-bearing, with its pairwise check. -/
def OpInfo.keygen (c strike : Nat) (masked scrub : Bool) : OpInfo :=
  { OpInfo.plain c with bearing := true, masked := masked, draws := true, entropy := true, makes := true, strike := strike, scrub := scrub }

/-- Signing on a unit of class `c`. -/
def OpInfo.sign (c strike : Nat) (masked : Bool) : OpInfo :=
  { OpInfo.plain c with bearing := true, masked := masked, draws := true, entropy := true, strike := strike }

/-- Encapsulation (R194): not key-bearing, unmasked on a secret. -/
def OpInfo.encaps : OpInfo := { OpInfo.plain 1 with draws := true, entropy := true, scrub := true }

/-- Decapsulation (R196). -/
def OpInfo.decaps : OpInfo := { OpInfo.plain 1 with bearing := true, masked := true, strike := 2 }

/-- Symmetric operation with a secret key, computed in lockstep (R281). -/
def OpInfo.sym : OpInfo := { OpInfo.plain 3 with bearing := true, strike := 5 }

/-- The parameter-set nibble and operation nibble of a low byte. -/
def lowSet (op : Nat) : Nat := op % 256 / 16
def lowOp (op : Nat) : Nat := op % 16

/-- The operation of an opcode outside the integrator family; `none`: 0x0101. -/
def opInfo (op : Nat) : Option OpInfo :=
  let f := op / 256
  let lo := op % 256
  let ps := lowSet op
  let o := lowOp op
  if f == 0x10 || f == 0x20 then
    if ps < 1 || ps > 3 then none
    else if o == 1 then some (OpInfo.keygen 1 2 true false)
    else if o == 3 then some OpInfo.encaps
    else if o == 4 then some OpInfo.decaps
    else if o == 5 then some (OpInfo.plain 1) else none
  else if f == 0x11 || f == 0x18 then
    if ps < 1 || ps > (if f == 0x11 then 3 else 12) then none
    else if o == 1 then some (OpInfo.keygen 1 1 true false)
    else if o == 2 then some (OpInfo.sign 1 1 true)
    else if o == 3 then some (OpInfo.plain 1) else none
  else if f == 0x12 then
    if ps < 1 || ps > 2 then none
    else if o == 1 then some (OpInfo.keygen 1 1 false true)
    else if o == 2 then some { OpInfo.sign 1 4 false with scrub := true }
    else if o == 3 then some (OpInfo.plain 1) else none
  else if f == 0x19 || f == 0x1A then
    if ps != 0 then none
    else if o == 1 then some (OpInfo.keygen 1 1 true false)
    else if o == 2 then some { OpInfo.sign 1 1 true with stateful := true }
    else if o == 3 then some (OpInfo.plain 1)
    else if o == 4 then some { OpInfo.plain 5 with stateful := true } else none
  else if f == 0x21 then
    if ps < 1 || ps > 2 then none
    else if o == 1 then some (OpInfo.keygen 1 2 true true)
    else if o == 3 then some OpInfo.encaps
    else if o == 4 then some OpInfo.decaps
    else if o == 6 || o == 7 then some (OpInfo.plain 5) else none
  else if f == 0x30 then
    if lo == 1 then some (OpInfo.keygen 2 5 false true)
    else if lo == 2 then some { OpInfo.plain 2 with bearing := true, strike := 3 }
    else if lo == 4 || lo == 6 then some (OpInfo.sign 2 3 false)
    else if lo == 8 then some { OpInfo.plain 2 with bearing := true, strike := 3 }
    else if lo == 9 then some { OpInfo.plain 2 with draws := true }
    else if lo == 3 || lo == 5 || lo == 7 then some (OpInfo.plain 2) else none
  else if f == 0x31 then
    if lo == 1 then some (OpInfo.keygen 2 5 false true)
    else if lo == 2 then some (OpInfo.sign 2 4 false)
    else if lo == 3 || lo == 4 then some (OpInfo.plain 2)
    else if lo == 0x0E then some { OpInfo.plain 5 with acts := true, bearing := true }
    else if lo == 0x0F then some { OpInfo.plain 2 with makes := true } else none
  else if f == 0x32 then
    if lo == 1 then some (OpInfo.keygen 2 5 false true)
    else if lo == 2 then some (OpInfo.sign 2 4 false)
    else if lo == 3 then some (OpInfo.plain 2) else none
  else if f == 0x33 then
    if lo == 1 then some (OpInfo.keygen 2 5 false true)
    else if lo == 2 then some { OpInfo.plain 2 with bearing := true, strike := 4 }
    else if lo == 3 then some { OpInfo.plain 2 with bearing := true, draws := true, entropy := true, strike := 4, scrub := true }
    else if lo == 4 then some (OpInfo.plain 2) else none
  else if f == 0x40 then
    if lo == 7 then some { OpInfo.sym with draws := true }
    else if (1 ≤ lo && lo ≤ 0x12) || (0x21 ≤ lo && lo ≤ 0x26) || (0x32 ≤ lo && lo ≤ 0x35) then some OpInfo.sym
    else if lo == 0x31 then some (OpInfo.plain 3)
    else if lo == 0x41 || lo == 0x42 then some { OpInfo.sym with makes := true } else none
  else if f == 0x48 then
    if lo == 0x01 then some { OpInfo.sym with draws := true }
    else if lo == 0x21 then some OpInfo.sym
    else if lo == 0x11 || lo == 0x22 then some { OpInfo.sym with makes := true } else none
  else if f == 0x50 then
    if lo == 1 then some { OpInfo.plain 5 with bearing := true, makes := true, draws := true, entropy := true }
    else if lo == 2 then some { OpInfo.plain 5 with bearing := true }
    else if lo == 3 then some { OpInfo.plain 5 with bearing := true, makes := true }
    else if lo == 4 || lo == 5 || lo == 6 then some { OpInfo.plain 5 with bearing := true, acts := true }
    else if lo == 7 || lo == 8 then some (OpInfo.plain 5) else none
  else if f == 0x58 then if lo == 1 then some (OpInfo.plain 4) else none
  else if f == 0x60 then
    if lo == 0x11 || lo == 0x13 || lo == 0x15 then some { OpInfo.encaps with cls := 6, bearing := true }
    else if lo == 0x12 || lo == 0x14 || lo == 0x16 then some { OpInfo.decaps with cls := 6 }
    else if lo == 0x21 || lo == 0x23 || lo == 0x25 then some (OpInfo.sign 6 1 true)
    else if lo == 0x22 || lo == 0x24 || lo == 0x26 then some (OpInfo.plain 6) else none
  else none

/-! ### Microprograms (R172, R173) -/

/-- An entry record (R173): the opcode it binds, its code offset, EFLAGS (KEY_BEARING, MASKED, KEY_B_IS_KEY, USES_PUB), KEY_USE, ceilings, MAX_IN and
MAX_OUT. -/
structure MpEntry where
  opcode : Nat
  entry : Nat
  eflags : Nat
  keyUse : Nat
  ceil : List Nat
  maxIn : Nat
  maxOut : Nat
  deriving DecidableEq, Repr

/-- A microprogram version in the library (R172 to R177), its container by field. -/
structure Microprogram where
  mpId : Nat
  version : Nat
  svn : Nat
  authority : Nat
  /-- ORDERS and MPFLAGS. -/
  orders : Nat
  flags : Nat
  measurement : Bytes
  table : List MpEntry
  code : Bytes
  tables : Bytes
  kat : Bytes
  deriving DecidableEq, Repr

/-- The entry that binds an opcode. -/
def Microprogram.entry? (m : Microprogram) (op : Nat) : Option MpEntry := m.table.find? (fun e => e.opcode == op)

/-- Its footprint in KiB (R178). -/
def Microprogram.footprint (m : Microprogram) : Nat := ceilDiv (m.code.length + m.tables.length + 32 * m.table.length) 1024

/-- Bytes of its container. -/
def Microprogram.size (m : Microprogram) : Nat := 64 + 32 * m.table.length + m.code.length + m.tables.length + m.kat.length + 2592 + 4627

/-! ### As shipped (R562, R563) -/

/-- `n` bytes of the unit's own data item `i` (R521, R473). -/
def unitBytes (i n : Nat) : Bytes := (List.range n).map (Config.unitByte i)

/-- The eight vendor microprograms, by family: MP_ID is the family number (DESIGN CHOICE, assumption log 20). -/
def vendorFamilies : List Nat := [0x10, 0x11, 0x12, 0x18, 0x19, 0x1A, 0x20, 0x21]

/-- Their VERSION: major 1 (R2, R562), minor and build 0 (DESIGN CHOICE, assumption log 20). -/
def shippedVersion : Nat := 0x01000000

/-- The opcodes that each one binds: those of its chapter that run on a tile, and the lattice halves of composite requests (R186, R211, R217). The 36 of SLH-DSA are
more than the 32 entry records of one container (R172): the model gives the shipped one all of them. (DEDUCED, assumption log 124) -/
def shippedOps (f : Nat) : List Nat :=
  let sets := fun (n : Nat) (ops : List Nat) => (List.range n).flatMap (fun i => ops.map (fun o => f * 256 + 16 * (i + 1) + o))
  match f with
  | 0x10 => sets 3 [1, 3, 4, 5] ++ [0x6011, 0x6012, 0x6013, 0x6014, 0x6015, 0x6016]
  | 0x11 => sets 3 [1, 2, 3] ++ [0x6021, 0x6022, 0x6023, 0x6024, 0x6025, 0x6026]
  | 0x12 => sets 2 [1, 2, 3]
  | 0x18 => sets 12 [1, 2, 3]
  | 0x20 => sets 3 [1, 3, 4, 5]
  | 0x21 => sets 2 [1, 3, 4]
  | _ => [f * 256 + 1, f * 256 + 2, f * 256 + 3]

/-- The use class of KEY_A as R188 and R218 give it; KEYGEN names none. -/
def shippedUse (op : Nat) : Nat :=
  let f := op / 256
  let o := lowOp op
  if f == 0x60 then (if op % 256 < 0x20 then 2 - op % 2 else 4 - op % 2)
  else if o == 1 then 0
  else if f == 0x10 || f == 0x20 || f == 0x21 then (if o == 4 then 2 else 1)
  else if o == 2 then 3 else 4

/-- F, I and V of the ML-DSA signing counts, by order and set (R209). -/
def mlDsaCounts (order ps : Nat) : Nat × Nat × Nat :=
  ([[(13300, 16000, 31000), (19500, 23000, 51000), (31200, 29600, 83000)], [(17000, 20500, 31000), (25000, 29550, 51000), (40000, 38000, 83000)],
    [(21800, 26200, 31000), (32000, 37800, 51000), (51200, 48600, 83000)]].getD (order - 1) []).getD (ps - 1) (0, 0, 0)

/-- A ceiling of a vendor entry: the unit's own data, and for ML-DSA signing above the count of 814 iterations (R203). -/
def shippedCeil (op order : Nat) : Nat :=
  let c := if op / 256 == 0x11 && lowOp op == 2 then mlDsaCounts (Nat.max order 1) (lowSet op) else if op == 0x6021 || op == 0x6025 then mlDsaCounts (Nat.max order 1) 2
           else if op == 0x6023 then mlDsaCounts (Nat.max order 1) 3 else (0, 0, 0)
  c.1 + 814 * c.2.1 + c.2.2 + 1 + Config.unitLength (0x1000000 + 4 * op + order)

/-- The entry record of a vendor opcode: flags as its chapter has the operation, offset and ceilings the unit's own data. (DEDUCED, assumption log 124) -/
def shippedEntry (codeLen op : Nat) : MpEntry :=
  let i := (opInfo op).getD (OpInfo.plain 1)
  { opcode := op, entry := 4 * (Config.unitLength (0x2000000 + op) % (codeLen / 4)),
    eflags := bnat i.bearing + 2 * bnat i.masked + 4 * bnat (op / 256 == 0x60 || shippedUse op == 0) + 8 * bnat (shippedUse op != 0),
    keyUse := shippedUse op, ceil := (List.range 4).map (shippedCeil op), maxIn := 2 ^ 32 - 1, maxOut := 2 ^ 32 - 1 }

/-- KiB of footprint beyond the entry table of each vendor microprogram: the unit's own data, 44 KiB in all at most (R563). -/
def shippedSpace : List Nat → Nat → List (Nat × Nat)
  | [], _ => []
  | f :: r, left =>
    let x := Config.unitLength (300 + f) % (left + 1)
    (f, x) :: shippedSpace r (left - x)

/-- A vendor microprogram as shipped: code, twiddles and known answers are the unit's own data, sized to its footprint; it supports masking orders 1 to 3
(R208, R209), and the lattice and code-based ones declare long-vector use (R562). (DESIGN CHOICE, assumption log 20) -/
def shippedMp (f extra : Nat) : Microprogram :=
  let ops := shippedOps f
  let base := if f == 0x18 then 2 else 1
  let words := (1024 * (base + extra) - 32 * ops.length) / 4
  let tw := Config.unitLength (400 + f) % Nat.min words 4097
  let code := 4 * (words - tw - Config.unitLength (500 + f) % Nat.min (words - tw) 255)
  { mpId := f, version := shippedVersion, svn := Config.unitLength (600 + f) % 2 ^ 32, authority := 1, orders := 14,
    flags := bnat (f < 0x18 || f ≥ 0x20), measurement := unitBytes (320 + f) 48, table := ops.map (shippedEntry code),
    code := unitBytes (0x3000 + f) code, tables := unitBytes (0x3100 + f) (4 * tw), kat := unitBytes (0x3200 + f) (1 + Config.unitLength (700 + f) % 1048576) }

/-- The library as shipped. -/
def shippedLibrary : List Microprogram := (shippedSpace vendorFamilies 35).map (fun e => shippedMp e.1 e.2)

end Sys2Proof.Machine
end

