-- ==== Sys2Proof/Machine/State.lean ====
section
/-! DEFINITION. The state of the device as plain data, group by group, the reasons a step can stop, and the state right
after reset. `State` is the device with the queue of commands that wait for it. -/

namespace Sys2Proof.Machine

/-- Why a command stops the model. -/
inductive Fault where
  /-- A command names a tile, engine, queue pair, slice, source, rail or other numbered part that R9, R21, R25, R332, R381
  or R415 says does not exist: raised by every command that carries such a number. Safe: no such command can reach the device. -/
  | noSuchPart (number : Nat)
  deriving DecidableEq, Repr

/-- Why a command is turned away by the model itself. -/
inductive Refusal where
  /-- A command whose meaning is not written: raised only by its own arm of `exec`. Safe: nothing is claimed of it. -/
  | notModelled (mnemonic : String)
  deriving DecidableEq, Repr

/-! ### Names -/

/-- The operating modes (R12), in the order of the table of R12 (the code of MODE in R475). -/
inductive Mode where
  | off | backup | boot | service | partService | quiesced | sealed | debug
  deriving DecidableEq, Repr

/-- The kinds of a mode or state edge (R14), coded 0, 1, 2 in MOD_LOG (R522). -/
inductive EdgeKind where
  | host | alarm | power
  deriving DecidableEq, Repr

/-- The pool states of a unit (R81), coded in the order of that table. -/
inductive PoolState where
  | inPool | draining | out | returning | probation | joining | off
  deriving DecidableEq, Repr

/-- The states of a slice instance (R396). -/
inductive SliceState where
  | free | active | resetting | frozen
  deriving DecidableEq, Repr

/-- The states of a power domain (R485). -/
inductive DomainState where
  | on | draining | off | ramping | autoOff
  deriving DecidableEq, Repr

/-- Alarm classes (R411): 0 to 4 for A0 to A4. -/
abbrev AlarmClass := Nat

/-! ### Time, modes and supplies -/

/-- Clocks and counters (R490 to R492, R436). -/
structure TimeSt where
  /-- Device time, 10 ns ticks, 64 bits (R492). -/
  dev : Nat
  /-- Backup stamp, 48 bits (R436). -/
  stamp : Nat
  /-- 1/128 fractions of a device tick towards the next stamp tick; a stamp tick is 390,625 of them. -/
  frac : Nat
  /-- The main PLL has locked (R490). -/
  pllLocked : Bool
  /-- The backup crystal runs (R436). -/
  crystalRuns : Bool
  /-- Device time at which every monitor record was last cleared (R385, R497). -/
  monEpoch : Nat
  deriving DecidableEq, Repr

/-- One MOD_LOG entry (R522). -/
structure ModLogEntry where
  time : Nat
  kind : Nat
  old : Nat
  new : Nat
  edge : Nat
  cause : Nat
  deriving DecidableEq, Repr

/-- The operating mode and what decides its next edge (R12 to R16). -/
structure ModeSt where
  mode : Mode
  /-- The kind of the edge that entered BOOT, carried to its exit edge (R15). -/
  bootEdge : EdgeKind
  /-- An A2 device response or an A3 response fell in this boot (R15). -/
  bootAlarm : Bool
  /-- DEBUG under an alarm hold (R15, R68). -/
  hold : Bool
  log : List ModLogEntry
  /-- RST_LAST_CAUSE (R523): the kind of the last reset and its source. -/
  lastReset : Nat
  lastResetSource : Nat
  /-- The reset in progress: 0 power-on, 1 cold, 2 warm; it ends with boot (R494, R496). -/
  inReset : Option Nat
  /-- The key store opened at the last boot and has not been closed since (R15, R325). -/
  storeOpen : Bool
  /-- Edges of the present device-time tick (R16): how many alarm-forced ones end the mode log, and whether a power-forced one was taken. -/
  tickAlarms : Nat
  tickPower : Bool
  deriving DecidableEq, Repr

/-- One supply rail (R415, R416). -/
structure RailSt where
  millivolts : Nat
  /-- Device time of the warning crossing from which the rail has not recovered. -/
  lowSince : Option Nat
  /-- Source 0x0110 + r has been raised for this crossing. -/
  lowReported : Bool
  deriving DecidableEq, Repr

/-- Supplies, domains and switches (R481 to R489). -/
structure PowerSt where
  rails : Tab Nat RailSt
  mainPower : Bool
  cell : Bool
  vbatMillivolts : Nat
  porN : Bool
  coldRstN : Bool
  perstN : Bool
  /-- PWR_DOMAIN_STATE by domain number 1 to 20 (R485). -/
  domains : Tab Nat DomainState
  /-- Tiles whose tile switch is open (R483). -/
  openSwitches : List Nat
  /-- In S2 (R488), with the domains and open switches in force before it (R495). -/
  inS2 : Bool
  beforeS2 : List Nat
  deriving DecidableEq, Repr

/-! ### Host side -/

/-- One MSI-X table entry (R25, R57): its message address and data, its mask, and its bit of the pending array. -/
structure MsixEntry where
  address : Nat
  data : Nat
  masked : Bool
  pending : Bool
  deriving DecidableEq, Repr

/-- A mailbox page (R30). -/
structure Mailbox where
  busy : Bool
  done : Bool
  reqLen : Nat
  request : Bytes
  rspLen : Nat
  response : Bytes
  deriving DecidableEq, Repr

/-- One cached host-memory translation: PASID and 4 KiB page number (R395). -/
abbrev Translation := Nat × Nat

/-- Queue pairs, vectors, mailboxes and translations. -/
structure HostSt where
  qps : Tab Nat Qp
  msix : Tab Nat MsixEntry
  functionMask : Bool
  mailboxes : Tab Nat Mailbox
  /-- The next device-wide acceptance sequence number (R34). -/
  nextSeq : Nat
  translations : List Translation
  /-- PCIe controller in host link reset (R62, R552). -/
  linkReset : Bool
  deriving DecidableEq, Repr

/-! ### Requests and jobs -/

/-- Where a request stands between admission and publication. -/
inductive ReqPhase where
  /-- A translation is missing and a PRI request is out (R43 check 7). -/
  | waitTranslation
  /-- Admitted and not assigned, or held (R68). -/
  | waiting
  /-- Some computation of it is assigned to a unit. -/
  | inService
  /-- It waits for a journal commit (R313 to R316). -/
  | committing
  /-- Past its release point; its record waits in the queue pair's staged list (R50). -/
  | staged
  deriving DecidableEq, Repr

/-- The policy values in force at admission that the request uses later (R390); the others are used at admission alone. -/
structure Policy where
  maskDefault : Nat
  strikeSign : Nat
  strikeKem : Nat
  strikeHammer : Nat
  childExport : Bool
  statefulBlock : Nat
  statefulLow : Nat
  deriving DecidableEq, Repr

/-- What one computation produced: its status, its output bytes, and whether its own check (R114, R268) found a mismatch. -/
structure JobResult where
  status : Nat
  output : Bytes
  mismatch : Bool
  /-- Key material formed for an object that the release will create (R190); it never leaves the device. -/
  secret : Bytes
  deriving DecidableEq, Repr

/-- What a request's completion record will carry (R46, R47). (DEDUCED, assumption log 104) -/
structure Completion where
  status : Nat
  output : Bytes
  engineClass : Nat
  quadA : Nat
  quadB : Nat
  deriving DecidableEq, Repr

/-- The working state of a CTR_DRBG with AES-256: Key and V (R339). -/
structure CtrState where
  key : Bytes
  v : Bytes
  deriving DecidableEq, Repr

/-- An admitted request. -/
structure Request where
  slice : Nat
  qp : Nat
  number : Nat
  seq : Nat
  /-- Doorbell acceptance time (R34); of a restored request it may lie before device time 0. -/
  accept : Int
  /-- Absolute deadline (R64), `none` for NO_DEADLINE; of a re-issued request as R410 forms it. -/
  deadline : Option Int
  /-- Slice generation recorded at admission (R400). -/
  gen : Nat
  desc : Descriptor
  input : Bytes
  /-- What was read for it at admission; a re-issue reads it again (R42). -/
  read : DescRead
  policy : Policy
  /-- Completion space reserved (R49). -/
  reserved : Nat
  phase : ReqPhase
  /-- The key vault has been asked for its keys (R76). -/
  asked : Bool
  /-- The request's keys are resident (R68, R76). -/
  keysReady : Bool
  /-- The DRBG bytes drawn for it, once, as the state that they come from (R345). -/
  draw : Option CtrState
  /-- Of a software-port request: the generate calls made and their output (R356). -/
  calls : Nat := 0
  port : Bytes := []
  /-- Completion flags gathered on the way (R47). -/
  retried : Bool
  shadowed : Bool
  stretched : Bool
  /-- Repeat-compare mismatches and unit faults so far (R90, R104). -/
  mismatches : Nat
  unitFaults : Nat
  /-- Units that produced a withheld result (R78). -/
  excluded : List Nat
  /-- Generations of the keys and ancestors at key-register load, per node (R90 check 2). -/
  keyGens : List (Nat × Nat)
  /-- The stateful index assigned to the computation (R227). -/
  index : Option Nat
  /-- The half failure of a composite request that decides its status (R86): status, the device time it was recorded at, the half. -/
  halfFail : Option (Nat × Nat × Nat)
  /-- Finished halves: outputs by half (R85). -/
  halves : List (Nat × JobResult × Nat)
  /-- It passed its release point. -/
  released : Bool
  /-- Re-issued under restore or thaw (R72, R410). -/
  reissued : Bool
  completion : Option Completion
  deriving DecidableEq, Repr

/-- The kinds of computation a unit runs (R84, R85, R115, R123). (DESIGN CHOICE, assumption log 30) -/
inductive JobKind where
  | first | classical | second | shadow | shadowClassical
  deriving DecidableEq, Repr

/-- A shadow copy (R84), of the first or only half or of a composite request's second half. -/
def JobKind.isShadow : JobKind → Bool
  | .shadow => true
  | .shadowClassical => true
  | _ => false

/-- The half a computation belongs to (R85). -/
def JobKind.half : JobKind → Nat
  | .classical => 1
  | .shadowClassical => 1
  | _ => 0

/-- One computation assigned to a unit. -/
structure Job where
  req : Nat
  kind : JobKind
  unit : Nat
  /-- Dispatcher epoch of the assignment (R82). -/
  epoch : Nat
  start : Nat
  /-- The end of execution, once reported (R91). -/
  stop : Option Nat
  /-- Effective masking order (R97). -/
  order : Nat
  keyReady : Bool
  drawReady : Bool
  /-- Result staged by the unit, not yet released. -/
  result : Option JobResult
  /-- An abort is pending: its status (R163, R272). -/
  abort : Option Nat
  /-- Held at check 3 for a rail below guard (R91). -/
  held : Bool
  /-- The unit has ended the computation and its result stands ready. -/
  finished : Bool
  /-- When its execution began, with key and drawn bytes in place (R77, R344). -/
  begun : Option Nat
  /-- The result was reported and waits for its twin, a flow predecessor, a rail or a translation (R71, R85, R91, R115). -/
  reported : Bool
  /-- Of a shadow copy: the live result it is compared with, once the serving unit has ended (R84). -/
  expect : Option JobResult
  /-- Of a shadow copy that outlasts its request: the request (R84). -/
  copy : Option Request
  deriving DecidableEq, Repr

/-- A pending pool change (R82): the unit, the state it moves to, and the kind of the edge. -/
structure PoolMove where
  unit : Nat
  target : PoolState
  edge : EdgeKind
  deriving DecidableEq, Repr

/-- Whom a smith thread serves (R88): an admitted request, or an Iludor service task. -/
inductive ThreadOwner where
  | request (r : Nat)
  | commits
  | quench
  | temper
  deriving DecidableEq, Repr

/-- What a thread does (R89). A preempted thread is ready, its context saved. -/
inductive ThreadState where
  | ready
  | running (core : Nat)
  | blocked
  | preempted
  deriving DecidableEq, Repr

/-- A thread in its context (R88): whom it serves, its deadline (`none`: infinity), and what it does. -/
structure Thread where
  owner : ThreadOwner
  deadline : Option Int
  state : ThreadState
  deriving DecidableEq, Repr

/-- The dispatcher. Requests and jobs are numbered in the order they arise. -/
structure DispSt where
  reqs : Tab Nat Request
  jobs : Tab Nat Job
  nextReq : Nat
  nextJob : Nat
  /-- Pool changes pending at the next boundary (R82). -/
  changes : List PoolMove
  /-- The smith-core thread contexts in use, by number 0 to 4,095 (R88). -/
  threads : Tab Nat Thread
  deriving DecidableEq, Repr

/-! ### Units: tiles 0 to 127, big-number engines 128 to 159, symmetric engines 160 to 175 -/

/-- What a key register or engine context holds: node, its generation, slice, masking order, and the form of the shares, k below 8 for arithmetic modulo
m[k] (R77, R106, R107). -/
structure KeyHeld where
  node : Nat
  gen : Nat
  slice : Nat
  order : Nat
  form : Nat
  deriving DecidableEq, Repr

/-- A key context of a symmetric engine, its 64 bytes as two Boolean shares (R279, R280). -/
structure Context where
  held : KeyHeld
  shares : List Bytes
  deriving DecidableEq, Repr

/-- The values that an operation forms from its secrets: on a tile in shares (R205, R247), in a big-number engine blinded (R268). -/
inductive SecretValue where
  /-- The seed of a key, and the DRBG bytes of a signature. -/
  | seed | randomness
  /-- Secret key: ŝ, or s1, s2, t0 and K; errors; m′, r′, K′, J(z ‖ c), the re-encryption, its comparison bit; the selected output. -/
  | secretKey | errors | message | coins | sharedKey | rejection | reencryption | comparison | selected
  /-- ρ, t̂, t1, the public key, tr; the pairwise comparison bit; the accept bits of RejBoundedPoly. -/
  | rho | tHat | t1 | publicKey | tr | pairwise | candidateBits
  /-- Of a signing iteration: y, w1, c̃, c, the combined accept bit, z and h. -/
  | maskingVector | w1 | challengeHash | challenge | acceptBit | response | hint
  /-- Of the hash-based schemes and Classic McEliece: nodes, roots and paths; randomiser; digest; one-time values; the matrix. -/
  | treeNodes | randomiser | digest | oneTimeValues | matrix
  /-- Of a big-number engine: RSA base and exponents; scalar, its point's Z coordinate; the product that ECDSA inverts. -/
  | blindedBase | blindedExponent | blindedScalar | projectiveZ | blindedInverse
  deriving DecidableEq, Repr

/-- A value held in shares (R205), plane 0 first; a blinded one alone (R268). -/
structure HeldValue where
  name : SecretValue
  shares : List Bytes
  deriving DecidableEq, Repr

/-- The key register (R106): the 16 KiB array with share 0, and the seed store with a 256-bit seed for each other share. -/
structure KeyReg where
  array : Memory
  seeds : List Bytes
  deriving DecidableEq, Repr

/-- The spark generator (R111, R112). -/
structure Spark where
  seeded : Bool
  /-- Outputs since the seed in use (R111). -/
  count : Nat
  requested : Bool
  /-- The seed in use, and the next one once it is held ready (R111, R344). -/
  seed : Bytes
  next : Option Bytes
  /-- At 2^20 outputs with no new seed (R111). -/
  stalled : Bool
  /-- The stall has held something up, and is counted (R111). -/
  counted : Bool
  deriving DecidableEq, Repr

/-- A unit of the pool (R81, R84, R108 to R112, R120 to R123, R276, R281). -/
structure Unit where
  pool : PoolState
  /-- The edge kind that took it to DRAINING (R81). -/
  drainEdge : EdgeKind
  /-- The edge kind that last took it OUT (R81, R183). -/
  outEdge : EdgeKind
  job : Option Nat
  key : Option KeyHeld
  keyReg : KeyReg
  /-- The 64 KiB operand memory of a big-number engine (R249). -/
  operand : Memory
  /-- The staging area of its operation in hearth memory (R119, R225). -/
  staging : Bytes
  /-- The values of its operation that stay in shares, and those that G.UNMASK was applied to (R205, R247). -/
  work : List HeldValue
  opened : List (SecretValue × Bytes)
  /-- The contexts of a symmetric engine, at most 32 (R279, R280). -/
  contexts : List Context
  /-- Loaded curves whose constants a big-number engine holds (R267). -/
  curves : List Nat
  lastSlice : Option Nat
  spark : Spark
  /-- A scrub is in progress (R116). -/
  scrubbing : Bool
  /-- A key-register refresh is in progress, with the assignment that waits for it (R109). -/
  refreshing : Bool
  /-- A temper pass found the unit busy: its key register is refreshed at the next idle moment (R109). -/
  refreshDue : Bool
  returnStep : Nat
  /-- Probation: when it began and the matched shadow results (R81). -/
  probationStart : Nat
  matched : Nat
  /-- Device times of recovered uncorrectable words and of glitches (R103, R414). -/
  ueTimes : List Nat
  glitchTimes : List Nat
  /-- Tile windows: start and end (R423). -/
  windows : List (Nat × Nat)
  deriving DecidableEq, Repr

/-! ### Slices -/

/-- One event-ring record (R404). -/
structure SliceEvent where
  time : Nat
  code : Nat
  queue : Nat
  detail0 : Nat
  detail1 : Nat
  deriving DecidableEq, Repr

/-- A slice instance (R389 to R410). Its parameters and counters are dictionary rows (R525). -/
structure SliceSt where
  state : SliceState
  /-- The kind of the edge that led to the state (R396). -/
  edge : EdgeKind
  /-- The doorbell pages allotted to it (R25, R389). -/
  pages : List Nat
  removal : Bool
  purge : Bool
  events : List SliceEvent
  /-- Events dropped since the ring was last not full (R404). -/
  dropped : Nat
  /-- Records dropped into the slag counter by the reset in progress (R404 code 6). -/
  resetDrops : Nat
  reissue : List Reissue
  freezeStart : Nat
  limitPassed : Bool
  cancelled : Nat
  drainedCount : Nat
  frozenDrained : Bool
  /-- A stored image of it on this device (R407). -/
  stored : Option SliceImage
  /-- A restore in progress (R409): the image and the given PASID. -/
  restoring : Option (SliceImage × Nat)
  deriving DecidableEq, Repr

/-! ### Alarms and the backup domain -/

/-- One alarm-log entry (R438). -/
structure AlarmEntry where
  time : Nat
  stamp : Nat
  source : Nat
  cls : Nat
  applied : Nat
  scope : Nat
  unit : Nat
  test : Bool
  fromBackup : Bool
  acked : Bool
  detail : Nat
  /-- The sequence of the backup-log entry it was copied from (R439). -/
  blogSeq : Option Nat
  deriving DecidableEq, Repr

/-- One backup-log entry (R433). -/
structure BlogEntry where
  stamp : Nat
  source : Nat
  cls : Nat
  acked : Bool
  scrapPending : Bool
  emberErased : Bool
  onCell : Bool
  test : Bool
  seq : Nat
  detail : Nat
  copied : Bool
  deriving DecidableEq, Repr

/-- An excursion window (R91, R416, R420, R423): the alarm source of the supply, clock or glitch finding that opened it, its start and, once known, its end. -/
structure Excursion where
  source : Nat
  start : Nat
  stop : Option Nat
  deriving DecidableEq, Repr

/-- Alarms, monitors and their tests (R411 to R440). -/
structure TamperSt where
  /-- The alarm-log ring by position (R438). -/
  log : Tab Nat AlarmEntry
  logNext : Nat
  windows : List Excursion
  /-- Key-bearing dispatch held by an A1 supply excursion (R68, R416). -/
  a1Hold : Bool
  /-- Device times of warning crossings (R416). -/
  crossings : List Nat
  /-- Device times and tiles of recent glitches, for source 0x0402 (R414). -/
  glitches : List (Nat × Nat)
  /-- Conditions reported and not re-armed: sensor conditions (R421). -/
  tempReported : List Nat
  /-- Clocks out of tolerance with an open window (R420). -/
  clocksBad : List Nat
  /-- The monitor test in progress: its source (R431). -/
  testing : Option Nat
  /-- The next monitor of a round on main power and of one in the backup domain, and when the round began: a device time and a backup stamp (R431). -/
  bistNext : Nat
  bistBackupNext : Nat
  bistStart : Nat
  bistBackupStart : Nat
  /-- The tick of the last device response and its class (R427). -/
  response : Nat × Nat
  /-- Shield patterns come from DRBG instance 0 (R424). -/
  shieldFromDrbg : Bool
  shieldPattern : Nat
  deriving DecidableEq, Repr

/-- The backup domain (R425, R432 to R440). -/
structure BackupSt where
  /-- The 256-bit ember key in masked form, as two shares (R297, R429); empty where it is erased. -/
  emberShares : List Bytes
  log : List BlogEntry
  logSeq : Nat
  tamperOut : Bool
  /-- VLT_CMD_INIT or VLT_CMD_RECOVER has committed since the last erase (R440). -/
  reprovisioned : Bool
  /-- Switches seen active at the previous sample (R425). -/
  switchActive : Nat
  meshPattern : Nat
  deriving DecidableEq, Repr

/-! ### Management -/

/-- The keys and salts of a session, of the side that opened it and of the side that answered (R505). -/
structure SessionKeys where
  clientKey : Bytes
  deviceKey : Bytes
  clientSalt : Bytes
  deviceSalt : Bytes
  deriving DecidableEq, Repr

/-- A Scega session (R504 to R508). -/
structure Session where
  role : Nat
  peer : Bool
  principal : Bytes
  anchorRow : Nat
  started : Nat
  lastRecord : Nat
  /-- NOTIFY messages sent (R515). -/
  nseq : Nat
  /-- The last executed requests and their responses, newest first, at most 64 (R513). -/
  recent : List (Nat × Bytes)
  sendSeq : Nat
  keys : SessionKeys
  deriving DecidableEq, Repr

/-- A handshake in progress (R504). -/
structure Shake where
  role : Nat
  peer : Bool
  started : Nat
  initiator : Bool
  /-- The peer this device opened it with, once its REPLY has verified (R509). -/
  principal : Option Bytes
  /-- Of one this device opened: its HELLO, and its secrets of the key agreement, ML-KEM d and z and the X448 key (R504, R509). -/
  hello : Bytes
  secret : Bytes
  /-- The session keys, from REPLY on (R505). -/
  keys : SessionKeys
  deriving DecidableEq, Repr

/-- A pending dual-control action (R514). -/
structure Ticket where
  number : Nat
  param : Nat
  offset : Nat
  origin : Nat
  msg : Msg
  requested : Nat
  digest : Bytes
  deriving DecidableEq, Repr

/-- A confirmed action whose outcome goes to the originator too (R514): who confirmed, under which REQ_ID, the originator and the ticket. -/
structure Awaited where
  src : Src
  reqId : Nat
  origin : Nat
  ticket : Nat
  deriving DecidableEq, Repr

/-- One SPDM connection (R477): how far it has come (1 version, 2 capabilities, 3 algorithms), and its transcripts: those three exchanges, all since
the last signed challenge, and the measurement exchanges since the last signed one. -/
structure SpdmSt where
  stage : Nat
  vca : Bytes
  trans : Bytes
  meas : Bytes
  deriving DecidableEq, Repr

/-- Sessions, tickets and the network (R499 to R516). -/
structure MgmtSt where
  sessions : Tab Nat Session
  shakes : Tab Nat Shake
  nextSession : Nat
  helloTimes : List Nat
  tickets : List Ticket
  nextTicket : Nat
  /-- Scega answers (R501: from step 7 of R471). -/
  answering : Bool
  /-- Network parameters in force, by parameter (R501). -/
  netNums : Tab Nat Nat
  netOcts : Tab Nat Bytes
  reassemblies : Tab Nat Nat
  spdm : Tab SpdmSrc SpdmSt
  awaiting : List Awaited
  /-- PRP supervision frames sent (R499). -/
  prpSent : Nat
  /-- The address taken by SLAAC; empty where none has been (R500). -/
  slaac : Bytes
  deriving DecidableEq, Repr

/-- The attributes of a host-memory access (R21, R58). -/
structure BusAttr where
  noSnoop : Bool
  relaxed : Bool
  idBased : Bool
  deriving DecidableEq, Repr

/-- What the device sends out of the package. -/
inductive Emit where
  /-- A write to host memory under a PASID (`none`: without a PASID), in issue order (R58). -/
  | hostWrite (pasid : Option Nat) (attr : BusAttr) (address : Nat) (bytes : Bytes)
  /-- A read of host memory under a PASID: a descriptor, an input list or an input (R21, R36). -/
  | hostRead (pasid : Option Nat) (attr : BusAttr) (address length : Nat)
  /-- One MSI-X message (R57). -/
  | msix (vector : Nat)
  /-- A translation request, page request or invalidation completion (R43, R45, R395). -/
  | priRequest (pasid : Nat) (address : Nat)
  | invalidationDone (pasid : Nat)
  /-- A management response (R510, R512). -/
  | response (dest : Src) (reqId : Nat) (result detail : Nat) (data : Bytes)
  /-- A NOTIFY message (R515). -/
  | notify (session nseq kind : Nat) (data : Bytes)
  /-- A handshake record (R504). -/
  | shake (kind session : Nat) (body : Bytes)
  /-- An SPDM response (R477). -/
  | spdm (dest : SpdmSrc) (body : Bytes)
  /-- A frame on both management ports (R499). -/
  | frame (kind : Nat) (body : Bytes)
  /-- A message to a group member (R327, R329). -/
  | peer (kind : Nat) (slice : Nat) (body : Bytes)
  /-- Bits shifted out on TDO (R446). -/
  | tdo (bits : List Bool)
  /-- Bytes a JTAG debug access returns (R457). -/
  | debugData (bytes : Bytes)
  deriving DecidableEq, Repr

/-- The Scega dictionary: numeric values and octet values by parameter and row. Unlisted: the catalogue's default (R518). -/
structure Dict where
  nums : Tab (Nat × Nat) Nat
  octs : Tab (Nat × Nat) Bytes
  deriving DecidableEq, Repr

/-! ### Key vault -/

/-- A slice root (R296, R310, R391). -/
structure SliceRoot where
  held : Bool
  gen : Nat
  /-- The 256-bit root, in the vault engine while the key store is open. -/
  key : Bytes
  /-- The root as the key store holds it, wrapped under the vault master. -/
  wrapped : Bytes
  /-- Its closure: under recovery the root is not yet supplied (R325). -/
  closed : Bool
  deriving DecidableEq, Repr

/-- What an update does to the node table when it commits (R314). -/
inductive UpdateKind where
  | create (nodes : List Nat)
  | destroy (node : Nat)
  | revoke (node : Option Nat)
  | restrict (node : Nat)
  | reserve (node upTo : Nat)
  | reclaim (node : Nat)
  | sliceRoot
  | purgeRoot
  | storeImage
  | restoreImage
  | library (container : Bytes)
  | libraryRemove (mpId version : Nat)
  | librarySvn (mpId svn : Nat)
  deriving DecidableEq, Repr

/-- An update whose journal record is written and whose commit record is not (R314). -/
structure Update where
  req : Option Nat
  slice : Nat
  seq : Nat
  opcode : Nat
  parent : Nat
  kind : UpdateKind
  /-- The parent's generation when the update began (R313). -/
  parentGen : Nat
  /-- The invalidation it belongs to has been acknowledged (R311 step 5). -/
  acked : Bool
  status : Nat
  output : Bytes
  ticket : Option (Src × Nat)
  /-- Of a reservation: the deadline of the request that triggered it, which its commit carries (R228). -/
  carries : Option (Option Int) := none
  /-- Its journal record (R314): the stored form of every node it changes as the commit leaves it, and the record's authentication. -/
  sealed : List (Nat × Bytes) := []
  mac : Bytes := []
  deriving DecidableEq, Repr

/-- A retained outcome (R316), newest last. -/
structure Retained where
  slice : Nat
  seq : Nat
  opcode : Nat
  parent : Nat
  status : Nat
  output : Bytes
  deriving DecidableEq, Repr

/-- An invalidation being processed (R311): its node, the affected nodes, and the request it completes. -/
structure Invalidation where
  node : Option Nat
  slice : Nat
  affected : List Nat
  req : Option Nat
  deriving DecidableEq, Repr

/-- A migration transport key, a device-domain object named by its nonce (R299, R407). -/
structure TransportKey where
  nonce : Bytes
  key : Bytes
  used : Bool
  deriving DecidableEq, Repr

/-- The key vault (R296 to R330). -/
structure VaultSt where
  nodes : Tab Nat Node
  roots : Tab Nat SliceRoot
  /-- The last check tag of each index that has been used (R301). -/
  tags : Tab Nat Nat
  updates : List Update
  retained : List Retained
  lowMarks : Tab Nat Nat
  /-- Objects being loaded from the key store, at most 64 (R308). -/
  misses : List Nat
  invalidations : List Invalidation
  /-- The calibration key of this boot: which one it is, and its 256 bytes once they have been drawn (R362). -/
  calibration : Nat
  calibrationKey : Option Bytes
  /-- The 64-byte input of fixed-class probes, drawn once per boot with the key (R363). -/
  calibrationInput : Option Bytes
  /-- The vault-engine registers (R297, R298, R324): the device root until it has unwrapped the master, the master and the device-domain root while the store is open. -/
  deviceRoot : Option Bytes
  master : Option Bytes
  domainRoot : Option Bytes
  /-- The master wrapped under the device root, the device-domain root wrapped under the master (R296, R325); empty before initialisation. -/
  masterWrapped : Bytes
  domainWrapped : Bytes
  /-- The key-store area as the last compaction left it, and each slice's compaction mark (R317, R326). -/
  store : Tab Nat Node
  marks : Tab Nat Nat
  /-- Indices that keys of a slice's home hold and that do not replicate (R329). -/
  reserved : List Nat
  /-- Objects that have been loaded and wait for granules (R307). -/
  roomless : List Nat
  /-- Device time at which the next temper pass is due (R323). -/
  temperDue : Nat
  /-- Bytes of the journal area in use by committed records awaiting compaction (R317). -/
  journalUsed : Nat
  journalHigh : Bool
  /-- Committed journal records per slice (R328, R408). -/
  seqs : Tab Nat Nat
  /-- The vault accepts slice roots from a peer (R325). -/
  recovering : Bool
  /-- VLT_CMD_INIT or VLT_CMD_RECOVER committed since SEALED (R325). -/
  recovered : Bool
  /-- Slices whose home moves away, waiting for lag 0 (R330). -/
  homeMoves : List Nat
  /-- Migration transport keys committed here (R407, R409). -/
  transport : List TransportKey
  /-- The test root is in force (R324). -/
  testRoot : Bool
  useClock : Nat
  deriving DecidableEq, Repr

/-! ### Bellows -/

/-- A noise source (R332 to R336). -/
structure NoiseSource where
  started : Bool
  startupFails : Nat
  failed : Bool
  /-- Conditioning windows ended (R335). -/
  windows : Nat
  /-- The window counts at which its tests failed. -/
  failures : List Nat
  /-- Conditioned blocks held for the adaptive-proportion windows that overlap them (R334). -/
  heldBlocks : List (Nat × Bytes)
  /-- Adaptive-proportion windows ended since the start-up test. -/
  apWindows : Nat
  /-- The run of identical bits that the repetition count test stands at, and their value (R333). -/
  run : Nat
  last : Bool
  capturing : Bool
  deriving DecidableEq, Repr

/-- A DRBG instance (R339 to R342). -/
structure Drbg where
  seeded : Bool
  age : Nat
  /-- A block is requested, or held ready (R341). -/
  requested : Bool
  heldBlock : Option Bytes
  stopped : Bool
  state : CtrState
  deriving DecidableEq, Repr

/-- Who waits for a block (R351): an instance, or a prediction-resistance call of a request. -/
inductive BlockWaiter where
  | inst (i : Nat)
  | call (req : Nat)
  deriving DecidableEq, Repr

/-- The random number generator. BLW_STATE and its counters are dictionary rows (R530). -/
structure BellowsSt where
  sources : Tab Nat NoiseSource
  pool : List Bytes
  instances : Tab Nat Drbg
  waiters : List BlockWaiter
  katPassed : Bool
  /-- A retest: the sender, REQ_ID and mask (R349). -/
  retest : Option (Src × Nat × Nat)
  /-- Leaving EXHAUSTED: instances still to reseed (R349). -/
  leaving : Bool
  /-- The kind of the last edge of BLW_STATE (R348). -/
  edge : EdgeKind
  /-- Times ENTROPY_SOURCE_FAILED has been raised for each source, and ENTROPY_EXHAUSTED (R348). -/
  sourceFailed : Tab Nat Nat
  exhausted : Nat
  deriving DecidableEq, Repr

/-! ### Tiles: instruction-set state, microprograms, quench loop, monitors -/

/-- One masked or plain vector register file: per plane 0 to 3, the 64 bytes of each of v0 to v31 (R96, R130). -/
abbrev VRegs := Tab (Nat × Nat) Bytes

/-- A modulus register (R132). -/
structure Modulus where
  kind : Nat
  value : Nat
  aux : Nat
  deriving DecidableEq, Repr

/-- A Keccak core after KC.INIT (R155): rate in bytes, masked or public, absorbing or squeezing, its place in the rate in bits, and the 25 lanes
of each plane. -/
structure KeccakCore where
  rate : Nat
  masked : Bool
  squeezing : Bool
  pos : Nat
  planes : List (List Nat)
  deriving DecidableEq, Repr

/-- The SHA-2 core after SH2.INIT (R156): variant, masked or public, padded, the eight words and the pending bytes of each plane, and the bytes
absorbed. -/
structure ShaCore where
  variant : Nat
  masked : Bool
  finished : Bool
  planes : List (List Nat)
  pend : List Bytes
  len : Nat
  deriving DecidableEq, Repr

/-- The instruction-set state of one tile (R125 to R133, R155, R156). -/
structure TileSt where
  s : Tab Nat Nat
  v : VRegs
  /-- What vector registers not written since hold: 0, or the n-th scrub output (R116, R121). -/
  regScrub : Option Nat
  m : Tab Nat Modulus
  vl : Nat
  vtype : Nat
  vstart : Nat
  pc : Nat
  csr : Tab Nat Nat
  mem : Memory
  /-- The two Keccak cores, once initialised (R155). -/
  keccak : Tab Nat KeccakCore
  /-- The SHA-2 core, once initialised (R156). -/
  sha2 : Option ShaCore
  /-- Output bytes staged by XOUT (R161); zero where none was written (R126). -/
  staged : Bytes
  /-- The running slot and the cycles used so far (R164, R171). -/
  slot : Nat
  cycles : Nat
  sinceChkpt : Nat
  /-- Long-vector unit: 0 on, 1 clock gated, 2 powered off, 3 waking, and the device time since which it is so or, on, has had no instruction (R167, R168). -/
  lv : Nat
  lvSince : Nat
  /-- The long-vector instruction that waits for the wake, by OP, and the words it reads (R167). -/
  lvWaiting : Option (Nat × LFields × WordCheck)
  /-- The instruction word that waits for spark randomness, and the words it reads (R111). -/
  sparkWaiting : Option (Nat × WordCheck)
  deriving DecidableEq, Repr

/-- The microprogram library, slots and rollout (R174 to R185). -/
structure LibSt where
  library : List Microprogram
  /-- Per tile: slot to (MP_ID, VERSION) in force, and the target (R178, R179). -/
  config : Tab Nat (List (Nat × Nat))
  target : Tab Nat (List (Nat × Nat))
  /-- Rollout: state code, remaining tiles, current tile, stopped tile, reason (R183); the current tile has been asked to drain (R182). -/
  rolloutState : Nat
  rolloutDraining : Bool
  rolloutTiles : List Nat
  rolloutCurrent : Nat
  rolloutStopped : Nat
  rolloutReason : Nat
  container : Bytes
  deriving DecidableEq, Repr

/-- The accumulator cell of one sensor, point and class: sum and sum of squares (R368). -/
structure QAcc where
  sum : Nat
  sumSq : Nat
  deriving DecidableEq, Repr

/-- The quench loop of one tile (R363 to R380). Its level and counters are dictionary rows (R531). -/
structure QuenchSt where
  credit : Nat
  cleanCount : Nat
  /-- Accepted probes of the window, and of each class. -/
  probes : Nat
  fixedCount : Nat
  randomCount : Nat
  acc : Tab (Nat × Nat × Bool) QAcc
  /-- The running probe, or the finished one whose samples wait out 1 µs (R367): its nominal length at the level it started with (R364, R374), its class and its
  64-byte input (R363). -/
  probing : Bool
  idleProbe : Bool
  length : Nat
  fixed : Bool
  input : Bytes
  probeEnded : Option Nat
  windowEnded : Bool
  /-- A level waiting for the next gap (R374). -/
  pendingLevel : Option Nat
  /-- The requested order of the last masked operation (R364). -/
  lastOrder : Nat
  calibrating : Bool
  passes : Nat
  /-- Sample count, sum and sum of squares per sensor over the window (R380). -/
  base : Tab Nat (Nat × Nat × Nat)
  deriving DecidableEq, Repr

/-- What a monitor record sums up (R385). -/
structure MonSums where
  count : Nat
  sum : Int
  min : Int
  max : Int
  sumSat : Bool
  binSat : Bool
  bins : Tab Nat Nat
  deriving DecidableEq, Repr

/-- A monitor record (R385), with its capture state (R386). -/
structure MonRecord where
  start : Nat
  stop : Nat
  count : Nat
  sum : Int
  min : Int
  max : Int
  sumSat : Bool
  binSat : Bool
  armedDone : Bool
  bins : Tab Nat Nat
  /-- Open for samples. -/
  running : Bool
  /-- The last arm, its limits (0: none) and the samples since (R386, R387). -/
  armedAt : Nat
  window : Nat
  limit : Nat
  armedSamples : Nat
  /-- The tick of the last sample, the samples of that tick and what stood before them: a snapshot of the same tick leaves them to the new interval (R387). -/
  tick : Nat
  tickSamples : List Int
  prior : MonSums
  deriving DecidableEq, Repr

/-! ### Life cycle, debug and boot -/

/-- One 16-bit OTP field: bits that read 1 firmly, and bits that read marginally (R443). -/
structure OtpField where
  firm : Nat
  marginal : Nat
  deriving DecidableEq, Repr

/-- An integrator debug-key slot (R455). -/
structure KeySlot where
  burned : Bool
  digest : Bytes
  revoked : Bool
  deriving DecidableEq, Repr

/-- Life cycle (R441 to R455). Fields: 0 F_INT, 1 F_FLD, 2 F_RET, 3 F_SCR, 4 to 11 T_ENT, 12 to 19 T_EXT. -/
structure LcySt where
  fields : Tab Nat OtpField
  /-- The state decoded at the last boot, whose rights and roles stay in force until the next reset (R453). -/
  bootState : Nat
  /-- A completed preparation: its target and the device time (R448). -/
  prepared : Option (Nat × Nat)
  /-- The RETURNED wipes are running (R452). -/
  wiping : Bool
  /-- A burn in progress: field and bit (R442). -/
  burning : Option (Nat × Nat)
  /-- Stop after the bit in progress (R451), or then burn F_SCR (R454). -/
  burnStop : Bool
  scrapNext : Bool
  keySlots : Tab Nat KeySlot
  /-- Vendor hashes and identity are programmed (R448). -/
  provisioned : Bool
  minSvn : Nat
  /-- The user-flash area of the flash die (R9, R452, R493). -/
  userFlash : Memory
  deriving DecidableEq, Repr

/-- Debug authorisation (R456 to R464). -/
structure DebugSt where
  nonce : Option Bytes
  certActive : Bool
  notAfter : Nat
  /-- A smith core halted by debug (R457). -/
  halted : List Nat
  deriving DecidableEq, Repr

/-- One measurement-log entry (R467). -/
structure LogEntry where
  time : Nat
  slot : Nat
  event : Nat
  info : Nat
  digest : Bytes
  deriving DecidableEq, Repr

/-- A firmware bank's image (R469), by what the ROM checks and measures. (PRESUMED, assumption log 15) -/
structure Bank where
  image : Bytes
  deriving DecidableEq, Repr

/-- Boot, measurement and firmware (R465 to R480). -/
structure BootSt where
  slots : Tab Nat Bytes
  log : List LogEntry
  truncated : Bool
  banks : Tab Nat Bank
  running : Nat
  trial : Bool
  fallback : Bool
  /-- Boot reached step 10 in the trial (R479). -/
  trialDone : Bool
  recoveryWait : Bool
  halted : Bool
  /-- Step of R471 reached in the boot in progress; 11 when it has ended. -/
  step : Nat
  staging : Option Nat
  staged : Bytes
  recovery : Bytes
  quotes : Tab Nat Bytes
  deriving DecidableEq, Repr

/-! ### The device -/

/-- The 4 MiB of one hearth's memory (R9): the Classic McEliece public-object area, by node (R240, R241), and, beside the staging areas of the hearth's units (R119), what the
rest holds: zeros, or the n-th scrub output. -/
structure HearthMem where
  objects : Tab Nat Bytes
  scrub : Option Nat
  deriving DecidableEq, Repr

/-- The device: everything but the queue of commands. -/
structure Dev where
  time : TimeSt
  modes : ModeSt
  power : PowerSt
  host : HostSt
  disp : DispSt
  units : Tab Nat Unit
  hearths : Tab Nat HearthMem
  slices : Tab Nat SliceSt
  tamper : TamperSt
  backup : BackupSt
  mgmt : MgmtSt
  dict : Dict
  vault : VaultSt
  bellows : BellowsSt
  tiles : Tab Nat TileSt
  lib : LibSt
  quench : Tab Nat QuenchSt
  monitors : Tab Nat MonRecord
  lcy : LcySt
  dbg : DebugSt
  boot : BootSt
  /-- What the device has sent, oldest first. -/
  out : List Emit
  /-- The model's own: the count of free values drawn (assumption log 3). -/
  freeCtr : Nat
  deriving DecidableEq, Repr

/-- The block: the commands that wait, first in first out, and the device. -/
structure State where
  pending : List Instr
  dev : Dev
  deriving DecidableEq, Repr

/-! ### Reset values -/

/-- A slice instance that does not exist. -/
def SliceSt.reset : SliceSt :=
  { state := .free, edge := .host, pages := [], removal := false, purge := false, events := [], dropped := 0, resetDrops := 0, reissue := [],
    freezeStart := 0, limitPassed := false, cancelled := 0, drainedCount := 0, frozenDrained := false, stored := none, restoring := none }

/-- An unconfigured queue pair (R24, R62). -/
def Qp.reset : Qp :=
  { state := .unconfigured, disabling := false, binding := none, b := 0, r := 0, lastCredit := 0, creditOwed := false, stamps := [], parked := false,
    wpos := 0, phase := true, pubRecords := 0, pubUnits := 0, relRecords := 0, relUnits := 0, unreleased := [], staged := [],
    waitCounted := false, armed := true }

/-- A vector after reset: masked, nothing pending (R57, R497). -/
def MsixEntry.reset : MsixEntry := { address := 0, data := 0, masked := true, pending := false }

/-- A mailbox page after reset (R30). -/
def Mailbox.reset : Mailbox := { busy := false, done := false, reqLen := 0, request := [], rspLen := 0, response := [] }

/-- A spark generator before its first seed (R112). -/
def Spark.reset : Spark := { seeded := false, count := 0, requested := false, seed := [], next := none, stalled := false, counted := false }

/-- A key register that holds nothing. -/
def KeyReg.reset : KeyReg := { array := { scrub := none, cells := [] }, seeds := [] }

/-- A unit as a reset of the main domains leaves it: RETURNING in boot (R497). (DESIGN CHOICE, assumption log 11) -/
def Unit.reset : Unit :=
  { pool := .returning, drainEdge := .host, outEdge := .host, job := none, key := none, keyReg := KeyReg.reset,
    operand := { scrub := none, cells := [] }, staging := [], work := [], opened := [], contexts := [], curves := [], lastSlice := none, spark := Spark.reset, scrubbing := false,
    refreshing := false, refreshDue := false, returnStep := 1, probationStart := 0, matched := 0, ueTimes := [], glitchTimes := [], windows := [] }

/-- A rail at rest. (DESIGN CHOICE, assumption log 12) -/
def RailSt.reset : RailSt := { millivolts := 0, lowSince := none, lowReported := false }

/-- Tile state after reset: registers cleared (R121). (DESIGN CHOICE, assumption log 11) -/
def TileSt.reset : TileSt :=
  { s := [], v := [], regScrub := none, m := [], vl := 0, vtype := 0x22, vstart := 0, pc := 0, csr := [], mem := { scrub := none, cells := [] }, keccak := [],
    sha2 := none, staged := [], slot := 0,
    cycles := 0, sinceChkpt := 0, lv := 0, lvSince := 0, lvWaiting := none, sparkWaiting := none }

/-- A quench loop with its window cleared (R379). -/
def QuenchSt.reset : QuenchSt :=
  { credit := 0, cleanCount := 0, probes := 0, fixedCount := 0, randomCount := 0, acc := [], probing := false, idleProbe := false, length := 0, fixed := false, input := [],
    probeEnded := none, windowEnded := false, pendingLevel := none, lastOrder := 2, calibrating := false, passes := 0, base := [] }

/-- Nothing sampled. -/
def MonSums.reset : MonSums :=
  { count := 0, sum := 0, min := 0x7FFFFFFFFFFFFFFF, max := -0x8000000000000000, sumSat := false, binSat := false, bins := [] }

/-- An empty monitor record (R385). -/
def MonRecord.reset : MonRecord :=
  { start := 0, stop := 0, count := 0, sum := 0, min := 0x7FFFFFFFFFFFFFFF, max := -0x8000000000000000, sumSat := false, binSat := false,
    armedDone := false, bins := [], running := true, armedAt := 0, window := 0, limit := 0, armedSamples := 0, tick := 0, tickSamples := [],
    prior := MonSums.reset }

/-- A noise source before its start-up test (R336). -/
def NoiseSource.reset : NoiseSource :=
  { started := false, startupFails := 0, failed := false, windows := 0, failures := [], heldBlocks := [], apWindows := 0, run := 0, last := false, capturing := false }

/-- A DRBG instance before instantiation (R346). -/
def Drbg.reset : Drbg := { seeded := false, age := 0, requested := false, heldBlock := none, stopped := false, state := { key := [], v := [] } }

/-- A clear OTP field (R442). -/
def OtpField.reset : OtpField := { firm := 0, marginal := 0 }

/-- An integrator debug-key slot never burned (R455). -/
def KeySlot.reset : KeySlot := { burned := false, digest := [], revoked := false }

/-- A slice root not held. -/
def SliceRoot.reset : SliceRoot := { held := false, gen := 0, key := [], wrapped := [], closed := false }

/-- The ember key is held. -/
def BackupSt.ember (b : BackupSt) : Bool := !b.emberShares.isEmpty

/-- The vault of a part never initialised (R325). -/
def VaultSt.reset : VaultSt :=
  { nodes := [], roots := [], tags := [], updates := [], retained := [], lowMarks := [], misses := [], invalidations := [],
    calibration := 0, calibrationKey := none, calibrationInput := none, deviceRoot := none, master := none, domainRoot := none, masterWrapped := [], domainWrapped := [], store := [], marks := [],
    reserved := [], roomless := [], temperDue := 0, journalUsed := 0, journalHigh := false,
    seqs := [], recovering := false, recovered := false, homeMoves := [], transport := [], testRoot := false, useClock := 0 }

/-- The bellows in STARTING (R346, R348). -/
def BellowsSt.reset : BellowsSt :=
  { sources := [], pool := [], instances := [], waiters := [], katPassed := false, retest := none,
    leaving := false, edge := .power, sourceFailed := [], exhausted := 0 }

/-- No session keys yet. -/
def SessionKeys.none : SessionKeys := { clientKey := [], deviceKey := [], clientSalt := [], deviceSalt := [] }

/-- Hearth memory into which zero has been written (R487). -/
def HearthMem.reset : HearthMem := { objects := [], scrub := none }

/-- The device right after power-on reset (R494, R497): mode BOOT by a power-forced edge, the main PLL not locked yet, every
domain on, every unit RETURNING, the dictionary at its defaults, nothing programmed in OTP and nothing in the key store. (DESIGN CHOICE, assumption log 7) (DESIGN CHOICE, assumption log 8) (DESIGN CHOICE, assumption log 9) (DESIGN CHOICE, assumption log 11) -/
def Dev.reset : Dev :=
  { time := { dev := 0, stamp := 0, frac := 0, pllLocked := false, crystalRuns := true, monEpoch := 0 },
    modes := { mode := .boot, bootEdge := .power, bootAlarm := false, hold := false, log := [], lastReset := 0, lastResetSource := 0, inReset := some 0, storeOpen := false, tickAlarms := 0, tickPower := false },
    power := { rails := [], mainPower := true, cell := true, vbatMillivolts := 3000, porN := true, coldRstN := true, perstN := true, domains := [],
               openSwitches := [], inS2 := false, beforeS2 := [] },
    host := { qps := [], msix := [], functionMask := true, mailboxes := [], nextSeq := 0, translations := [], linkReset := false },
    disp := { reqs := [], jobs := [], nextReq := 0, nextJob := 0, changes := [], threads := [] },
    units := [], hearths := [], slices := [],
    tamper := { log := [], logNext := 0, windows := [], a1Hold := false, crossings := [], glitches := [], tempReported := [], clocksBad := [],
                testing := none, bistNext := 0, bistBackupNext := 0, bistStart := 0, bistBackupStart := 0, response := (0, 0), shieldFromDrbg := false, shieldPattern := 0 },
    backup := { emberShares := [], log := [], logSeq := 0, tamperOut := true, reprovisioned := false, switchActive := 0, meshPattern := 0 },
    mgmt := { sessions := [], shakes := [], nextSession := 1, helloTimes := [], tickets := [], nextTicket := 1, answering := false, netNums := [],
              netOcts := [], reassemblies := [], spdm := [], awaiting := [], prpSent := 0, slaac := [] },
    dict := { nums := [], octs := [] },
    vault := VaultSt.reset, bellows := BellowsSt.reset, tiles := [],
    lib := { library := shippedLibrary, config := [], target := [], rolloutState := 0, rolloutDraining := false, rolloutTiles := [], rolloutCurrent := 0, rolloutStopped := 0,
             rolloutReason := 0, container := [] },
    quench := [], monitors := [],
    lcy := { fields := [], bootState := 0, prepared := none, wiping := false, burning := none, burnStop := false, scrapNext := false, keySlots := [],
             provisioned := true, minSvn := 0, userFlash := Memory.blank },
    dbg := { nonce := none, certActive := false, notAfter := 0, halted := [] },
    boot := { slots := [], log := [], truncated := false, banks := [], running := 0, trial := false, fallback := false,
              trialDone := false, recoveryWait := false, halted := false, step := 1, staging := none, staged := [], recovery := [], quotes := [] },
    out := [], freeCtr := 0 }

/-- The machine right after reset: the device after power-on reset, and no command waiting. (DESIGN CHOICE, assumption log 7) -/
def State.reset : State := { pending := [], dev := Dev.reset }

end Sys2Proof.Machine
end

