-- ==== Sys2Proof/Machine/Ops.lean ====
section
/-! DEFINITION. The named operations over the device that the meanings share: groups of the state, the dictionary, time, free
values, what goes out, mode edges, slice events, completions, alarms and their responses. -/

namespace Sys2Proof.Machine

/-! ### Groups -/

/-- Change the time group. -/
def Dev.onTime (d : Dev) (f : TimeSt → TimeSt) : Dev := { d with time := f d.time }
/-- Change the modes group. -/
def Dev.onModes (d : Dev) (f : ModeSt → ModeSt) : Dev := { d with modes := f d.modes }
/-- Change the power group. -/
def Dev.onPower (d : Dev) (f : PowerSt → PowerSt) : Dev := { d with power := f d.power }
/-- Change the host group. -/
def Dev.onHost (d : Dev) (f : HostSt → HostSt) : Dev := { d with host := f d.host }
/-- Change the disp group. -/
def Dev.onDisp (d : Dev) (f : DispSt → DispSt) : Dev := { d with disp := f d.disp }
/-- Change the units group. -/
def Dev.onUnits (d : Dev) (f : Tab Nat Unit → Tab Nat Unit) : Dev := { d with units := f d.units }
/-- Change the hearths group. -/
def Dev.onHearths (d : Dev) (f : Tab Nat HearthMem → Tab Nat HearthMem) : Dev := { d with hearths := f d.hearths }
/-- Change the slices group. -/
def Dev.onSlices (d : Dev) (f : Tab Nat SliceSt → Tab Nat SliceSt) : Dev := { d with slices := f d.slices }
/-- Change the tamper group. -/
def Dev.onTamper (d : Dev) (f : TamperSt → TamperSt) : Dev := { d with tamper := f d.tamper }
/-- Change the backup group. -/
def Dev.onBackup (d : Dev) (f : BackupSt → BackupSt) : Dev := { d with backup := f d.backup }
/-- Change the mgmt group. -/
def Dev.onMgmt (d : Dev) (f : MgmtSt → MgmtSt) : Dev := { d with mgmt := f d.mgmt }
/-- Change the dict group. -/
def Dev.onDict (d : Dev) (f : Dict → Dict) : Dev := { d with dict := f d.dict }
/-- Change the vault group. -/
def Dev.onVault (d : Dev) (f : VaultSt → VaultSt) : Dev := { d with vault := f d.vault }
/-- Change the bellows group. -/
def Dev.onBellows (d : Dev) (f : BellowsSt → BellowsSt) : Dev := { d with bellows := f d.bellows }
/-- Change the tiles group. -/
def Dev.onTiles (d : Dev) (f : Tab Nat TileSt → Tab Nat TileSt) : Dev := { d with tiles := f d.tiles }
/-- Change the lib group. -/
def Dev.onLib (d : Dev) (f : LibSt → LibSt) : Dev := { d with lib := f d.lib }
/-- Change the quench group. -/
def Dev.onQuench (d : Dev) (f : Tab Nat QuenchSt → Tab Nat QuenchSt) : Dev := { d with quench := f d.quench }
/-- Change the monitors group. -/
def Dev.onMonitors (d : Dev) (f : Tab Nat MonRecord → Tab Nat MonRecord) : Dev := { d with monitors := f d.monitors }
/-- Change the lcy group. -/
def Dev.onLcy (d : Dev) (f : LcySt → LcySt) : Dev := { d with lcy := f d.lcy }
/-- Change the debug group. -/
def Dev.onDebug (d : Dev) (f : DebugSt → DebugSt) : Dev := { d with dbg := f d.dbg }
/-- Change the boot group. -/
def Dev.onBoot (d : Dev) (f : BootSt → BootSt) : Dev := { d with boot := f d.boot }


/-- Run a device operation on the state, leaving the queue. -/
def State.run (s : State) (f : Dev → Dev) : Host.Outcome State Fault Refusal := .next { s with dev := f s.dev }

/-- The same for a command that names part number `n` of `count`: a part that does not exist is a fault. (DESIGN CHOICE, assumption log 6) -/
def State.runPart (s : State) (n count : Nat) (f : Dev → Dev) : Host.Outcome State Fault Refusal :=
  if n < count then s.run f else .fault (.noSuchPart n)

/-! ### Dictionary values -/

/-- A numeric parameter's value (R518: the default where nothing has been written). -/
def Dev.num (d : Dev) (p : Param) (row : Nat) : Nat := tabGet (catDefault p) (p, row) d.dict.nums

/-- Write a numeric parameter. -/
def Dev.setNum (d : Dev) (p : Param) (row v : Nat) : Dev :=
  d.onDict (fun c => { c with nums := tabSet (p, row) v c.nums })

/-- Add to a counter; 64-bit counters wrap. -/
def Dev.addNum (d : Dev) (p : Param) (row v : Nat) : Dev := d.setNum p row ((d.num p row + v) % 2 ^ 64)

/-- An octet parameter's value; empty where nothing has been written. -/
def Dev.oct (d : Dev) (p : Param) (row : Nat) : Bytes := tabGet [] (p, row) d.dict.octs

/-- Write an octet parameter. -/
def Dev.setOct (d : Dev) (p : Param) (row : Nat) (v : Bytes) : Dev :=
  d.onDict (fun c => { c with octs := tabSet (p, row) v c.octs })

/-- A BOOL parameter's value. -/
def Dev.flag (d : Dev) (p : Param) (row : Nat) : Bool := d.num p row == 1

/-! ### Time, free values, output -/

/-- Device time (R492). (DESIGN CHOICE, assumption log 111) -/
def Dev.now (d : Dev) : Nat := d.time.dev

/-- Ticks in one microsecond and one second of device time (R492). -/
def ticksPerUs : Nat := 100
def ticksPerS : Nat := 100000000

/-- The index of the next free value, and the device with it used up (assumption log 3). -/
def Dev.fresh (d : Dev) : Nat × Dev := (d.freeCtr, { d with freeCtr := d.freeCtr + 1 })

/-- `n` bytes of draw number `i` (R345). -/
def drawBytes (i n : Nat) : Bytes := (List.range n).map (Config.drawByte i)

/-- The device identity, the MAC address (R521). -/
def deviceIdentity : Bytes := unitBytes 0 32
def macAddress : Bytes := unitBytes 1 6

/-- Send something out. -/
def Dev.emit (d : Dev) (e : Emit) : Dev := { d with out := d.out ++ [e] }

/-- Send one MSI-X message on a vector, or set its pending bit where the vector or the function is masked (R57). -/
def Dev.interrupt (d : Dev) (v : Nat) : Dev :=
  let e := tabGet MsixEntry.reset v d.host.msix
  if e.masked || d.host.functionMask then d.onHost (fun h => { h with msix := tabSet v { e with pending := true } h.msix })
  else d.emit (.msix v)

/-- A session ends, and with it the tickets it opened (R508, R514). -/
def Dev.endSession (d : Dev) (n : Nat) : Dev :=
  d.onMgmt (fun g => { g with sessions := tabErase n g.sessions, shakes := tabErase n g.shakes, tickets := g.tickets.filter (fun t => t.origin != n) })

/-- A session's next record may go out: its number is no greater than 2^32 − 1; else the session ends (R503). (DEDUCED, assumption log 64) -/
def Dev.countRecord (d : Dev) (n : Nat) : Bool × Dev :=
  match tabGet? n d.mgmt.sessions with
  | none => (false, d)
  | some s =>
    if s.sendSeq ≥ 2 ^ 32 then (false, d.endSession n)
    else (true, d.onMgmt (fun g => { g with sessions := tabSet n { s with sendSeq := s.sendSeq + 1 } g.sessions }))

/-- Send one NOTIFY to a session (R515). -/
def Dev.notifyOne (d : Dev) (n kind : Nat) (data : Bytes) : Dev :=
  match d.countRecord n with
  | (false, d) => d
  | (true, d) =>
    match tabGet? n d.mgmt.sessions with
    | none => d
    | some s => (d.onMgmt (fun g => { g with sessions := tabSet n { s with nseq := s.nseq + 1 } g.sessions })).emit (.notify n s.nseq kind data)

/-- Send one NOTIFY to every client session whose role satisfies `p` (R515). -/
def Dev.notifyAll (d : Dev) (p : Nat → Bool) (kind : Nat) (data : Bytes) : Dev :=
  d.mgmt.sessions.foldl (fun x e => if !e.2.peer && p e.2.role then x.notifyOne e.1 kind data else x) d

/-! ### Modes -/

/-- The code of a mode (R475). (DESIGN CHOICE, assumption log 19) -/
def Mode.code : Mode → Nat
  | .off => 0 | .backup => 1 | .boot => 2 | .service => 3 | .partService => 4 | .quiesced => 5 | .sealed => 6 | .debug => 7

/-- The code of an edge kind in MOD_LOG (R522). -/
def EdgeKind.code : EdgeKind → Nat
  | .host => 0 | .alarm => 1 | .power => 2

/-- Is the mode one in which main power runs the device? -/
def Mode.powered : Mode → Bool
  | .off => false | .backup => false | _ => true

/-- Append a MOD_LOG entry, 256 rows in a ring (R522), and notify every session (R515). -/
def Dev.logMode (d : Dev) (kind old new edge cause : Nat) : Dev :=
  let e : ModLogEntry := { time := d.now, kind := kind, old := old, new := new, edge := edge, cause := cause }
  let log := d.modes.log ++ [e]
  let d := d.onModes (fun m => { m with log := log.drop (log.length - 256) })
  d.notifyAll (fun _ => true) 4 (natLE 8 e.time ++ natLE 1 kind ++ natLE 1 old ++ natLE 1 new ++ natLE 1 edge ++ natLE 4 cause)

/-- A new tick: no edge has been taken in it yet (R16). -/
def ModeSt.newTick (m : ModeSt) : ModeSt := { m with tickAlarms := 0, tickPower := false }

/-- The mode log before the alarm-forced edges of the present tick, and the mode they left: a power-forced edge of the same tick is taken in their place (R16). -/
def ModeSt.beforeAlarms (m : ModeSt) : List ModLogEntry × Nat :=
  let n := m.log.length - m.tickAlarms
  (m.log.take n, match m.log[n]? with | some e => e.old | none => m.mode.code)

/-- Take a mode edge (R15): record it with its kind and stamp. A reset of the main domains ends with the edge out of BOOT (R494). Of an alarm-forced
and a power-forced edge in one tick, the power-forced edge alone is taken (R16). (DESIGN CHOICE, assumption log 1) -/
def Dev.takeEdge (d : Dev) (next : Mode) (k : EdgeKind) (cause : Nat) : Dev :=
  if k == .alarm && d.modes.tickPower then d
  else
    let (log, old) := if k == .power then d.modes.beforeAlarms else (d.modes.log, d.modes.mode.code)
    (d.onModes (fun m => { m with mode := next, inReset := if next == .boot then m.inReset else none, log := log,
                                  tickAlarms := if k == .alarm then m.tickAlarms + 1 else 0, tickPower := m.tickPower || k == .power })).logMode 0 old next.code k.code cause

/-- A reset that one in progress contains has no effect; RST_LAST_CAUSE records it (R496). (DEDUCED, assumption log 49) -/
def Dev.absorbed (d : Dev) (kind : Nat) : Dev := d.onModes (fun m => { m with lastReset := kind, lastResetSource := 0 })

/-- READY (R12). -/
def Dev.ready (d : Dev) : Bool := d.modes.mode == .service || d.modes.mode == .partService

/-! ### Units and domains -/

/-- Unit numbers: tiles, big-number engines, symmetric engines; in all. -/
def nTiles : Nat := 128
def nHammers : Nat := 32
def nFullers : Nat := 16
def nUnits : Nat := 176

/-- The hearth and quadrant of a unit (chapter 1). -/
def hearthOf (u : Nat) : Nat := if u < 128 then u / 8 else if u < 160 then (u - 128) / 2 else u - 160
def quadOf (u : Nat) : Nat := hearthOf u / 4
/-- The tiles of a quadrant (R9). -/
def quadTiles (q : Nat) : List Nat := (List.range 32).map (fun i => 32 * q + i)

/-- The places of work that are no unit of the pool: the software port and the key vault. (DEDUCED, assumption log 108) -/
def portUnit : Nat := 176
def vaultUnit : Nat := 177

/-- The ENGINE class of a place of work (R47). (DEDUCED, assumption log 104) -/
def classOf (u : Nat) : Nat := if u < 128 then 1 else if u < 160 then 2 else if u < 176 then 3 else if u == portUnit then 4 else 5

/-- A unit's record. -/
def Dev.unit (d : Dev) (u : Nat) : Unit := tabGet Unit.reset u d.units

/-- Change one unit. -/
def Dev.onUnit (d : Dev) (u : Nat) (f : Unit → Unit) : Dev := d.onUnits (tabSet u (f (d.unit u)))

/-- Change every unit. -/
def Dev.onEveryUnit (d : Dev) (f : Nat → Unit → Unit) : Dev :=
  d.onUnits (fun _ => (List.range nUnits).map (fun u => (u, f u (d.unit u))))

/-- The state of a power domain (R485). (DESIGN CHOICE, assumption log 18) -/
def Dev.domain (d : Dev) (n : Nat) : DomainState := tabGet (if n == 20 then .off else .on) n d.power.domains

/-- The blocks of R9: a tile with its memory, key register, spark generator and sensors, its long-vector unit, a hearth's engines and memory, and the rest. -/
inductive Block where
  | tile (t : Nat)
  | longVector (t : Nat)
  | hammer (e : Nat)
  | fuller (h : Nat)
  | hearthMemory (h : Nat)
  | tuyere
  | smith
  | vault
  | bellows
  | pcieController
  | pciePhy
  | macA
  | macB
  | flash
  | service
  | monitors
  | otp
  | jtag
  | backup
  deriving DecidableEq, Repr

/-- The power domain of a block, numbered as R483 does (R9). -/
def Block.powerDomain : Block → Nat
  | .tile t => 4 + t / 32
  | .longVector t => 12 + t / 32
  | .hammer e => 8 + e / 8
  | .fuller h => 8 + h / 4
  | .hearthMemory h => 8 + h / 4
  | .tuyere => 3
  | .smith => 3
  | .vault => 16
  | .bellows => 17
  | .pcieController => 18
  | .pciePhy => 18
  | .macA => 1
  | .macB => 1
  | .flash => 19
  | .service => 1
  | .monitors => 1
  | .otp => 20
  | .jtag => 1
  | .backup => 2

/-- The clock domain of a block, numbered as R491 does (R9). -/
def Block.clockDomain : Block → Nat
  | .tile t => 1 + t / 32
  | .longVector t => 5 + t / 32
  | .hammer e => 9 + e / 8
  | .fuller h => 9 + h / 4
  | .hearthMemory h => 9 + h / 4
  | .smith => 13
  | .tuyere => 14
  | .vault => 15
  | .bellows => 16
  | .pcieController => 17
  | .pciePhy => 18
  | .macA => 19
  | .macB => 20
  | .flash => 21
  | .service => 22
  | .otp => 22
  | .monitors => 23
  | .jtag => 24
  | .backup => 25

/-- The frequency of a clock domain in hertz; the PCIe PHY's is the link's, and TCK's comes from outside (R491). -/
def clockHz (n : Nat) : Option Nat :=
  if n ≤ 8 then some 1600000000 else if n ≤ 12 then some 1200000000 else if n ≤ 15 then some 800000000 else if n == 16 then some 400000000
  else if n == 17 then some 1200000000 else if n == 18 then none else if n ≤ 20 then some 125000000 else if n == 21 then some 200000000
  else if n == 22 then some 400000000 else if n == 23 then some 100000000 else if n == 24 then none else some 32768

/-- The power domain that a clock domain stops with (R491). -/
def clockPower (n : Nat) : Nat :=
  if n ≤ 4 then 3 + n else if n ≤ 8 then 7 + n else if n ≤ 12 then n - 1 else if n ≤ 14 then 3 else if n == 15 then 16 else if n == 16 then 17
  else if n ≤ 18 then 18 else if n ≤ 20 then 1 else if n == 21 then 19 else if n ≤ 24 then 1 else 2

/-- The block a unit of the pool is. -/
def blockOf (u : Nat) : Block := if u < 128 then .tile u else if u < 160 then .hammer (u - 128) else .fuller (u - 160)

/-- The domain of a unit (R9, R483). -/
def unitDomain (u : Nat) : Nat := (blockOf u).powerDomain

/-- A domain has power: on, or still draining (R486). -/
def Dev.domainLive (d : Dev) (n : Nat) : Bool := d.domain n == .on || d.domain n == .draining

/-- Is the unit's power on: its domain's, and a tile's switch closed or its tile still draining (R483, R486)? -/
def Dev.unitPowered (d : Dev) (u : Nat) : Bool :=
  d.domainLive (unitDomain u) && !(u < 128 && d.power.openSwitches.contains u && (d.unit u).pool != .draining && (d.unit u).pool != .inPool)

/-- A configured unit (R12): a tile or big-number engine whose power the host has left on; one being switched off is none (R486). (DEDUCED, assumption log 46) -/
def Dev.configured (d : Dev) (u : Nat) : Bool :=
  u < 160 && d.domain (unitDomain u) == .on && !(u < 128 && d.power.openSwitches.contains u) && (d.unit u).pool != .off

/-- SERVICE when every configured unit is IN_POOL, else PARTIAL (R12, R15, R81). -/
def Dev.serviceMode (d : Dev) : Mode :=
  if (List.range 160).all (fun u => !d.configured u || (d.unit u).pool == .inPool) then .service else .partService

/-- Move between SERVICE and PARTIAL by the state of the units (R15). (DEDUCED, assumption log 46) -/
def Dev.settleService (d : Dev) (k : EdgeKind) (cause : Nat) : Dev :=
  match d.modes.mode with
  | .service => if d.serviceMode == .partService then d.takeEdge .partService k cause else d
  | .partService => if d.serviceMode == .service then d.takeEdge .service .host cause else d
  | _ => d

/-- A move into or out of IN_POOL becomes pending for the next boundary (R82), in place of an earlier one of the unit. -/
def Dev.poolChange (d : Dev) (m : PoolMove) : Dev := d.onDisp (fun x => { x with changes := x.changes.filter (fun c => c.unit != m.unit) ++ [m] })

/-- The unit's departure from the pool is pending (R82): it takes no assignment any more. -/
def Dev.leaving (d : Dev) (u : Nat) : Bool := d.disp.changes.any (fun c => c.unit == u && c.target != .inPool)

/-- A unit's pool state changes now (R81). PARTIAL ends only as a unit joins (R15): a unit that the host switches off changes no mode (R486). -/
def Dev.putPool (d : Dev) (u : Nat) (p : PoolState) (k : EdgeKind) : Dev :=
  let d := d.onUnit u (fun x => { x with pool := p, drainEdge := if p == .draining then k else x.drainEdge, outEdge := if p == .out then k else x.outEdge })
  if u < 160 && (p == .inPool || d.modes.mode == .service) then d.settleService k (0x10000 + u) else d

/-- Take an edge of R81: a move out of IN_POOL waits for the next epoch boundary, where it takes effect with every other pending change (R82). -/
def Dev.setPool (d : Dev) (u : Nat) (p : PoolState) (k : EdgeKind) : Dev :=
  if (d.unit u).pool == .inPool && p != .inPool then
    (if p == .draining && d.leaving u then d else d.poolChange { unit := u, target := p, edge := k })
  else d.putPool u p k

/-- The spark generator of a unit delivers in `n` more cycles (R111, R250). -/
def Dev.sparkDraw (d : Dev) (u n : Nat) : Dev := d.onUnit u (fun x => { x with spark := { x.spark with count := x.spark.count + n } })

/-- Scrub-mode cycles of a unit's memory and of its key register (R96, R108, R116, R249, R271): 2,048 bits in each of a tile's, 1,024 in an engine's. A symmetric engine
has no memory to scrub, and erases its 4 KiB of context shares at 64 bits in each (R279). (DEDUCED, assumption log 119) -/
def scrubCycles (u : Nat) : Nat := if u < 128 then 1024 else if u < 160 then 512 else 0
def keyScrubCycles (u : Nat) : Nat := if u < 128 then 512 else if u < 160 then 128 else 512

/-- The array of the key register takes scrub output, its seeds are zeroed; a symmetric engine's contexts are erased (R108, R280). -/
def Dev.dropKey (d : Dev) (u : Nat) : Dev :=
  let (n, d) := d.fresh
  d.onUnit u (fun x => { x with key := none, contexts := [], refreshDue := false, keyReg := { array := { scrub := some n, cells := [] }, seeds := [] } })

/-- Clear a key register alone (R108). -/
def Dev.clearKey (d : Dev) (u : Nat) : Dev := (d.dropKey u).sparkDraw u (keyScrubCycles u)

/-- Start the scrub of a unit's memory (R116, R271, R280): it holds the n-th scrub output, and the unit takes no operation until the scrub ends.
(DESIGN CHOICE, assumption log 94) -/
def Dev.scrubMemory (d : Dev) (u : Nat) : Dev :=
  if u ≥ nUnits then d else
  let (n, d) := d.fresh
  let d := (d.onUnit u (fun x => { x with scrubbing := true, work := [], opened := [], staging := (List.range x.staging.length).map (Config.scrubByte n), operand := if 128 ≤ u && u < 160 then { scrub := some n, cells := [] } else x.operand })).sparkDraw u (scrubCycles u)
  if u < 128 then d.onTiles (fun t => tabMod TileSt.reset u (fun y => { y with mem := { scrub := some n, cells := [] }, staged := [] }) t) else d

/-- A scalar register; s0 reads 0 (R125). -/
def TileSt.sget (y : TileSt) (r : BitVec 5) : Nat := if r = 0 then 0 else tabGet 0 r.toNat y.s

/-- The 64 bytes of a vector register in a plane: where never written since a scrub, what the scrub left (R126). (DEDUCED, assumption log 10) -/
def TileSt.vbytes (y : TileSt) (p r : Nat) : Bytes :=
  match tabGet? (p, r) y.v with
  | some b => b
  | none => match y.regScrub with
    | none => zeros 64
    | some n => (List.range 64).map (fun i => Config.scrubByte n (0x40000 + (p * 32 + r) * 64 + i))

/-- A tile's vector and scalar registers hold values that the model does not follow: the n-th scrub output. -/
def Dev.freeRegs (d : Dev) (t : Nat) : Dev :=
  let (n, d) := d.fresh
  let s := (List.range 32).map (fun r => (r, leNat ((List.range 8).map (fun i => Config.scrubByte n (0x60000 + 8 * r + i)))))
  d.onTiles (fun y => tabMod TileSt.reset t (fun y => { y with s := s, v := [], regScrub := some n }) y)

/-- Start a unit's whole scrub (R116): a tile's vector and scalar registers are overwritten too. -/
def Dev.scrub (d : Dev) (u : Nat) : Dev := if u < 128 then (d.scrubMemory u).freeRegs u else d.scrubMemory u

/-- What an operation that the model computes as a whole leaves in its unit (R117, R271): its memory and registers hold values that the model does not follow. -/
def Dev.usedMemory (d : Dev) (u : Nat) : Dev :=
  let (n, d) := d.fresh
  if u < 128 then (d.onTiles (fun t => tabMod TileSt.reset u (fun y => { y with mem := { scrub := some n, cells := [] } }) t)).freeRegs u
  else if u < 160 then d.onUnit u (fun x => { x with operand := { scrub := some n, cells := [] } }) else d

/-- Scrub a unit and clear its key register in parallel (R116). -/
def Dev.wipe (d : Dev) (u : Nat) : Dev := (d.dropKey u).scrub u

/-- Clear every key register and context whose key satisfies `p` (R108). -/
def Dev.clearKeysWhere (d : Dev) (p : KeyHeld → Bool) : Dev :=
  (List.range nUnits).foldl (fun d u =>
    if (d.unit u).key.any p then d.clearKey u
    else if (d.unit u).contexts.any (fun c => p c.held) then
      (d.onUnit u (fun x => { x with contexts := x.contexts.filter (fun c => !p c.held) })).sparkDraw u (16 * ((d.unit u).contexts.filter (fun c => p c.held)).length)
    else d) d

/-- The shares of a key, freshly drawn: share 0 in full, the others as seeds; the whole previous content is overwritten (R106, R107). A big-number engine holds
two shares (R251), a symmetric engine holds contexts instead (R280). -/
def Dev.loadShares (d : Dev) (u : Nat) (h : KeyHeld) (key : Bytes) : Dev :=
  let (n, d) := d.fresh
  let seeds := (List.range (if u < 128 then h.order else 1)).map (fun k => (List.range 4).flatMap (fun i => natLE 8 (Config.sparkWord n (4 * k + i)).toNat))
  let share0 := (List.range key.length).map (fun i => seeds.foldl (fun a s => a ^^^ Config.seedStream s i) (key.getD i 0))
  d.onUnit u (fun x => { x with key := some h, refreshDue := false, keyReg := { array := ({ scrub := none, cells := [] } : Memory).write 0 share0, seeds := seeds } })

/-- Two fresh Boolean shares of the `i`-th key of a draw (R279). -/
def contextShares (n i : Nat) (key : Bytes) : List Bytes :=
  let a := (List.range key.length).map (fun k => BitVec.ofNat 8 (Config.sparkWord n (64 * i + k)).toNat)
  [xorBytes key a, a]
/-- The key of a context, recombined: only the datapaths read it (R280). -/
def Context.value (c : Context) : Bytes := xorBytes (c.shares.getD 0 []) (c.shares.getD 1 [])

/-- Load keys into contexts of a symmetric engine, ahead of those it holds; of more than 32, the oldest go (R279, R280). (DEDUCED, assumption log 119) -/
def Dev.loadContexts (d : Dev) (u : Nat) (l : List (KeyHeld × Bytes)) : Dev :=
  let (n, d) := d.fresh
  let new := (l.zip (List.range l.length)).map (fun e => ({ held := e.1.1, shares := contextShares n e.2 e.1.2 } : Context))
  d.onUnit u (fun x => { x with contexts := (new ++ x.contexts.filter (fun c => !new.any (fun k => k.held.node == c.held.node))).take 32 })

/-- The key that a key register holds, recombined: no part of the device forms it (R109). -/
def KeyReg.value (k : KeyReg) (n : Nat) : Bytes := (List.range n).map (fun i => k.seeds.foldl (fun a s => a ^^^ Config.seedStream s i) (k.array.byte i))

/-- New shares of the same value (R323): both take the same fresh mask, so the value is never formed. -/
def remask (k i : Nat) (l : List Bytes) : List Bytes := l.map (fun b => xorBytes b ((List.range b.length).map (fun j => BitVec.ofNat 8 (Config.sparkWord k (2 ^ 32 * i + j)).toNat)))

/-- A refresh (R109, R323): new seeds, and share 0 rewritten so that the shared value stays; at most 1,100 tile cycles draw spark output. -/
def Dev.refreshKey (d : Dev) (u : Nat) : Dev :=
  let drawn := fun (d : Dev) => let (n, d) := d.fresh
                                d.sparkDraw u (Config.freeNat n % 1101)
  match (d.unit u).key with
  | none =>
    if (d.unit u).contexts.isEmpty then d
    else
      let (n, d) := d.fresh
      drawn (d.onUnit u (fun x => { x with contexts := (x.contexts.zip (List.range x.contexts.length)).map (fun e => { e.1 with shares := remask n e.2 e.1.shares }) }))
  | some h => drawn (d.loadShares u h ((d.unit u).keyReg.value 16384))

/-! ### Slice events -/

/-- A slice instance's record. -/
def Dev.sliceSt (d : Dev) (i : Nat) : SliceSt := tabGet SliceSt.reset i d.slices

/-- Change one slice instance. -/
def Dev.onSlice (d : Dev) (i : Nat) (f : SliceSt → SliceSt) : Dev := d.onSlices (tabSet i (f (d.sliceSt i)))

/-- Does an instance of the slice exist? -/
def Dev.sliceExists (d : Dev) (i : Nat) : Bool := (d.sliceSt i).state != .free

/-- Raise an event against a slice (R404): ring of 256 records, one message when it goes non-empty, the newest dropped and
counted when it is full. SLC_EVENT_VECTOR is a table entry of the slice's own range, as QP_MSIX_VECTOR is. (DESIGN CHOICE, assumption log 67) -/
def Dev.event (d : Dev) (i code queue d0 d1 : Nat) : Dev :=
  let s := d.sliceSt i
  if s.events.length ≥ 256 then d.onSlice i (fun s => { s with dropped := s.dropped + 1 })
  else
    let e : SliceEvent := { time := d.now, code := code, queue := queue, detail0 := d0, detail1 := d1 }
    let d := d.onSlice i (fun s => { s with events := s.events ++ [e] })
    let v := d.num P.slcEventVector i
    let lo := d.num P.slcMsixBase i
    if s.events.isEmpty && v != 0xFFFF && lo ≤ v && v < lo + d.num P.slcMsixCount i then d.interrupt v else d

/-! ### Requests -/

/-- A queue pair's record. -/
def Dev.qp (d : Dev) (q : Nat) : Qp := tabGet Qp.reset q d.host.qps

/-- Change one queue pair. -/
def Dev.onQp (d : Dev) (q : Nat) (f : Qp → Qp) : Dev := d.onHost (fun h => { h with qps := tabSet q (f (d.qp q)) h.qps })

/-- A request's record, if it is admitted and not yet published. -/
def Dev.req? (d : Dev) (r : Nat) : Option Request := tabGet? r d.disp.reqs

/-- Change one request, if it is there. -/
def Dev.onReq (d : Dev) (r : Nat) (f : Request → Request) : Dev :=
  match d.req? r with
  | none => d
  | some q => d.onDisp (fun x => { x with reqs := tabSet r (f q) x.reqs })

/-- A job's record. -/
def Dev.job? (d : Dev) (j : Nat) : Option Job := tabGet? j d.disp.jobs

/-- Change one job, if it is there. -/
def Dev.onJob (d : Dev) (j : Nat) (f : Job → Job) : Dev :=
  match d.job? j with
  | none => d
  | some x => d.onDisp (fun y => { y with jobs := tabSet j (f x) y.jobs })

/-- The request a computation is for: a shadow copy may outlast it (R84). -/
def Dev.jobReq (d : Dev) (x : Job) : Option Request :=
  match d.req? x.req with
  | some q => some q
  | none => x.copy

/-- The jobs of a request. -/
def Dev.jobsOf (d : Dev) (r : Nat) : List (Nat × Job) := d.disp.jobs.filter (fun e => e.2.req == r)

/-- Drop a job and free its unit, whose key register is refreshed now where a temper pass found it busy (R109); a DRAINING unit with nothing left goes OUT by the edge that drained it (R81). -/
def Dev.dropJob (d : Dev) (j : Nat) : Dev :=
  match d.job? j with
  | none => d
  | some x =>
    let d := d.onDisp (fun y => { y with jobs := tabErase j y.jobs })
    let u := x.unit
    if u ≥ nUnits then d
    else if (d.unit u).job == some j then
      let d := d.onUnit u (fun y => { y with job := none, refreshDue := false, refreshing := y.refreshing || (y.refreshDue && y.key.isSome) })
      if (d.unit u).pool == .draining then d.setPool u .out (d.unit u).drainEdge else d
    else d

/-- Abort a request's computations: each running unit is scrubbed (R116) and freed. -/
def Dev.dropJobs (d : Dev) (r : Nat) : Dev :=
  (d.jobsOf r).foldl (fun x e => (x.scrub e.2.unit).dropJob e.1) d

/-- Stage a request's completion: it has passed its release point and its record waits for ring space (R50, R90). The first completion of a request
stands: one aborted while its update committed keeps its status (R62, R94). -/
def Dev.complete (d : Dev) (r : Nat) (c : Completion) : Dev :=
  match d.req? r with
  | none => d
  | some q =>
    if q.phase == .staged then d
    else
      let d := d.onReq r (fun q => { q with phase := .staged, released := true, completion := some c })
      d.onQp q.qp (fun p => { p with staged := p.staged ++ [r] })

/-- A completion that carries only a status (R43, R46): OUT_LEN 0, ENGINE class 0x0. -/
def Completion.ofStatus (st : Nat) : Completion := { status := st, output := [], engineClass := 0, quadA := 0, quadB := 0 }

/-- Fail a request with a status: its computations are aborted, its output discarded. -/
def Dev.fail (d : Dev) (r st : Nat) : Dev := (d.dropJobs r).complete r (Completion.ofStatus st)

/-- QP_DISABLE ends when no admitted request is left (R24). -/
def Dev.qpSettled (d : Dev) (q : Nat) : Dev :=
  if (d.qp q).disabling && !d.disp.reqs.any (fun e => e.2.qp == q) then d.onQp q (fun p => { p with state := .disabled, disabling := false }) else d

/-- FROZEN_DRAINED (R405): the last drained request of a frozen slice has published. -/
def Dev.freezeSettled (d : Dev) (i : Nat) : Dev :=
  let s := d.sliceSt i
  if s.state == .frozen && !s.frozenDrained && !d.disp.reqs.any (fun e => e.2.slice == i) then
    (d.onSlice i (fun s => { s with frozenDrained := true })).event i 7 0xFFFF s.cancelled s.drainedCount
  else d

/-- A request leaves its queue pair's staged list; the wait that was counted was its own (R50). -/
def Qp.unstage (p : Qp) (r : Nat) : Qp :=
  { p with staged := p.staged.filter (· != r), waitCounted := p.waitCounted && p.staged.head? != some r }

/-- Drop a request without any host write (R93, R400): a record of an old generation counts in the slag counter. -/
def Dev.dropReq (d : Dev) (r : Nat) (slag : Bool) : Dev :=
  match d.req? r with
  | none => d
  | some q =>
    let d := d.dropJobs r
    let d := d.onDisp (fun x => { x with reqs := tabErase r x.reqs })
    let d := (d.onQp q.qp (fun p => p.unstage r)).qpSettled q.qp
    if slag then (d.addNum P.slcSlagCount q.slice 1).onSlice q.slice (fun s => { s with resetDrops := s.resetDrops + 1 }) else d

/-- A computation runs on a unit of the pool: it acts on an abort at its next checkpoint (R163, R272). -/
def Job.runs (x : Job) : Bool := x.unit < nUnits && x.begun.isSome && !x.finished && !x.kind.isShadow

/-- Records not written before an A4 response completes are lost (R62, R94): nothing of any request is left but the computations that run, up to their
next checkpoint (R163); an abort of status 0 leaves no record. -/
def Dev.loseRecords (d : Dev) : Dev :=
  let d := d.disp.reqs.foldl (fun x e =>
    if (x.jobsOf e.1).any (fun j => j.2.runs) then (x.jobsOf e.1).foldl (fun x j => x.onJob j.1 (fun y => { y with abort := some 0 })) x else x.dropReq e.1 false) d
  d.slices.foldl (fun x e => x.freezeSettled e.1) d

/-- Abort a request with a status (R94, R163, R272): what runs acts on it at its next checkpoint, the rest ends now, and with nothing that runs the
request fails now. -/
def Dev.abortReq (d : Dev) (r st : Nat) : Dev :=
  let js := d.jobsOf r
  if js.any (fun e => e.2.runs) then
    js.foldl (fun x e => if e.2.runs then x.onJob e.1 (fun y => { y with abort := some (y.abort.getD st) }) else (x.scrub e.2.unit).dropJob e.1) d
  else d.fail r st

/-- Abort every admitted request that is not past its release point with a status (R94). -/
def Dev.abortAll (d : Dev) (st : Nat) : Dev :=
  d.disp.reqs.foldl (fun x e => if e.2.released then x else x.abortReq e.1 st) d

/-- A unit's computation waits for its next checkpoint to end. -/
def Dev.aborting (d : Dev) (u : Nat) : Bool := d.disp.jobs.any (fun e => e.2.unit == u && e.2.runs && e.2.abort.isSome)

/-! ### Key vault, shared parts -/

/-- Raise STATEFUL_LOW for those of these stateful keys whose remaining indices have fallen below the threshold, once for each key (R231): its slice's
SLC_STATEFUL_LOW now, or that of the request that took an index. -/
def Dev.noteLow (d : Dev) (rising : List Nat) (low : Option Nat) : Dev :=
  d.vault.nodes.foldl (fun d e =>
    match e.2.stateful with
    | some s =>
      if rising.contains e.1 && !s.lowRaised && s.total - s.next < low.getD (d.num P.slcStatefulLow e.2.slice) then
        (d.onVault (fun v => { v with nodes := v.nodes.map (fun x => if x.1 == e.1 then (x.1, { x.2 with stateful := some { s with lowRaised := true } }) else x) })).event
          e.2.slice 4 0xFFFF (e.2.slice * 2 ^ 52 + e.1 * 2 ^ 24 + e.2.tag) (s.total - s.next)
      else d
    | none => d) d

/-- NEXT of these stateful keys becomes COMMITTED, their windows abandoned (R230); a reservation that is being journaled goes on. -/
def Dev.abandonOf (d : Dev) (l : List Nat) : Dev :=
  let rising := (d.vault.nodes.filter (fun e => l.contains e.1 && e.2.stateful.any (fun s => s.next < s.committed))).map Prod.fst
  (d.onVault (fun v => { v with nodes := v.nodes.map (fun e =>
    if l.contains e.1 then (e.1, { e.2 with stateful := e.2.stateful.map (fun s => { s with next := s.committed, window := false }) }) else e) })).noteLow rising none
/-- Abandon the windows of the stateful keys that satisfy `p`. -/
def Dev.abandonWindows (d : Dev) (p : Node → Bool) : Dev := d.abandonOf ((d.vault.nodes.filter (fun e => p e.2)).map Prod.fst)

/-- Lose every volatile object (R306, R411): their handles name nothing, and their tags stay used (R301). -/
def Dev.loseVolatile (d : Dev) : Dev :=
  d.onVault (fun v => { v with
    tags := v.nodes.foldl (fun t e => if e.1.testBit 27 then tabSet e.1 e.2.tag t else t) v.tags
    nodes := (v.nodes.filter (fun e => !e.1.testBit 27)).map (fun e => (e.1, { e.2 with resident := false, shares := [] }))
    misses := [], roomless := [] })

/-- One hearth's memory. -/
def Dev.hearth (d : Dev) (h : Nat) : HearthMem := tabGet HearthMem.reset h d.hearths
/-- Change one hearth's memory. -/
def Dev.onHearth (d : Dev) (h : Nat) (f : HearthMem → HearthMem) : Dev := d.onHearths (tabSet h (f (d.hearth h)))

/-- Drop the placements that satisfy `p`, of hearth and node: their space is free (R240, R241). -/
def Dev.dropPlacements (d : Dev) (p : Nat → Nat → Bool) : Dev :=
  d.onHearths (tabMap (fun h m => { m with objects := m.objects.filter (fun e => !p h e.1) }))

/-- Every hearth's memory is overwritten, each of its units' staging areas with it (R411). -/
def Dev.scrubHearths (d : Dev) : Dev :=
  let (n, d) := d.fresh
  d.onHearths (fun _ => (List.range 16).map (fun h => (h, { objects := [], scrub := some (n + h) })))

/-- A new calibration key is due (R362). -/
def Dev.newCalibration (d : Dev) : Dev :=
  let (n, d) := d.fresh
  d.onVault (fun v => { v with calibration := n, calibrationKey := none })

/-- Every instance waits for the two blocks of its instantiation, in order (R340, R346). -/
def instantiationWaiters : List BlockWaiter := (List.range 17).flatMap (fun i => [.inst i, .inst i])

/-- Is the waiter a prediction-resistance call? -/
def BlockWaiter.isCall : BlockWaiter → Bool
  | .call _ => true
  | .inst _ => false

/-- Take every DRBG instance and spark generator back to unseeded, and empty the pool (R358). -/
def Dev.unseed (d : Dev) : Dev :=
  let d := d.onBellows (fun b => { b with pool := [], instances := [], waiters := instantiationWaiters ++ b.waiters.filter BlockWaiter.isCall })
  d.onEveryUnit (fun _ u => { u with spark := Spark.reset })

/-- Discard every quench window (R379). -/
def Dev.discardWindows (d : Dev) : Dev :=
  d.onQuench (tabMap (fun _ q => { q with probes := 0, fixedCount := 0, randomCount := 0, acc := [], base := [], probing := false, probeEnded := none,
                                          windowEnded := false }))

/-! ### Alarms -/

/-- Default class of a source (R414); class 15 stands for a power event. (DEDUCED, assumption log 24) -/
def sourceDefault (s : Nat) : Nat :=
  if s / 16 == 0x10 then 1 else if s / 16 == 0x11 then 2 else if s / 16 == 0x12 then 3 else if s / 16 == 0x13 then 15
  else if s == 0x140 then 2 else if s / 16 == 0x20 || s / 16 == 0x21 then 2 else if s / 16 == 0x22 then 3 else if s == 0x230 then 2
  else if 0x300 ≤ s && s < 0x314 then 0 else if 0x320 ≤ s && s < 0x334 then 2 else if 0x340 ≤ s && s < 0x354 then 3
  else if s == 0x400 then 1 else if s == 0x401 then 2 else if s == 0x402 then 1 else if s == 0x500 then 4
  else if s == 0x600 then 2 else if s == 0x601 then 0 else if s / 16 == 0x70 then 4 else if s / 16 == 0x71 then 4
  else if s == 0x720 then 0 else if s == 0x721 then 4 else if s == 0x722 then 3 else if s == 0x723 then 4 else if s == 0x724 then 2
  else if s == 0x800 then 1 else if s == 0x801 then 0 else if s == 0x802 || s == 0x803 then 2 else if s == 0x804 then 0
  else if s == 0x805 || s == 0x806 then 2 else if s == 0x900 then 4 else 0

/-- Floor of a source (R414). (DEDUCED, assumption log 24) -/
def sourceFloor (s : Nat) : Nat :=
  if s / 16 == 0x12 then 2 else if s / 16 == 0x71 then 0 else if s == 0x722 then 2 else if s == 0x723 then 3 else sourceDefault s

/-- Does R414 list the source as an alarm? -/
def sourceListed (s : Nat) : Bool :=
  (0x100 ≤ s && s < 0x107) || (0x110 ≤ s && s < 0x117) || (0x120 ≤ s && s < 0x127) || s == 0x140 || (0x200 ≤ s && s < 0x206) ||
  (0x210 ≤ s && s < 0x216) || (0x220 ≤ s && s < 0x226) || s == 0x230 || (0x300 ≤ s && s < 0x314) || (0x320 ≤ s && s < 0x334) ||
  (0x340 ≤ s && s < 0x354) || (0x400 ≤ s && s ≤ 0x402) || s == 0x500 || s == 0x600 || s == 0x601 || (0x700 ≤ s && s < 0x708) ||
  (0x710 ≤ s && s < 0x714) || (0x720 ≤ s && s ≤ 0x724) || (0x800 ≤ s && s ≤ 0x806) || s == 0x900

/-- Does the source have unit scope (R414)? -/
def sourceUnit (s : Nat) : Bool := s == 0x400 || s == 0x401 || (0x800 ≤ s && s ≤ 0x806)

/-- Is the source one of the backup domain (R414 "Always")? -/
def sourceBackup (s : Nat) : Bool := 0x700 ≤ s && s < 0x800

/-- The class of a source now: its TMP_CLASS row, where none is written the default of R414 (R412). (DEDUCED, assumption log 24) -/
def Dev.sourceClass (d : Dev) (s : Nat) : Nat := tabGet (sourceDefault s) (P.tmpClass, s) d.dict.nums

/-- The bytes of an alarm-log entry (R438). -/
def AlarmEntry.bytes (e : AlarmEntry) : Bytes :=
  natLE 8 e.time ++ natLE 6 e.stamp ++ natLE 2 e.source ++ natLE 1 e.cls ++ natLE 1 e.applied ++ natLE 1 e.scope ++ natLE 1 e.unit ++
  natLE 1 (bnat e.test + 2 * bnat e.fromBackup + 4 * bnat e.acked) ++ zeros 3 ++ natLE 8 e.detail

/-- Append an alarm-log entry (R438: a ring of 1,024) and send the A0 notification (R411, R515). -/
def Dev.logAlarm (d : Dev) (e : AlarmEntry) : Dev :=
  let row := d.tamper.logNext % 1024
  let d := d.onTamper (fun t => { t with log := tabSet row e t.log, logNext := t.logNext + 1 })
  d.notifyAll (fun r => r == 2 || r == 3) 1 e.bytes

/-- The SCOPE and UNIT of an alarm entry (R438): 0 for device scope, else the kind and number of the unit. -/
def scopeOf (s u : Nat) : Nat × Nat :=
  if !sourceUnit s then (0, 0) else if s == 0x805 then (4, u) else if u < 128 then (1, u) else if u < 160 then (2, u - 128) else (3, u - 160)

/-- Record an alarm in the log with the class of the device response it took part in (R427). -/
def Dev.recordAlarm (d : Dev) (s u cls applied detail : Nat) (test : Bool) : Dev :=
  let (sc, un) := scopeOf s u
  d.logAlarm { time := d.now, stamp := d.time.stamp, source := s, cls := cls, applied := applied, scope := sc, unit := un, test := test,
               fromBackup := false, acked := false, detail := detail, blogSeq := none }

/-- Write a backup-log entry (R433, R434): into a free place, else over the oldest acknowledged entry, else over the oldest,
counting the loss. -/
def Dev.logBackup (d : Dev) (s cls detail : Nat) (erased scrap test : Bool) : Dev :=
  let e : BlogEntry :=
    { stamp := d.time.stamp, source := s, cls := cls, acked := false, scrapPending := scrap, emberErased := erased,
      onCell := !d.modes.mode.powered, test := test, seq := d.backup.logSeq, detail := detail, copied := d.modes.mode.powered }
  let full := d.backup.log.length ≥ 32
  let anyAcked := d.backup.log.any BlogEntry.acked
  let kept := if !full then d.backup.log else if anyAcked then d.backup.log.eraseP BlogEntry.acked else d.backup.log.drop 1
  let d := if full && !anyAcked then d.setNum P.tmpBlogLost 0 ((d.num P.tmpBlogLost 0 + 1) % 65536) else d
  d.onBackup (fun b => { b with log := kept ++ [e], logSeq := (b.logSeq + 1) % 65536 })

/-- A backup-log entry with main power on, and its copy in the alarm log (R434, R439). -/
def Dev.logCopied (d : Dev) (s cls applied detail : Nat) (erased test : Bool) : Dev :=
  let n := d.backup.logSeq
  (d.logBackup s cls detail erased false test).logAlarm
    { time := d.now, stamp := d.time.stamp, source := s, cls := cls, applied := applied, scope := 0, unit := 0, test := test, fromBackup := true, acked := false,
      detail := detail, blogSeq := some n }

/-- The class of the device response that an alarm of class `c` takes part in: the highest of its tick (R427). -/
def Dev.applied (d : Dev) (c : Nat) : Nat := if d.tamper.response.1 == d.now then Nat.max d.tamper.response.2 c else c
/-- An alarm joins the response of its tick: what else took part in it carries its class (R427, R428). (DEDUCED, assumption log 141) -/
def Dev.joinResponse (d : Dev) (c : Nat) : Dev :=
  let a := d.applied c
  d.onTamper (fun t => { t with
    response := (d.now, a)
    log := tabMap (fun _ e => if e.time == d.now && e.stamp == d.time.stamp && !e.test && (e.scope == 0 || e.cls ≥ 3) then { e with applied := Nat.max e.applied a } else e) t.log })

/-- Open the device-wide excursion window of a supply or clock finding (R416, R420): from 1 µs before now, and hold
key-bearing dispatch. -/
def Dev.openWindow (src : Nat) (d : Dev) : Dev :=
  d.onTamper (fun t => { t with windows := t.windows ++ [{ source := src, start := d.now - ticksPerUs, stop := none }], a1Hold := true })

/-- The open window of a finding gets its end (R416, R420): windows of other findings keep theirs, so where windows overlap the latest end counts. -/
def Dev.closeWindow (src stop : Nat) (d : Dev) : Dev :=
  d.onTamper (fun t => { t with windows := t.windows.map (fun w => if w.source == src && w.stop.isNone then { w with stop := some stop } else w) })

/-- Key-bearing dispatch resumes once every excursion window has ended (R91, R416). -/
def Dev.liftHold (d : Dev) : Dev :=
  if d.tamper.windows.all (fun w => match w.stop with | some e => e ≤ d.now | none => false) then d.onTamper (fun t => { t with a1Hold := false }) else d

/-- The A2 device response (R411, R15): to QUIESCED; a boot remembers it; DEBUG holds its requests. -/
def Dev.respondA2 (d : Dev) (cause : Nat) : Dev :=
  match d.modes.mode with
  | .service => d.takeEdge .quiesced .alarm cause
  | .partService => d.takeEdge .quiesced .alarm cause
  | .boot => d.onModes (fun m => { m with bootAlarm := true })
  | .debug => d.onModes (fun m => { m with hold := true })
  | _ => d

/-- The rights of an active debug certificate lapse (R462). -/
def Dev.lapseRights (d : Dev) : Dev := d.setNum P.dbgRights 0 0

/-- What A3 does to the working state (R411): requests aborted with 0x0701, shadow copies dropped, key registers cleared, memories overwritten, of a unit that runs at its next
checkpoint (R163); volatile objects lost, the DRBG instances and spark generators started again, a new calibration key, windows abandoned. -/
def Dev.zeroiseWorking (d : Dev) : Dev :=
  let d := d.abortAll 0x0701
  let d := (d.disp.jobs.filter (fun e => e.2.kind.isShadow)).foldl (fun x e => x.dropJob e.1) d
  let d := (List.range nUnits).foldl (fun x u => if (x.unit u).pool != .off && !x.aborting u then x.wipe u else x) d
  let d := (d.loseVolatile.abandonWindows (fun _ => true)).unseed
  (d.scrubHearths.newCalibration.discardWindows).lapseRights

/-- The A3 device response (R411). -/
def Dev.respondA3 (d : Dev) (cause : Nat) : Dev := d.zeroiseWorking.respondA2 cause

/-- The ember key is erased (R429, R432, R440): TAMPER_OUT is asserted. -/
def Dev.eraseEmber (d : Dev) : Dev :=
  d.onBackup (fun b => { b with emberShares := [], tamperOut := true, reprovisioned := false })

/-- Enter SCRAPPED (R437, R453, R454): F_SCR is programmed, after the bit of any burn in progress. (DEDUCED, assumption log 50) -/
def Dev.startScrap (d : Dev) : Dev :=
  let d := d.onPower (fun p => { p with domains := tabSet 20 .on p.domains })
  match d.lcy.burning with
  | some (f, _) => if f == 3 then d else d.onLcy (fun l => { l with scrapNext := true, burnStop := true })
  | none => d.onLcy (fun l => { l with burning := some (3, 0) })

/-- The key store is closed: the vault-engine registers are empty (R297, R325). -/
def Dev.closeStore (d : Dev) : Dev :=
  (d.onVault (fun v => { v with deviceRoot := none, master := none, domainRoot := none, roots := v.roots.map (fun e => (e.1, { e.2 with key := [] })) })).onModes
    (fun m => { m with storeOpen := false })

/-- The A4 device response (R411), with the kind of its mode edge: the ember key first, then everything of A3, then SEALED. (DESIGN CHOICE, assumption log 81) -/
def Dev.respondA4 (d : Dev) (k : EdgeKind) (cause : Nat) (scrapToo : Bool) : Dev :=
  let d := d.eraseEmber.zeroiseWorking.closeStore
  let d := match d.modes.mode with
    | .sealed => d
    | .off => d
    | .backup => d
    | _ => d.takeEdge .sealed k cause
  let d := d.loseRecords
  if scrapToo && d.flag P.tmpA4Scrap 0 then d.startScrap else d

/-- The device response of a class (R411): A1 opens the window its source opens itself. -/
def Dev.respond (d : Dev) (cls cause : Nat) : Dev :=
  match cls with
  | 0 => d
  | 1 => d
  | 2 => d.respondA2 cause
  | 3 => d.respondA3 cause
  | _ => d.respondA4 .alarm cause true

/-- The main domains' monitors watch: under main power, and to the end of the tick in which it went (R16). -/
def Dev.watching (d : Dev) : Bool := d.modes.mode.powered || d.modes.tickPower

/-- Raise an alarm of device scope (R411, R427, R432): while main power is off the backup domain acts alone; an alarm of the tick in which main power
went is recorded still, and one of class A4 has erased the ember key (R16). -/
def Dev.raise (d : Dev) (s detail : Nat) : Dev :=
  let c := d.sourceClass s
  if d.modes.mode.powered then
    let d := if c ≥ 4 then d.eraseEmber else d
    let a := d.applied c
    let d := d.joinResponse c
    let d := if sourceBackup s then d.logCopied s c a detail (c ≥ 4) false else d.recordAlarm s 0 c a detail false
    d.respond c s
  else if sourceBackup s then
    let scrap := c ≥ 4 && d.flag P.tmpA4Scrap 0
    (if c ≥ 4 then d.eraseEmber else d).logBackup s c detail (c ≥ 4) scrap false
  else if d.modes.tickPower then (if c ≥ 4 then d.eraseEmber else d).recordAlarm s 0 c c detail false
  else d

/-- Take a unit along the A2 edge to DRAINING, or OUT where it serves no live operation (R81). -/
def Dev.drainUnit (d : Dev) (u : Nat) (k : EdgeKind) : Dev :=
  match (d.unit u).pool with
  | .inPool => d.setPool u .draining k
  | .joining => d.setPool u .out k
  | .probation => d.setPool u .out k
  | .returning => d.setPool u .out k
  | _ => d

/-- Raise an alarm of unit scope (R411, R412): raised to A3 or A4 it acts device-wide; the unit's own action is the caller's. -/
def Dev.raiseUnit (d : Dev) (s u detail : Nat) : Dev :=
  let c := d.sourceClass s
  if c ≥ 3 then ((d.joinResponse c).recordAlarm s u c (d.applied c) detail false).respond c s
  else d.recordAlarm s u c 0 detail false

/-! ### Monitors' records (R384, R385) -/

/-- ⌊log2 n⌋ for n > 0. -/
def log2 (n : Nat) : Nat := Nat.log2 n

/-- The bin of a sample (R384). -/
def monBin (log : Bool) (base : Int) (k : Nat) (x : Int) : Nat :=
  let dif := x - base
  if !log then
    if dif < 0 then 0 else Nat.min (dif.toNat / 2 ^ k) 63
  else if dif < (2 ^ k : Nat) then 0
  else
    let n := dif.toNat
    let l := log2 n
    let m := if l ≥ 2 then n / 2 ^ (l - 2) % 4 else if l == 1 then n % 2 * 2 else 0
    Nat.min (1 + 4 * (l - k) + m) 63

/-- One sample into a record (R385): saturating sum and bins. -/
def MonRecord.add (r : MonRecord) (log : Bool) (base : Int) (k : Nat) (x : Int) : MonRecord :=
  let s := r.sum + x
  let hi : Int := 0x7FFFFFFFFFFFFFFF
  let lo : Int := -0x8000000000000000
  let b := monBin log base k x
  let c := tabGet 0 b r.bins
  { r with count := r.count + 1, sum := if s > hi then hi else if s < lo then lo else s, sumSat := r.sumSat || decide (s > hi) || decide (s < lo),
           min := if x < r.min then x else r.min, max := if x > r.max then x else r.max,
           bins := tabSet b (if c ≥ 0xFFFFFFFF then 0xFFFFFFFF else c + 1) r.bins, binSat := r.binSat || decide (c ≥ 0xFFFFFFFF),
           armedSamples := r.armedSamples + 1 }

/-- What a record sums up, and a record with other sums. -/
def MonRecord.sums (r : MonRecord) : MonSums :=
  { count := r.count, sum := r.sum, min := r.min, max := r.max, sumSat := r.sumSat, binSat := r.binSat, bins := r.bins }
def MonRecord.withSums (r : MonRecord) (s : MonSums) : MonRecord :=
  { r with count := s.count, sum := s.sum, min := s.min, max := s.max, sumSat := s.sumSat, binSat := s.binSat, bins := s.bins }
/-- One sample at a time, kept apart while its tick lasts (R387). -/
def MonRecord.take (r : MonRecord) (now : Nat) (log : Bool) (base : Int) (k : Nat) (x : Int) : MonRecord :=
  let r := if r.tick == now then r else { r with tick := now, tickSamples := [], prior := r.sums }
  { r.add log base k x with tickSamples := r.tickSamples ++ [x] }

/-- A record as it is held; one not touched since all were cleared is empty, and an ARMED one waits for its arm (R386). -/
def Dev.monitorHeld (d : Dev) (n : Nat) : MonRecord :=
  tabGet { MonRecord.reset with start := d.time.monEpoch, running := d.num P.monCapture n != 1 } n d.monitors
/-- An armed capture has reached the end of its window (R386). -/
def MonRecord.expired (r : MonRecord) (now : Nat) : Bool := r.running && decide (0 < r.window) && decide (r.armedAt + r.window ≤ now)
/-- The record at a time: a capture whose window has ended is closed. -/
def MonRecord.at (r : MonRecord) (now : Nat) : MonRecord := if r.expired now then { r with running := false, stop := r.armedAt + r.window, armedDone := true } else r
/-- A monitor's record. -/
def Dev.monitor (d : Dev) (n : Nat) : MonRecord := (d.monitorHeld n).at d.now

/-- A signed 64-bit dictionary value. -/
def signed64 (v : Nat) : Int := if v < 2 ^ 63 then (v : Int) else (v : Int) - 2 ^ 64

/-- Sample a monitor (R381, R386): a closed capture takes none, and an armed one closes at its sample limit. -/
def Dev.sample (d : Dev) (n : Nat) (x : Int) : Dev :=
  let r := d.monitor n
  if !r.running then d
  else
    let r := r.take d.now (d.num P.monBinmode n == 1) (signed64 (d.num P.monBase n)) (d.num P.monWidthExp n) x
    let r := if r.limit > 0 && r.armedSamples ≥ r.limit then { r with running := false, stop := d.now, armedDone := true } else r
    d.onMonitors (tabSet n r)

end Sys2Proof.Machine
end

