-- ==== Sys2Proof/Machine/Operands.lean ====
section
/-! DEFINITION. The operands of the tile instruction set: scalar, vector and modulus registers, share planes, tile memory, the arithmetic
modulo q and in GF(2^m), and how an instruction ends (R125 to R136). -/

namespace Sys2Proof.Machine

/-! ### What an instruction sees and how it ends -/

/-- What an operation gives its instructions besides the tile's own state (R127, R154, R161). -/
structure TileCtx where
  /-- Effective masking order (R97). -/
  order : Nat
  /-- KLEN: key bytes of the operation (R127). -/
  keyLen : Nat
  /-- The key register: the array, the seeds of the other shares, and the form of the shares (R106). -/
  keyArr : Nat → Byte
  keySeeds : List Bytes
  keyForm : Nat
  input : Bytes
  outCap : Nat
  aux : Nat
  param : Nat
  opcode : Nat
  /-- The bound public object. -/
  pub : Bytes
  codeLen : Nat
  twLen : Nat
  tw : Nat → Nat
  /-- The microprogram declares long-vector use (R153). -/
  longVector : Bool
  /-- The free value that fresh shares of this instruction are drawn from (R112, R124). -/
  rnd : Nat

/-- How an instruction ends. -/
inductive TileOut where
  /-- It completes: the state with the next PC, its issue cycles (R171) and the spark outputs it takes (R111). -/
  | ok (y : TileSt) (cycles spark : Nat)
  /-- It ends the operation with a status of class 0x08, or 0x0104 (R165). -/
  | stop (y : TileSt) (status : Nat)
  /-- DONE and REJECT (R162): status and OUT_LEN. -/
  | ended (y : TileSt) (status outLen : Nat)
  deriving Repr

/-- An instruction's meaning on one tile. -/
abbrev TileOp := TileCtx → TileSt → TileOut

/-- Checks in the order of R166: the first that holds ends the operation with its status. -/
def checked (l : List (Bool × Nat)) (y : TileSt) (k : TileOut) : TileOut :=
  match l.find? (fun c => c.1) with
  | some c => .stop y c.2
  | none => k

/-- Complete, with the next instruction in line: PC has 16 bits (R125). -/
def TileSt.next (y : TileSt) (cycles spark : Nat) : TileOut := .ok { y with pc := (y.pc + 4) % 65536, vstart := 0 } cycles spark

/-- The same checks, of a vector instruction: past them, with VSTART at VL or above it changes nothing and takes one cycle (R130). -/
def vchecked (l : List (Bool × Nat)) (y : TileSt) (k : TileOut) : TileOut := checked l y (if y.vstart ≥ y.vl then y.next 1 0 else k)

/-! ### Registers -/

/-- Write a scalar register modulo 2^64; writes to s0 are ignored (R125). -/
def TileSt.sset (y : TileSt) (r : BitVec 5) (v : Nat) : TileSt := if r = 0 then y else { y with s := tabSet r.toNat (v % 2 ^ 64) y.s }

/-- A sign-extended immediate as 64 bits. -/
def simm (i : BitVec 16) : Nat := (i.signExtend 64).toNat

/-- VTYPE fields (R128). -/
def TileSt.ebytes (y : TileSt) : Nat := 2 ^ (y.vtype % 4)
def TileSt.ew (y : TileSt) : Nat := 8 * y.ebytes
def TileSt.shr (y : TileSt) : Bool := y.vtype.testBit 5
def TileSt.long (y : TileSt) : Bool := y.vtype.testBit 11
def TileSt.vlmax (y : TileSt) : Nat := if y.long then 16384 else 512 / y.ew
/-- Truncate to an element. -/
def TileSt.trunc (y : TileSt) (v : Nat) : Nat := v % 2 ^ y.ew
/-- The selected modulus register (R128, R132). -/
def TileSt.msel (y : TileSt) : Modulus := tabGet { kind := 0, value := 0, aux := 0 } (bits 10 8 y.vtype) y.m
/-- LVSS and TWB (R127). -/
def TileSt.lvss (y : TileSt) : Nat := tabGet 0 3 y.csr
def TileSt.twb (y : TileSt) : Nat := tabGet 0 0x0B y.csr

/-- Element `i` of a register in a plane. -/
def TileSt.elem (y : TileSt) (p r i : Nat) : Nat := leAt (i * y.ebytes) y.ebytes (y.vbytes p r)

/-- Planes in which an instruction acts (R135). -/
def TileSt.planes (y : TileSt) (c : TileCtx) : List Nat := if y.shr then [0] else List.range (c.order + 1)
/-- Their count, P of R171. -/
def TileSt.active (y : TileSt) (c : TileCtx) : Nat := (y.planes c).length

/-- Write the elements VSTART to VL − 1 of a register in one plane (R130). -/
def TileSt.vplane (y : TileSt) (p r : Nat) (g : Nat → Nat) : TileSt :=
  let old := y
  { y with v := tabSet (p, r) ((List.range (64 / y.ebytes)).flatMap (fun i =>
      natLE y.ebytes (if y.vstart ≤ i && i < y.vl then g i else old.elem p r i))) y.v }

/-- Write a vector destination: element `i` of plane `p` is `g p i`; in public mode planes 1 to ORDER become 0 (R135). -/
def TileSt.vput (y : TileSt) (c : TileCtx) (r : Nat) (g : Nat → Nat → Nat) : TileSt :=
  (List.range (c.order + 1)).foldl (fun x p => x.vplane p r (fun i => if y.shr && p > 0 then 0 else g p i)) y

/-- Write a public destination whatever the share mode. -/
def TileSt.vpublic (y : TileSt) (c : TileCtx) (r : Nat) (g : Nat → Nat) : TileSt :=
  (List.range (c.order + 1)).foldl (fun x p => x.vplane p r (fun i => if p > 0 then 0 else g i)) y

/-- The element indices an instruction processes. -/
def TileSt.indices (y : TileSt) : List Nat := (List.range y.vl).filter (fun i => y.vstart ≤ i)

/-! ### Arithmetic -/

/-- The carry-less product of the low `n` bits of `a` with `b`. -/
def clmul (b : Nat) : Nat → Nat → Nat
  | 0, _ => 0
  | n + 1, a => (if a % 2 == 1 then b else 0) ^^^ 2 * clmul b n (a / 2)

/-- Reduce a polynomial of at most `m + n` bits modulo x^m + poly. -/
def gfReduce (m poly : Nat) : Nat → Nat → Nat
  | 0, v => v % 2 ^ m
  | n + 1, v => gfReduce m poly n (if v.testBit (m + n) then v ^^^ ((2 ^ m + poly) * 2 ^ n) else v)

/-- The product in GF(2^m), m and f of a modulus register of KIND 1 (R132, R134). -/
def gfMul (k : Modulus) (a b : Nat) : Nat :=
  let m := bits 20 16 k.value
  gfReduce m (k.value % 65536 % 2 ^ m) m (clmul (b % 2 ^ m) m (a % 2 ^ m))

/-- a^(2^m − 2) in GF(2^m): the product of the squares a^2, a^4, …, a^(2^(m−1)) (R146). -/
def gfInv (k : Modulus) (a : Nat) : Nat :=
  let m := bits 20 16 k.value
  ((List.range (m - 1)).foldl (fun (s : Nat × Nat) _ => (gfMul k s.1 s.1, gfMul k s.2 (gfMul k s.1 s.1))) (a, 1)).2

/-- Decompose of FIPS 204: r1 of r with 2γ2 = g. -/
def highBits (q g r : Nat) : Nat :=
  let r0 := r % g
  let hi := if 2 * r0 > g then r - r0 + g else r - r0
  if hi == q - 1 then 0 else hi / g

/-- Number of set bits of the low `n`. -/
def popcount : Nat → Nat → Nat
  | 0, _ => 0
  | n + 1, v => v % 2 + popcount n (v / 2)

/-! ### Shares -/

/-- The value of Boolean shares and of arithmetic shares of element `i` (R135). -/
def TileSt.unbool (y : TileSt) (c : TileCtx) (r i : Nat) : Nat := (List.range (c.order + 1)).foldl (fun a p => a ^^^ y.elem p r i) 0
def TileSt.unarith (y : TileSt) (c : TileCtx) (q r i : Nat) : Nat := (List.range (c.order + 1)).foldl (fun a p => a + y.elem p r i) 0 % q

/-- Fresh share randomness: a free value (R112, R124). -/
def TileCtx.share (c : TileCtx) (p i : Nat) : Nat := (Config.sparkWord c.rnd (p * 65536 + i)).toNat

/-- Write a fresh Boolean sharing of `g i`. -/
def TileSt.putBool (y : TileSt) (c : TileCtx) (r : Nat) (g : Nat → Nat) : TileSt :=
  (List.range (c.order + 1)).foldl (fun x p => x.vplane p r (fun i =>
    if p > 0 then y.trunc (c.share p i)
    else (List.range c.order).foldl (fun a k => a ^^^ y.trunc (c.share (k + 1) i)) (y.trunc (g i)))) y

/-- Write a fresh arithmetic sharing of `g i` modulo q. -/
def TileSt.putArith (y : TileSt) (c : TileCtx) (q r : Nat) (g : Nat → Nat) : TileSt :=
  (List.range (c.order + 1)).foldl (fun x p => x.vplane p r (fun i =>
    if p > 0 then c.share p i % q
    else subMod q (g i) ((List.range c.order).foldl (fun a k => a + c.share (k + 1) i % q) 0))) y

/-! ### The word code (R99, R100) -/

/-- A checked word is 32 data symbols and 5 check symbols (R99). -/
def codeword (data : Bytes) : Bytes := data ++ (List.range 5).map (Config.checkSymbol data)
/-- The bank of a tile-memory address (R99). -/
def bankOf (a : Nat) : Nat := a / 32 % 8
/-- The code corrects any two erroneous symbols of a word and detects any three; more are taken as detected. (DESIGN CHOICE, assumption log 118) -/
def wordGood (x : WordRead) : Bool := x.symbols ≤ 2
/-- Words that the check corrects among these. -/
def correctedWords (w : WordCheck) : Nat := (w.filter (fun x => wordGood x && x.symbols > 0)).length

/-! ### Tile memory -/

/-- Tile memory is 256 KiB (R99). -/
def tileBytes : Nat := 0x40000

/-- `n` bytes of plane `p` of an operand at address `a` (R147). -/
def TileSt.mread (y : TileSt) (p a n : Nat) : Bytes := y.mem.read (a + p * y.lvss) n
/-- Write bytes to tile memory. -/
def TileSt.mwrite (y : TileSt) (a : Nat) (b : Bytes) : TileSt := { y with mem := y.mem.write a b }

/-- The LVSS rule of R147 fails for a masked operand of memory. (DEDUCED, assumption log 87) -/
def TileSt.lvssBad (y : TileSt) (c : TileCtx) : Bool := (!y.shr && c.order > 0 && y.lvss == 0) || y.lvss % 32 != 0

/-- Some plane of `n` bytes at `a` leaves tile memory (R147). -/
def TileSt.outOf (y : TileSt) (c : TileCtx) (a n : Nat) : Bool :=
  n > 0 && (y.planes c).any (fun p => a + p * y.lvss + n > tileBytes)

end Sys2Proof.Machine
end

