-- ==== Sys2Proof/Machine/Cipher.lean ====
section
/-! DEFINITION. The block ciphers AES (FIPS 197) and TDES (SP 800-67) and their modes, which R282 to R293 name. -/

namespace Sys2Proof.Machine

/-! ### AES -/

/-- A block: 16 numbers below 256. -/
abbrev Blk := List Nat

/-- Product in the field of AES. -/
def Aes.mul (a b : Nat) : Nat := gfReduce 8 0x1B 8 (clmul b 8 a)

/-- The inverse: x^254. -/
def Aes.inv (x : Nat) : Nat := ((List.range 7).foldl (fun (s : Nat × Nat) _ => (Aes.mul s.1 s.1, Aes.mul s.2 (Aes.mul s.1 s.1))) (x, 1)).2

/-- Rotate a byte left. -/
def Aes.rotl (n x : Nat) : Nat := (x * 2 ^ n + x / 2 ^ (8 - n)) % 256

/-- The substitution box and its inverse. -/
def Aes.sbox : List Nat := (List.range 256).map (fun x =>
  let b := Aes.inv x
  b ^^^ Aes.rotl 1 b ^^^ Aes.rotl 2 b ^^^ Aes.rotl 3 b ^^^ Aes.rotl 4 b ^^^ 0x63)
def Aes.invSbox : List Nat := (List.range 256).map (fun x => (Aes.sbox.findIdx? (· == x)).getD 0)

def Aes.sub (x : Nat) : Nat := Aes.sbox.getD x 0
def Aes.subInv (x : Nat) : Nat := Aes.invSbox.getD x 0

/-- The key schedule as words, newest first. -/
def Aes.expand (nk : Nat) : Nat → Nat → List (List Nat) → List (List Nat)
  | 0, _, ws => ws
  | n + 1, i, ws =>
    let prev := ws.headD []
    let t := if i % nk == 0 then
        match prev with
        | [a, b, c, d] => [Aes.sub b ^^^ (List.range (i / nk - 1)).foldl (fun r _ => Aes.mul r 2) 1, Aes.sub c, Aes.sub d, Aes.sub a]
        | _ => prev
      else if nk > 6 && i % nk == 4 then prev.map Aes.sub else prev
    Aes.expand nk n (i + 1) (List.zipWith (· ^^^ ·) (ws.getD (nk - 1) []) t :: ws)

/-- Cut a list into words of four. -/
def quads : Nat → List Nat → List (List Nat)
  | 0, _ => []
  | n + 1, l => l.take 4 :: quads n (l.drop 4)

/-- Cut into blocks of 16. -/
def sixteens : Nat → List Nat → List Blk
  | 0, _ => []
  | n + 1, l => l.take 16 :: sixteens n (l.drop 16)

/-- The round keys of a key. -/
def Aes.roundKeys (key : List Nat) : List Blk :=
  let nk := key.length / 4
  let total := 4 * (nk + 7)
  sixteens (nk + 7) ((Aes.expand nk (total - nk) nk (quads nk key).reverse).reverse.flatten)

def Aes.shiftRows (s : Blk) : Blk := (List.range 16).map (fun i => s.getD ((i + 4 * (i % 4)) % 16) 0)
def Aes.shiftBack (s : Blk) : Blk := (List.range 16).map (fun i => s.getD ((i + 16 - 4 * (i % 4)) % 16) 0)
/-- Multiply each column by a circulant row. -/
def Aes.mixWith (m : List Nat) (s : Blk) : Blk :=
  (List.range 16).map (fun i => (List.range 4).foldl (fun a k => a ^^^ Aes.mul (m.getD ((k + 4 - i % 4) % 4) 0) (s.getD (i / 4 * 4 + k) 0)) 0)
def xorN (a b : List Nat) : List Nat := List.zipWith (· ^^^ ·) a b

/-- Encrypt and decrypt one block under round keys. -/
def Aes.encrypt (rk : List Blk) (b : Blk) : Blk :=
  let mid := (rk.drop 1).dropLast
  let s := mid.foldl (fun s k => xorN (Aes.mixWith [2, 3, 1, 1] (Aes.shiftRows (s.map Aes.sub))) k) (xorN b (rk.headD []))
  xorN (Aes.shiftRows (s.map Aes.sub)) (rk.getLastD [])
def Aes.decrypt (rk : List Blk) (b : Blk) : Blk :=
  let mid := ((rk.drop 1).dropLast).reverse
  let s := mid.foldl (fun s k => Aes.mixWith [14, 11, 13, 9] (xorN ((Aes.shiftBack s).map Aes.subInv) k)) (xorN b (rk.getLastD []))
  xorN ((Aes.shiftBack s).map Aes.subInv) (rk.headD [])

/-- Numbers of bytes and back. -/
def nats (b : Bytes) : List Nat := b.map BitVec.toNat
def bytesN (l : List Nat) : Bytes := l.map (BitVec.ofNat 8)

/-- A block cipher on byte strings: block size, encryption, decryption. -/
structure Cipher where
  size : Nat
  enc : Bytes → Bytes
  dec : Bytes → Bytes

/-- AES under a key of 16, 24 or 32 bytes. -/
def aes (key : Bytes) : Cipher :=
  let rk := Aes.roundKeys (nats key)
  { size := 16, enc := fun b => bytesN (Aes.encrypt rk (nats b)), dec := fun b => bytesN (Aes.decrypt rk (nats b)) }

/-! ### TDES -/

/-- Initial permutation. -/
def Des.ip : List Nat := [58, 50, 42, 34, 26, 18, 10, 2, 60, 52, 44, 36, 28, 20, 12, 4, 62, 54, 46, 38, 30, 22, 14, 6, 64, 56, 48, 40, 32, 24, 16, 8, 57, 49, 41, 33, 25, 17, 9, 1, 59, 51, 43, 35, 27, 19, 11, 3, 61, 53, 45, 37, 29, 21, 13, 5, 63, 55, 47, 39, 31, 23, 15, 7]
/-- Final permutation. -/
def Des.fp : List Nat := [40, 8, 48, 16, 56, 24, 64, 32, 39, 7, 47, 15, 55, 23, 63, 31, 38, 6, 46, 14, 54, 22, 62, 30, 37, 5, 45, 13, 53, 21, 61, 29, 36, 4, 44, 12, 52, 20, 60, 28, 35, 3, 43, 11, 51, 19, 59, 27, 34, 2, 42, 10, 50, 18, 58, 26, 33, 1, 41, 9, 49, 17, 57, 25]
/-- Expansion. -/
def Des.e : List Nat := [32, 1, 2, 3, 4, 5, 4, 5, 6, 7, 8, 9, 8, 9, 10, 11, 12, 13, 12, 13, 14, 15, 16, 17, 16, 17, 18, 19, 20, 21, 20, 21, 22, 23, 24, 25, 24, 25, 26, 27, 28, 29, 28, 29, 30, 31, 32, 1]
/-- Permutation of a round. -/
def Des.p : List Nat := [16, 7, 20, 21, 29, 12, 28, 17, 1, 15, 23, 26, 5, 18, 31, 10, 2, 8, 24, 14, 32, 27, 3, 9, 19, 13, 30, 6, 22, 11, 4, 25]
/-- Permuted choice 1. -/
def Des.pc1 : List Nat := [57, 49, 41, 33, 25, 17, 9, 1, 58, 50, 42, 34, 26, 18, 10, 2, 59, 51, 43, 35, 27, 19, 11, 3, 60, 52, 44, 36, 63, 55, 47, 39, 31, 23, 15, 7, 62, 54, 46, 38, 30, 22, 14, 6, 61, 53, 45, 37, 29, 21, 13, 5, 28, 20, 12, 4]
/-- Permuted choice 2. -/
def Des.pc2 : List Nat := [14, 17, 11, 24, 1, 5, 3, 28, 15, 6, 21, 10, 23, 19, 12, 4, 26, 8, 16, 7, 27, 20, 13, 2, 41, 52, 31, 37, 47, 55, 30, 40, 51, 45, 33, 48, 44, 49, 39, 56, 34, 53, 46, 42, 50, 36, 29, 32]
/-- The selection functions. -/
def Des.s (k : Nat) : List Nat :=
  match k with
  | 0 => [14, 4, 13, 1, 2, 15, 11, 8, 3, 10, 6, 12, 5, 9, 0, 7, 0, 15, 7, 4, 14, 2, 13, 1, 10, 6, 12, 11, 9, 5, 3, 8, 4, 1, 14, 8, 13, 6, 2, 11, 15, 12, 9, 7, 3, 10, 5, 0, 15, 12, 8, 2, 4, 9, 1, 7, 5, 11, 3, 14, 10, 0, 6, 13]
  | 1 => [15, 1, 8, 14, 6, 11, 3, 4, 9, 7, 2, 13, 12, 0, 5, 10, 3, 13, 4, 7, 15, 2, 8, 14, 12, 0, 1, 10, 6, 9, 11, 5, 0, 14, 7, 11, 10, 4, 13, 1, 5, 8, 12, 6, 9, 3, 2, 15, 13, 8, 10, 1, 3, 15, 4, 2, 11, 6, 7, 12, 0, 5, 14, 9]
  | 2 => [10, 0, 9, 14, 6, 3, 15, 5, 1, 13, 12, 7, 11, 4, 2, 8, 13, 7, 0, 9, 3, 4, 6, 10, 2, 8, 5, 14, 12, 11, 15, 1, 13, 6, 4, 9, 8, 15, 3, 0, 11, 1, 2, 12, 5, 10, 14, 7, 1, 10, 13, 0, 6, 9, 8, 7, 4, 15, 14, 3, 11, 5, 2, 12]
  | 3 => [7, 13, 14, 3, 0, 6, 9, 10, 1, 2, 8, 5, 11, 12, 4, 15, 13, 8, 11, 5, 6, 15, 0, 3, 4, 7, 2, 12, 1, 10, 14, 9, 10, 6, 9, 0, 12, 11, 7, 13, 15, 1, 3, 14, 5, 2, 8, 4, 3, 15, 0, 6, 10, 1, 13, 8, 9, 4, 5, 11, 12, 7, 2, 14]
  | 4 => [2, 12, 4, 1, 7, 10, 11, 6, 8, 5, 3, 15, 13, 0, 14, 9, 14, 11, 2, 12, 4, 7, 13, 1, 5, 0, 15, 10, 3, 9, 8, 6, 4, 2, 1, 11, 10, 13, 7, 8, 15, 9, 12, 5, 6, 3, 0, 14, 11, 8, 12, 7, 1, 14, 2, 13, 6, 15, 0, 9, 10, 4, 5, 3]
  | 5 => [12, 1, 10, 15, 9, 2, 6, 8, 0, 13, 3, 4, 14, 7, 5, 11, 10, 15, 4, 2, 7, 12, 9, 5, 6, 1, 13, 14, 0, 11, 3, 8, 9, 14, 15, 5, 2, 8, 12, 3, 7, 0, 4, 10, 1, 13, 11, 6, 4, 3, 2, 12, 9, 5, 15, 10, 11, 14, 1, 7, 6, 0, 8, 13]
  | 6 => [4, 11, 2, 14, 15, 0, 8, 13, 3, 12, 9, 7, 5, 10, 6, 1, 13, 0, 11, 7, 4, 9, 1, 10, 14, 3, 5, 12, 2, 15, 8, 6, 1, 4, 11, 13, 12, 3, 7, 14, 10, 15, 6, 8, 0, 5, 9, 2, 6, 11, 13, 8, 1, 4, 10, 7, 9, 5, 0, 15, 14, 2, 3, 12]
  | _ => [13, 2, 8, 4, 6, 15, 11, 1, 10, 9, 3, 14, 5, 0, 12, 7, 1, 15, 13, 8, 10, 3, 7, 4, 12, 5, 6, 11, 0, 14, 9, 2, 7, 11, 4, 1, 9, 12, 14, 2, 0, 6, 10, 13, 15, 3, 5, 8, 2, 1, 14, 7, 4, 10, 8, 13, 15, 12, 9, 0, 3, 5, 6, 11]

/-- Bits of a number of `n` bits, the most significant first. -/
def msbBits (n v : Nat) : List Bool := (List.range n).map (fun i => v.testBit (n - 1 - i))
def ofMsb (l : List Bool) : Nat := l.foldl (fun a b => 2 * a + bnat b) 0
/-- Select bits by 1-based positions. -/
def Des.pick (t : List Nat) (b : List Bool) : List Bool := t.map (fun i => b.getD (i - 1) false)

/-- The sixteen round keys. -/
def Des.keys (key : Bytes) : List (List Bool) :=
  let cd := Des.pick Des.pc1 (msbBits 64 (beNat key))
  (([1, 2, 4, 6, 8, 10, 12, 14, 15, 17, 19, 21, 23, 25, 27, 28] : List Nat)).map (fun n =>
    let c := cd.take 28
    let d := cd.drop 28
    Des.pick Des.pc2 ((c.drop n ++ c.take n) ++ (d.drop n ++ d.take n)))

/-- The round function. -/
def Des.f (r k : List Bool) : List Bool :=
  let x := List.zipWith xor (Des.pick Des.e r) k
  Des.pick Des.p ((List.range 8).flatMap (fun i =>
    let c := (x.drop (6 * i)).take 6
    let row := 2 * bnat (c.getD 0 false) + bnat (c.getD 5 false)
    msbBits 4 ((Des.s i).getD (16 * row + ofMsb ((c.drop 1).take 4)) 0)))

/-- One DES block under round keys in order. -/
def Des.block (ks : List (List Bool)) (b : Bytes) : Bytes :=
  let x := Des.pick Des.ip (msbBits 64 (beNat b))
  let (l, r) := ks.foldl (fun (s : List Bool × List Bool) k => (s.2, List.zipWith xor s.1 (Des.f s.2 k))) (x.take 32, x.drop 32)
  natBE 8 (ofMsb (Des.pick Des.fp (r ++ l)))

/-- TDES under a key of 16 (two-key) or 24 bytes. -/
def tdes (key : Bytes) : Cipher :=
  let k1 := Des.keys (key.take 8)
  let k2 := Des.keys (slice 8 8 key)
  let k3 := if key.length < 24 then k1 else Des.keys (slice 16 8 key)
  { size := 8,
    enc := fun b => Des.block k3 (Des.block k2.reverse (Des.block k1 b)),
    dec := fun b => Des.block k1.reverse (Des.block k2 (Des.block k3.reverse b)) }

/-! ### Modes -/

/-- Cut bytes into pieces of `n`, the last as long as it comes. -/
def chunks (n : Nat) : Nat → Bytes → List Bytes
  | 0, _ => []
  | k + 1, b => b.take n :: chunks n k (b.drop n)
def Cipher.blocks (c : Cipher) (b : Bytes) : List Bytes := chunks c.size (ceilDiv b.length c.size) b

def Cipher.ecb (c : Cipher) (enc : Bool) (b : Bytes) : Bytes := (c.blocks b).flatMap (if enc then c.enc else c.dec)
/-- Chain over blocks: encryption and decryption. -/
def Cipher.cbcE (c : Cipher) (iv : Bytes) (b : Bytes) : Bytes :=
  ((c.blocks b).foldl (fun (s : Bytes × Bytes) x => let y := c.enc (xorBytes s.2 x)
                                                    (s.1 ++ y, y)) ([], iv)).1
def Cipher.cbcD (c : Cipher) (iv : Bytes) (b : Bytes) : Bytes :=
  ((c.blocks b).foldl (fun (s : Bytes × Bytes) x => (s.1 ++ xorBytes (c.dec x) s.2, x)) ([], iv)).1
/-- Counter mode from a 16-byte block, incremented modulo 2^128 in its low `w` bits. -/
def Cipher.ctr (c : Cipher) (w : Nat) (ctr b : Bytes) : Bytes :=
  let v := beNat ctr
  let hi := v / 2 ^ w * 2 ^ w
  ((c.blocks b).zip (List.range (ceilDiv b.length 16))).flatMap (fun e => xorBytes e.1 (c.enc (natBE 16 (hi + (v + e.2) % 2 ^ w))))

/-- GHASH of GCM: multiplication in GF(2^128), bit 0 the most significant. -/
def ghashMul (h : Nat) : Nat → Nat → Nat → Nat
  | 0, _, _ => 0
  | n + 1, x, v => (if x.testBit n then v else 0) ^^^ ghashMul h n x (if v % 2 == 1 then v / 2 ^^^ (0xE1 * 2 ^ 120) else v / 2)
def ghash (h : Nat) (b : Bytes) : Nat :=
  (chunks 16 (b.length / 16) b).foldl (fun y x => ghashMul h 128 (y ^^^ beNat x) h) 0
def pad16 (b : Bytes) : Bytes := b ++ zeros ((16 - b.length % 16) % 16)
/-- GCM: ciphertext of the data, and the full tag over a ciphertext. -/
def Cipher.gcmJ0 (c : Cipher) (iv : Bytes) : Bytes :=
  if iv.length == 12 then iv ++ [0, 0, 0, 1] else natBE 16 (ghash (beNat (c.enc (zeros 16))) (pad16 iv ++ zeros 8 ++ natBE 8 (8 * iv.length)))
def Cipher.gcmData (c : Cipher) (iv b : Bytes) : Bytes :=
  let j := beNat (c.gcmJ0 iv)
  c.ctr 32 (natBE 16 (j / 2 ^ 32 * 2 ^ 32 + (j + 1) % 2 ^ 32)) b
def Cipher.gcmTag (c : Cipher) (iv aad ct : Bytes) : Bytes :=
  let s := ghash (beNat (c.enc (zeros 16))) (pad16 aad ++ pad16 ct ++ natBE 8 (8 * aad.length) ++ natBE 8 (8 * ct.length))
  xorBytes (natBE 16 s) (c.enc (c.gcmJ0 iv))

/-- CCM of SP 800-38C: counter blocks, and the tag over the plaintext. -/
def Cipher.ccmData (c : Cipher) (n b : Bytes) : Bytes := c.ctr 64 (natLE 1 (14 - n.length) ++ n ++ natBE (15 - n.length) 1) b
def Cipher.ccmTag (c : Cipher) (n aad p : Bytes) (t : Nat) : Bytes :=
  let q := 15 - n.length
  let b0 : Bytes := natLE 1 ((if aad.isEmpty then 0 else 64) + 8 * ((t - 2) / 2) + (q - 1)) ++ n ++ natBE q p.length
  let a : Bytes := if aad.isEmpty then [] else pad16 ((if aad.length < 0xFF00 then natBE 2 aad.length else [0xFF, 0xFE] ++ natBE 4 aad.length) ++ aad)
  let mac := (c.cbcE (zeros 16) (b0 ++ a ++ pad16 p))
  xorBytes ((mac.drop (mac.length - 16)).take t) (c.enc (natLE 1 (q - 1) ++ n ++ zeros q))

/-- The doubling of XTS (little-endian) and of CMAC (big-endian). -/
def xtsDouble (v : Nat) : Nat := if v.testBit 127 then (2 * v) % 2 ^ 128 ^^^ 0x87 else 2 * v
def cmacDouble (v : Nat) : Nat := if v.testBit 127 then (2 * v) % 2 ^ 128 ^^^ 0x87 else 2 * v
/-- XTS with ciphertext stealing (IEEE 1619): `f` is the data cipher's direction. -/
def xts (data tweak : Cipher) (enc : Bool) (tw b : Bytes) : Bytes :=
  let n := b.length / 16
  let r := b.length % 16
  let t := fun i => natLE 16 ((List.range i).foldl (fun v _ => xtsDouble v) (leNat (tweak.enc tw)))
  let one := fun (i : Nat) (x : Bytes) => xorBytes (t i) ((if enc then data.enc else data.dec) (xorBytes (t i) x))
  let whole := fun k => (List.range k).flatMap (fun i => one i (slice (16 * i) 16 b))
  if r == 0 then whole n
  else
    let last := slice (16 * (n - 1)) 16 b
    let part := b.drop (16 * n)
    let i1 := if enc then n - 1 else n
    let i2 := if enc then n else n - 1
    let cc := one i1 last
    whole (n - 1) ++ one i2 (part ++ cc.drop r) ++ cc.take r

/-- CMAC of SP 800-38B, with a cipher of 16-byte blocks. -/
def Cipher.cmac (c : Cipher) (m : Bytes) : Bytes :=
  let k1 := cmacDouble (beNat (c.enc (zeros 16)))
  let full := m.length > 0 && m.length % 16 == 0
  let n := if m.isEmpty then 1 else ceilDiv m.length 16
  let last := m.drop (16 * (n - 1))
  let lb := if full then xorBytes last (natBE 16 k1) else xorBytes (fitLen 16 (last ++ [0x80])) (natBE 16 (cmacDouble k1))
  let out := c.cbcE (zeros 16) (m.take (16 * (n - 1)) ++ lb)
  out.drop (out.length - 16)

/-- ISO/IEC 9797-1 MAC algorithm 3 with TDES and padding method 1 left to the host's data: the last block of a DES CBC, decrypted under the second
key and encrypted under the first (R285 gives the data no padding of the engine's own; a short last block is filled with zeros). (DEDUCED, assumption log 92) -/
def mac3 (key m : Bytes) : Bytes :=
  let k1 := Des.keys (key.take 8)
  let k2 := Des.keys (slice 8 8 key)
  let k3 := if key.length < 24 then k1 else Des.keys (slice 16 8 key)
  let m := if m.isEmpty then zeros 8 else m ++ zeros ((8 - m.length % 8) % 8)
  let h := (chunks 8 (m.length / 8) m).foldl (fun y x => Des.block k1 (xorBytes y x)) (zeros 8)
  Des.block k3 (Des.block k2.reverse h)

/-! ### Key wrap -/

/-- The six passes of RFC 3394 over A and R. -/
def Cipher.kwWrap (c : Cipher) (iv p : Bytes) : Bytes :=
  let n := p.length / 8
  let s := (List.range (6 * n)).foldl (fun (s : Bytes × List Bytes) t =>
    let i := t % n
    let b := c.enc (s.1 ++ s.2.getD i [])
    (xorBytes (b.take 8) (natBE 8 (t + 1)), s.2.set i (b.drop 8))) (iv, chunks 8 n p)
  s.1 ++ s.2.flatten
/-- Their inverse: the value A and the data. -/
def Cipher.kwUnwrap (c : Cipher) (w : Bytes) : Bytes × Bytes :=
  let n := w.length / 8 - 1
  let s := (List.range (6 * n)).foldl (fun (s : Bytes × List Bytes) k =>
    let t := 6 * n - k
    let i := (t - 1) % n
    let b := c.dec (xorBytes s.1 (natBE 8 t) ++ s.2.getD i [])
    (b.take 8, s.2.set i (b.drop 8))) (w.take 8, chunks 8 n (w.drop 8))
  (s.1, s.2.flatten)
/-- AES-KWP of RFC 5649. -/
def Cipher.kwpWrap (c : Cipher) (p : Bytes) : Bytes :=
  let iv : Bytes := [0xA6, 0x59, 0x59, 0xA6] ++ natBE 4 p.length
  let q := p ++ zeros ((8 - p.length % 8) % 8)
  if q.length ≤ 8 then c.enc (iv ++ q) else c.kwWrap iv q
def Cipher.kwpUnwrap (c : Cipher) (w : Bytes) : Option Bytes :=
  let (a, p) := if w.length == 16 then let b := c.dec w
                                       (b.take 8, b.drop 8) else c.kwUnwrap w
  let n := beNat (a.drop 4)
  if a.take 4 == ([0xA6, 0x59, 0x59, 0xA6] : Bytes) && n ≤ p.length && p.length < n + 8 && n > 0 && allZero (p.drop n) then some (p.take n) else none
/-- AES-KW of RFC 3394. -/
def kwIv : Bytes := List.replicate 8 0xA6
def Cipher.kwOpen (c : Cipher) (w : Bytes) : Option Bytes := let (a, p) := c.kwUnwrap w
                                                             if a == kwIv then some p else none

end Sys2Proof.Machine
end

