-- ==== Sys2Proof/Machine/Drbg.lean ====
section
/-! DEFINITION. The CTR_DRBG instances: AES-256 with the derivation function of NIST SP 800-90A (R339 to R342), and the draws of the smith cores. -/

namespace Sys2Proof.Machine

/-! ### CTR_DRBG (PRESUMED, assumption log 133) -/

/-- The first `n` bytes of the counter stream of a state. -/
def CtrState.stream (s : CtrState) (n : Nat) : Bytes :=
  ((List.range (ceilDiv n 16)).flatMap (fun i => (aes s.key).enc (natBE 16 ((beNat s.v + 1 + i) % 2 ^ 128)))).take n
/-- CTR_DRBG_Update with 48 bytes. -/
def CtrState.update (s : CtrState) (data : Bytes) : CtrState :=
  let t := xorBytes (s.stream 48) data
  { key := t.take 32, v := t.drop 32 }

/-- BCC: cipher-block chaining from zero, the last block. -/
def drbgBcc (key data : Bytes) : Bytes := (chunks 16 (data.length / 16) data).foldl (fun c b => (aes key).enc (xorBytes c b)) (zeros 16)
/-- Block_Cipher_df to 48 bytes. -/
def drbgDf (input : Bytes) : Bytes :=
  let s := pad16 (natBE 4 input.length ++ natBE 4 48 ++ input ++ [0x80])
  let temp := (List.range 3).flatMap (fun i => drbgBcc ((List.range 32).map (BitVec.ofNat 8)) (natBE 4 i ++ zeros 12 ++ s))
  let k := temp.take 32
  let x1 := (aes k).enc (temp.drop 32)
  let x2 := (aes k).enc x1
  x1 ++ x2 ++ (aes k).enc x2

/-- Instantiation (R340): entropy input, nonce, personalisation string. -/
def CtrState.instantiate (entropy nonce pers : Bytes) : CtrState := ({ key := zeros 32, v := zeros 16 } : CtrState).update (drbgDf (entropy ++ nonce ++ pers))
/-- A reseed, without additional input (R340). -/
def CtrState.reseed (s : CtrState) (entropy : Bytes) : CtrState := s.update (drbgDf entropy)
/-- A generate call (R341, R356): the state whose stream is its output, and the state after `n` bytes of it. -/
def CtrState.mixed (s : CtrState) (add : Bytes) : CtrState := if add.isEmpty then s else s.update (drbgDf add)
def CtrState.after (s : CtrState) (add : Bytes) (n : Nat) : CtrState :=
  ({ s with v := natBE 16 ((beNat s.v + ceilDiv n 16) % 2 ^ 128) }).update (if add.isEmpty then zeros 48 else drbgDf add)

/-! ### Instances -/

def Dev.inst (d : Dev) (i : Nat) : Drbg := tabGet Drbg.reset i d.bellows.instances
def Dev.onInst (d : Dev) (i : Nat) (f : Drbg → Drbg) : Dev := d.onBellows (fun b => { b with instances := tabSet i (f (d.inst i)) b.instances })

/-- Shortage modes (R351 to R353): PRIORITY 0, STRETCH 1, BOTH 2. -/
def Dev.stretches (d : Dev) : Bool := d.num P.blwShortageMode 0 != 0
def Dev.prioritises (d : Dev) : Bool := d.num P.blwShortageMode 0 != 1

/-- Reseed limits (R341, R342). -/
def ageRequest : Nat := 2 ^ 16 - 4096
def ageReseed : Nat := 2 ^ 16
def ageLimit : Nat := 2 ^ 32

/-- May the instance generate now (R342, R346, R351, R352)? (DEDUCED, assumption log 134) -/
def Dev.generates (d : Dev) (i : Nat) : Bool :=
  (d.inst i).seeded && (d.inst i).age < ageLimit && ((d.inst i).age < ageReseed || d.stretches)

/-- An instance takes a block as its reseed (R340, R341). -/
def Drbg.reseeded (x : Drbg) (block : Bytes) : Drbg :=
  { x with state := x.state.reseed block, age := 0, heldBlock := none, requested := false, stopped := false }
/-- The same for a call with prediction resistance, of a block of its own (R353, R356): what the instance has asked for or holds ready stays. -/
def Drbg.resisted (x : Drbg) (block : Bytes) : Drbg := { x with state := x.state.reseed block, age := 0, stopped := false }
/-- An instance comes to be from two blocks (R340): the entropy input, and bits 255 to 128 of the second as nonce. -/
def Drbg.made (i : Nat) (first second : Bytes) : Drbg :=
  { Drbg.reset with seeded := true, state := CtrState.instantiate first (second.drop 16) (deviceIdentity ++ natLE 1 i) }

/-- One generate call of `n` bytes with additional input (R341): the state that its bytes come from. The age counts it, a call above age 2^16 is counted (R352), and
a held block reseeds at 2^16. -/
def Dev.generate (d : Dev) (i : Nat) (add : Bytes) (n : Nat) : CtrState × Dev :=
  let x := d.inst i
  let s := x.state.mixed add
  let d := if x.age ≥ ageReseed then d.addNum P.blwStretchCount 0 1 else d
  let y := { x with age := x.age + 1, state := s.after add n }
  (s, d.onInst i (fun _ => match y.heldBlock with
    | some b => if y.age ≥ ageReseed then y.reseeded b else y
    | none => y))

/-- A draw of the key vault, the backup domain or a smith core, from instance 0 (R339). While that instance does not generate the manual says nothing of one: its bytes
are free. (DESIGN CHOICE, assumption log 135) -/
def Dev.draw (d : Dev) (n : Nat) : Bytes × Dev :=
  if d.generates 0 then
    let (s, d) := d.generate 0 [] n
    (s.stream n, d)
  else
    let (k, d) := d.fresh
    (drawBytes k n, d)

end Sys2Proof.Machine
end

