-- ==== Sys2Proof/Machine/Sha2.lean ====
section
/-! DEFINITION. The SHA-2 hash functions of FIPS 180-4, which R156, R285 and many other rules name. -/

namespace Sys2Proof.Machine.Sha2

/-- The first `n` primes, by trial division up to 409 (FIPS 180-4 takes the first 64 and 80). -/
def primes : Nat → List Nat
  | n => ((List.range 410).filter (fun p => p ≥ 2 && (List.range 20).all (fun q => q < 2 || q * q > p || p % q != 0))).take n

/-- Integer root by bisection: the greatest r below 2^k with r^e ≤ x. -/
def rootBits (e x : Nat) : Nat → Nat → Nat
  | 0, acc => acc
  | k + 1, acc => let c := acc + 2 ^ k
                  rootBits e x k (if c ^ e ≤ x then c else acc)

/-- The first `w` bits of the fraction of the `e`-th root of `p`. -/
def fracRoot (e w p : Nat) : Nat := rootBits e (p * 2 ^ (e * w)) (w + 5) 0 % 2 ^ w

/-- Rotate right in `w` bits. -/
def rotr (w n x : Nat) : Nat := (x / 2 ^ n + x * 2 ^ (w - n)) % 2 ^ w

/-- The parameters of one word size: width, rounds, and the rotation counts of the four functions. -/
structure Params where
  w : Nat
  rounds : Nat
  big0 : List Nat
  big1 : List Nat
  small0 : List Nat
  small1 : List Nat
  deriving DecidableEq, Repr

/-- SHA-256 family. -/
def p256 : Params := { w := 32, rounds := 64, big0 := [2, 13, 22], big1 := [6, 11, 25], small0 := [7, 18, 3], small1 := [17, 19, 10] }
/-- SHA-512 family. -/
def p512 : Params := { w := 64, rounds := 80, big0 := [28, 34, 39], big1 := [14, 18, 41], small0 := [1, 8, 7], small1 := [19, 61, 6] }

/-- Σ: three rotations. -/
def bigSigma (w : Nat) (r : List Nat) (x : Nat) : Nat := r.foldl (fun a n => a ^^^ rotr w n x) 0
/-- σ: two rotations and a shift. -/
def smallSigma (w : Nat) (r : List Nat) (x : Nat) : Nat := rotr w (r.getD 0 0) x ^^^ rotr w (r.getD 1 0) x ^^^ (x / 2 ^ r.getD 2 0)

/-- The message schedule, newest word first. -/
def schedule (p : Params) : Nat → List Nat → List Nat
  | 0, ws => ws
  | n + 1, ws =>
    let t := (smallSigma p.w p.small1 (ws.getD 1 0) + ws.getD 6 0 + smallSigma p.w p.small0 (ws.getD 14 0) + ws.getD 15 0) % 2 ^ p.w
    schedule p n (t :: ws)

/-- One round on the eight working variables. -/
def round (p : Params) (s : List Nat) (kw : Nat × Nat) : List Nat :=
  match s with
  | [a, b, c, d, e, f, g, h] =>
    let m := 2 ^ p.w
    let ch := (e &&& f) ^^^ ((m - 1 - e) &&& g)
    let mj := (a &&& b) ^^^ (a &&& c) ^^^ (b &&& c)
    let t1 := h + bigSigma p.w p.big1 e + ch + kw.1 + kw.2
    let t2 := bigSigma p.w p.big0 a + mj
    [(t1 + t2) % m, a, b, c, (d + t1) % m, e, f, g]
  | _ => s

/-- The round constants: cube roots of the first primes. -/
def ks (p : Params) : List Nat := (primes p.rounds).map (fracRoot 3 p.w)

/-- One block into the state. -/
def compress (p : Params) (s : List Nat) (block : List Nat) : List Nat :=
  let ws := (schedule p (p.rounds - 16) block.reverse).reverse
  let t := ((ks p).zip ws).foldl (round p) s
  List.zipWith (fun x y => (x + y) % 2 ^ p.w) s t

/-- Words of a block, big-endian. -/
def words (n : Nat) : Nat → Bytes → List Nat
  | 0, _ => []
  | k + 1, bs => beNat (bs.take n) :: words n k (bs.drop n)

/-- Absorb `k` whole blocks. -/
def absorb (p : Params) : Nat → List Nat → Bytes → List Nat
  | 0, s, _ => s
  | k + 1, s, bs => absorb p k (compress p s (words (p.w / 8) 16 bs)) (bs.drop (2 * p.w))

/-- The padded message. -/
def pad (p : Params) (m : Bytes) : Bytes :=
  let blk := 2 * p.w
  let len := p.w / 4
  let z := (blk - (m.length + 1 + len) % blk) % blk
  m ++ (0x80 :: zeros z) ++ natBE len (8 * m.length)

/-- A whole hash from an initial state, truncated. -/
def hash (p : Params) (iv : List Nat) (outLen : Nat) (m : Bytes) : Bytes :=
  let b := pad p m
  ((absorb p (b.length / (2 * p.w)) iv b).flatMap (natBE (p.w / 8))).take outLen

/-- Initial states: square roots of the first eight primes (SHA-256, SHA-512), of the ninth to sixteenth (SHA-384), and the
second 32 bits of those (SHA-224). -/
def iv256 : List Nat := (primes 8).map (fracRoot 2 32)
def iv512 : List Nat := (primes 8).map (fracRoot 2 64)
def iv384 : List Nat := ((primes 16).drop 8).map (fracRoot 2 64)
def iv224 : List Nat := iv384.map (· % 2 ^ 32)

def sha256 (m : Bytes) : Bytes := hash p256 iv256 32 m
def sha224 (m : Bytes) : Bytes := hash p256 iv224 28 m
def sha384 (m : Bytes) : Bytes := hash p512 iv384 48 m
def sha512 (m : Bytes) : Bytes := hash p512 iv512 64 m

/-- The initial state of SHA-512/t (FIPS 180-4 section 5.3.6). -/
def iv512t (t : Nat) : List Nat :=
  let iv := iv512.map (fun x => x ^^^ 0xA5A5A5A5A5A5A5A5)
  let name := ascii "SHA-512/" ++ ascii (toString t)
  words 8 8 (hash p512 iv 64 name)

def sha512_256 (m : Bytes) : Bytes := hash p512 (iv512t 256) 32 m
def sha512_224 (m : Bytes) : Bytes := hash p512 (iv512t 224) 28 m

end Sys2Proof.Machine.Sha2
end

