-- ==== Sys2Proof/Machine/Manage.lean ====
section
/-! DEFINITION. How a management request is served (R510 to R519): who may do what, one at a time, once per REQ_ID, under dual
control where the catalogue asks for it. -/

namespace Sys2Proof.Machine

/-- RESULT values (R512). -/
def resOk : Nat := 0x0000
def resUnknown : Nat := 0x0001
def resAccess : Nat := 0x0002
def resLength : Nat := 0x0003
def resRange : Nat := 0x0004
def resState : Nat := 0x0005
def resBusy : Nat := 0x0006
def resDependency : Nat := 0x0007
def resNotReady : Nat := 0x0008
def resDualPending : Nat := 0x0009
def resDualExpired : Nat := 0x000A
def resDualSame : Nat := 0x000B
def resRefused : Nat := 0x0010

/-- A response before it is sent (R512). -/
structure Reply where
  result : Nat
  detail : Nat
  data : Bytes
  deriving DecidableEq, Repr

/-- Done. -/
def Reply.ok : Reply := { result := resOk, detail := 0, data := [] }
/-- Done, with data. -/
def Reply.data' (b : Bytes) : Reply := { result := resOk, detail := 0, data := b }
/-- A plain refusal. (DESIGN CHOICE, assumption log 115) -/
def Reply.err (r : Nat) : Reply := { result := r, detail := 0, data := [] }
/-- RANGE with the failing parameter (R512). (DESIGN CHOICE, assumption log 115) -/
def Reply.range (p : Param) : Reply := { result := resRange, detail := p, data := [] }
/-- REFUSED for a named reason (R512): the name as UTF8[16]. -/
def Reply.refused (why : String) (detail : Nat) : Reply := { result := resRefused, detail := detail, data := fitLen 16 (ascii why) }

/-- What serving a request does: a response now, or none where it waits (R349, R391), and the device after it. -/
abbrev Effect := Dev → Msg → Option Reply × Dev

/-- Refuse and change nothing. (DESIGN CHOICE, assumption log 115) -/
def deny (d : Dev) (r : Reply) : Option Reply × Dev := (some r, d)
/-- Accept with an empty answer. -/
def accept (d : Dev) : Option Reply × Dev := (some Reply.ok, d)

/-- Session roles (R504). -/
def roleObserver : Nat := 1
def roleOperator : Nat := 2
def roleOfficer : Nat := 3
def roleMaker : Nat := 4

/-- The access code of a role (R518): the MAKER position applies only in MAKER and TEST_UNLOCKED. -/
def CatRow.acc (r : CatRow) (role : Nat) (makerStates : Bool) : Acc :=
  match role with
  | 1 => r.observer
  | 2 => r.operator
  | 3 => r.officer
  | 4 => if makerStates then r.maker else .none
  | _ => .none

/-- Is a queue pair owned by slice `i`? -/
def Dev.ownsQp (d : Dev) (i q : Nat) : Bool := q < 65536 && d.num P.qpSlice q == i

/-- What a slice page reaches (R517), for a read or for a write or command. -/
def Dev.slicePageMay (d : Dev) (i : Nat) (p : Param) (row : Nat) (write : Bool) (body : Bytes) : Bool :=
  let area := p / 0x100000
  if area == 0 then !write
  else if area == 3 then
    if p == P.qpSlice && write then row < 65536 && leAt 0 2 body == i && (d.ownsQp i row || d.num P.qpSlice row == 0xFFFF)
    else d.ownsQp i row
  else if area == 4 then
    row == i && (if write then p == P.slcEventVector || p == P.slcCmdReset else p / 0x100 < 0x4003 || p == P.slcEvents)
  else if p == P.dspLateCount then !write && row == i
  else if p == P.monChSource || p == P.monChFilter then row < 1024 && d.num P.monChOwner row == i
  else if p == P.monRecord then !write && row < 1024 && d.num P.monChOwner row == i
  else if p / 0x100 == 0xA101 || p == P.monCmdArm || p == P.monCmdSnap then row < 1024 && d.num P.monChOwner row == i
  else p == P.attCmdQuote || (!write && (p == P.attQuote || p == P.attLogRead || p == P.attCerts))

/-- What the device page reaches (R517). In recovery wait it reaches FW_RECOVER alone (R470). -/
def Dev.devicePageMay (d : Dev) (p : Param) (write : Bool) : Bool :=
  if d.boot.recoveryWait then p == P.fwRecover
  else if write then
    p == P.rstCmdWarm || p == P.attCmdQuote || (p == P.fwStageData && d.boot.staging.isSome)
  else
    p / 0x100000 == 0 || p == P.modState || p == P.pwrState || p == P.pwrDomainState || p == P.clkDeviceTime || p == P.rstLastCause ||
    p == P.tmpAlarmLog || p / 0x100000 == 0xD

/-- Does the value weaken what is in force, so that a code that asks for dual control only then asks for it (R372, R412, R525)? -/
def Dev.weakens (d : Dev) (p : Param) (row : Nat) (body : Bytes) : Bool :=
  let v := leNat body
  if p == P.qncFloor || p == P.qncCeiling || p == P.qncDutyExp then v < d.num p 0
  else if p == P.qncTAction || p == P.qncTTarget then v > d.num p 0
  else if p == P.qncMode then v == 1
  else if p == P.tmpClass then v < d.sourceClass row
  else if p == P.slcMaskDefault then v < d.num p row
  else if p == P.slcStrikeSign || p == P.slcStrikeKem || p == P.slcStrikeHammer then v != 1
  else if p == P.slcDetSignAllow || p == P.slcPinFmt1Allow || p == P.slcPinDowngradeAllow || p == P.slcChildExport then v == 1
  else if p == P.slcCmdRemove then v == 1
  else false

/-- Parameters whose dual control depends on the value (R372, R412, R403, R525). -/
def dualByValue (p : Param) : Bool :=
  p == P.qncFloor || p == P.qncCeiling || p == P.qncDutyExp || p == P.qncTAction || p == P.qncTTarget || p == P.qncMode || p == P.tmpClass ||
  (0x400101 ≤ p && p ≤ 0x400107) || p == P.slcChildExport || p == P.slcCmdRemove

/-- The life-cycle states in which the MAKER role exists (R446, R453): as at the last boot, and not left since. -/
def Dev.makerStates (d : Dev) (now : Nat) : Bool := (d.lcy.bootState == 0 || d.lcy.bootState == 1) && (now == 0 || now == 1)

/-- What the sender may do with the parameter: none, or whether dual control applies (R514, R517, R518). -/
def Dev.mayDo (d : Dev) (lc : Nat) (src : Src) (p : Param) (row : Nat) (write : Bool) (body : Bytes) : Option Bool :=
  match catFind p with
  | none => none
  | some r =>
    match src with
    | .slicePage i =>
      let dual := write && (r.officer == .dual && r.operator != .readWrite && r.operator != .command)
      if d.slicePageMay i p row write body && !dual then some false else none
    | .devicePage => if d.devicePageMay p write then some false else none
    | .session n =>
      match tabGet? n d.mgmt.sessions with
      | none => none
      | some s =>
        if s.peer then none
        else
          match r.acc s.role (d.makerStates lc), write with
          | .read, false => some false
          | .readWrite, false => some false
          | .dual, false => if r.kind == .cmd then none else some false
          | .readWrite, true => some (dualByValue p && s.role == roleOfficer && d.weakens p row body)
          | .writeOnly, true => some false
          | .command, true => some (dualByValue p && s.role == roleOfficer && d.weakens p row body)
          | .dual, true => some (s.role == roleOfficer && (!dualByValue p || d.weakens p row body))
          | _, _ => none

/-- The bytes of a value's type; `none` where the length is free up to the declared one. -/
def Kind.fixedLen : Kind → Option Nat
  | .uint n => some n | .bool => some 1 | .enum => some 1 | .octets _ => none | .cmd => some 0

/-- The row is one of the parameter's rows: 0xFFFF_FFFF for a scalar (R510). -/
def CatRow.rowOk (r : CatRow) (row : Nat) : Bool := if r.rows == 0 then row == 0xFFFFFFFF || row == 0 else row < r.rows

/-- The row number the dictionary uses: 0 for a scalar. -/
def CatRow.index (r : CatRow) (row : Nat) : Nat := if r.rows == 0 then 0 else row

/-- The bytes of a message that a dual-control digest covers (R514): bytes 8 to the end. -/
def digestBytes (p : Param) (offset : Nat) (m : Msg) (isWrite : Bool) : Bytes :=
  natLE 3 p ++ [0] ++ natLE 4 m.row.toNat ++ (if isWrite then natLE 4 offset else []) ++ m.body

/-- Change one mailbox page; page 0 is the device's, page i + 1 slice i's (R25). -/
def Dev.onMailbox (d : Dev) (n : Nat) (f : Mailbox → Mailbox) : Dev :=
  d.onHost (fun h => { h with mailboxes := tabMod Mailbox.reset n f h.mailboxes })

/-- The response bytes after the message header (R510, R512). (DESIGN CHOICE, assumption log 13) -/
def Reply.bytes (r : Reply) : Bytes := natLE 2 r.result ++ natLE 2 0 ++ natLE 4 r.detail ++ r.data

/-- A response message (R510): OP 0x0081, LENGTH, REQ_ID, byte 11 reserved and 0; what PARAM and ROW of a response hold is left open (DESIGN CHOICE, assumption log 13). -/
def Reply.message (r : Reply) (reqId free : Nat) : Bytes :=
  natLE 2 0x0081 ++ natLE 2 (24 + r.data.length) ++ natLE 4 reqId ++
    (List.range 8).map (fun i => if i == 3 then 0 else Config.freeByte free i) ++ r.bytes

/-- A response lands in the page: MB_RSP_LEN, DONE set, BUSY clear (R30). -/
def Mailbox.answer (b : Mailbox) (r : Reply) (reqId free : Nat) : Mailbox :=
  { b with busy := false, done := true, response := r.message reqId free, rspLen := 24 + r.data.length }

/-- The outcome of a confirmed action goes to its originator as a NOTIFY of kind 3 (R514, R515). -/
def Dev.tellOrigin (d : Dev) (src : Src) (reqId : Nat) (r : Reply) : Dev :=
  match d.mgmt.awaiting.find? (fun a => a.src == src && a.reqId == reqId) with
  | none => d
  | some a => (d.onMgmt (fun g => { g with awaiting := g.awaiting.filter (· != a) })).notifyOne a.origin 3 (natLE 4 a.ticket ++ natLE 2 r.result ++ natLE 4 r.detail)

/-- Send a response and keep it for a repeated REQ_ID (R513). To a session it is a record like any other: with no number left for it the session ends
instead (R503), and one that has ended gets none. -/
def Dev.respondTo (d : Dev) (src : Src) (reqId : Nat) (r : Reply) : Dev :=
  let d := d.tellOrigin src reqId r
  let e : Emit := .response src reqId r.result r.detail r.data
  match src with
  | .session n =>
    match d.countRecord n with
    | (false, d) => d
    | (true, d) => (d.emit e).onMgmt (fun g => { g with sessions := (match tabGet? n g.sessions with
        | none => g.sessions
        | some s => tabSet n { s with recent := ((reqId, r.bytes) :: s.recent).take 64, lastRecord := d.now } g.sessions) })
  | .slicePage i => (d.emit e).onMailbox (i + 1) (fun b => b.answer r reqId (2 ^ 96 + d.out.length))
  | .devicePage => (d.emit e).onMailbox 0 (fun b => b.answer r reqId (2 ^ 96 + d.out.length))

/-- A record of the client has come over its session (R508). -/
def Dev.hears (d : Dev) (src : Src) : Dev :=
  match src with
  | .session n => (match tabGet? n d.mgmt.sessions with
    | none => d
    | some s => d.onMgmt (fun g => { g with sessions := tabSet n { s with lastRecord := d.now } g.sessions }))
  | _ => d

/-- A response that comes in a tick of its own, long after the request: the client has sent nothing now (R508). (DEDUCED, assumption log 142) -/
def Dev.respondLate (d : Dev) (src : Src) (reqId : Nat) (r : Reply) : Dev :=
  let u := d.respondTo src reqId r
  match src with
  | .session n => (match tabGet? n d.mgmt.sessions, tabGet? n u.mgmt.sessions with
    | some s, some x => u.onMgmt (fun g => { g with sessions := tabSet n { x with lastRecord := s.lastRecord } g.sessions })
    | _, _ => u)
  | _ => u

/-- A stored response goes out again (R513), a record like any other (R503). (DEDUCED, assumption log 64) -/
def Dev.resend (d : Dev) (src : Src) (reqId : Nat) (b : Bytes) : Dev :=
  match src with
  | .session n => (match d.countRecord n with
    | (false, d) => d
    | (true, d) => (d.emit (.response src reqId (leAt 0 2 b) (leAt 4 4 b) (b.drop 8))).hears src)
  | _ => d

/-- The stored response of a repeated request (R513). -/
def Dev.repeated (d : Dev) (src : Src) (reqId : Nat) : Option Bytes :=
  match src with
  | .session n => match tabGet? n d.mgmt.sessions with
    | none => none
    | some s => tabGet? reqId s.recent
  | _ => none

/-- Can the sender be heard at all? A session that does not exist sends nothing; a page answers once its slice exists (R26, R501), and nothing
before boot has made the function and Scega ready, but for recovery wait (R470, R471). -/
def Dev.heard (d : Dev) (src : Src) : Bool :=
  d.modes.mode.powered && !d.boot.halted && (decide (d.boot.step ≥ 8) || d.boot.recoveryWait) &&
  match src with
  | .session n => (tabGet? n d.mgmt.sessions).isSome && !d.boot.recoveryWait
  | .slicePage i => i < 4096 && d.sliceExists i && !d.boot.recoveryWait
  | .devicePage => true

/-- Empty SCG_ANCHORS (R507). -/
def Dev.noAnchors (d : Dev) : Bool := (List.range 16).all (fun i => (d.oct P.scgAnchors i).isEmpty)

/-- While SCG_ANCHORS is empty in INTEGRATOR, a session may write SCG_ANCHORS alone, without dual control (R507). (DEDUCED, assumption log 64) -/
def Dev.alone (d : Dev) (lc : Nat) (src : Src) : Bool := d.noAnchors && lc == 2 && (match src with | .session _ => true | _ => false)

/-- Take a ticket for a dual-control action (R514): at most 16 pending; MOD_DUAL_PENDING and a NOTIFY of kind 2 tell of it. -/
def Dev.openTicket (d : Dev) (p : Param) (offset n : Nat) (m : Msg) (isWrite : Bool) : Reply × Dev :=
  if d.mgmt.tickets.length ≥ 16 then (Reply.err resBusy, d)
  else
    let t : Ticket :=
                      { number := d.mgmt.nextTicket, param := p, offset := offset, origin := n, msg := m, requested := d.now,
                        digest := Sha2.sha384 (digestBytes p offset m isWrite) }
    let d := d.onMgmt (fun g => { g with tickets := g.tickets ++ [t], nextTicket := g.nextTicket + 1 })
    let d := d.notifyAll (fun r => r == roleOfficer) 2 (natLE 4 t.number ++ natLE 3 p ++ [0] ++ natLE 4 m.row.toNat)
    ({ result := resDualPending, detail := t.number, data := [] }, d)

/-- Serve one request on a parameter (R511 to R518). `lc` is the life-cycle state in force. (DEDUCED, assumption log 64) -/
def Dev.serve (d : Dev) (lc : Nat) (p : Param) (offset : Nat) (m : Msg) (isWrite : Bool) (eff : Effect) : Dev :=
  let id := m.reqId.toNat
  if !d.heard m.src then d
  else
    match d.repeated m.src id with
    | some b => d.resend m.src id b
    | none =>
      if d.alone lc m.src && p != P.scgAnchors then d.respondTo m.src id (Reply.err resState)
      else match catFind p with
      | none => d.respondTo m.src id (Reply.err resUnknown)
      | some r =>
        if !r.rowOk m.row.toNat && r.kind != .cmd then d.respondTo m.src id (Reply.err resUnknown)
        else
          match d.mayDo lc m.src p (r.index m.row.toNat) true m.body with
          | none => d.respondTo m.src id (Reply.err resAccess)
          | some dual =>
            if dual && !d.alone lc m.src then
              match m.src with
              | .session n =>
                let (rep, d) := d.openTicket p offset n m isWrite
                d.respondTo m.src id rep
              | _ => d.respondTo m.src id (Reply.err resAccess)
            else
              match eff d m with
              | (some rep, d) => d.respondTo m.src id rep
              | (none, d) => d.hears m.src

/-- Serve a READ (R510 to R518). -/
def Dev.serveRead (d : Dev) (lc : Nat) (p : Param) (m : Msg) (eff : Effect) : Dev :=
  let id := m.reqId.toNat
  if !d.heard m.src then d
  else
    match d.repeated m.src id with
    | some b => d.resend m.src id b
    | none =>
      if d.alone lc m.src then d.respondTo m.src id (Reply.err resState)
      else match catFind p with
      | none => d.respondTo m.src id (Reply.err resUnknown)
      | some r =>
        if !r.rowOk m.row.toNat then d.respondTo m.src id (Reply.err resUnknown)
        else if (d.mayDo lc m.src p (r.index m.row.toNat) false m.body).isNone then d.respondTo m.src id (Reply.err resAccess)
        else
          match eff d m with
          | (some rep, d) => d.respondTo m.src id rep
          | (none, d) => d.hears m.src

/-- An argument of exactly `n` bytes, else LENGTH (R512). -/
def withArg (n : Nat) (eff : Effect) : Effect := fun d m => if m.body.length == n then eff d m else deny d (Reply.err resLength)

end Sys2Proof.Machine
end

