-- ==== Sys2Proof/Machine/MlDsa.lean ====
section
/-! DEFINITION. ML-DSA as FIPS 204 defines it (R6, R186 to R203): key generation, the signing loop with its bound of 814 iterations, and verification.
(PRESUMED, assumption log 122) -/

namespace Sys2Proof.Machine.MlDsa

def q : Nat := 8380417
/-- k, l, η, τ, γ1, γ2, β, ω and the bytes of c̃ of a parameter set. -/
def k (ps : Nat) : Nat := [4, 6, 8].getD (ps - 1) 4
def l (ps : Nat) : Nat := [4, 5, 7].getD (ps - 1) 4
def eta (ps : Nat) : Nat := if ps == 2 then 4 else 2
def tau (ps : Nat) : Nat := [39, 49, 60].getD (ps - 1) 39
def gamma1 (ps : Nat) : Nat := if ps == 1 then 2 ^ 17 else 2 ^ 19
def gamma2 (ps : Nat) : Nat := if ps == 1 then 95232 else 261888
def beta (ps : Nat) : Nat := tau ps * eta ps
def omega (ps : Nat) : Nat := [80, 55, 75].getD (ps - 1) 80
def hashBytes (ps : Nat) : Nat := [32, 48, 64].getD (ps - 1) 32
/-- Bits of a packed coefficient of s, z and w1. -/
def etaBits (ps : Nat) : Nat := if ps == 2 then 4 else 3
def zBits (ps : Nat) : Nat := if ps == 1 then 18 else 20
def w1Bits (ps : Nat) : Nat := if ps == 1 then 6 else 4

def zero : Poly := List.replicate 256 0
def add (a b : Poly) : Poly := polyAdd q a b
def sub (a b : Poly) : Poly := polySub q a b
def neg (a : Poly) : Poly := polySub q zero a
def mul (a b : Poly) : Poly := List.zipWith (fun x y => x * y % q) a b
def dot (a b : List Poly) : Poly := dotWith zero add mul a b
/-- NTT and its inverse; 1753^512 = 1. -/
def ntt (f : Poly) : Poly := nttNode q 1753 8 8 1 f
def intt (f : Poly) : Poly := (nttBack q 1753 8 8 1 f).map (fun x => x * 8347681 % q)
/-- Distance from 0 of a residue, and the greatest of a vector. -/
def size (x : Nat) : Nat := Nat.min x (q - x)
def norm (v : List Poly) : Nat := (v.flatMap id).foldl (fun a x => Nat.max a (size x)) 0

/-! ### Packing -/

/-- BitPack and BitUnpack: b − w in `d` bits. -/
def packNear (d b : Nat) (f : Poly) : Bytes := packBits d (f.map (fun x => subMod q b x))
def unpackNear (d b n : Nat) (s : Bytes) : List Poly := (unpackVec d n s).map (fun f => f.map (fun x => subMod q b x))

/-- HintBitPack: the positions of the ones, then the running counts. -/
def packHint (ps : Nat) (h : List Poly) : Bytes :=
  let at' := h.map (fun f => (List.range 256).filter (fun i => f.getD i 0 == 1))
  let all := at'.flatMap id
  let ends := (List.range (k ps)).map (fun i => ((at'.take (i + 1)).flatMap id).length)
  fitLen (omega ps) (all.map (BitVec.ofNat 8)) ++ ends.map (BitVec.ofNat 8)
/-- Positions rise strictly. -/
def rising : List Nat → Bool
  | a :: b :: r => a < b && rising (b :: r)
  | _ => true
/-- HintBitUnpack: none where the encoding is invalid (R202). -/
def unpackHint (ps : Nat) (s : Bytes) : Option (List Poly) :=
  let pos := (s.take (omega ps)).map BitVec.toNat
  let ends := ((s.drop (omega ps)).take (k ps)).map BitVec.toNat
  let starts := 0 :: ends
  let parts := (List.range (k ps)).map (fun i => (pos.take (ends.getD i 0)).drop (starts.getD i 0))
  if (List.range (k ps)).all (fun i => starts.getD i 0 ≤ ends.getD i 0 && ends.getD i 0 ≤ omega ps) && parts.all rising && (pos.drop (ends.getLastD 0)).all (· == 0) then
    some (parts.map (fun p => (List.range 256).map (fun i => if p.contains i then 1 else 0)))
  else none

/-! ### Sampling -/

/-- 23-bit candidates from three bytes. -/
def candidates : Nat → Bytes → List Nat
  | n + 1, a :: b :: c :: r => (a.toNat + 256 * b.toNat + 65536 * (c.toNat % 128)) :: candidates n r
  | _, _ => []
/-- RejNTTPoly over the 298 iterations of FIPS 204 Appendix C. -/
def sampleNtt (seed : Bytes) : Poly := ((candidates 298 (Keccak.shake128 seed 894)).filter (· < q)).take 256
/-- Row `i` of Â. -/
def row (ps : Nat) (rho : Bytes) (i : Nat) : List Poly := (List.range (l ps)).map (fun j => sampleNtt (rho ++ natLE 1 j ++ natLE 1 i))
/-- The nibbles that RejBoundedPoly looks at, over the 481 bytes of Appendix C, and whether each is accepted. -/
def nibbles (seed : Bytes) : List Nat := (Keccak.shake256 seed 481).flatMap (fun b => [b.toNat % 16, b.toNat / 16])
def accepts (ps z : Nat) : Bool := if eta ps == 2 then z < 15 else z < 9
/-- Accept bits up to the 256th acceptance. -/
def acceptBits (ps : Nat) : Nat → List Nat → List Bool
  | _, [] => []
  | n, z :: r => if n == 0 then [] else accepts ps z :: acceptBits ps (if accepts ps z then n - 1 else n) r
def sampleBounded (ps : Nat) (seed : Bytes) : Poly :=
  (((nibbles seed).filter (accepts ps)).take 256).map (fun z => if eta ps == 2 then subMod q 2 (z % 5) else subMod q 4 z)
/-- The seed of secret polynomial `r`. -/
def boundedSeed (rho' : Bytes) (r : Nat) : Bytes := rho' ++ natLE 2 r
/-- ExpandMask. -/
def mask (ps : Nat) (rho'' : Bytes) (kappa : Nat) : List Poly :=
  (List.range (l ps)).map (fun r => (unpackPoly (zBits ps) (Keccak.shake256 (rho'' ++ natLE 2 (kappa + r)) (32 * zBits ps))).map (fun x => subMod q (gamma1 ps) x))
/-- SampleInBall: each of the last τ places takes a position not above it. -/
def ballFrom : Nat → Nat → Nat → Bytes → Poly → Poly
  | _, _, _, [], c => c
  | i, n, signs, b :: r, c =>
    if n == 0 then c
    else if b.toNat > i then ballFrom i n signs r c
    else ballFrom (i + 1) (n - 1) (signs / 2) r ((c.set i (c.getD b.toNat 0)).set b.toNat (if signs % 2 == 1 then q - 1 else 1))
def ball (ps : Nat) (seed : Bytes) : Poly :=
  let s := Keccak.shake256 seed 408
  ballFrom (256 - tau ps) (tau ps) (leNat (s.take 8)) (s.drop 8) zero

/-! ### Rounding -/

/-- Power2Round: r1 and r0 modulo q. -/
def power2 (r : Nat) : Nat × Nat :=
  let lo := r % 8192
  if lo > 4096 then (r / 8192 + 1, subMod q lo 8192) else (r / 8192, lo)
/-- Decompose: r1, and r0 as a residue. -/
def decompose (ps r : Nat) : Nat × Nat :=
  let a := 2 * gamma2 ps
  let lo := r % a
  let (hi, r0) := if lo > gamma2 ps then (r - lo + a, subMod q lo a) else (r - lo, lo)
  if hi == q - 1 then (0, subMod q r0 1) else (hi / a, r0)
def high (ps : Nat) (f : Poly) : Poly := f.map (fun x => (decompose ps x).1)
def low (ps : Nat) (f : Poly) : Poly := f.map (fun x => (decompose ps x).2)
/-- UseHint. -/
def useHint (ps h r : Nat) : Nat :=
  let m := (q - 1) / (2 * gamma2 ps)
  let (r1, r0) := decompose ps r
  if h == 0 then r1 else if 0 < r0 && r0 ≤ gamma2 ps then (r1 + 1) % m else (r1 + m - 1) % m

/-! ### Keys -/

/-- What key generation makes of ξ. -/
structure Key where
  rho : Bytes
  secret : Bytes
  tr : Bytes
  s1 : List Poly
  s2 : List Poly
  t0 : List Poly
  t1 : List Poly
  pk : Bytes
  sk : Bytes
  accepted : List Bool

/-- t = A s1 + s2 in its two parts. -/
def tOf (ps : Nat) (rho : Bytes) (s1 s2 : List Poly) : List Poly × List Poly :=
  let s := s1.map ntt
  let t := (List.range (k ps)).map (fun i => add (intt (dot (row ps rho i) s)) (s2.getD i zero))
  (t.map (fun f => f.map (fun x => (power2 x).1)), t.map (fun f => f.map (fun x => (power2 x).2)))
def encodePk (rho : Bytes) (t1 : List Poly) : Bytes := rho ++ t1.flatMap (packBits 10)
def encodeSk (ps : Nat) (rho secret tr : Bytes) (s1 s2 t0 : List Poly) : Bytes :=
  rho ++ secret ++ tr ++ s1.flatMap (packNear (etaBits ps) (eta ps)) ++ s2.flatMap (packNear (etaBits ps) (eta ps)) ++ t0.flatMap (packNear 13 4096)

/-- The key that ρ, K, s1 and s2 make. -/
def keyOf (ps : Nat) (rho secret : Bytes) (s1 s2 : List Poly) (accepted : List Bool) : Key :=
  let (t1, t0) := tOf ps rho s1 s2
  let pk := encodePk rho t1
  let tr := Keccak.shake256 pk 64
  { rho := rho, secret := secret, tr := tr, s1 := s1, s2 := s2, t0 := t0, t1 := t1, pk := pk, sk := encodeSk ps rho secret tr s1 s2 t0, accepted := accepted }
/-- ML-DSA.KeyGen_internal. -/
def keygen (ps : Nat) (xi : Bytes) : Key :=
  let h := Keccak.shake256 (xi ++ natLE 1 (k ps) ++ natLE 1 (l ps)) 128
  let seed := boundedSeed (slice 32 64 h)
  keyOf ps (h.take 32) (h.drop 96) ((List.range (l ps)).map (fun r => sampleBounded ps (seed r))) ((List.range (k ps)).map (fun r => sampleBounded ps (seed (l ps + r))))
    ((List.range (k ps + l ps)).flatMap (fun r => acceptBits ps 256 (nibbles (seed r))))

/-- The vectors s1 and s2 of an expanded private key. -/
def skS1 (ps : Nat) (sk : Bytes) : List Poly := unpackNear (etaBits ps) (eta ps) (l ps) (sk.drop 128)
def skS2 (ps : Nat) (sk : Bytes) : List Poly := unpackNear (etaBits ps) (eta ps) (k ps) (sk.drop (128 + 32 * etaBits ps * l ps))
/-- skDecode. -/
def decodeSk (ps : Nat) (sk : Bytes) : Key :=
  { rho := sk.take 32, secret := slice 32 32 sk, tr := slice 64 64 sk, s1 := skS1 ps sk, s2 := skS2 ps sk,
    t0 := unpackNear 13 4096 (k ps) (sk.drop (128 + 32 * etaBits ps * (l ps + k ps))), t1 := [], pk := [], sk := sk, accepted := [] }
/-- The key recomputed from ρ, K, s1 and s2 of an expanded private key (R321). -/
def recompute (ps : Nat) (sk : Bytes) : Key := keyOf ps (sk.take 32) (slice 32 32 sk) (skS1 ps sk) (skS2 ps sk) []

/-! ### Signing -/

/-- One iteration of the loop. -/
structure Pass where
  y : List Poly
  w1 : List Poly
  cHash : Bytes
  c : Poly
  z : List Poly
  h : List Poly
  /-- The four tests (R203). -/
  accept : Bool

def encodeW1 (ps : Nat) (w : List Poly) : Bytes := w.flatMap (packBits (w1Bits ps))
def timesC (c : Poly) (v : List Poly) : List Poly := v.map (fun f => intt (mul (ntt c) (ntt f)))

/-- An iteration at κ for μ and ρ″. -/
def pass (ps : Nat) (x : Key) (mu rho'' : Bytes) (kappa : Nat) : Pass :=
  let y := mask ps rho'' kappa
  let yh := y.map ntt
  let w := (List.range (k ps)).map (fun i => intt (dot (row ps x.rho i) yh))
  let w1 := w.map (high ps)
  let ch := Keccak.shake256 (mu ++ encodeW1 ps w1) (hashBytes ps)
  let c := ball ps ch
  let z := List.zipWith add y (timesC c x.s1)
  let r := List.zipWith sub w (timesC c x.s2)
  let ct0 := timesC c x.t0
  let h := List.zipWith (fun a b => List.zipWith (fun s t => if s == t then 0 else 1) (high ps a) (high ps (add a b))) r ct0
  { y := y, w1 := w1, cHash := ch, c := c, z := z, h := h,
    accept := norm z < gamma1 ps - beta ps && norm (r.map (low ps)) < gamma2 ps - beta ps && norm ct0 < gamma2 ps && (h.flatMap id).foldl (· + ·) 0 ≤ omega ps }

/-- Passes up to the first accepted one, at most `n`. -/
def loop (ps : Nat) (x : Key) (mu rho'' : Bytes) : Nat → Nat → List Pass
  | 0, _ => []
  | n + 1, kappa => let p := pass ps x mu rho'' kappa
                    p :: (if p.accept then [] else loop ps x mu rho'' n (kappa + l ps))

/-- μ of a message, or the message where it is μ (R198). -/
def muOf (tr : Bytes) (given : Bool) (m : Bytes) : Bytes := if given then m else Keccak.shake256 (tr ++ m) 64
/-- ML-DSA.Sign_internal: every pass, at most 814 (R203). -/
def passes (ps : Nat) (x : Key) (given : Bool) (m rnd : Bytes) : List Pass :=
  let mu := muOf x.tr given m
  loop ps x mu (Keccak.shake256 (x.secret ++ rnd ++ mu) 64) 814 0
/-- The signature of an accepted pass. -/
def encodeSig (ps : Nat) (p : Pass) : Bytes := p.cHash ++ p.z.flatMap (packNear (zBits ps) (gamma1 ps)) ++ packHint ps p.h
/-- The signature; none at the bound. -/
def sign (ps : Nat) (x : Key) (given : Bool) (m rnd : Bytes) : Option Bytes :=
  ((passes ps x given m rnd).find? (fun p => p.accept)).map (encodeSig ps)

/-- ML-DSA.Verify_internal; an invalid hint encoding is a false result (R202). -/
def verify (ps : Nat) (pk : Bytes) (given : Bool) (m sig : Bytes) : Bool :=
  let n := hashBytes ps
  match unpackHint ps (sig.drop (n + 32 * zBits ps * l ps)) with
  | none => false
  | some h =>
    let z := unpackNear (zBits ps) (gamma1 ps) (l ps) (sig.drop n)
    let c := ntt (ball ps (sig.take n))
    let zh := z.map ntt
    let t1 := (unpackVec 10 (k ps) (pk.drop 32)).map (fun f => ntt (f.map (fun x => x * 8192 % q)))
    let w := (List.range (k ps)).map (fun i => intt (sub (dot (row ps (pk.take 32) i) zh) (mul c (t1.getD i zero))))
    let w1 := List.zipWith (fun a b => List.zipWith (useHint ps) a b) h w
    norm z < gamma1 ps - beta ps && Keccak.shake256 (muOf (Keccak.shake256 pk 64) given m ++ encodeW1 ps w1) n == sig.take n

end Sys2Proof.Machine.MlDsa
end

