-- ==== Sys2Proof/Machine/LifeCycle.lean ====
section
/-! DEFINITION. Life cycle, debug authorisation and JTAG (R441 to R464). -/

namespace Sys2Proof.Machine

/-! ### OTP fields and the decode of the state -/

/-- The classes of a field (R443). -/
inductive FieldClass where
  | clear | set | pre | invalid
  deriving DecidableEq, Repr

/-- The class of a field from its firm and marginal bits (R443). -/
def OtpField.cls (f : OtpField) : FieldClass :=
  if f.firm == 0 && f.marginal == 0 then .clear
  else if f.firm == 0xFFFF && f.marginal == 0 then .set
  else if (List.range 16).any (fun k => f.firm == 2 ^ k - 1 && (f.marginal == 0 || f.marginal == 2 ^ k)) then .pre
  else .invalid

/-- A field's record. -/
def Dev.field (d : Dev) (i : Nat) : OtpField := tabGet OtpField.reset i d.lcy.fields

/-- The class of field `i`. -/
def Dev.fcls (d : Dev) (i : Nat) : FieldClass := (d.field i).cls

/-- A field is reached when it is SET or PREFIX (R443). -/
def Dev.freached (d : Dev) (i : Nat) : Bool := d.fcls i == .set || d.fcls i == .pre

/-- A breach of the order of the test fields (the loop of R444). -/
def Dev.testBreach (d : Dev) (i : Nat) : Bool :=
  (d.fcls (12 + i) != .clear && d.fcls (4 + i) != .set) ||
  (i > 0 && d.fcls (4 + i) != .clear && (d.fcls (3 + i) == .clear || (d.fcls (3 + i) == .set && d.fcls (11 + i) == .clear)))

/-- LCY_STATE (R441, R444). -/
def Dev.lcState (d : Dev) : Nat :=
  let op := (List.range 8).any (fun i => d.fcls (4 + i) == .set && d.fcls (12 + i) == .clear)
  if (List.range 20).any (fun i => d.fcls i == .invalid) then 5
  else if d.fcls 3 != .clear then 5
  else if (List.range 8).any d.testBreach then 5
  else if d.freached 1 && !d.freached 0 then 5
  else if d.fcls 2 != .clear && !d.freached 1 then 5
  else if op && d.freached 0 then 5
  else if d.fcls 2 == .set then 4
  else if d.freached 1 then 3
  else if d.freached 0 then 2
  else if op then 1
  else 0

/-- LCY_TOKENS_LEFT (R444). -/
def Dev.tokensLeft (d : Dev) : Nat := 8 - ((List.range 8).filter (fun i => d.fcls (4 + i) != .clear)).length

/-- The rights of R446 that a newly entered state opens apply only after the next cold reset (R453): what the state at the last
boot and the state now both allow. -/
def Dev.bothStates (d : Dev) (p : Nat → Bool) : Bool := p d.lcState && p d.lcy.bootState

/-- The state whose restrictions apply to management (R446, R453). -/
def Dev.lc (d : Dev) : Nat := d.lcState

/-! ### Preparing and burning -/

/-- The rail is above its guard level (R415), in millivolts times ten. -/
def guardLevel (r : Nat) : Nat := [7150, 7650, 17000, 8650, 11550, 17000, 17000].getD r 0
/-- Is a rail above guard? A rail not yet sampled is taken as good (DESIGN CHOICE, assumption log 12). -/
def Dev.railGood (d : Dev) (r : Nat) : Bool :=
  match tabGet? r d.power.rails with
  | none => true
  | some x => 10 * x.millivolts ≥ guardLevel r && x.lowSince.isNone

/-- The field that a transition to `target` programs from the present state (R442, R447). -/
def Dev.transitionField (d : Dev) (target : Nat) : Option Nat :=
  let s := d.lcState
  if target == 5 then (if s != 5 then some 3 else none)
  else if target == 1 && s == 0 then (List.range 8).findSome? (fun i => if d.fcls (4 + i) == .clear then some (4 + i) else none)
  else if target == 0 && s == 1 then (List.range 8).findSome? (fun i => if d.fcls (4 + i) == .set && d.fcls (12 + i) == .clear then some (12 + i) else none)
  else if target == 2 && (s == 0 || (s == 2 && d.fcls 0 == .pre)) then some 0
  else if target == 3 && (s == 2 || (s == 3 && d.fcls 1 == .pre)) then some 1
  else if target == 4 && s == 3 then some 2
  else none

/-- The role may command the transition (R448). -/
def Dev.transitionRole (d : Dev) (m : Msg) (target : Nat) : Bool :=
  match m.src with
  | .session n => match tabGet? n d.mgmt.sessions with
    | none => false
    | some s => if target ≤ 2 then s.role == roleMaker
                else if target == 5 then s.role == roleOfficer || s.role == roleMaker
                else s.role == roleOfficer
  | _ => false

/-- The further conditions of R448, as the reason for refusing. (DESIGN CHOICE, assumption log 9) -/
def Dev.transitionBar (d : Dev) (m : Msg) (target : Nat) : Option Reply :=
  if target > 5 then some (Reply.err resRange)
  else if !d.transitionRole m target then some (Reply.err resAccess)
  else if (d.transitionField target).isNone then some (Reply.err resState)
  else if target == 1 && d.tokensLeft == 0 then some (Reply.err resState)
  else if target == 2 && !d.lcy.provisioned then some (Reply.err resState)
  else if target == 3 && !(List.range 4).any (fun i => (tabGet KeySlot.reset i d.lcy.keySlots).burned && !(tabGet KeySlot.reset i d.lcy.keySlots).revoked) then
    some (Reply.err resState)
  else if !(d.modes.mode == .quiesced || d.modes.mode == .sealed) then some (Reply.err resState)
  else if d.domain 20 != .on then some (Reply.err resState)
  else if !(d.railGood 0 && d.railGood 6) then some (Reply.err resState)
  else none

/-- LCY_CMD_PREPARE (R449, R452): a wipe for RETURNED, else done at once. -/
def effLcyPrepare : Effect := withArg 1 fun d m =>
  let target := leNat m.body
  if d.lcy.wiping || d.lcy.burning.isSome then deny d (Reply.refused "BUSY" 0)
  else
    let lapsed := match d.lcy.prepared with | some (_, t) => d.now > t + 10 * ticksPerS | none => true
    if !lapsed then deny d (Reply.refused "BUSY" 0)
    else match d.transitionBar m target with
      | some r => deny d r
      | none =>
        let d := d.logMode 1 d.lcState target 0 0
        if target == 4 then
          let d := (d.joinResponse 4).recordAlarm 0x900 0 4 4 1 false
          let d := d.respondA4 .host 0x900 false
          accept (d.onLcy (fun l => { l with wiping := true, prepared := none }))
        else accept (d.onLcy (fun l => { l with prepared := some (target, d.now) }))

/-- The RETURNED wipes end (R452): the key store, user flash and key-store journal are blank, and the preparation holds. (DESIGN CHOICE, assumption log 32) -/
def lcyWipesDone (d : Dev) : Dev :=
  if d.lcy.wiping then
    let d := d.onVault (fun v => { v with nodes := [], roots := [], updates := [], retained := [], store := [], marks := [], master := none, domainRoot := none, masterWrapped := [], domainWrapped := [] })
    (d.onLcy (fun l => { l with wiping := false, prepared := some (4, d.now), userFlash := Memory.blank })).logMode 1 d.lcState 4 0 1
  else d

/-- A preparation lapses 10 s after it completed (R448). -/
def lcyPrepareExpire (d : Dev) : Dev :=
  match d.lcy.prepared with
  | some (_, t) => if d.now > t + 10 * ticksPerS then d.onLcy (fun l => { l with prepared := none }) else d
  | none => d

/-- LCY_BURN_RESULT (R448): 0 DONE, 1 INTERRUPTED, 2 REFUSED, with a reason. -/
def Dev.burnResult (d : Dev) (code : Nat) (why : String) : Dev := d.setOct P.lcyBurnResult 0 (natLE 1 code ++ zeros 3 ++ fitLen 16 (ascii why))

/-- The lowest bit of a field that is not firm 1 (R451). -/
def OtpField.nextBit (f : OtpField) : Option Nat := (List.range 16).find? (fun k => !f.firm.testBit k)

/-- LCY_CMD_BURN (R448, R449): starts the field at its lowest bit that is not firm 1. -/
def effLcyBurn : Effect := withArg 1 fun d m =>
  let target := leNat m.body
  if d.lcy.burning.isSome then deny d (Reply.refused "BUSY" 0)
  else match d.lcy.prepared with
    | some (t, at_) =>
      if t != target then deny (d.burnResult 2 "NOT_PREPARED") (Reply.err resState)
      else if d.now > at_ + 10 * ticksPerS then deny (d.burnResult 2 "EXPIRED") (Reply.err resState)
      else match d.transitionBar m target with
        | some r => deny (d.burnResult 2 "CONDITION") r
        | none =>
          match d.transitionField target with
          | none => deny d (Reply.err resState)
          | some f =>
            let d := d.logMode 2 d.lcState target 0 f
            let k := ((d.field f).nextBit).getD 0
            let d := d.onLcy (fun l => { l with prepared := none, burning := some (f, k), burnStop := false })
            accept d
    | none => deny (d.burnResult 2 "NOT_PREPARED") (Reply.err resState)

/-- A burn has ended with its field as it stands: decode the state, log it, act on SCRAPPED (R449, R453). (DESIGN CHOICE, assumption log 54) -/
def Dev.burnEnd (d : Dev) (f : Nat) (code : Nat) : Dev :=
  let d := (d.burnResult code "").logMode 3 f d.lcState 0 code
  let d := d.onLcy (fun l => { l with burning := none, burnStop := false })
  let d := if f != 3 && d.lcy.scrapNext then d.onLcy (fun l => { l with burning := some (3, ((d.field 3).nextBit).getD 0), scrapNext := false }) else d
  let d := if f == 3 then d.onPower (fun p => { p with domains := tabSet 20 .off p.domains }) else d
  if d.lcState != 0 && d.lcState != 1 then
    d.onMgmt (fun g => { g with sessions := g.sessions.filter (fun e => e.2.role != roleMaker) })
  else d

/-- The kind of the edge to SEALED with which a burn of F_SCR begins: a command started it, but out of BOOT and DEBUG the edge is alarm-forced alone
(R15, R437). -/
def Mode.scrapEdge : Mode → EdgeKind
  | .boot => .alarm | .debug => .alarm
  | .off => .host | .backup => .host | .service => .host | .partService => .host | .quiesced => .host | .sealed => .host

/-- One bit of the burn ends (R442, R451, R453, R454). `marginal`: it does not read 1 at the tight margin, so it is programmed again. (DESIGN CHOICE, assumption log 54) -/
def otpBitDone (d : Dev) (marginal : Bool) : Dev :=
  match d.lcy.burning with
  | none => d
  | some (f, k) =>
    let x := d.field f
    let x := if marginal then { x with marginal := x.marginal ||| 2 ^ k } else { firm := x.firm ||| 2 ^ k, marginal := if x.marginal.testBit k then x.marginal - 2 ^ k else x.marginal }
    let scrapStarts := f == 3 && d.fcls 3 == .clear
    let d := d.onLcy (fun l => { l with fields := tabSet f x l.fields })
    let d := if scrapStarts then d.respondA4 d.modes.mode.scrapEdge 0x900 false else d
    if d.lcy.burnStop then d.burnEnd f (if (d.field f).cls == .set then 0 else 1)
    else match (d.field f).nextBit with
      | some n => d.onLcy (fun l => { l with burning := some (f, n) })
      | none => d.burnEnd f 0

/-- LCY_CMD_DBG_KEY_BURN (R455): in INTEGRATOR, a slot once; a revocation stands. (DESIGN CHOICE, assumption log 32) -/
def effDbgKeyBurn : Effect := withArg 49 fun d m =>
  let s := leAt 0 1 m.body
  if s > 3 then deny d (Reply.range P.lcyCmdDbgKeyBurn)
  else if !d.bothStates (· == 2) then deny d (Reply.err resState)
  else if (tabGet KeySlot.reset s d.lcy.keySlots).burned then deny d (Reply.err resState)
  else if d.domain 20 != .on then deny d (Reply.err resState)
  else accept (d.onLcy (fun l => { l with keySlots := tabMod KeySlot.reset s (fun k => { k with burned := true, digest := slice 1 48 m.body }) l.keySlots }))

/-- LCY_CMD_DBG_KEY_REVOKE (R455): in INTEGRATOR and FIELDED. -/
def effDbgKeyRevoke : Effect := withArg 1 fun d m =>
  let s := leAt 0 1 m.body
  if s > 3 then deny d (Reply.range P.lcyCmdDbgKeyRevoke)
  else if !(d.lcState == 2 || d.lcState == 3) then deny d (Reply.err resState)
  else if d.domain 20 != .on then deny d (Reply.err resState)
  else accept (d.onLcy (fun l => { l with keySlots := tabMod KeySlot.reset s (fun k => { k with revoked := true }) l.keySlots }))

/-! ### Debug certificates -/

/-- DBG_CMD_NONCE (R459). -/
def effDbgNonce : Effect := withArg 0 fun d _ =>
  if !(d.inst 0).seeded || d.num P.blwState 0 == 3 || d.num P.blwState 0 == 0 then deny d (Reply.err resState)
  else
    let (n, d) := d.draw 16
    accept ((d.onDebug (fun g => { g with nonce := some n })).setOct P.dbgNonce 0 n)

/-- The nonce is consumed (R459, R460). -/
def Dev.consumeNonce (d : Dev) : Dev := (d.onDebug (fun g => { g with nonce := none })).setOct P.dbgNonce 0 []

/-- Rights that a certificate may grant in a state (R446, R457): 0 to 7, or 0 to 4 and 7 in FIELDED. -/
def grantable (lc : Nat) : Nat := if lc == 3 then 0x9F else 0xFF

/-- The signers a certificate needs (R446, R458): bit 0 vendor, bit 1 integrator. -/
def signersNeeded (lc : Nat) : Nat := if lc == 0 then 1 else if lc == 2 then 2 else if lc == 3 then 3 else 1

/-- A digest in OTP of the vendor authority with the given number (R175, R455). -/
def vendorHash (n : Nat) : Bytes := unitBytes (10 + n) 48

/-- The message of pure signing with a context string (R199). -/
def pureMessage (ctx m : Bytes) : Bytes := [0] ++ natLE 1 ctx.length ++ ctx ++ m
/-- Verify an ML-DSA-87 signature with a context string (FIPS 204). -/
def mlDsa87Verify (pk msg ctx sig : Bytes) : Bool := MlDsa.verify 3 pk false (pureMessage ctx msg) sig

/-- The checks of R460 in order: the refusing reason and its position, if any fails. -/
def Dev.certBar (d : Dev) (c : Bytes) : Option (String × Nat) :=
  let sg := leAt 6 1 c
  let n := (if bit 0 sg then 1 else 0) + (if bit 1 sg then 1 else 0)
  let slot := leAt 7 1 c
  let states := leAt 72 1 c
  let rights := leAt 68 4 c
  let lc := d.lcState
  let vendorBlk := if bit 0 sg then slice 96 7219 c else []
  let intBlk := if bit 1 sg then slice (96 + (if bit 0 sg then 7219 else 0)) 7219 c else []
  let ks := tabGet KeySlot.reset slot d.lcy.keySlots
  let needs := signersNeeded lc ||| signersNeeded d.lcy.bootState
  let nb := leAt 56 6 c
  let na := leAt 62 6 c
  if !(leAt 0 4 c == 0x4F514443 && leAt 4 2 c == 1 && sg / 4 == 0 && n ≥ 1 && slot < 4 && (bit 1 sg || slot == 0) && states / 16 == 0 &&
       allZero (slice 73 23 c) && rights / 512 == 0 && c.length == 96 + 7219 * n) then some ("FORMAT", 1)
  else if !((lc == 0 && bit 0 states) || (lc == 2 && bit 1 states) || (lc == 3 && bit 2 states) || (lc == 4 && bit 3 states)) || d.lcy.bootState == 1 then some ("STATE", 2)
  else if !(d.modes.mode == .quiesced || d.modes.mode == .sealed) then some ("MODE", 3)
  else if d.dbg.certActive then some ("ACTIVE", 4)
  else if slice 8 32 c != deviceIdentity then some ("DEVICE", 5)
  else if d.dbg.nonce != some (slice 40 16 c) then some ("NONCE", 6)
  else if sg &&& needs != needs then some ("SIGNERS", 7)
  else if (bit 0 sg && Sha2.sha384 (vendorBlk.take 2592) != vendorHash 2) ||
          (bit 1 sg && !(ks.burned && !ks.revoked && Sha2.sha384 (intBlk.take 2592) == ks.digest)) then some ("KEYS", 8)
  else if (bit 0 sg && !mlDsa87Verify (vendorBlk.take 2592) (c.take 96) (ascii "OQ7168-DEBUG") (vendorBlk.drop 2592)) ||
          (bit 1 sg && !mlDsa87Verify (intBlk.take 2592) (c.take 96) (ascii "OQ7168-DEBUG") (intBlk.drop 2592)) then some ("SIGNATURE", 9)
  else if !(nb ≤ d.time.stamp && d.time.stamp < na && na - nb ≤ 19818086400) then some ("WINDOW", 10)
  else if rights &&& (grantable lc &&& grantable d.lcy.bootState) != rights then some ("RIGHTS", 11)
  else none

/-- KMAC256 with a customisation string, to a 256-bit key (R297, R298, R324). (DEDUCED, assumption log 132) -/
def kmac256 (key m : Bytes) (cust : String) : Bytes := Keccak.kmac 136 key m 32 (ascii cust)

/-- The test root of the certificate in force (R324). -/
def Dev.rootOfTest (d : Dev) : Bytes := kmac256 (slice 40 16 (d.oct P.dbgCert 0)) deviceIdentity "OQ7168-TEST"
/-- The test root in place of the device root (R324): the master does not unwrap under it. -/
def Dev.formTestRoot (d : Dev) : Dev := d.closeStore.onVault (fun v => { v with testRoot := true, deviceRoot := some d.rootOfTest })

/-- What entry to DEBUG does to the vault (R324): cache, key registers and contexts cleared, the test root in force. -/
def Dev.enterTestRoot (d : Dev) : Dev :=
  let d := (List.range nUnits).foldl (fun x u => x.clearKey u) d
  d.loseVolatile.formTestRoot

/-- DBG_CMD_APPLY (R460, R461). -/
def effDbgApply (extendM7 : Dev → Bytes → Dev) : Effect := withArg 0 fun d m =>
  let c := d.oct P.dbgCert 0
  let roleOk := match m.src with
    | .session n => match tabGet? n d.mgmt.sessions with
      | some s => if d.lcState == 0 then s.role == roleMaker else s.role == roleOfficer
      | none => false
    | _ => false
  if !roleOk then deny d (Reply.err resAccess)
  else match d.certBar c with
    | some (why, n) => deny (if n ≥ 5 then d.consumeNonce else d) (Reply.refused why n)
    | none =>
      let dig := Sha2.sha384 c
      let d := d.consumeNonce.enterTestRoot
      let d := d.onDebug (fun g => { g with certActive := true, notAfter := leAt 62 6 c })
      let d := (d.setNum P.dbgRights 0 (leAt 68 4 c)).setOct P.dbgCertDigest 0 dig
      accept (extendM7 (d.takeEdge .debug .host 0) dig)

/-- DBG_CMD_END (R462). -/
def effDbgEnd : Effect := withArg 0 fun d _ => if d.dbg.certActive then accept d.lapseRights else deny d (Reply.err resState)

/-- The millisecond check of the backup stamp against NOT_AFTER (R462). -/
def debugRightsExpiry (d : Dev) : Dev := if d.dbg.certActive && d.dbg.notAfter ≤ d.time.stamp then d.lapseRights else d

/-! ### JTAG -/

/-- Bits of a number, bit 0 first. -/
def toBits (n v : Nat) : List Bool := (List.range n).map (fun i => v.testBit i)

/-- IDCODE (R446): the 32-bit identification code, then what comes in on TDI. -/
def jtagIdcode (d : Dev) (tdi : List Bool) : Dev :=
  if d.modes.mode.powered then d.emit (.tdo ((toBits 32 (leNat (unitBytes 2 4)) ++ tdi).take tdi.length)) else d

/-- BYPASS (R446): TDI appears on TDO one bit later. -/
def jtagBypass (d : Dev) (tdi : List Bool) : Dev := if d.modes.mode.powered then d.emit (.tdo ((false :: tdi).take tdi.length)) else d

/-- LC_STATUS (R446): LCY_STATE in bits [2:0], LCY_TOKENS_LEFT in bits [6:3]. -/
def jtagLcStatus (d : Dev) (tdi : List Bool) : Dev :=
  if d.modes.mode.powered then d.emit (.tdo ((toBits 7 (d.lcState + 8 * d.tokensLeft) ++ tdi).take tdi.length)) else d

/-- The rights in force (R446, R464): every right in TEST_UNLOCKED, else DBG_RIGHTS. -/
def Dev.rights (d : Dev) : Nat := if d.bothStates (· == 1) then 0x1FF else d.num P.dbgRights 0

/-- What a debug read shows where the spec gives no image of what is read: free bytes (DESIGN CHOICE, assumption log 32). -/
def Dev.debugFree (d : Dev) (n : Nat) : Dev := let (i, d) := d.fresh; d.emit (.debugData ((List.range n).map (Config.freeByte i)))

/-- A JTAG access beyond base debug (R457, R463): it needs JTAG_DEBUG and its own right; without them nothing happens; the key
registers are never read (R463). The user-flash area is read as it stands; how the other flash areas, the vault, hearth memory and the control cores' registers lie in
what is read, the spec does not say. (DESIGN CHOICE, assumption log 32) -/
def jtagDebugAccess (d : Dev) (a : JtagAccess) : Dev :=
  let r := d.rights
  if !bit 0 r || d.lcState == 5 then d
  else match a with
    | .smithHalt c => if bit 1 r && c < 16 then d.onDebug (fun g => { g with halted := if g.halted.contains c then g.halted else c :: g.halted }) else d
    | .smithStep c => if bit 1 r && c < 16 then d.onDebug (fun g => { g with halted := g.halted.filter (· != c) }) else d
    | .tileRead t ad => if bit 2 r && t < 128 && ad < 0x40000 then d.emit (.debugData ((List.range 32).map (fun i => ((tabGet TileSt.reset t d.tiles).mem).byte (ad + i)))) else d
    | .vectorRead t p v => if bit 2 r && t < 128 && p < 4 && v < 32 then d.emit (.debugData ((tabGet TileSt.reset t d.tiles).vbytes p v)) else d
    | .scalarRead t k => if bit 2 r && t < 128 && k < 32 then d.emit (.debugData (natLE 8 ((tabGet TileSt.reset t d.tiles).sget (BitVec.ofNat 5 k)))) else d
    | .engineRead e ad => if bit 3 r && e < 32 && ad < 0x10000 then d.emit (.debugData ((List.range 32).map (fun i => (d.unit (128 + e)).operand.byte (ad + i)))) else d
    | .logRead i => if bit 1 r then d.emit (.debugData (((d.boot.log)[i]?.map LogEntry.digest).getD [])) else d
    | .smithAccess c _ => if bit 1 r && c < 16 then d.debugFree 8 else d
    | .hearthRead h ad => if bit 4 r && h < 16 && ad < 0x400000 then d.debugFree 32 else d
    | .vaultRead _ => if bit 5 r then d.debugFree 32 else d
    | .flashRead ad =>
      if !bit 6 r || ad ≥ 0x20000000 then d
      else if 0x16000000 ≤ ad && ad < 0x1C000000 then d.emit (.debugData ((List.range 32).map (fun i => d.lcy.userFlash.byte (ad - 0x16000000 + i))))
      else d.debugFree 32
    | .sensorTrace t => if bit 7 r && t < 128 then d.debugFree 4 else d
    | .boundaryScan => if bit 8 r then d.emit (.debugData []) else d
    | .keyRegisterRead _ => d

/-! ### The commands -/

/-- Meanings of the rows of this chapter. -/
def execLcyCmdPrepare (m : Msg) (s : State) := s.run fun d => d.serve d.lc P.lcyCmdPrepare 0 m false effLcyPrepare
def execLcyWipesDone (s : State) := s.run lcyWipesDone
def execLcyPrepareExpire (s : State) := s.run lcyPrepareExpire
def execLcyCmdBurn (m : Msg) (s : State) := s.run fun d => d.serve d.lc P.lcyCmdBurn 0 m false effLcyBurn
def execOtpBitDone (marginal : Bool) (s : State) := s.run fun d => otpBitDone d marginal
def execLcyCmdDbgKeyBurn (m : Msg) (s : State) := s.run fun d => d.serve d.lc P.lcyCmdDbgKeyBurn 0 m false effDbgKeyBurn
def execLcyCmdDbgKeyRevoke (m : Msg) (s : State) := s.run fun d => d.serve d.lc P.lcyCmdDbgKeyRevoke 0 m false effDbgKeyRevoke
def execDbgCmdNonce (m : Msg) (s : State) := s.run fun d => d.serve d.lc P.dbgCmdNonce 0 m false effDbgNonce
def execDbgCmdEnd (m : Msg) (s : State) := s.run fun d => d.serve d.lc P.dbgCmdEnd 0 m false effDbgEnd
def execDebugRightsExpiry (s : State) := s.run debugRightsExpiry
def execJtagIdcode (tdi : List Bool) (s : State) := s.run fun d => jtagIdcode d tdi
def execJtagBypass (tdi : List Bool) (s : State) := s.run fun d => jtagBypass d tdi
def execJtagLcStatus (tdi : List Bool) (s : State) := s.run fun d => jtagLcStatus d tdi
def execJtagDebugAccess (a : JtagAccess) (s : State) := s.run fun d => jtagDebugAccess d a

end Sys2Proof.Machine
end

