-- ==== Sys2Proof/Machine/Boot.lean ====
section
/-! DEFINITION. Boot, measurement, attestation and firmware update (R465 to R480). -/

namespace Sys2Proof.Machine

/-! ### Measurement -/

/-- A measurement slot; 48 zero bytes after a reset (R465). -/
def Dev.slot (d : Dev) (k : Nat) : Bytes := tabGet (zeros 48) k d.boot.slots

/-- Bytes 8 to 63 of a log entry (R467): what an extension hashes. -/
def LogEntry.body (e : LogEntry) : Bytes := natLE 1 e.slot ++ natLE 1 e.event ++ zeros 2 ++ natLE 4 e.info ++ e.digest
/-- The 64 bytes of a log entry (R467). -/
def LogEntry.bytes (e : LogEntry) : Bytes := natLE 8 e.time ++ e.body

/-- Extend a slot (R465, R467, R468): past 8,192 entries the slot is still extended and LOG_TRUNCATED is set. -/
def Dev.extend (d : Dev) (k event info : Nat) (digest : Bytes) : Dev :=
  let e : LogEntry := { time := d.now, slot := k, event := event, info := info, digest := digest }
  d.onBoot (fun b => { b with
    slots := tabSet k (Sha2.sha384 (d.slot k ++ e.body)) b.slots
    log := if b.log.length < 8192 then b.log ++ [e] else b.log
    truncated := b.truncated || decide (b.log.length ≥ 8192) })

/-- The OTP policy that M3 measures (R466). -/
def Dev.otpPolicy (d : Dev) : Bytes :=
  ((List.range 10).flatMap (fun w =>
      let f := if w == 0 then (0, 1) else if w == 1 then (2, 3) else if w < 6 then (4 + 2 * (w - 2), 5 + 2 * (w - 2)) else (12 + 2 * (w - 6), 13 + 2 * (w - 6))
      natLE 2 (d.field f.1).firm ++ natLE 2 (d.field f.2).firm)) ++
  vendorHash 0 ++ vendorHash 1 ++ vendorHash 2 ++ vendorHash 3 ++
  ((List.range 4).flatMap (fun i => let k := tabGet KeySlot.reset i d.lcy.keySlots
                                    fitLen 48 k.digest ++ natLE 1 (bnat k.revoked))) ++ natLE 1 d.lcy.minSvn

/-- The bytes of a numeric parameter's row in a POLICY measurement. -/
def Dev.paramBytes (d : Dev) (r : CatRow) (row : Nat) : Bytes :=
  match r.kind with
  | .uint n => natLE n (d.num r.num row)
  | .bool => natLE 1 (d.num r.num row)
  | .enum => natLE 1 (d.num r.num row)
  | .octets n => if n ≤ 4096 then fitLen n (d.oct r.num row) else []
  | .cmd => []

/-- SHA-384 over every class P or B parameter of areas A, B and C in catalogue order (R466): logs and records, which are no
settings, apart (DEDUCED, assumption log 14). -/
def Dev.policyDigest (d : Dev) : Bytes :=
  Sha2.sha384 ((catalogueAreaA ++ catalogueAreaB ++ catalogueAreaC).flatMap (fun r =>
    if (r.persist == .p || r.persist == .b) && r.num != P.tmpAlarmLog && r.num != P.tmpBlog then
      if r.num == P.tmpClass then (List.range 0x901).flatMap (fun s => if sourceListed s then natLE 1 (d.sourceClass s) else [])
      else if r.rows == 0 then d.paramBytes r 0 else (List.range r.rows).flatMap (d.paramBytes r)
    else []))

/-- A parameter whose accepted write extends M6 (R466). (DEDUCED, assumption log 14) -/
def policyParam (p : Param) : Bool :=
  let a := p / 0x100000
  (a == 0xA || a == 0xB || a == 0xC) && (match catFind p with | some r => r.persist == .p || r.persist == .b | none => false)

/-- Extend M6 after an accepted write of a policy parameter (R466). -/
def Dev.policyWritten (d : Dev) (p : Param) : Dev := if policyParam p then d.extend 6 0x08 0 d.policyDigest else d

/-! ### Firmware images -/

/-- The header is well formed (R469). -/
def headerOk (im : Bytes) : Bool :=
  leAt 0 4 im == 0x4F514657 && leAt 4 2 im == 1 && leAt 6 2 im == 0 && leAt 12 4 im ≤ 128 && 4 ≤ leAt 16 4 im && leAt 16 4 im ≤ 524288 &&
  4 ≤ leAt 20 4 im && leAt 20 4 im ≤ 16777216 && allZero (slice 24 104 im)

/-- The bytes after a section's code: two public keys and two signatures (R469). -/
def sectionTail : Nat := 2592 + 60 + 4627 + 1616

/-- One section passes the checks of R470: both key digests equal the vendor hashes and both signatures verify. -/
def sectionOk (im : Bytes) (off len : Nat) : Bool :=
  let code := slice off len im
  let t := slice (off + len) sectionTail im
  let msg := im.take 128 ++ code
  t.length == sectionTail && Sha2.sha384 (t.take 2592) == vendorHash 0 && Sha2.sha384 (slice 2592 60 t) == vendorHash 4 &&
  mlDsa87Verify (t.take 2592) msg (ascii "OQ7168-FW") (slice 2652 4627 t) && Config.schemeOk 0x19 0 3 [slice 2592 60 t, msg, slice 7279 1616 t]

/-- Length of a whole image. -/
def imageLength (im : Bytes) : Nat := 128 + leAt 16 4 im + leAt 20 4 im + 2 * sectionTail

/-- Stage one and stage two pass R470, each by itself, for the given FW_MIN_SVN. -/
def stageOneOk (im : Bytes) (minSvn : Nat) : Bool := headerOk im && sectionOk im 128 (leAt 16 4 im) && leAt 12 4 im ≥ minSvn
def stageTwoOk (im : Bytes) (minSvn : Nat) : Bool :=
  headerOk im && sectionOk im (128 + leAt 16 4 im + sectionTail) (leAt 20 4 im) && leAt 12 4 im ≥ minSvn
def imageOk (im : Bytes) (minSvn : Nat) : Bool := stageOneOk im minSvn && stageTwoOk im minSvn && im.length == imageLength im

/-- Measurements of the two sections (R469). -/
def measure1 (im : Bytes) : Bytes := Sha2.sha384 (im.take 128 ++ slice 128 (leAt 16 4 im) im)
def measure2 (im : Bytes) : Bytes := Sha2.sha384 (im.take 128 ++ slice (128 + leAt 16 4 im + sectionTail) (leAt 20 4 im) im)

/-- What a bank holds, as the ROM judges it. A bank never written holds the factory image in bank A and nothing in bank B
(PRESUMED, assumption log 15). -/
def Dev.bankStage1 (d : Dev) (b : Nat) : Bool :=
  match tabGet? b d.boot.banks with | some x => stageOneOk x.image d.lcy.minSvn | none => b == 0
def Dev.bankStage2 (d : Dev) (b : Nat) : Bool :=
  match tabGet? b d.boot.banks with | some x => stageTwoOk x.image d.lcy.minSvn | none => b == 0
def Dev.bankM1 (d : Dev) (b : Nat) : Bytes := match tabGet? b d.boot.banks with | some x => measure1 x.image | none => unitBytes 20 48
def Dev.bankM2 (d : Dev) (b : Nat) : Bytes := match tabGet? b d.boot.banks with | some x => measure2 x.image | none => unitBytes 21 48
/-- VERSION and SVN of a bank's image (R469); the firmware as shipped has major version 1 (R2). -/
def Dev.bankVersion (d : Dev) (b : Nat) : Nat := match tabGet? b d.boot.banks with | some x => leAt 8 4 x.image | none => 0x01000000 + leNat (unitBytes 22 3)
def Dev.bankSvn (d : Dev) (b : Nat) : Nat := match tabGet? b d.boot.banks with | some x => leAt 12 4 x.image | none => 0

/-- Try one bank (R470): extend M0 when stage one is accepted and M1 when stage two is. (PRESUMED, assumption log 15) -/
def Dev.tryBank (d : Dev) (b : Nat) : Bool × Dev :=
  if d.bankStage1 b then
    let d := d.extend 0 0x01 0 (d.bankM1 b)
    if d.bankStage2 b then (true, d.extend 1 0x02 0 (d.bankM2 b)) else (false, d)
  else (false, d)

/-- The image runs (R466 M2): trial and fallback are measured. -/
def Dev.runBank (d : Dev) (b : Nat) (trial fallback : Bool) : Dev :=
  let d := d.onBoot (fun x => { x with running := b, trial := trial, fallback := fallback, trialDone := false })
  let cfg := Sha2.sha384 (natLE 1 b ++ natLE 4 (d.bankVersion b) ++ natLE 4 (d.bankSvn b) ++ natLE 2 0 ++ natLE 1 (bnat trial + 2 * bnat fallback))
  let d := d.extend 2 0x03 b cfg
  d.setNum P.idFwVersion 0 (d.bankVersion b)

/-- Steps 2 to 7 of R471: decode the life-cycle state, halt when SCRAPPED, measure OTP policy, select and run an image (R470,
R479), draw the calibration key, let the management ports answer. (PRESUMED, assumption log 15) -/
def Dev.romBoot (d : Dev) : Dev :=
  let d := d.onBoot (fun b => { b with slots := [], log := [], truncated := false, quotes := [], recoveryWait := false, halted := false, staging := none, staged := [] })
  let d := d.onLcy (fun l => { l with bootState := d.lcState })
  if d.lcState == 5 then (d.eraseEmber).onBoot (fun b => { b with halted := true, step := 2 })
  else
    let d := d.extend 3 0x04 0 (Sha2.sha384 d.otpPolicy)
    let pend := d.num P.fwPendingBank 0
    let act := d.num P.fwActiveBank 0
    let wasTrial := d.boot.trial
    let usePending := pend != 0 && !wasTrial
    let d := if pend != 0 && wasTrial then d.setNum P.fwPendingBank 0 0 else d
    let first := if usePending then pend - 1 else act
    let (ok, d) := d.tryBank first
    let d := if ok then d.runBank first usePending false
      else
        let d := if usePending then d.setNum P.fwPendingBank 0 0 else d
        let second := if usePending then act else 1 - act
        let (ok2, d) := d.tryBank second
        if ok2 then d.runBank second false true else d.onBoot (fun b => { b with recoveryWait := true, step := 3, trial := false })
    if d.boot.recoveryWait then d
    else
      let d := d.newCalibration.onVault (fun v => { v with calibrationInput := none })
      let d := d.onMgmt (fun g => { g with answering := true })
      d.onBoot (fun b => { b with step := 8 })

/-! ### Attestation -/

/-- The secret of the physical unclonable function; all zero in TEST_UNLOCKED (R473). -/
def Dev.pufSecret (d : Dev) : Bytes := if d.lcState == 1 then zeros 32 else unitBytes 97 32
/-- The secrets of the identity keys and of the attestation keys (R473, R474): 32 bytes for the ML-DSA key, then 48 for the ECDSA key, which the manual does not
divide. (DESIGN CHOICE, assumption log 123) -/
def Dev.identitySecret (d : Dev) : Bytes := Keccak.kmac 136 d.pufSecret [] 80 (ascii "OQ7168-IDENTITY")
def Dev.attestSecret (d : Dev) : Bytes := Keccak.kmac 136 d.identitySecret (d.slot 0 ++ d.slot 1 ++ d.slot 2 ++ d.slot 3) 80 (ascii "OQ7168-ALIAS")
/-- An ML-DSA signature by a key of that seed: hedged with drawn bytes, which the manual leaves open. (DESIGN CHOICE, assumption log 123) -/
def mlDsaSignBy (ps : Nat) (seed m rnd : Bytes) : Bytes := (MlDsa.sign ps (MlDsa.keygen ps seed) false m rnd).getD []
/-- The attestation key's signatures (R474, R475); the ECDSA half is the scheme's function of its secret (assumption log 4). -/
def Dev.signPq (d : Dev) (msg ctx rnd : Bytes) : Bytes := mlDsaSignBy 2 (d.attestSecret.take 32) (pureMessage ctx msg) rnd
def Dev.signEc (d : Dev) (msg : Bytes) : Bytes := fitLen 96 (Config.scheme 0x31 2 10 [d.attestSecret.drop 32, Sha2.sha384 msg])

/-- SHA-384 over the log (R475). -/
def Dev.logDigest (d : Dev) : Bytes := Sha2.sha384 (d.boot.log.flatMap LogEntry.bytes)

/-- A quote (R475), its slots, count and flags taken together (R476). -/
def Dev.quote (d : Dev) (nonce rnd : Bytes) : Bytes :=
  let flags := bnat d.dbg.certActive + 2 * bnat d.boot.truncated + 4 * bnat d.boot.trial + 8 * bnat d.boot.fallback + 16 * bnat (d.lcState == 1)
  let body := natLE 4 0x4F515154 ++ natLE 2 1 ++ natLE 1 d.modes.mode.code ++ natLE 1 d.lcState ++ deviceIdentity ++ fitLen 32 nonce ++ natLE 8 d.now ++
    natLE 6 d.time.stamp ++ zeros 2 ++ natLE 4 (d.bankVersion d.boot.running) ++ natLE 4 (d.bankSvn d.boot.running) ++ natLE 4 d.boot.log.length ++
    natLE 4 flags ++ zeros 24 ++ (List.range 8).flatMap d.slot ++ d.logDigest
  body ++ d.signPq body (ascii "OQ7168-QUOTE") rnd ++ d.signEc body

/-- The key under which the last quote of a session or page is kept (R534). -/
def srcKey : Src → Nat
  | .session n => 3 * n | .slicePage i => 3 * i + 1 | .devicePage => 2

/-- ATT_CMD_QUOTE (R472, R475, R534): bytes 0 to 2,023 in the response, the rest by a read of ATT_QUOTE. -/
def effAttQuote : Effect := withArg 32 fun d m =>
  if d.boot.step < 8 then deny d (Reply.err resNotReady)
  else
    let (b, e) := d.draw 32
    let q := d.quote m.body b
    (some (Reply.data' (q.take 2024)), e.onBoot (fun b => { b with quotes := tabSet (srcKey m.src) q b.quotes }))

/-! ### Firmware update -/

/-- The inactive bank. -/
def Dev.otherBank (d : Dev) : Nat := 1 - d.boot.running

/-- FW_CMD_STAGE_BEGIN (R478): the bank holds no whole image from now on. -/
def effStageBegin : Effect := withArg 4 fun d m =>
  let n := leNat m.body
  if d.boot.trial then deny d (Reply.err resBusy)
  else if n == 0 || n > 32505856 then deny d (Reply.range P.fwCmdStageBegin)
  else
    let d := d.setNum P.fwBankState d.otherBank 0
    accept (d.onBoot (fun b => { b with staging := some n, staged := [], banks := tabSet d.otherBank { image := [] } b.banks }))

/-- FW_STAGE_DATA (R478): the next chunk in order. -/
def stageData (d : Dev) (offset : Nat) (b : Bytes) : Option Reply × Dev :=
  match d.boot.staging with
  | none => deny d (Reply.err resState)
  | some n =>
    if b.length == 0 || b.length > 1792 || d.boot.staged.length + b.length > n then deny d (Reply.err resLength)
    else if offset != d.boot.staged.length then deny d (Reply.range P.fwStageData)
    else accept (d.onBoot (fun x => { x with staged := x.staged ++ b }))

/-- FW_STAGE_DATA as a message: OFFSET (4 bytes), then the bytes (R510). -/
def effStageData : Effect := fun d m => if m.body.length < 4 then deny d (Reply.err resLength) else stageData d (leAt 0 4 m.body) (m.body.drop 4)

/-- FW_CMD_STAGE_END (R478): the whole image is checked, and the bank becomes staged. -/
def effStageEnd : Effect := withArg 0 fun d _ =>
  match d.boot.staging with
  | none => deny d (Reply.err resState)
  | some n =>
    let im := d.boot.staged
    let d := d.onBoot (fun b => { b with staging := none, staged := [] })
    if im.length == n && imageOk im d.lcy.minSvn then
      let b := d.otherBank
      accept ((d.onBoot (fun x => { x with banks := tabSet b { image := im } x.banks })).setNum P.fwBankState b 1)
    else deny (d.setNum P.fwBankState d.otherBank 0) (Reply.refused "IMAGE" 0)

/-- FW_CMD_ACTIVATE (R479). -/
def effActivate : Effect := withArg 0 fun d _ =>
  let b := d.otherBank
  if d.num P.fwBankState b != 1 || d.boot.trial then deny d (Reply.err resState) else accept (d.setNum P.fwPendingBank 0 (b + 1))

/-- FW_CMD_CONFIRM (R479): a trial that reached step 10. -/
def effConfirm : Effect := withArg 0 fun d _ =>
  if d.boot.trial && d.boot.trialDone then
    let b := d.boot.running
    let d := (((d.setNum P.fwActiveBank 0 b).setNum P.fwPendingBank 0 0).setNum P.fwBankState b 2).setNum P.fwBankState (1 - b) 1
    accept (d.onBoot (fun x => { x with trial := false }))
  else deny d (Reply.err resState)

/-- FW_CMD_CANCEL (R479): before the reset. -/
def effCancel : Effect := withArg 0 fun d _ =>
  if d.num P.fwPendingBank 0 != 0 && !d.boot.trial then accept (d.setNum P.fwPendingBank 0 0) else deny d (Reply.err resState)

/-- FW_CMD_COMMIT_SVN (R480): never lowers FW_MIN_SVN. -/
def effCommitSvn : Effect := withArg 0 fun d _ =>
  if d.boot.trial then deny d (Reply.err resState)
  else if d.domain 20 != .on then deny d (Reply.err resState)
  else
    let v := d.bankSvn (d.num P.fwActiveBank 0)
    accept (d.onLcy (fun l => { l with minSvn := max l.minSvn v }))

/-- FW_RECOVER (R470): in recovery wait, chunks of an image into bank A; a whole and good image restarts the device. -/
def effRecover (restart : Dev → Dev) : Effect := fun d m =>
  if !d.boot.recoveryWait then deny d (Reply.err resState)
  else if m.body.length ≤ 4 || m.body.length > 1796 then deny d (Reply.err resLength)
  else if leAt 0 4 m.body != 0 && leAt 0 4 m.body != d.boot.recovery.length then deny d (Reply.range P.fwRecover)
  else
    let im := (if leAt 0 4 m.body == 0 then [] else d.boot.recovery) ++ m.body.drop 4
    if im.length ≥ 128 && im.length ≥ imageLength im then
      if imageOk im d.lcy.minSvn then
        let d := (d.onBoot (fun b => { b with recovery := [], banks := tabSet 0 { image := im } b.banks })).setNum P.fwBankState 0 2
        (some Reply.ok, restart d)
      else deny (d.onBoot (fun b => { b with recovery := [] })) (Reply.refused "IMAGE" 0)
    else accept (d.onBoot (fun b => { b with recovery := im }))

/-! ### The commands -/

def execAttCmdQuote (m : Msg) (s : State) := s.run fun d => d.serve d.lc P.attCmdQuote 0 m false effAttQuote
def execFwCmdStageBegin (m : Msg) (s : State) := s.run fun d => d.serve d.lc P.fwCmdStageBegin 0 m false effStageBegin
def execFwStageData (m : Msg) (s : State) := s.run fun d => d.serve d.lc P.fwStageData 0 m false effStageData
def execFwCmdStageEnd (m : Msg) (s : State) := s.run fun d => d.serve d.lc P.fwCmdStageEnd 0 m false effStageEnd
def execFwCmdActivate (m : Msg) (s : State) := s.run fun d => d.serve d.lc P.fwCmdActivate 0 m false effActivate
def execFwCmdConfirm (m : Msg) (s : State) := s.run fun d => d.serve d.lc P.fwCmdConfirm 0 m false effConfirm
def execFwCmdCancel (m : Msg) (s : State) := s.run fun d => d.serve d.lc P.fwCmdCancel 0 m false effCancel
def execFwCmdCommitSvn (m : Msg) (s : State) := s.run fun d => d.serve d.lc P.fwCmdCommitSvn 0 m false effCommitSvn
def effDbgApplyM7 : Effect := effDbgApply (fun d dig => d.extend 7 0x09 0 dig)
def execDbgCmdApply (m : Msg) (s : State) := s.run fun d => d.serve d.lc P.dbgCmdApply 0 m false effDbgApplyM7

end Sys2Proof.Machine
end

