-- ==== Sys2Proof/Machine/Tamper.lean ====
section
/-! DEFINITION. Supplies, clocks, temperature, glitches, shield, enclosure and the built-in tests of their monitors (R411 to R440). -/

namespace Sys2Proof.Machine

/-! ### Supplies -/

/-- A rail's record. -/
def Dev.rail (d : Dev) (r : Nat) : RailSt := tabGet RailSt.reset r d.power.rails
/-- Change a rail. -/
def Dev.onRail (d : Dev) (r : Nat) (f : RailSt → RailSt) : Dev := d.onPower (fun p => { p with rails := tabSet r (f (d.rail r)) p.rails })

/-- Is the rail watched: VDD_OTP only while the OTP domain is on (R415)? -/
def Dev.railWatched (d : Dev) (r : Nat) : Bool := d.watching && (r != 6 || d.domain 20 == .on)

/-- A burn under way stops after its bit when VDD_OTP or VDD_CORE crosses its warning level (R451). -/
def Dev.burnWarned (d : Dev) (r : Nat) : Dev :=
  if (r == 0 || r == 6) && d.lcy.burning.isSome then d.onLcy (fun l => { l with burnStop := true }) else d

/-- A rail crosses below warning (R416): source 0x0100 + r, an excursion window, the count, and at the 16th crossing in one
second source 0x0140. -/
def railBelowWarning (r mv : Nat) (d : Dev) : Dev :=
  if !d.railWatched r || (d.rail r).lowSince.isSome then d
  else
    let d := d.onRail r (fun x => { x with millivolts := mv, lowSince := some d.now, lowReported := false })
    let d := (d.burnWarned r).addNum P.tmpExcursionCount r 1
    let recent := d.tamper.crossings.filter (fun t => t + ticksPerS > d.now) ++ [d.now]
    let d := d.onTamper (fun t => { t with crossings := recent })
    let d := (d.openWindow (0x100 + r)).raise (0x100 + r) mv
    if recent.length == 16 then d.raise 0x140 mv else d

/-- Still below warning 1 ms after the crossing (R416). -/
def railWarning1ms (r mv : Nat) (d : Dev) : Dev :=
  match (d.rail r).lowSince with
  | some t =>
    if d.railWatched r && !(d.rail r).lowReported && d.now ≥ t + 1000 * ticksPerUs then
      (d.onRail r (fun x => { x with lowReported := true, millivolts := mv })).raise (0x110 + r) mv
    else d
  | none => d

/-- The record of a rail's excursion durations (R416): log bins, BASE 0, k = 7. -/
def histoKey (r : Nat) : Nat := 2000 + r

/-- A rail rises to recovery (R415, R416): its duration enters the histogram, and its window will end 5 µs later. -/
def railRecover (r mv : Nat) (d : Dev) : Dev :=
  match (d.rail r).lowSince with
  | none => d
  | some t =>
    let d := d.onRail r (fun x => { x with millivolts := mv, lowSince := none, lowReported := false })
    let rec' := (d.monitor (histoKey r)).take d.now true 0 7 ((d.now - t : Nat) : Int)
    (d.onMonitors (tabSet (histoKey r) rec')).closeWindow (0x100 + r) (d.now + 5 * ticksPerUs)

/-- The excursion window closes 5 µs after recovery and key-bearing dispatch resumes (R91, R416). -/
def excursionWindowEnd (d : Dev) : Dev := d.liftHold

/-- A rail above over-voltage (R416). -/
def railOverVoltage (r mv : Nat) (d : Dev) : Dev :=
  if d.railWatched r then (d.onRail r (fun x => { x with millivolts := mv })).raise (0x120 + r) mv else d

/-- Every microsecond each rail voltage is sampled into its monitor (R381); guard levels are read from it (R91). (DESIGN CHOICE, assumption log 113) -/
def railSampleTick (r mv : Nat) (d : Dev) : Dev :=
  if d.modes.mode.powered then
    let d := if r < 7 then d.onRail r (fun x => { x with millivolts := mv }) else d.onPower (fun p => { p with vbatMillivolts := mv })
    d.sample (1328 + r) (mv : Int)
  else d

/-! ### Clocks -/

/-- The clock domains of R491 that a monitored clock drives (R419). -/
def monitoredClocks (c : Nat) : List Nat := if c == 1 then [1, 2, 3, 4] else if c == 2 then [9, 10, 11, 12] else if c == 3 then [13, 14] else if c == 4 then [22] else [21]

/-- Is the clock running (R419: only clocks whose domains run are checked)? -/
def Dev.clockRuns (d : Dev) (c : Nat) : Bool :=
  d.watching &&
  (c == 0 || (d.time.pllLocked && (monitoredClocks c).any (fun n => d.domainLive (clockPower n))))

/-- The end of a clock monitor's window, its count in thousandths of nominal (R419, R420). A good window ends the excursion
window that the clock opened. -/
def clockMonitorWindow (c pm : Nat) (d : Dev) : Dev :=
  if !d.clockRuns c then d
  else if pm > 1080 || pm < 920 then
    let d := if d.tamper.clocksBad.contains c then d else (d.onTamper (fun t => { t with clocksBad := c :: t.clocksBad })).openWindow (0x200 + c)
    d.raise ((if pm > 1080 then 0x200 else 0x210) + c) pm
  else if d.tamper.clocksBad.contains c then
    ((d.onTamper (fun t => { t with clocksBad := t.clocksBad.filter (· != c) })).closeWindow (0x200 + c) d.now).liftHold
  else d

/-- A cycle shorter than 75 % of nominal (R419). -/
def clockShortCycle (c : Nat) (d : Dev) : Dev := if d.clockRuns c then d.raise (0x220 + c) 0 else d

/-- The RC oscillator against the backup crystal (R419): outside ±15 % raises 0x0230. -/
def rcCrystalCheck (pm : Nat) (d : Dev) : Dev :=
  if d.watching && d.time.crystalRuns && (pm > 1150 || pm < 850) then d.raise 0x230 pm else d

/-! ### Temperature -/

/-- One sensor condition: it raises once, and re-arms 5 °C inside its threshold (R421). Temperatures in 0.125 °C. -/
def Dev.tempCondition (d : Dev) (src : Nat) (x : Int) (beyond inside : Bool) : Dev :=
  if beyond && !d.tamper.tempReported.contains src then
    (d.onTamper (fun t => { t with tempReported := src :: t.tempReported })).raise src (int64 x)
  else if inside && d.tamper.tempReported.contains src then d.onTamper (fun t => { t with tempReported := t.tempReported.filter (· != src) })
  else d

/-- Every 100 µs a die sensor is sampled (R381, R421): warning at 100 °C, alarm at 112 °C, low alarm at −30 °C. (DESIGN CHOICE, assumption log 113) -/
def temperatureSample (s : Nat) (x : Int) (d : Dev) : Dev :=
  if d.watching then
    let d := d.sample (1336 + s) x
    let d := d.tempCondition (0x300 + s) x (decide (x ≥ 800)) (decide (x ≤ 760))
    let d := d.tempCondition (0x320 + s) x (decide (x ≥ 896)) (decide (x ≤ 856))
    d.tempCondition (0x340 + s) x (decide (x ≤ -240)) (decide (x ≥ -200))
  else d

/-! ### Glitches -/

/-- The 16 bytes of a tile's baselines (R380): μ and σ of each sensor; of OTP until its first valid window. -/
def Dev.baseline (d : Dev) (t : Nat) : Bytes := if (d.oct P.qncBaseline t).isEmpty then unitBytes (400 + t) 16 else d.oct P.qncBaseline t
/-- A sensor's code lies outside its glitch thresholds (R422): μ less or more K × σ, at least 3 codes from μ. -/
def Dev.isGlitch (d : Dev) (t sensor code : Nat) : Bool :=
  let m := 100 * leAt (4 * sensor) 2 (d.baseline t)
  let w := Nat.max (d.num P.tmpGlitchK 0 * leAt (4 * sensor + 2) 2 (d.baseline t)) (3 * 25600)
  decide (sensor < 4) && decide (code < 64) && (decide (25600 * code + w < m) || decide (m + w < 25600 * code))

/-- A tile's sensor code is compared with its glitch thresholds (R422, R423). One outside them is a glitch: source 0x0400 and a tile window; the third on one tile
in one second takes the tile out; eight tiles in one microsecond open a device-wide window. -/
def tileGlitch (t sensor code : Nat) (d : Dev) : Dev :=
  if !d.unitPowered t || !d.modes.mode.powered || !d.isGlitch t sensor code then d
  else
    let w := (d.now - ticksPerUs, d.now + 5 * ticksPerUs)
    let recent := (d.unit t).glitchTimes.filter (fun x => x + ticksPerS > d.now) ++ [d.now]
    let d := d.onUnit t (fun u => { u with windows := u.windows ++ [w], glitchTimes := recent })
    let d := d.raiseUnit 0x400 t (sensor + t * 256 + code * 65536)
    let d := if recent.length == 3 then (d.raiseUnit 0x401 t (sensor + t * 256 + code * 65536)).drainUnit t .alarm else d
    let near := d.tamper.glitches.filter (fun g => g.1 + ticksPerUs ≥ d.now && g.2 != t) ++ [(d.now, t)]
    let d := d.onTamper (fun x => { x with glitches := near })
    if near.length == 8 then
      let first := near.foldl (fun m g => min m g.1) d.now
      (d.onTamper (fun x => { x with windows := x.windows ++ [{ source := 0x402, start := first - ticksPerUs, stop := some (d.now + 5 * ticksPerUs) }], a1Hold := true })).raise 0x402 near.length
    else d

/-! ### Shield and enclosure -/

/-- The shield patterns change and the far ends are compared (R424). -/
def shieldPatternChange (mismatch : Bool) (d : Dev) : Dev :=
  if !d.watching then d
  else
    let (n, d) := d.fresh
    let d := d.onTamper (fun t => { t with shieldPattern := n, shieldFromDrbg := (d.inst 0).seeded })
    if mismatch then d.raise 0x500 0 else d

/-- One 64 Hz sample of the enclosure (R425): a fresh pattern on each enabled mesh pair; a switch counts when two samples running
find it at its active level. -/
def enclosureSample (mesh : BitVec 8) (levels : BitVec 4) (d : Dev) : Dev :=
  if d.modes.mode == .off then d
  else
    let (n, d) := d.fresh
    let active := levels.toNat ^^^ (15 - d.num P.tmpSwitchPolarity 0 % 16)
    let was := d.backup.switchActive
    let d := d.onBackup (fun b => { b with meshPattern := n, switchActive := active })
    let d := (List.range 8).foldl (fun x p => if mesh.toNat.testBit p && (x.num P.tmpMeshEnable 0).testBit p then x.raise (0x700 + p) p else x) d
    (List.range 4).foldl (fun x w =>
      if active.testBit w && was.testBit w && (x.num P.tmpSwitchEnable 0).testBit w then x.raise (0x710 + w) w else x) d

/-- VBAT below its low warning: recorded and nothing more (R417); VBAT above over-voltage; the crystal stopped; the backup domain
too cold (R414). -/
def vbatLowWarning (mv : Nat) (d : Dev) : Dev := if d.modes.mode == .off then d else (d.onPower (fun p => { p with vbatMillivolts := mv })).raise 0x720 mv
def vbatOverVoltage (mv : Nat) (d : Dev) : Dev := if d.modes.mode == .off then d else (d.onPower (fun p => { p with vbatMillivolts := mv })).raise 0x721 mv
def backupCrystalStopped (d : Dev) : Dev :=
  if d.modes.mode == .off then d else (d.onTime (fun t => { t with crystalRuns := false })).raise 0x722 0
def backupTemperatureLow (x : Int) (d : Dev) : Dev := if d.modes.mode == .off then d else d.raise 0x723 (int64 x)

/-! ### Built-in tests -/

/-- The monitors tested in turn (R430, R431): one per source watched on main power, and one per source watched always. -/
def mainMonitors : List Nat := (List.range 0x700).filter (fun s => sourceListed s && s != 0x140 && s / 16 != 0x11 && s != 0x401 && s != 0x402 && s != 0x600 && s != 0x601)
def backupMonitors : List Nat := (List.range 0x724).filter (fun s => sourceListed s && s ≥ 0x700)

/-- The next monitor of a round is tested: its path B is stimulated with its response suppressed (R431). -/
def Dev.startBist (d : Dev) (backupDomain : Bool) : Dev :=
  if backupDomain then
    let i := d.tamper.bistBackupNext % backupMonitors.length
    d.onTamper (fun t => { t with testing := backupMonitors[i]?, bistBackupNext := i + 1, bistBackupStart := if i == 0 then d.time.stamp else t.bistBackupStart })
  else
    let i := d.tamper.bistNext % mainMonitors.length
    d.onTamper (fun t => { t with testing := mainMonitors[i]?, bistNext := i + 1, bistStart := if i == 0 then d.now else t.bistStart })
/-- A test is due: the rounds of main-power monitors begin TMP_BIST_PERIOD_S seconds apart, those of the backup domain 64 s (R431). (DEDUCED, assumption log 141) -/
def Dev.bistDue (d : Dev) (backupDomain : Bool) : Bool :=
  if backupDomain then d.tamper.bistBackupNext % backupMonitors.length != 0 || d.tamper.bistBackupNext == 0 || decide (d.tamper.bistBackupStart + 64 * 32768 ≤ d.time.stamp)
  else d.tamper.bistNext % mainMonitors.length != 0 || d.tamper.bistNext == 0 || decide (d.tamper.bistStart + d.num P.tmpBistPeriodS 0 * ticksPerS ≤ d.now)
/-- The monitors are tested in turn, one at a time (R431). -/
def monitorBistTick (backupDomain : Bool) (d : Dev) : Dev :=
  if d.modes.mode == .off || d.tamper.testing.isSome || (!backupDomain && !d.modes.mode.powered) || !d.bistDue backupDomain then d else d.startBist backupDomain

/-- The test window ends (R431): an A0 entry with the TEST flag and the outcome; a path B that did not trip raises 0x0600 or 0x0724. -/
def monitorTestWindowEnd (tripped : Bool) (d : Dev) : Dev :=
  match d.tamper.testing with
  | none => d
  | some s =>
    let d := d.onTamper (fun t => { t with testing := none })
    let d := if !sourceBackup s then d.recordAlarm s 0 0 0 (bnat tripped) true
      else if d.modes.mode.powered then d.logCopied s 0 0 (bnat tripped) false true
      else d.logBackup s 0 (bnat tripped) false false true
    if tripped then d else d.raise (if sourceBackup s then 0x724 else 0x600) s

/-- The two paths of a monitor disagree for more than 1 µs (R430), outside its own test. -/
def pathDisagreement (s : Nat) (d : Dev) : Dev := if d.watching && d.tamper.testing != some s then d.raise 0x601 s else d

/-- TMP_CMD_BIST tests the next monitor at once (R431). (DEDUCED, assumption log 141) -/
def effBist : Effect := withArg 0 fun d _ => if d.tamper.testing.isSome then deny d (Reply.err resBusy) else accept (d.startBist false)

/-! ### Acknowledgement and settings -/

/-- TMP_CMD_ACK (R439): every entry up to a log position, with the backup-log entries they were copied from; an OPERATOR A0 to A2 only. -/
def effAck : Effect := withArg 4 fun d m =>
  let pos := leNat m.body
  let role := match m.src with | .session n => ((tabGet? n d.mgmt.sessions).map Session.role).getD 0 | _ => 0
  let lo := d.tamper.logNext - 1024
  let upTo := d.tamper.log.filter (fun e => e.2.acked == false && (List.range (min (pos + 1) d.tamper.logNext - lo)).any (fun i => (lo + i) % 1024 == e.1))
  if pos ≥ d.tamper.logNext then deny d (Reply.range P.tmpCmdAck)
  else if role == roleOperator && upTo.any (fun e => e.2.cls ≥ 3) then deny d (Reply.err resAccess)
  else
    let seqs := upTo.filterMap (fun e => e.2.blogSeq)
    let d := d.onTamper (fun t => { t with log := tabMap (fun k e => if upTo.any (fun x => x.1 == k) then { e with acked := true } else e) t.log })
    accept (d.onBackup (fun b => { b with log := b.log.map (fun e => if seqs.contains e.seq then { e with acked := true } else e) }))

/-- ALARM_N is low while an unacknowledged entry has class TMP_PIN_CLASS or higher (R439). -/
def Dev.alarmN (d : Dev) : Bool := d.tamper.log.any (fun e => !e.2.acked && e.2.cls ≥ d.num P.tmpPinClass 0)

/-- TMP_CMD_TAMPER_CLEAR (R440). -/
def effTamperClear : Effect := withArg 0 fun d _ =>
  if d.backup.reprovisioned then accept (d.onBackup (fun b => { b with tamperOut := false })) else deny d (Reply.err resState)

/-- A write of TMP_CLASS (R412, R426): below the floor, beyond A4, or naming no source it is refused; a unit source takes no A2
device response; in FIELDED no switch row is lowered. -/
def effTmpClass : Effect := withArg 1 fun d m =>
  let s := m.row.toNat
  let v := leNat m.body
  if !sourceListed s then deny d (Reply.err resUnknown)
  else if v > 4 || v < sourceFloor s then deny d (Reply.range P.tmpClass)
  else if d.lcState ≥ 3 && s / 16 == 0x71 && v < d.sourceClass s then deny d (Reply.err resState)
  else accept ((d.setNum P.tmpClass s v).policyWritten P.tmpClass)

/-- A write of an enable mask (R426, R446): from FIELDED on, no bit is cleared. -/
def effEnableMask (p : Param) (hi : Nat) : Effect := withArg 1 fun d m =>
  let v := leNat m.body
  if v > hi then deny d (Reply.range p)
  else if d.lcState ≥ 3 && d.num p 0 &&& v != d.num p 0 then deny d (Reply.err resState)
  else accept ((d.setNum p 0 v).policyWritten p)

/-- A write of TMP_A4_SCRAP (R437, R446): from FIELDED on it is not cleared. -/
def effA4Scrap : Effect := withArg 1 fun d m =>
  let v := leNat m.body
  if v > 1 then deny d (Reply.range P.tmpA4Scrap)
  else if d.lcState ≥ 3 && v == 0 then deny d (Reply.err resState)
  else accept ((d.setNum P.tmpA4Scrap 0 v).policyWritten P.tmpA4Scrap)

/-! ### The commands -/

def execRailBelowWarning (r mv : Nat) (s : State) := s.runPart r 7 (railBelowWarning r mv)
def execRailWarning1ms (r mv : Nat) (s : State) := s.runPart r 7 (railWarning1ms r mv)
def execRailRecover (r mv : Nat) (s : State) := s.runPart r 7 (railRecover r mv)
def execRailOverVoltage (r mv : Nat) (s : State) := s.runPart r 7 (railOverVoltage r mv)
def execRailSampleTick (r mv : Nat) (s : State) := s.runPart r 8 (railSampleTick r mv)
def execExcursionWindowEnd (s : State) := s.run excursionWindowEnd
def execClockMonitorWindow (c pm : Nat) (s : State) := s.runPart c 6 (clockMonitorWindow c pm)
def execClockShortCycle (c : Nat) (s : State) := s.runPart c 6 (clockShortCycle c)
def execRcCrystalCheck (pm : Nat) (s : State) := s.run (rcCrystalCheck pm)
def execTemperatureSample (n : Nat) (x : Int) (s : State) := s.runPart n 20 (temperatureSample n x)
def execTileGlitch (t sensor code : Nat) (s : State) := s.runPart t nTiles (tileGlitch t sensor code)
def execShieldPatternChange (mismatch : Bool) (s : State) := s.run (shieldPatternChange mismatch)
def execEnclosureSample (mesh : BitVec 8) (sw : BitVec 4) (s : State) := s.run (enclosureSample mesh sw)
def execVbatLowWarning (mv : Nat) (s : State) := s.run (vbatLowWarning mv)
def execVbatOverVoltage (mv : Nat) (s : State) := s.run (vbatOverVoltage mv)
def execBackupCrystalStopped (s : State) := s.run backupCrystalStopped
def execBackupTemperatureLow (x : Int) (s : State) := s.run (backupTemperatureLow x)
def execMonitorBistTick (b : Bool) (s : State) := s.run (monitorBistTick b)
def execMonitorTestWindowEnd (b : Bool) (s : State) := s.run (monitorTestWindowEnd b)
def execPathDisagreement (n : Nat) (s : State) := s.run (pathDisagreement n)
def execTmpCmdBist (m : Msg) (s : State) := s.run fun d => d.serve d.lc P.tmpCmdBist 0 m false effBist
def execTmpCmdAck (m : Msg) (s : State) := s.run fun d => d.serve d.lc P.tmpCmdAck 0 m false effAck
def execTmpCmdTamperClear (m : Msg) (s : State) := s.run fun d => d.serve d.lc P.tmpCmdTamperClear 0 m false effTamperClear
def execTmpClass (m : Msg) (s : State) := s.run fun d => d.serve d.lc P.tmpClass 0 m true effTmpClass
def execTmpMeshEnable (m : Msg) (s : State) := s.run fun d => d.serve d.lc P.tmpMeshEnable 0 m true (effEnableMask P.tmpMeshEnable 0xFF)
def execTmpSwitchEnable (m : Msg) (s : State) := s.run fun d => d.serve d.lc P.tmpSwitchEnable 0 m true (effEnableMask P.tmpSwitchEnable 0x0F)
def execTmpA4Scrap (m : Msg) (s : State) := s.run fun d => d.serve d.lc P.tmpA4Scrap 0 m true effA4Scrap

end Sys2Proof.Machine
end

