-- ==== Sys2Proof/Machine/Quench.lean ====
section
/-! DEFINITION. The quench loop of each tile (R361 to R380): probes, the t-test window, levels and calibration. -/

namespace Sys2Proof.Machine

/-- Integer square root, of numbers below 2^64. -/
def isqrt (x : Nat) : Nat := Sha2.rootBits 2 (min x (2 ^ 64 - 1)) 32 0

/-- A tile's quench record. -/
def Dev.q (d : Dev) (t : Nat) : QuenchSt := tabGet QuenchSt.reset t d.quench
/-- Change a tile's quench record. -/
def Dev.onQ (d : Dev) (t : Nat) (f : QuenchSt → QuenchSt) : Dev := d.onQuench (tabSet t (f (d.q t)))

/-- A tile's level (R370): QNC_LEVEL, whose default is QNC_FLOOR (R531). -/
def Dev.level (d : Dev) (t : Nat) : Nat :=
  match tabGet? (P.qncLevel, t) d.dict.nums with | some l => l | none => d.num P.qncFloor 0

/-- Throughput factor of a level in hundredths (R370). -/
def levelFactor (l : Nat) : Nat := [100, 100, 95, 90, 82, 62, 50, 40].getD l 40

/-- Base length of a probe by requested order (R364). -/
def probeBase (o : Nat) : Nat := if o == 1 then 1856 else if o == 3 then 2880 else 2304

/-- Nominal length: base divided by the factor, rounded to the nearest cycle (R364). (DEDUCED, assumption log 106) -/
def probeLength (o l : Nat) : Nat := (200 * probeBase o + levelFactor l) / (2 * levelFactor l)

/-- The credit at which a probe is due (R365). -/
def Dev.probeDue (d : Dev) (t : Nat) : Nat := (2 ^ d.num P.qncDutyExp 0 - 1) * probeLength (d.q t).lastOrder (d.level t)

/-- Tile cycles spent on live work add to the credit, which stops at the due value (R365). (DEDUCED, assumption log 106) -/
def Dev.addCredit (d : Dev) (t cycles : Nat) : Dev := d.onQ t (fun q => { q with credit := min (q.credit + cycles) (d.probeDue t) })

/-- Does the loop run on the tile: QNC_MODE is RUN and its pool state is not OUT or OFF (R373, R378)? -/
def Dev.quenchRuns (d : Dev) (t : Nat) : Bool :=
  d.num P.qncMode 0 == 0 && d.modes.mode.powered && d.unitPowered t && (d.unit t).pool != .out && (d.unit t).pool != .off

/-- Is the tile free between two activities? -/
def Dev.tileFree (d : Dev) (t : Nat) : Bool := (d.unit t).job.isNone && !(d.unit t).scrubbing && !(d.unit t).refreshing && !(d.q t).probing

/-- A new level takes effect at the gap (R374), is recorded as an A0 event and counted. -/
def Dev.setLevel (d : Dev) (t l : Nat) : Dev :=
  let old := d.level t
  if l == old then d
  else
    let d := d.setNum P.qncLevel t l
    let det := old + l * 256 + d.num P.qncTLast t * 65536 + d.num P.qncTWhere t * 2 ^ 32
    let d := d.raiseUnit 0x804 t det
    if l > old then d.addNum P.qncRaiseCount t 1 else d.addNum P.qncLowerCount t 1

/-- Apply the pending level where the tile stands between two activities (R374, R80). -/
def Dev.applyLevel (d : Dev) (t : Nat) : Dev :=
  match (d.q t).pendingLevel with
  | some l => if d.tileFree t then (d.setLevel t l).onQ t (fun q => { q with pendingLevel := none }) else d
  | none => d

/-- Ask for a level: at once on a free tile, else at its next gap. -/
def Dev.wantLevel (d : Dev) (t l : Nat) : Dev := (d.onQ t (fun q => { q with pendingLevel := some l })).applyLevel t

/-- The effective masking order of a probe: the order raise of levels 5 to 7 applies to it (R97, R364, R371). -/
def Dev.probeOrder (d : Dev) (t : Nat) : Nat := if d.level t ≥ 5 then Nat.min 3 ((d.q t).lastOrder + 1) else (d.q t).lastOrder

/-- The cycles of a probe in which the spark generator delivers: at level 1 and above decoy noise draws in every one; at level 0, where its gadgets, masked
hash and key reads do, at most as many (R111). -/
def Dev.probeDraws (d : Dev) (t : Nat) : Nat := (d.q t).length

/-- An assignment to a tile that runs an idle probe abandons the probe (R366): its samples are discarded, and a pending level takes effect (R374). (DEDUCED, assumption log 106) -/
def Dev.abandonProbe (d : Dev) (t : Nat) : Dev :=
  if (d.q t).probing && (d.q t).idleProbe then
    let (n, d) := d.fresh
    ((d.onQ t (fun q => { q with probing := false, probeEnded := none })).sparkDraw t (Config.freeNat n % (d.probeDraws t + 1))).applyLevel t
  else d

/-- The 256 bytes of the calibration key (R362), drawn from instance 0 when a probe first needs them; the fixed-class input follows the first key of a boot (R363).
(DEDUCED, assumption log 137) -/
def Dev.drawCalibration (d : Dev) : Dev :=
  if d.vault.calibrationKey.isSome then d
  else
    let (k, d) := d.draw 256
    let d := d.onVault (fun v => { v with calibrationKey := some k })
    if d.vault.calibrationInput.isSome then d
    else
      let (x, d) := d.draw 64
      d.onVault (fun v => { v with calibrationInput := some x })

/-- Start a probe (R362, R363): the 256-byte calibration key is loaded unless the key register holds it, one spark bit chooses the class, and a random-class probe
takes 64 fresh bytes of spark output, four more outputs. The level's nominal length holds to its end (R364, R374). -/
def Dev.startProbe (d : Dev) (t : Nat) (idle : Bool) : Dev :=
  let d := d.drawCalibration
  let h : KeyHeld := { node := 2 ^ 28, gen := d.vault.calibration, slice := 0xFFFF, order := d.probeOrder t, form := 8 }
  let d := if (d.unit t).key == some h then d else d.loadShares t h (d.vault.calibrationKey.getD [])
  let (n, d) := d.fresh
  let fixed := !Config.freeBool n
  (d.onQ t (fun q => { q with probing := true, idleProbe := idle, probeEnded := none, length := probeLength q.lastOrder (d.level t), fixed := fixed,
                              input := if fixed then d.vault.calibrationInput.getD [] else drawBytes n 64 })).sparkDraw t (if fixed then 1 else 5)

/-- A due probe runs between two live operations (R365), and its credit is subtracted. -/
def probeRun (t : Nat) (d : Dev) : Dev :=
  if d.quenchRuns t && d.tileFree t && (d.unit t).spark.seeded && (d.q t).credit ≥ d.probeDue t && (d.unit t).pool != .returning then
    (d.onQ t (fun q => { q with credit := q.credit - d.probeDue t })).startProbe t false
  else d

/-- An idle tile in service starts an idle probe (R366); a calibrating tile runs probes in the same way (R376). -/
def idleProbeStart (t : Nat) (d : Dev) : Dev :=
  if d.quenchRuns t && d.tileFree t && (d.unit t).spark.seeded && ((d.flag P.qncIdleProbe 0 && (d.unit t).pool != .returning) || (d.q t).calibrating) then d.startProbe t true else d

/-- A probe ends (R374): the tile is free, a pending level takes effect, and the samples wait out 1 µs (R367). -/
def probeEnd (t : Nat) (d : Dev) : Dev :=
  if (d.q t).probing then
    let (n, d) := d.fresh
    let k := d.probeDraws t
    ((d.onQ t (fun q => { q with probing := false, probeEnded := some d.now })).sparkDraw t (if d.level t ≥ 1 then k else Config.freeNat n % (k + 1))).applyLevel t
  else d

/-- The samples of a probe whose execution overlapped a window are discarded (R367). -/
def Dev.probeDirty (d : Dev) (t start stop : Nat) : Bool :=
  d.tamper.windows.any (fun w => w.start ≤ stop && (match w.stop with | some e => start ≤ e | none => true)) ||
  (d.unit t).windows.any (fun w => w.1 ≤ stop && start ≤ w.2)

/-- The sums of one probe's codes over its 512 points, point p covering cycles ⌊pL/512⌋ to ⌊(p+1)L/512⌋ − 1, later samples in point
511 (R368). -/
def pointSums (len : Nat) (codes : List Nat) : List Nat :=
  (List.range 512).map (fun p =>
    let a := p * len / 512
    let b := if p == 511 then codes.length else (p + 1) * len / 512
    ((codes.drop a).take (b - a)).foldl (· + ·) 0)

/-- 1 µs after a probe ends without an excursion, its samples enter the accumulator (R367, R368). (DESIGN CHOICE, assumption log 113) -/
def probeSampleCommit (t : Nat) (p : ProbeSample) (d : Dev) : Dev :=
  let q := d.q t
  match q.probeEnded with
  | none => d
  | some e =>
    let len := q.length
    let start := e - len / 16
    if d.now < e + ticksPerUs then d
    else if q.windowEnded || !d.quenchRuns t || d.probeDirty t start e then d.onQ t (fun q => { q with probeEnded := none })
    else
      let add (acc : Tab (Nat × Nat × Bool) QAcc) (s : Nat) : Tab (Nat × Nat × Bool) QAcc :=
        ((pointSums len (p.codes.getD s [])).zipIdx).foldl (fun a x =>
          tabMod { sum := 0, sumSq := 0 } (s, x.2, q.fixed) (fun c => { sum := c.sum + x.1, sumSq := c.sumSq + x.1 * x.1 }) a) acc
      let base (b : Tab Nat (Nat × Nat × Nat)) (s : Nat) : Tab Nat (Nat × Nat × Nat) :=
        let cs := p.codes.getD s []
        tabMod (0, 0, 0) s (fun x => (x.1 + cs.length, x.2.1 + cs.foldl (· + ·) 0, x.2.2 + cs.foldl (fun a c => a + c * c) 0)) b
      d.onQ t (fun q => { q with probeEnded := none, probes := q.probes + 1,
                                 fixedCount := q.fixedCount + bnat q.fixed, randomCount := q.randomCount + bnat (!q.fixed),
                                 acc := (List.range 4).foldl add q.acc, base := (List.range 4).foldl base q.base })

/-- A window is 16,384 accepted probes (R368). -/
def windowProbes : Nat := 16384

/-- The last accepted probe ends the window (R369): with fewer than 4,096 of a class it is invalid, is counted, and the
accumulator clears; else the statistic is being computed. -/
def quenchWindowEnd (t : Nat) (d : Dev) : Dev :=
  let q := d.q t
  if q.probes < windowProbes || q.windowEnded then d
  else if q.fixedCount < 4096 || q.randomCount < 4096 then
    (d.addNum P.qncInvalidWindowCount t 1).onQ t (fun q => { q with probes := 0, fixedCount := 0, randomCount := 0, acc := [], base := [] })
  else d.onQ t (fun q => { q with windowEnded := true })

/-- The square of min(|t|, 99.99) at one sensor and point, as a numerator and a denominator (R369): with n times the sum of squares less the square of the sum, Welch's t
squared is a ratio of integers. -/
def welchSquare (f r : QAcc) (nF nR : Nat) : Nat × Nat :=
  let dF : Nat := f.sumSq * nF - f.sum * f.sum
  let dR : Nat := r.sumSq * nR - r.sum * r.sum
  let a := f.sum * nR
  let b := r.sum * nF
  let diff := if a ≥ b then a - b else b - a
  let den := dF * nR * nR * (nR - 1) + dR * nF * nF * (nF - 1)
  let num := diff * diff * (nF - 1) * (nR - 1)
  if den == 0 then (if diff == 0 then (0, 1) else (9999 * 9999, 10000))
  else if 10000 * num ≥ 9999 * 9999 * den then (9999 * 9999, 10000)
  else (num, den)
/-- A statistic in hundredths, from its square; R369 does not say how T is rounded, and the model rounds down. (DESIGN CHOICE, assumption log 139) -/
def hundredths (x : Nat × Nat) : Nat := isqrt (10000 * x.1 / x.2)

/-- The greatest statistic in hundredths, with the lowest sensor and point that give it (R369). -/
def QuenchSt.statistic (q : QuenchSt) : Nat × Nat × Nat :=
  let value (i : Nat) : Nat × Nat :=
    let z : QAcc := { sum := 0, sumSq := 0 }
    welchSquare (tabGet z (i / 512, i % 512, true) q.acc) (tabGet z (i / 512, i % 512, false) q.acc) q.fixedCount q.randomCount
  let b := (List.range 2048).foldl (fun b i =>
    let v := value i
    if i == 0 || v.1 * b.1.2 > b.1.1 * v.2 then (v, i) else b) ((0, 1), 0)
  (hundredths b.1, b.2 / 512, b.2 % 512)

/-- Update the baselines: mean and standard deviation of every sample, in 1/256 code (R380). -/
def Dev.updateBaseline (d : Dev) (t : Nat) : Dev :=
  d.setOct P.qncBaseline t ((List.range 4).flatMap (fun s =>
    let x := tabGet (0, 0, 0) s (d.q t).base
    let mu := if x.1 == 0 then 0 else 256 * x.2.1 / x.1
    let var := if x.1 == 0 then 0 else 65536 * (x.1 * x.2.2 - x.2.1 * x.2.1) / (x.1 * x.1)
    natLE 2 mu ++ natLE 2 (isqrt var)))

/-- A calibration ends well (R376): the clean count is 0 and LEAKY clears (R375); a returning tile passes step 4. -/
def Dev.calibrated (d : Dev) (t : Nat) : Dev :=
  (d.setNum P.qncLeaky t 0).onQ t (fun q => { q with calibrating := false, passes := 0, cleanCount := 0 })

/-- The tile is LEAKY (R375): an A2 unit response. -/
def Dev.leaky (d : Dev) (t : Nat) : Dev :=
  let d := (d.setNum P.qncLeaky t 1).addNum P.qncLeakyCount t 1
  (d.raiseUnit 0x803 t (d.num P.qncTLast t)).drainUnit t .alarm

/-- T is known (R369, R373, R376): report it, move the level, update the baselines, start the next window. The statistic is the
accumulator's own; the command says only that the computation has ended. -/
def welchStatisticDone (t : Nat) (_ : WelchResult) (d : Dev) : Dev :=
  let q := d.q t
  if !q.windowEnded then d
  else
    let (tv, s, p) := q.statistic
    let d := (d.setNum P.qncTLast t tv).setNum P.qncTWhere t (0x8000 + s * 512 + p)
    let d := (d.sample (1024 + t) (tv : Int)).updateBaseline t
    let d := d.onQ t (fun q => { q with probes := 0, fixedCount := 0, randomCount := 0, acc := [], base := [], windowEnded := false })
    let l := (q.pendingLevel).getD (d.level t)
    let high := tv ≥ d.num P.qncTTarget 0
    if q.calibrating then
      if high then
        if l ≥ d.num P.qncCeiling 0 then
          let d := ((d.setNum P.qncLeaky t 1).addNum P.qncLeakyCount t 1).onQ t (fun q => { q with calibrating := false, passes := 0 })
          let d := d.raiseUnit 0x803 t tv
          if (d.unit t).pool == .returning then (d.addNum P.tilReturnFailCount t 1).setPool t .out .alarm else d
        else (d.onQ t (fun q => { q with passes := 0 })).wantLevel t (l + 1)
      else if q.passes + 1 ≥ 2 then d.calibrated t
      else d.onQ t (fun q => { q with passes := q.passes + 1 })
    else if high then
      let d := d.onQ t (fun q => { q with cleanCount := 0 })
      if l < d.num P.qncCeiling 0 then d.wantLevel t (l + 1) else d.leaky t
    else if tv ≥ d.num P.qncTAction 0 then d.onQ t (fun q => { q with cleanCount := 0 })
    else if q.cleanCount + 1 ≥ 8 then
      let d := d.onQ t (fun q => { q with cleanCount := 0 })
      if l > d.num P.qncFloor 0 then d.wantLevel t (l - 1) else d
    else d.onQ t (fun q => { q with cleanCount := q.cleanCount + 1 })

/-! ### Settings -/

/-- Move every tile outside the bounds to them at its next gap, with a clean count of 0 (R377); under FIXED every tile holds the floor (R378). -/
def Dev.boundLevels (d : Dev) : Dev :=
  (List.range nTiles).foldl (fun x t =>
    let l := ((x.q t).pendingLevel).getD (x.level t)
    let lo := x.num P.qncFloor 0
    let hi := x.num P.qncCeiling 0
    if l < lo then (x.onQ t (fun q => { q with cleanCount := 0 })).wantLevel t lo
    else if l > hi || x.num P.qncMode 0 == 1 && l > lo then (x.onQ t (fun q => { q with cleanCount := 0 })).wantLevel t (if x.num P.qncMode 0 == 1 then lo else hi)
    else x) d

/-- Fix the level of every tile in the dictionary before the floor, its default, moves. -/
def Dev.pinLevels (d : Dev) : Dev := (List.range nTiles).foldl (fun x t => x.setNum P.qncLevel t (d.level t)) d

/-- QNC_FLOOR (R372, R377). -/
def effQncFloor : Effect := withArg 1 fun d m =>
  let v := leNat m.body
  if v > 7 || v > d.num P.qncCeiling 0 then deny d (Reply.range P.qncFloor)
  else accept (((d.pinLevels.setNum P.qncFloor 0 v).boundLevels).policyWritten P.qncFloor)
/-- QNC_CEILING (R372, R377). -/
def effQncCeiling : Effect := withArg 1 fun d m =>
  let v := leNat m.body
  if v > 7 || v < d.num P.qncFloor 0 then deny d (Reply.range P.qncCeiling)
  else accept (((d.setNum P.qncCeiling 0 v).boundLevels).policyWritten P.qncCeiling)
/-- QNC_DUTY_EXP (R365, R377): every credit becomes 0. -/
def effQncDutyExp : Effect := withArg 1 fun d m =>
  let v := leNat m.body
  if v < 6 || v > 12 then deny d (Reply.range P.qncDutyExp)
  else accept (((d.setNum P.qncDutyExp 0 v).onQuench (tabMap (fun _ q => { q with credit := 0 }))).policyWritten P.qncDutyExp)
/-- QNC_MODE (R378): FIXED puts every tile at the floor, ends calibrations well and discards what was gathered; RUN starts new windows. -/
def effQncMode : Effect := withArg 1 fun d m =>
  let v := leNat m.body
  if v > 1 then deny d (Reply.range P.qncMode)
  else if v == d.num P.qncMode 0 then accept (d.policyWritten P.qncMode)
  else
    let d := d.setNum P.qncMode 0 v
    let d := d.discardWindows.onQuench (tabMap (fun _ q => { q with cleanCount := 0 }))
    let d := if v == 1 then
        (List.range nTiles).foldl (fun x t =>
          let x := if (x.q t).calibrating then x.calibrated t else x
          x.wantLevel t (x.num P.qncFloor 0)) d
      else d
    accept (d.policyWritten P.qncMode)

/-! ### The commands -/

def execProbeRun (t : Nat) (s : State) := s.runPart t nTiles (probeRun t)
def execIdleProbeStart (t : Nat) (s : State) := s.runPart t nTiles (idleProbeStart t)
def execProbeSampleCommit (t : Nat) (p : ProbeSample) (s : State) := s.runPart t nTiles (probeSampleCommit t p)
def execQuenchWindowEnd (t : Nat) (s : State) := s.runPart t nTiles (quenchWindowEnd t)
def execWelchStatisticDone (t : Nat) (r : WelchResult) (s : State) := s.runPart t nTiles (welchStatisticDone t r)
def execProbeEnd (t : Nat) (s : State) := s.runPart t nTiles (probeEnd t)
def execQncFloor (m : Msg) (s : State) := s.run fun d => d.serve d.lc P.qncFloor 0 m true effQncFloor
def execQncCeiling (m : Msg) (s : State) := s.run fun d => d.serve d.lc P.qncCeiling 0 m true effQncCeiling
def execQncDutyExp (m : Msg) (s : State) := s.run fun d => d.serve d.lc P.qncDutyExp 0 m true effQncDutyExp
def execQncMode (m : Msg) (s : State) := s.run fun d => d.serve d.lc P.qncMode 0 m true effQncMode

end Sys2Proof.Machine
end

