-- ==== Sys2Proof/Machine/Monitors.lean ====
section
/-! DEFINITION. Performance monitors (R381 to R388). -/

namespace Sys2Proof.Machine

/-- Monitors and channels (R381). -/
def nMonitors : Nat := 1373
def nChannels : Nat := 1024

/-- A record cleared at a time (R386, R387): FREE_RUN samples on; ARMED waits for its arm. -/
def Dev.clearMonitor (d : Dev) (n start : Nat) (running : Bool) : Dev :=
  d.onMonitors (tabSet n { MonRecord.reset with start := start, running := running })

/-- The 320 bytes of a record (R385). -/
def Dev.monBytesOf (d : Dev) (n : Nat) (r : MonRecord) (stop : Nat) : Bytes :=
  natLE 8 r.start ++ natLE 8 stop ++ natLE 8 r.count ++ natLE 8 (int64 r.sum) ++ natLE 8 (int64 r.min) ++ natLE 8 (int64 r.max) ++
  natLE 8 (d.num P.monBase n) ++ natLE 4 (n + 65536 * (if n < nChannels then d.num P.monChSource n else 0)) ++ natLE 1 (d.num P.monBinmode n) ++
  natLE 1 (d.num P.monWidthExp n) ++ natLE 1 (bnat r.sumSat + 2 * bnat r.binSat + 4 * bnat r.armedDone) ++ [0] ++
  (List.range 64).flatMap (fun i => natLE 4 (tabGet 0 i r.bins))

/-- Those of a monitor's record. -/
def Dev.monBytes (d : Dev) (n : Nat) (stop : Nat) : Bytes := d.monBytesOf n (d.monitor n) stop

/-- An armed capture closes MON_WINDOW ticks after its arm (R386). -/
def monWindowExpire (n : Nat) (d : Dev) : Dev :=
  if (d.monitorHeld n).expired d.now then d.onMonitors (tabSet n (d.monitor n)) else d

/-- MON_CMD_ARM (R386, R531): RANGE when both limits are 0. -/
def effMonArm : Effect := withArg 0 fun d m =>
  let n := m.row.toNat
  if n ≥ nMonitors then deny d (Reply.err resUnknown)
  else if d.num P.monCapture n != 1 then deny d (Reply.err resState)
  else if d.num P.monWindow n == 0 && d.num P.monLimit n == 0 then deny d (Reply.range P.monWindow)
  else accept (d.onMonitors (tabSet n { MonRecord.reset with start := d.now, armedAt := d.now, window := d.num P.monWindow n, limit := d.num P.monLimit n }))

/-- A snapshot: the record, and the monitor cleared in the same tick; the samples of this tick go to the new interval, unless the record is a finished armed capture's,
which leaves the monitor idle (R387). (DEDUCED, assumption log 140) -/
def Dev.snap (d : Dev) (n : Nat) : Bytes × Dev :=
  let r := d.monitor n
  let late := if r.armedDone || r.tick != d.now then [] else r.tickSamples
  let b := d.monBytesOf n (if late.isEmpty then r else r.withSums r.prior) (if r.armedDone then r.stop else d.now)
  let fresh : MonRecord := { MonRecord.reset with
    start := d.now, running := r.running, armedAt := r.armedAt, window := r.window, limit := r.limit, armedSamples := r.armedSamples, tick := d.now, tickSamples := late }
  let fresh := fresh.withSums ((late.foldl (fun x v => x.add (d.num P.monBinmode n == 1) (signed64 (d.num P.monBase n)) (d.num P.monWidthExp n) v) fresh).sums)
  (b, d.onMonitors (tabSet n fresh))

/-- MON_CMD_SNAP (R387). -/
def effMonSnap : Effect := withArg 0 fun d m =>
  let n := m.row.toNat
  if n ≥ nMonitors then deny d (Reply.err resUnknown)
  else let (b, d) := d.snap n
       (some (Reply.data' b), d)

/-- MON_CMD_SNAP_RANGE (R387, R531): first monitor, count 1 to 6. -/
def effMonSnapRange : Effect := withArg 4 fun d m =>
  let f := leAt 0 2 m.body
  let c := leAt 2 2 m.body
  if c == 0 || c > 6 || f + c > nMonitors then deny d (Reply.range P.monCmdSnapRange)
  else
    let (b, d) := (List.range c).foldl (fun (x : Bytes × Dev) i => (x.1 ++ (x.2.snap (f + i)).1, (x.2.snap (f + i)).2)) ([], d)
    (some (Reply.data' b), d)

/-- A write to a monitor's setting clears its record; an armed capture ends without ARMED_DONE (R388). -/
def Dev.monitorWritten (d : Dev) (n : Nat) : Dev := d.clearMonitor n d.now (d.num P.monCapture n != 1)

/-- MON_BASE (R384, R388). -/
def effMonBase : Effect := withArg 8 fun d m => accept ((d.setNum P.monBase m.row.toNat (leNat m.body)).monitorWritten m.row.toNat)
/-- MON_WIDTH_EXP (R384): 0 to 40 for linear bins, 0 to 47 for log bins. -/
def effMonWidth : Effect := withArg 1 fun d m =>
  let n := m.row.toNat
  if leNat m.body > (if d.num P.monBinmode n == 1 then 47 else 40) then deny d (Reply.range P.monWidthExp)
  else accept ((d.setNum P.monWidthExp n (leNat m.body)).monitorWritten n)
/-- MON_BINMODE (R384, R388). -/
def effMonBinmode : Effect := withArg 1 fun d m =>
  let n := m.row.toNat
  if leNat m.body > 1 then deny d (Reply.range P.monBinmode)
  else if leNat m.body == 0 && d.num P.monWidthExp n > 40 then deny d (Reply.range P.monWidthExp)
  else accept ((d.setNum P.monBinmode n (leNat m.body)).monitorWritten n)
/-- MON_CH_SOURCE (R382, R388): NONE, LATENCY, SLACK or RING_FILL. (DEDUCED, assumption log 140) -/
def effMonChSource : Effect := withArg 1 fun d m =>
  let o := d.num P.monChOwner m.row.toNat
  if leNat m.body > 3 then deny d (Reply.range P.monChSource)
  else if leNat m.body == 3 && o != 0xFFFF && !d.ownsQp o (bits 63 48 (d.num P.monChFilter m.row.toNat)) then deny d (Reply.range P.monChSource)
  else accept ((d.setNum P.monChSource m.row.toNat (leNat m.body)).monitorWritten m.row.toNat)
/-- A filter as an owner forces it (R383). -/
def Dev.forceFilter (d : Dev) (c f : Nat) : Nat :=
  let o := d.num P.monChOwner c
  if o == 0xFFFF then f else (f / 2 ^ 40) * 2 ^ 40 + (o % 4096) * 2 ^ 28 + (f / 2 % 2) * 2
/-- MON_CH_FILTER (R383): reserved bits 0; RING_FILL names only the owner's queue pairs. -/
def effMonChFilter : Effect := withArg 8 fun d m =>
  let c := m.row.toNat
  let f := leNat m.body
  let o := d.num P.monChOwner c
  if bits 27 2 f != 0 then deny d (Reply.range P.monChFilter)
  else if o != 0xFFFF && d.num P.monChSource c == 3 && !d.ownsQp o (bits 63 48 f) then deny d (Reply.range P.monChFilter)
  else accept ((d.setNum P.monChFilter c (d.forceFilter c f)).monitorWritten c)
/-- MON_CH_OWNER (R383). (DEDUCED, assumption log 140) -/
def effMonChOwner : Effect := withArg 2 fun d m =>
  let c := m.row.toNat
  let o := leNat m.body
  if o != 0xFFFF && (!(o < 4096 && d.sliceExists o) || d.num P.monChSource c == 3 && !d.ownsQp o (bits 63 48 (d.num P.monChFilter c))) then
    deny d (Reply.range P.monChOwner)
  else
    let d := d.setNum P.monChOwner c o
    accept ((d.setNum P.monChFilter c (d.forceFilter c (d.num P.monChFilter c))).monitorWritten c)

/-- Sample every channel whose source is `src` and whose filter takes the record (R382, R383). -/
def Dev.sampleChannels (d : Dev) (src : Nat) (take : Nat → Bool) (x : Int) : Dev :=
  (d.dict.nums.filter (fun e => e.1.1 == P.monChSource && e.2 == src && take (d.num P.monChFilter e.1.2))).foldl (fun y e => y.sample e.1.2 x) d

/-- Does a LATENCY or SLACK filter take a record of this slice and family (R383)? -/
def filterTakes (slice family f : Nat) : Bool := (bit 0 f || bits 39 28 f == slice) && (bit 1 f || bits 47 40 f == family)

/-- Every 100 µs each instance's reseed age is sampled (R381). -/
def reseedAgeSample (d : Dev) : Dev :=
  if d.modes.mode.powered then (List.range 17).foldl (fun x i => x.sample (1356 + i) ((tabGet Drbg.reset i x.bellows.instances).age : Int)) d else d

/-! ### The commands -/

def execReseedAgeSample (s : State) := s.run reseedAgeSample
def execMonWindowExpire (n : Nat) (s : State) := s.runPart n nMonitors (monWindowExpire n)
def execMonCmdArm (m : Msg) (s : State) := s.run fun d => d.serve d.lc P.monCmdArm 0 m false effMonArm
def execMonCmdSnap (m : Msg) (s : State) := s.run fun d => d.serve d.lc P.monCmdSnap 0 m false effMonSnap
def execMonCmdSnapRange (m : Msg) (s : State) := s.run fun d => d.serve d.lc P.monCmdSnapRange 0 m false effMonSnapRange
def execMonBase (m : Msg) (s : State) := s.run fun d => d.serve d.lc P.monBase 0 m true effMonBase
def execMonWidthExp (m : Msg) (s : State) := s.run fun d => d.serve d.lc P.monWidthExp 0 m true effMonWidth
def execMonBinmode (m : Msg) (s : State) := s.run fun d => d.serve d.lc P.monBinmode 0 m true effMonBinmode
def execMonChSource (m : Msg) (s : State) := s.run fun d => d.serve d.lc P.monChSource 0 m true effMonChSource
def execMonChFilter (m : Msg) (s : State) := s.run fun d => d.serve d.lc P.monChFilter 0 m true effMonChFilter
def execMonChOwner (m : Msg) (s : State) := s.run fun d => d.serve d.lc P.monChOwner 0 m true effMonChOwner

end Sys2Proof.Machine
end

