-- ==== Sys2Proof/Machine/Bellows.lean ====
section
/-! DEFINITION. The random number generator (R332 to R360) and the seeding of the spark generators (R111, R250, R344). -/

namespace Sys2Proof.Machine

/-- BLW_STATE codes (R348). -/
def blwStarting : Nat := 0
def blwReady : Nat := 1
def blwDegraded : Nat := 2
def blwExhausted : Nat := 3

/-- A source. -/
def Dev.noise (d : Dev) (i : Nat) : NoiseSource := tabGet NoiseSource.reset i d.bellows.sources
def Dev.onNoise (d : Dev) (i : Nat) (f : NoiseSource → NoiseSource) : Dev := d.onBellows (fun b => { b with sources := tabSet i (f (d.noise i)) b.sources })

/-- Sources in service (R348): started and not declared failed. -/
def Dev.sourcesUp (d : Dev) : Nat := ((List.range 8).filter (fun i => (d.noise i).started && !(d.noise i).failed)).length

/-- The tests of R346 have all passed, a source declared failed counting as passed. -/
def Dev.bellowsOpen (d : Dev) : Bool := d.bellows.katPassed && (List.range 8).all (fun i => (d.noise i).started || (d.noise i).failed)

/-- BLW_STATE changes (R348), with the kind of its edge; ENTROPY_EXHAUSTED is raised on entry to EXHAUSTED. -/
def Dev.setBlw (d : Dev) (st : Nat) (k : EdgeKind) : Dev :=
  if d.num P.blwState 0 == st then d
  else (d.setNum P.blwState 0 st).onBellows (fun b => { b with edge := k, exhausted := if st == blwExhausted then b.exhausted + 1 else b.exhausted })
/-- The state that the sources in service make. -/
def Dev.blwServing (d : Dev) : Nat := if d.sourcesUp == 8 then blwReady else if d.sourcesUp == 0 then blwExhausted else blwDegraded

/-- The length of the next generate call of a software-port request (R356). -/
def Request.portCallLen (q : Request) : Nat := Nat.min 65536 (q.desc.outCap - q.port.length)
/-- A generate call of a software-port request (R341, R352, R356): it takes the whole additional input. -/
def Dev.portCall (d : Dev) (r : Nat) (q : Request) : Dev :=
  let n := q.portCallLen
  let old := (d.inst 16).age > ageReseed
  let (s, d) := d.generate 16 q.input n
  d.onReq r (fun q => { q with calls := q.calls + 1, port := q.port ++ s.stream n, stretched := q.stretched || old })

/-- Give one block to a waiter: instantiation takes two (R340), a reseed one (R341), a prediction-resistance call one, which it reseeds with before it generates
(R353, R356). -/
def Dev.giveBlock (d : Dev) (w : BlockWaiter) (b : Bytes) : Dev :=
  match w with
  | .call r =>
    match d.req? r with
    | none => d
    | some q => (d.onInst 16 (fun x => x.resisted b)).portCall r q
  | .inst i =>
    let x := d.inst i
    if !x.seeded then
      match x.heldBlock with
      | some a => d.onInst i (fun _ => Drbg.made i a b)
      | none => d.onInst i (fun x => { x with heldBlock := some b })
    else if x.age ≥ ageReseed || d.bellows.leaving then d.onInst i (fun x => x.reseeded b)
    else d.onInst i (fun x => { x with heldBlock := some b })

/-- Is the waiter one of the hearth instances 0 to 15 (R351)? -/
def BlockWaiter.isHearth : BlockWaiter → Bool
  | .inst i => i < 16
  | .call _ => false

/-- The waiter served next (R351 to R353): under PRIORITY and BOTH the hearth instances come first. -/
def Dev.nextWaiter (d : Dev) : Option BlockWaiter :=
  if d.prioritises then (d.bellows.waiters.find? BlockWaiter.isHearth).orElse (fun _ => d.bellows.waiters.head?)
  else d.bellows.waiters.head?

/-- Blocks leave the pool in shortage-mode order while blocks and waiters last (R351). -/
def Dev.deliver : Nat → Dev → Dev
  | 0, d => d
  | n + 1, d =>
    match d.bellows.pool, d.nextWaiter with
    | block :: rest, some w =>
      Dev.deliver n ((d.onBellows (fun b => { b with pool := rest, waiters := b.waiters.erase w })).giveBlock w block)
    | _, _ => d

/-- The way out of EXHAUSTED ends, and BLW_STATE changes, once every instance has reseeded (R349). -/
def Dev.endLeaving (d : Dev) : Dev :=
  if d.bellows.leaving && d.bellows.waiters.all BlockWaiter.isCall then (d.onBellows (fun b => { b with leaving := false })).setBlw d.blwServing .host else d
/-- Deliver what can be delivered, once the tests of R346 have passed. -/
def Dev.deliverAll (d : Dev) : Dev := (if d.bellowsOpen then Dev.deliver d.bellows.waiters.length d else d).endLeaving

/-- The state after all tests of R346 have passed or failed, and after a declaration (R348). -/
def Dev.settleBellows (d : Dev) : Dev :=
  let st := d.num P.blwState 0
  if st == blwStarting then
    if d.bellowsOpen then (d.setBlw d.blwServing (if d.sourcesUp == 0 then .alarm else d.modes.bootEdge)).onBellows (fun b => { b with waiters := instantiationWaiters ++ b.waiters })
    else if (List.range 8).all (fun i => (d.noise i).failed) then d.setBlw blwExhausted .alarm
    else d
  else if d.sourcesUp == 0 then d.setBlw blwExhausted .alarm
  else if st == blwReady && d.sourcesUp < 8 then d.setBlw blwDegraded .alarm
  else d

/-- Entry to EXHAUSTED (R354): software-port requests already waiting complete at once with 0x0502. -/
def Dev.exhaust (d : Dev) : Dev :=
  if d.num P.blwState 0 == blwExhausted then
    d.disp.reqs.foldl (fun x e => if e.2.desc.opcode == 0x5801 && !e.2.released && (e.2.phase == .inService || e.2.phase == .waiting) then x.fail e.1 0x0502 else x) d
  else d

/-- Declare a source failed (R335): an A2 unit response with the source as the unit, raised as ENTROPY_SOURCE_FAILED (R348); its blocks are discarded. -/
def Dev.declareFailed (d : Dev) (i : Nat) : Dev :=
  let d := (d.onNoise i (fun s => { s with failed := true, heldBlocks := [] })).onBellows (fun b => { b with sourceFailed := tabMod 0 i (· + 1) b.sourceFailed })
  ((d.raiseUnit 0x805 i i).settleBellows).exhaust

/-! ### Health tests (R333 to R336) -/

/-- The raw bits that bytes carry, the first in bit 0 of the first byte. (DESIGN CHOICE, assumption log 120) -/
def rawBits (b : Bytes) : List Bool := b.flatMap (fun x => (List.range 8).map (fun i => x.toNat.testBit i))

/-- The repetition count test over some bits: the run and its bit before them; after them, with the failures among them. The 41st identical bit fails it, and it
restarts on the next bit (R333). -/
def repetitionTest : Nat × Bool → List Bool → (Nat × Bool) × Nat
  | s, [] => (s, 0)
  | s, b :: r =>
    let k := if s.1 > 0 && s.2 == b then s.1 + 1 else 1
    let (t, n) := repetitionTest (if k ≥ 41 then 0 else k, b) r
    (t, n + (if k ≥ 41 then 1 else 0))

/-- The adaptive proportion test of one window fails: its first bit stands in it 793 times or more, itself counted as SP 800-90B counts it (R333). (DEDUCED, assumption
log 121) -/
def proportionFails (w : List Bool) : Bool := 793 ≤ (w.filter (· == w.headD false)).length

/-- One test failure of a source (R334, R335): counted; the fourth within 65,536 windows declares it failed, and no bit of it is tested any more. -/
def Dev.testFailure (d : Dev) (i : Nat) : Dev :=
  if (d.noise i).failed then d
  else
    let d := d.addNum P.blwHtFailCount i 1
    let w := (d.noise i).windows
    let fs := (d.noise i).failures.filter (fun f => f + 65536 > w) ++ [w]
    let d := d.onNoise i (fun s => { s with failures := fs })
    if fs.length ≥ 4 then d.declareFailed i else d

/-- The 1,024-bit start-up test of a source ends (R336): it is tested again after one failure, and declared failed after two. -/
def sourceStartupTestEnd (i : Nat) (raw : Bytes) (d : Dev) : Dev :=
  let s := d.noise i
  if s.started || s.failed || !d.modes.mode.powered then d
  else
    let bits := rawBits (fitLen 128 raw)
    let (t, reps) := repetitionTest (0, false) bits
    let bad := reps + bnat (proportionFails bits)
    let d := d.onNoise i (fun s => { s with run := t.1, last := t.2 })
    if bad == 0 then ((d.onNoise i (fun s => { s with started := true })).settleBellows).deliverAll
    else
      let d := d.addNum P.blwHtFailCount i bad
      if s.startupFails == 0 then d.onNoise i (fun s => { s with startupFails := 1 })
      else (d.declareFailed i).deliverAll

/-- The known-answer tests end (R346): 0 passed, else the number of the test that failed, which sends the bellows to EXHAUSTED. -/
def bellowsKatDone (failed : Nat) (d : Dev) : Dev :=
  if d.num P.blwState 0 != blwStarting || d.bellows.katPassed || !d.modes.mode.powered then d
  else if failed == 0 then ((d.onBellows (fun b => { b with katPassed := true })).settleBellows).deliverAll
  else ((d.setNum P.blwFailCause 0 failed).setBlw blwExhausted .alarm).exhaust

/-- A 640-bit conditioning window ends, whose bits the command brings in two halves (R333, R334, R337): the block is SHA3-256 of its bits and waits for the adaptive-proportion windows that overlap it;
a repetition failure on any of its bits discards it, and each one counts (R335). -/
def conditioningWindowEnd (i : Nat) (raw : Bytes) (d : Dev) : Dev :=
  let s := d.noise i
  if !s.started || s.failed || s.capturing || !d.modes.mode.powered then d
  else
    let n := s.windows
    let (t, reps) := repetitionTest (s.run, s.last) (rawBits raw)
    let d := d.onNoise i (fun s => { s with windows := n + 1, run := t.1, last := t.2 })
    if reps > 0 then (List.range reps).foldl (fun d _ => d.testFailure i) d
    else d.onNoise i (fun s => { s with heldBlocks := s.heldBlocks ++ [(n, Keccak.sha3_256 raw)] })

/-- An adaptive-proportion window of a source ends (R333, R334, R338): blocks it overlapped and whose windows have all ended go to
the pool of 64, or are discarded when it failed. -/
def adaptiveProportionWindowEnd (i : Nat) (raw : Bytes) (d : Dev) : Dev :=
  let s := d.noise i
  if !s.started || s.failed || !d.modes.mode.powered then d
  else
    let failed := proportionFails (rawBits (fitLen 128 raw))
    let k := s.apWindows
    let lo := 1024 * k
    let hi := 1024 * (k + 1)
    let overlaps (b : Nat × Bytes) : Bool := 640 * b.1 < hi && lo < 640 * (b.1 + 1)
    let kept := if failed then s.heldBlocks.filter (fun b => !overlaps b) else s.heldBlocks
    let ready := kept.filter (fun b => 640 * (b.1 + 1) ≤ hi)
    let held := kept.filter (fun b => !(640 * (b.1 + 1) ≤ hi))
    let d := d.onNoise i (fun s => { s with apWindows := k + 1, heldBlocks := held, capturing := false })
    let d := d.onBellows (fun b => { b with pool := (b.pool ++ ready.map Prod.snd).take 64 })
    let d := if failed then d.testFailure i else d
    d.deliverAll

/-- An instance reaches age 2^16 − 4,096 and requests a block (R341). -/
def drbgBlockRequest (i : Nat) (d : Dev) : Dev :=
  let x := d.inst i
  if x.seeded && x.age ≥ ageRequest && !x.requested && x.heldBlock.isNone then
    ((d.onInst i (fun x => { x with requested := true })).onBellows (fun b => { b with waiters := b.waiters ++ [.inst i] })).deliverAll
  else d

/-- An instance reaches age 2^16 (R341, R351, R352): it reseeds with the block it holds, or stops, or stretches. -/
def drbgReseedDue (i : Nat) (d : Dev) : Dev :=
  let x := d.inst i
  if x.seeded && x.age ≥ ageReseed then
    match x.heldBlock with
    | some b => d.onInst i (fun x => x.reseeded b)
    | none =>
      let d := if x.requested then d else (d.onInst i (fun x => { x with requested := true })).onBellows (fun b => { b with waiters := b.waiters ++ [.inst i] })
      (d.onInst i (fun x => { x with stopped := !d.stretches })).deliverAll
  else d

/-- An instance at age 2^32 generates no more (R342). -/
def drbgAgeLimit (i : Nat) (d : Dev) : Dev := if (d.inst i).age ≥ ageLimit then d.onInst i (fun x => { x with stopped := true }) else d

/-- A software-port request waits for a block (R353): a prediction-resistance call without its block, or instance 16 stopped. -/
def Dev.waitsForBlock (d : Dev) (r : Nat) : Bool := d.bellows.waiters.contains (.call r) || ((d.inst 16).seeded && !d.generates 16)

/-- At a conditioning window's end, a software-port request that waits for a block past its deadline completes with 0x0501 (R353). -/
def shortageDeadlineExpiry (r : Nat) (d : Dev) : Dev :=
  match d.req? r with
  | none => d
  | some q =>
    if q.desc.opcode == 0x5801 && !q.released && (match q.deadline with | some t => decide ((d.now : Int) ≥ t) | none => false) && d.waitsForBlock r then
      let d := d.onBellows (fun b => { b with waiters := b.waiters.filter (· != .call r) })
      (d.addNum P.blwShortWaitCount 0 1).fail r 0x0501
    else d

/-- BLW_CMD_SOURCE_RETEST (R349): the whole command is refused for an empty or overlong mask, or a source that is not failed; the
response waits for the tests. -/
def effRetest : Effect := withArg 4 fun d m =>
  let v := leNat m.body
  if v == 0 || v ≥ 256 then deny d (Reply.range P.blwCmdSourceRetest)
  else if d.bellows.retest.isSome then deny d (Reply.err resBusy)
  else if !(List.range 8).all (fun i => !v.testBit i || (d.noise i).failed) then deny d (Reply.err resState)
  else (none, d.onBellows (fun b => { b with retest := some (m.src, m.reqId.toNat, v) }))

/-- The retest ends (R349): sources that passed return, DETAIL names those that failed, and leaving EXHAUSTED every instance
reseeds from a fresh block before the state changes. Which known-answer test failed is free. (DESIGN CHOICE, assumption log 136) -/
def retestDone (passed : Nat) (katOk : Bool) (d : Dev) : Dev :=
  match d.bellows.retest with
  | none => d
  | some (src, id, mask) =>
    let back := mask &&& passed
    let d := d.onBellows (fun b => { b with retest := none, katPassed := katOk })
    let (n, d) := d.fresh
    let d := if katOk then d else d.setNum P.blwFailCause 0 (Config.freeNat n % 18 + 1)
    let d := (List.range 8).foldl (fun x i => if back.testBit i then x.onNoise i (fun _ => { NoiseSource.reset with started := true }) else x) d
    let d := d.respondLate src id { result := resOk, detail := (mask &&& (255 - back % 256)) + 256 * bnat (!katOk), data := [] }
    if !katOk then (d.setBlw blwExhausted .alarm).exhaust
    else if d.sourcesUp == 0 then d
    else if d.num P.blwState 0 == blwExhausted then
      (d.onBellows (fun b => { b with leaving := true, waiters := (if (d.inst 0).seeded then (List.range 17).map BlockWaiter.inst else instantiationWaiters) ++ b.waiters.filter BlockWaiter.isCall })).deliverAll
    else d.setBlw d.blwServing .host

/-- BLW_RAW_CAPTURE (R359): in MAKER and TEST_UNLOCKED; the source stops contributing. -/
def effRawCapture : Effect := withArg 5 fun d m =>
  let s := leAt 0 1 m.body
  let n := leAt 1 4 m.body
  if s > 7 || n == 0 || n > 1000000 then deny d (Reply.range P.blwRawCapture)
  else if !(d.lcState == 0 || d.lcState == 1) then deny d (Reply.err resState)
  else
    let (i, d) := d.fresh
    let d := d.onNoise s (fun x => { x with capturing := true, heldBlocks := [] })
    accept (d.setOct P.blwRawData 0 (drawBytes i (ceilDiv n 8)))

/-! ### Spark generators -/

/-- A generator that has just taken a seed. -/
def Spark.seededWith (b : Bytes) : Spark := { Spark.reset with seeded := true, seed := b }

/-- After 2^19 outputs, or while unseeded, a spark generator requests its next seed (R111, R250). -/
def sparkSeedRequest (u : Nat) (d : Dev) : Dev :=
  let k := (d.unit u).spark
  if d.unitPowered u && !k.requested && k.next.isNone && (!k.seeded || k.count ≥ 2 ^ 19) then
    d.onUnit u (fun x => { x with spark := { x.spark with requested := true } })
  else d

/-- A seed arrives from the hearth instance (R111, R344): it seeds an unseeded generator, ends a stall, or is held ready. -/
def sparkSeedArrive (u : Nat) (d : Dev) : Dev :=
  let k := (d.unit u).spark
  let i := hearthOf u
  if !d.unitPowered u || !d.generates i || !(k.requested || !k.seeded) then d
  else
    let (s, d) := d.generate i [] 32
    if !k.seeded || k.stalled then d.onUnit u (fun x => { x with spark := Spark.seededWith (s.stream 32) })
    else d.onUnit u (fun x => { x with spark := { x.spark with requested := false, next := some (s.stream 32) } })

/-- The unit's spark generator delivers nothing: no seed yet, or stalled (R111, R112). -/
def Dev.sparkOut (d : Dev) (u : Nat) : Bool := !(d.unit u).spark.seeded || (d.unit u).spark.stalled

/-- The generator holds up what needs it, the running operation or its next instruction: one stall, counted once (R111). -/
def Dev.stallOn (d : Dev) (u : Nat) : Dev :=
  if (d.unit u).spark.counted then d
  else
    let d := d.onUnit u (fun x => { x with spark := { x.spark with counted := true } })
    if u < nTiles then d.addNum P.tilSparkStallCount u 1 else d

/-- At 2^20 outputs a generator changes to its new seed, or stalls (R111); a stall that can no longer end completes the operation
with 0x0502 (R354). -/
def sparkSeedSwitch (u : Nat) (d : Dev) : Dev :=
  let k := (d.unit u).spark
  if !k.seeded || k.count < 2 ^ 20 then d
  else if k.next.isSome then d.onUnit u (fun x => { x with spark := Spark.seededWith (k.next.getD []) })
  else if k.stalled then d
  else
    let d := d.onUnit u (fun x => { x with spark := { x.spark with stalled := true } })
    let d := if (d.unit u).job.isSome then d.stallOn u else d
    if d.num P.blwState 0 == blwExhausted && (d.inst (hearthOf u)).age ≥ ageLimit then
      match (d.unit u).job with
      | some j => match d.job? j with
        | some x => d.fail x.req 0x0502
        | none => d
      | none => d
    else d

/-! ### The commands -/

def execSourceStartupTestEnd (i : Nat) (b : Bytes) (s : State) := s.runPart i 8 (sourceStartupTestEnd i b)
def execBellowsKatDone (f : Nat) (s : State) := s.run (bellowsKatDone f)
def execConditioningWindowEnd (i : Nat) (a b : Bytes) (s : State) := s.runPart i 8 (conditioningWindowEnd i (fitLen 40 a ++ fitLen 40 b))
def execAdaptiveProportionWindowEnd (i : Nat) (b : Bytes) (s : State) := s.runPart i 8 (adaptiveProportionWindowEnd i b)
def execDrbgBlockRequest (i : Nat) (s : State) := s.runPart i 17 (drbgBlockRequest i)
def execDrbgReseedDue (i : Nat) (s : State) := s.runPart i 17 (drbgReseedDue i)
def execDrbgAgeLimit (i : Nat) (s : State) := s.runPart i 17 (drbgAgeLimit i)
def execShortageDeadlineExpiry (r : Nat) (s : State) := s.run (shortageDeadlineExpiry r)
def execBlwCmdSourceRetest (m : Msg) (s : State) := s.run fun d => d.serve d.lc P.blwCmdSourceRetest 0 m false effRetest
def execRetestDone (p : Nat) (k : Bool) (s : State) := s.run (retestDone p k)
def execBlwRawCapture (m : Msg) (s : State) := s.run fun d => d.serve d.lc P.blwRawCapture 0 m false effRawCapture
def execSparkSeedRequest (u : Nat) (s : State) := s.runPart u nUnits (sparkSeedRequest u)
def execSparkSeedSwitch (u : Nat) (s : State) := s.runPart u nUnits (sparkSeedSwitch u)

end Sys2Proof.Machine
end

