-- ==== Sys2Proof/Machine/Opcodes.lean ====
section
/-! DEFINITION. The opcodes that descriptors carry (R38): what each operation runs on, what it names and what it asks of the
device (R186, R217, R252, R282, R318, R355, R211, R173). -/

namespace Sys2Proof.Machine

/-- An entry record (R173). -/
def MpEntry.parse (b : Bytes) : MpEntry :=
  { opcode := leAt 0 2 b, entry := leAt 2 2 b, eflags := leAt 4 1 b, keyUse := leAt 5 1 b,
    ceil := [leAt 8 4 b, leAt 12 4 b, leAt 16 4 b, leAt 20 4 b], maxIn := leAt 24 4 b, maxOut := leAt 28 4 b }

/-- The 32-byte pieces of an entry table. -/
def entryPieces : Nat → Bytes → List Bytes
  | 0, _ => []
  | n + 1, b => b.take 32 :: entryPieces n (b.drop 32)

/-- The library entry of an MP_ID and version. -/
def Dev.mp? (d : Dev) (id ver : Nat) : Option Microprogram := d.lib.library.find? (fun m => m.mpId == id && m.version == ver)

/-- The slots in force on a tile (R178). A tile never configured holds the eight vendor microprograms as shipped (R563). -/
def Dev.slots (d : Dev) (t : Nat) : List (Nat × Nat) := tabGet (vendorFamilies.map (fun f => (f, shippedVersion))) t d.lib.config

/-- The slot of a tile's configuration whose version binds an opcode (R180), by its version's library entry. -/
def Dev.bound? (d : Dev) (t op : Nat) : Option (Microprogram × MpEntry) :=
  (d.slots t).findSome? (fun s => (d.mp? s.1 s.2).bind (fun m => (m.entry? op).map (fun e => (m, e))))
/-- The MP_ID and version of that slot. -/
def Dev.binds (d : Dev) (t op : Nat) : Option (Nat × Nat) := (d.bound? t op).map (fun e => (e.1.mpId, e.1.version))

/-- The entry that binds an opcode anywhere in a set of tiles (R180, R181). -/
def Dev.bound (d : Dev) (tiles : List Nat) (op : Nat) : Option (Microprogram × MpEntry) := tiles.findSome? (fun t => d.bound? t op)

/-- The tiles of a hearth set (R78). -/
def tilesOf (set : Nat) : List Nat := (List.range 128).filter (fun t => set.testBit (t / 8))

/-- The entry record that serves an opcode for a slice (R181). -/
def Dev.entryFor (d : Dev) (slice op : Nat) : Option (Microprogram × MpEntry) := d.bound (tilesOf (d.num P.slcHearthSet slice)) op

/-- The operation of an opcode for a slice: one that a slot binds takes KEY_BEARING and MASKED of its entry record (R181). -/
def Dev.opOf (d : Dev) (slice op : Nat) : Option OpInfo :=
  let bind := fun (i : OpInfo) (e : Microprogram × MpEntry) => { i with bearing := e.2.eflags.testBit 0, masked := e.2.eflags.testBit 1 }
  if op / 256 == 0x70 then (d.entryFor slice op).map (bind (OpInfo.plain 1))
  else (opInfo op).map (fun i => if i.cls == 1 || i.cls == 6 then (match d.entryFor slice op with | some e => bind i e | none => i) else i)

/-! ### The handles a request names -/

/-- One key handle a request names, and what the object must be (R309). -/
structure KeyNeed where
  handle : Nat
  /-- Use classes it may carry; empty: any but a loaded curve, which has none (R318). -/
  uses : List Nat
  /-- Status for another class: 0x0202, 0x0207 for a parent (R304), 0x0201 where a curve is required (R267). -/
  clsStatus : Nat
  /-- Status for the object's ALG: 0 where it suits. -/
  algStatus : Nat → Nat

/-- Any algorithm. -/
def anyAlg (_ : Nat) : Nat := 0
/-- Exactly this ALG (R302). -/
def algIs (a : Nat) (x : Nat) : Nat := if x == a then 0 else 0x0205
/-- An ALG of this family. -/
def famIs (f : Nat) (x : Nat) : Nat := if x / 256 == f then 0 else 0x0205
/-- A symmetric key of one of these types (R283). -/
def typeIn (l : List Nat) (x : Nat) : Nat := if x / 256 != 0x40 then 0x0205 else if l.contains (x % 256) then 0 else 0x0167

/-- A working key. -/
def key (h : Nat) (uses : List Nat) (alg : Nat → Nat) : KeyNeed := { handle := h, uses := uses, clsStatus := 0x0202, algStatus := alg }
/-- A KEY_B parent: none where it is 0 (R190, R304). -/
def parentNeed (h : Nat) : List KeyNeed := if h == 0 then [] else [{ handle := h, uses := [5], clsStatus := 0x0207, algStatus := anyAlg }]
/-- A loaded curve (R253, R267). -/
def curveNeed (h : Nat) : KeyNeed := { handle := h, uses := [0], clsStatus := 0x0201, algStatus := anyAlg }

/-- Bit `n` of AUX. (DEDUCED, assumption log 91) -/
def Descriptor.aux? (q : Descriptor) (n : Nat) : Bool := q.aux.testBit n

/-- The lattice and classical ALG of a composite opcode (R211). -/
def hybridAlgs (op : Nat) : Nat × Nat :=
  match op % 256 with
  | 0x11 => (0x1020, 0x3310) | 0x12 => (0x1020, 0x3310)
  | 0x13 => (0x1030, 0x3302) | 0x14 => (0x1030, 0x3302)
  | 0x15 => (0x1030, 0x3311) | 0x16 => (0x1030, 0x3311)
  | 0x21 => (0x1120, 0x3101) | 0x22 => (0x1120, 0x3101)
  | 0x23 => (0x1130, 0x3102) | 0x24 => (0x1130, 0x3102)
  | _ => (0x1120, 0x3212)

/-- The key types a PIN block format takes (R289). -/
def pinTypes (fmt : Nat) : List Nat := if fmt == 4 then [1, 2, 3] else [4, 5]

/-- An ALG that an integrator microprogram may be given: stateful keys are the vendor's alone (R173). (DEDUCED, assumption log 124) -/
def notStateful (x : Nat) : Nat := if x / 256 == 0x19 || x / 256 == 0x1A then 0x0205 else 0

/-- The handles of a request as its chapter names them, KEY_A's before KEY_B's (R309). (DESIGN CHOICE, assumption log 28) -/
def Dev.chapterNeeds (d : Dev) (slice : Nat) (q : Descriptor) (input : Bytes) : List KeyNeed :=
  let f := q.opcode / 256
  let lo := q.opcode % 256
  let o := lowOp q.opcode
  let alg := f * 256 + lowSet q.opcode * 16
  let pkin := q.aux? 15
  if f == 0x10 || f == 0x20 || (f == 0x21 && o ≤ 5) then
    if o == 1 then parentNeed q.keyB
    else if o == 4 then [key q.keyA [2] (algIs alg)]
    else if q.keyA == 0 then [] else [key q.keyA [1] (algIs alg)]
  else if f == 0x11 || f == 0x12 || f == 0x18 || f == 0x19 || f == 0x1A then
    if o == 1 then parentNeed q.keyB
    else if o == 3 then if pkin then [] else [key q.keyA [4] (algIs alg)]
    else [key q.keyA [3] (algIs alg)]
  else if f == 0x21 then [key q.keyA [1] (algIs alg)]
  else if f == 0x30 then
    if lo == 1 then parentNeed q.keyB
    else if lo == 2 then [key q.keyA [3, 2] (famIs f)]
    else if lo == 8 then [key q.keyA [2] (famIs f)]
    else if lo == 4 || lo == 6 then [key q.keyA [3] (famIs f)]
    else if pkin then []
    else if lo == 3 then [key q.keyA [4, 1] (famIs f)]
    else if lo == 9 then [key q.keyA [1] (famIs f)] else [key q.keyA [4] (famIs f)]
  else if f == 0x31 then
    if lo == 1 then parentNeed q.keyB ++ (if bits 15 8 q.aux == 0xFF then [curveNeed (leAt 8 8 input)] else [])
    else if lo == 2 then [key q.keyA [3] (famIs f)]
    else if lo == 3 then if pkin then (if q.aux % 256 == 0xFF then [curveNeed q.keyB] else []) else [key q.keyA [4] (famIs f)]
    else if lo == 4 then if q.aux % 256 == 0xFF then [curveNeed q.keyB] else []
    else if lo == 0x0E then [curveNeed q.keyB] else parentNeed q.keyB
  else if f == 0x32 then
    if lo == 1 then parentNeed q.keyB else if lo == 2 then [key q.keyA [3] (famIs f)] else if pkin then [] else [key q.keyA [4] (famIs f)]
  else if f == 0x33 then
    if lo == 1 then parentNeed q.keyB ++ (if bits 15 8 q.aux == 0xFF then [curveNeed (leAt 8 8 input)] else [])
    else if lo == 2 then [key q.keyA [2] (famIs f)]
    else (if lo == 3 && q.keyA != 0 then [key q.keyA [1] (algIs (0x3300 + q.aux % 256))] else []) ++
      (if q.aux % 256 == 0xFF then [curveNeed q.keyB] else [])
  else if f == 0x40 then
    if lo == 0x31 then []
    else if lo == 0x41 || lo == 0x42 then key q.keyA [6] (famIs 0x40) :: parentNeed q.keyB
    else
      let types := if lo == 0x0B || lo == 0x0C then [8, 9] else if lo < 0x20 then [1, 2, 3] else if lo < 0x30 then [4, 5] else [6, 7]
      let enc := if lo < 0x30 then lo % 2 == 1 else lo % 2 == 0
      [key q.keyA (if enc then [1] else [2]) (typeIn types)]
  else if f == 0x48 then
    if lo == 1 then
      [key q.keyA (if pkin then [6] else [2]) (typeIn (if pkin then [1, 2, 3] else pinTypes (bits 23 20 q.aux))),
       key q.keyB [1] (typeIn (pinTypes (bits 19 16 q.aux)))]
    else if lo == 0x11 then key q.keyA [6] (typeIn [1, 2, 3]) :: parentNeed q.keyB
    else if lo == 0x21 then [key q.keyA [5] (typeIn [1, 2, 3]), key q.keyB [] anyAlg]
    else key q.keyA [5] (typeIn [1, 2, 3]) :: parentNeed q.keyB
  else if f == 0x50 then
    if lo == 1 then parentNeed q.keyB
    else if lo == 2 then [key q.keyA [5] (typeIn [3]), key q.keyB [] anyAlg]
    else if lo == 3 then key q.keyA [5] (typeIn [3]) :: parentNeed q.keyB
    else if lo == 5 && q.keyA == 0 then []
    else if lo == 8 then [] else [key q.keyA [] anyAlg]
  else if f == 0x60 then
    let a := hybridAlgs q.opcode
    if lo == 0x11 || lo == 0x13 || lo == 0x15 then
      if q.keyA == 0 then [] else [key q.keyA [1] (algIs a.1), key q.keyB [1] (algIs a.2)]
    else if lo < 0x20 then [key q.keyA [2] (algIs a.1), key q.keyB [2] (algIs a.2)]
    else if lo % 2 == 1 then [key q.keyA [3] (algIs a.1), key q.keyB [3] (algIs a.2)]
    else if pkin then [] else [key q.keyA [4] (algIs a.1), key q.keyB [4] (algIs a.2)]
  else if f == 0x70 then
    match d.entryFor slice q.opcode with
    | none => []
    | some e =>
      (if e.2.keyUse == 0 then [] else [key q.keyA [e.2.keyUse] notStateful]) ++
      (if e.2.eflags.testBit 2 then [key q.keyB [] notStateful] else [])
  else []

/-- The handles of a request: of an opcode that a slot binds, KEY_A carries the KEY_USE of the entry record (R181). -/
def Dev.keyNeeds (d : Dev) (slice : Nat) (q : Descriptor) (input : Bytes) : List KeyNeed :=
  match d.chapterNeeds slice q input with
  | [] => []
  | n :: l =>
    let use := if n.handle == q.keyA && n.clsStatus == 0x0202 then (match d.entryFor slice q.opcode with | some e => e.2.keyUse | none => 0) else 0
    (if use == 0 then n else { n with uses := [use] }) :: l

/-- A parent handle of a creation: KEY_B where the operation has one. -/
def parentOf (q : Descriptor) : Nat := q.keyB

end Sys2Proof.Machine
end

