-- ==== Sys2Proof/Machine/Rank.lean ====
section
/-! DEFINITION. Deadlines, flows and rank of admitted requests (R63 to R75). -/

namespace Sys2Proof.Machine

/-- The operation of a request. -/
def Dev.opReq (d : Dev) (q : Request) : OpInfo := (d.opOf q.slice q.desc.opcode).getD (OpInfo.plain 0)

/-- FLAGS (R39). -/
def Request.noDeadline (q : Request) : Bool := q.desc.flags.testBit 3
def Request.fence (q : Request) : Bool := q.desc.flags.testBit 2
def Request.outHost (q : Request) : Bool := q.desc.flags.testBit 1

/-- OBJECT of a handle (R40, R300). -/
def handleObj (h : Nat) : Nat := h / 2 ^ 24 % 2 ^ 28

/-- Both requests are items of one flow: the generic flow of their slice (R70), or the flow of one stateful key (R73). -/
def Dev.sameFlow (d : Dev) (a b : Request) : Bool :=
  (a.desc.flow != 0 && a.desc.flow == b.desc.flow && a.slice == b.slice) ||
  ((d.opReq a).stateful && (d.opReq b).stateful && handleObj a.desc.keyA == handleObj b.desc.keyA)

/-- `b` waits on `a` (R65). -/
def Dev.waitsOn (d : Dev) (b a : Request) : Bool :=
  a.seq < b.seq && ((!a.released && d.sameFlow a b) || (a.qp == b.qp && (a.fence || b.fence)))

/-- The lesser of two deadlines, `none` being infinity (R64). -/
def minDeadline : Option Int → Option Int → Option Int
  | none, x => x
  | some x, none => some x
  | some x, some y => some (if x ≤ y then x else y)

/-- Insert by descending sequence number. -/
def insertSeq (e : Nat × Request) : List (Nat × Request) → List (Nat × Request)
  | [] => [e]
  | x :: r => if x.2.seq < e.2.seq then e :: x :: r else x :: insertSeq e r

/-- Requests, the latest first. -/
def latestFirst (l : List (Nat × Request)) : List (Nat × Request) := l.foldl (fun a e => insertSeq e a) []

/-- Requests with their effective deadlines, the latest first (R65): a request only waits on earlier ones. -/
def Dev.withEff (d : Dev) : List ((Nat × Request) × Option Int) :=
  (latestFirst d.disp.reqs).foldl (fun a e =>
    (e, a.foldl (fun m x => if d.waitsOn x.1.2 e.2 then minDeadline m x.2 else m) e.2.deadline) :: a) [] |>.reverse

/-- Does the first rank higher: an earlier effective deadline, ties by sequence number (R63)? -/
def ranksBefore (a b : (Nat × Request) × Option Int) : Bool :=
  match a.2, b.2 with
  | some x, some y => x < y || (x == y && a.1.2.seq < b.1.2.seq)
  | some _, none => true
  | none, some _ => false
  | none, none => a.1.2.seq < b.1.2.seq

/-- Insert by rank. -/
def insertRank (e : (Nat × Request) × Option Int) : List ((Nat × Request) × Option Int) → List ((Nat × Request) × Option Int)
  | [] => [e]
  | x :: r => if ranksBefore e x then e :: x :: r else x :: insertRank e r

/-- The numbers of the admitted requests, highest rank first (R63). -/
def Dev.ranked (d : Dev) : List Nat := ((d.withEff.foldl (fun a e => insertRank e a) []).map (fun e => e.1.1))

/-- Generic flows run ordered (R72): in BOOT, while any unit is in probation, or while a re-issued request of the flow, on the re-issue list or admitted,
is not past its release point. -/
def Dev.orderedMode (d : Dev) (q : Request) : Bool :=
  d.modes.mode == .boot || d.units.any (fun e => e.2.pool == .probation || e.2.pool == .joining) ||
  ((d.sliceSt q.slice).state == .active && (d.sliceSt q.slice).reissue.any (fun e => leAt 12 3 e.read.desc == q.desc.flow && q.desc.flow != 0)) ||
  d.disp.reqs.any (fun e => e.2.reissued && !e.2.released && e.2.desc.flow != 0 && e.2.desc.flow == q.desc.flow && e.2.slice == q.slice)

/-- A request that has entered service: it is in service, waits for its commit, or is computed again (R70, R72, R94). -/
def Request.entered (q : Request) : Bool := q.phase == .inService || q.phase == .committing || q.retried

/-- Another item of an atomic flow stands in the way: it is earlier, or it is in service (R70, R72). -/
def Request.blocks (e q : Request) : Bool := e.seq != q.seq && !e.released && (e.seq < q.seq || e.entered)

/-- The key flow of the request's stateful key, always atomic, lets it enter service (R73). -/
def Dev.keyFlowClear (d : Dev) (q : Request) : Bool :=
  !(d.opReq q).stateful || q.entered ||
  !d.disp.reqs.any (fun e => e.2.blocks q && (d.opReq e.2).stateful && handleObj e.2.desc.keyA == handleObj q.desc.keyA)

/-- Both requests are items of one generic flow (R70). -/
def Request.flowMate (e q : Request) : Bool := q.desc.flow != 0 && e.desc.flow == q.desc.flow && e.slice == q.slice

/-- The generic flow of the request lets it enter service: it runs ordered, or nothing of it stands in the way (R70 to R72). -/
def Dev.genericClear (d : Dev) (q : Request) : Bool :=
  q.entered || d.orderedMode q || !d.disp.reqs.any (fun e => e.2.blocks q && e.2.flowMate q)

/-- A finished result waits for the release of an earlier item of its generic flow (R71): of any while the flow runs ordered, else of one that entered
service while it did (R72). -/
def Dev.releaseAfter (d : Dev) (q : Request) : Bool :=
  d.disp.reqs.any (fun e => e.2.seq < q.seq && !e.2.released && e.2.flowMate q && (e.2.entered || d.orderedMode q))

/-- The fence conditions of R75 hold: no earlier fence of the queue pair, and for a fence no earlier request at all, is unpublished. -/
def Dev.fenceClear (d : Dev) (q : Request) : Bool :=
  d.disp.reqs.all (fun e => !(e.2.qp == q.qp && e.2.seq < q.seq && (e.2.fence || q.fence)))

end Sys2Proof.Machine
end

