-- ==== Sys2Proof/Machine/Keystore.lean ====
section
/-! DEFINITION. The keys above the objects and the form in which the key store and the cache hold an object: device root, vault master, roots, storage keys,
wraps, stored objects, cache shares (R296 to R299, R305, R306, R323 to R326). -/

namespace Sys2Proof.Machine

/-! ### Node table and roots -/

/-- A node's record. -/
def Dev.node? (d : Dev) (n : Nat) : Option Node := tabGet? n d.vault.nodes
/-- Change one node, if it is there. -/
def Dev.onNode (d : Dev) (n : Nat) (f : Node → Node) : Dev :=
  match d.node? n with
  | none => d
  | some x => d.onVault (fun v => { v with nodes := tabSet n (f x) v.nodes })
/-- A slice's root. -/
def Dev.root (d : Dev) (slice : Nat) : SliceRoot := tabGet SliceRoot.reset slice d.vault.roots
/-- Change a slice's root. -/
def Dev.onRoot (d : Dev) (slice : Nat) (f : SliceRoot → SliceRoot) : Dev :=
  d.onVault (fun v => { v with roots := tabSet slice (f (d.root slice)) v.roots })

/-! ### The keys of the hierarchy -/

/-- The ember key behind its mask (R297). -/
def BackupSt.emberKey (b : BackupSt) : Bytes := xorBytes (b.emberShares.getD 0 []) (b.emberShares.getD 1 [])
/-- The device root (R297); none where the ember key is gone. -/
def Dev.rootOfBoot (d : Dev) : Option Bytes := if d.backup.ember then some (kmac256 d.pufSecret d.backup.emberKey "OQ7168-ROOT") else none

/-- A 256-bit key wrapped under another, and unwrapped: the manual names no wrap for the keys above the objects, and the model takes that of R320. (DESIGN CHOICE, assumption log 130) -/
def wrapKey (kek key : Bytes) : Bytes := (aes kek).kwpWrap key
def unwrapKey (kek b : Bytes) : Option Bytes := if b.isEmpty then none else (aes kek).kwpUnwrap b

/-- The vault master unwraps under this boot's device root (R325); that of a RETURNED unit is not opened (R446). -/
def Dev.masterOf (d : Dev) : Option Bytes := if d.lcState == 4 then none else d.rootOfBoot.bind (fun r => unwrapKey r d.vault.masterWrapped)

/-- The boot's opening of the key store (R297, R325): the device root is formed, and cleared once it has unwrapped the master; the roots unwrap under the master. -/
def Dev.openStore (d : Dev) : Dev :=
  match d.masterOf with
  | none => d.closeStore.onVault (fun v => { v with deviceRoot := d.rootOfBoot })
  | some m =>
    (d.onVault (fun v => { v with
      deviceRoot := none, master := some m, domainRoot := unwrapKey m v.domainWrapped
      roots := v.roots.map (fun e => (e.1, { e.2 with key := (unwrapKey m e.2.wrapped).getD [] })) })).onModes (fun x => { x with storeOpen := true })

/-- A slice root in the engine, and wrapped under the master for the store (R296). -/
def Dev.wrapRoot (d : Dev) (key : Bytes) : Bytes := match d.vault.master with | some m => wrapKey m key | none => []

/-- The storage key of a slice, and that of the device domain (R298). -/
def Dev.storageKey (d : Dev) (i : Nat) : Bytes := kmac256 (d.root i).key (natBE 2 i) "OQ7168-STORE"
def Dev.domainStorageKey (d : Dev) : Bytes := kmac256 (d.vault.domainRoot.getD []) (natBE 2 0xFFFF) "OQ7168-STORE"

/-! ### Stored objects -/

/-- A node number in a record; 0 for none. -/
def optIndex (n : Option Nat) : Bytes := natLE 8 (match n with | some k => k + 1 | none => 0)
/-- The 32-byte node record (R305): of the attributes of R302, in a layout that the manual leaves open. (DESIGN CHOICE, assumption log 130) -/
def Node.record (x : Node) : Bytes :=
  fitLen 32 (Config.scheme 0x50 0 1
    [natLE 2 x.slice, natLE 3 x.tag, optIndex x.parent, optIndex x.source, natLE 1 x.level, natLE 1 x.cls, natLE 2 x.alg, natLE 4 x.gen, natLE 4 x.pgen, natLE 4 x.sgen,
     natLE 8 x.version, natLE 1 (bnat x.exportable + 2 * bnat x.childExport + 4 * bnat x.seedForm + 8 * bnat x.destroyed),
     (match x.stateful with | some s => natLE 8 s.total ++ natLE 8 s.committed ++ natLE 4 s.block | none => [])])
/-- What its blob holds: key material and public bytes (R305). -/
def Node.blob (x : Node) : Bytes := x.material ++ x.pub ++ x.tree ++ (if x.cls == 0 then x.params else [])

/-- The stored form of an object (R298): AES-256-GCM under its slice's storage key, the node record as additional data, behind its IV. -/
def Dev.seal (d : Dev) (iv : Bytes) (x : Node) : Bytes :=
  let a := aes (d.storageKey x.slice)
  let c := a.gcmData iv x.blob
  iv ++ c ++ a.gcmTag iv x.record c
/-- The tag of a stored object verifies (R298). -/
def Dev.tagVerifies (d : Dev) (x : Node) : Bool :=
  let iv := x.stored.take 12
  let c := (x.stored.drop 12).take x.blob.length
  x.stored.length == 28 + x.blob.length && (aes (d.storageKey x.slice)).gcmTag iv x.record c == x.stored.drop (12 + x.blob.length)

/-- A stored object can be read: its slice is open, and its tag verifies under the storage key of the slice root in force (R298, R310, R325). -/
def Dev.storedUnder (d : Dev) (x : Node) : Bool := (d.root x.slice).held && !(d.root x.slice).closed && d.tagVerifies x

/-! ### The cache -/

/-- The object leaves the cache. -/
def Node.evicted (x : Node) : Node := { x with resident := false, shares := [] }
/-- A public key object or a loaded curve: its key material is public (R306). -/
def Node.public (x : Node) : Bool := x.cls == 0 || (x.alg / 256 != 0x40 && (x.cls == 1 || x.cls == 4))
/-- The shares in which the cache holds an object's secret bytes (R306), by a fresh draw. -/
def Node.cached (x : Node) (k : Nat) : Node := { x with resident := true, shares := if x.public then [] else contextShares k 0 x.material }
end Sys2Proof.Machine
end

