-- ==== Sys2Proof/Machine/Vault.lean ====
section
/-! DEFINITION. The key vault's objects: handles, the ancestor test, residency, creation, journaled updates and invalidation
(R296 to R317). -/

namespace Sys2Proof.Machine

/-! ### Handles and the node table -/

/-- Slice and check tag of a handle (R40). -/
def handleSlice (h : Nat) : Nat := h / 2 ^ 52
def handleTag (h : Nat) : Nat := h % 2 ^ 24
/-- The handle of an object. -/
def mkHandle (slice obj tag : Nat) : Nat := slice * 2 ^ 52 + obj * 2 ^ 24 + tag

/-- VOL is set (R300). -/
def isVol (obj : Nat) : Bool := obj.testBit 27
/-- Reserved bits 0 and INDEX in range (R300). -/
def objValid (obj : Nat) : Bool := bits 26 22 obj == 0 && (!isVol obj || obj % 2 ^ 22 < 2 ^ 18)

/-- The object that a handle names for a slice (R300, R309 step 1). -/
def Dev.named (d : Dev) (slice h : Nat) : Option (Nat × Node) :=
  let n := handleObj h
  if handleSlice h == slice && objValid n then
    match d.node? n with
    | some x => if x.slice == slice && x.tag == handleTag h && !x.pending then some (n, x) else none
    | none => none
  else none

/-- A node with all of its ancestors and sources, in order of discovery (R309). -/
def Dev.chain (d : Dev) : Nat → List Nat → List Nat → List Nat
  | 0, _, acc => acc
  | _ + 1, [], acc => acc
  | k + 1, n :: r, acc =>
    if acc.contains n then d.chain k r acc
    else match d.node? n with
      | none => d.chain k r (acc ++ [n])
      | some x => d.chain k (x.parent.toList ++ x.source.toList ++ r) (acc ++ [n])

/-- A node with its ancestors and sources. -/
def Dev.family (d : Dev) (n : Nat) : List Nat := d.chain (3 * d.vault.nodes.length + 3) [n] []

/-- The node is live and its recorded PGEN and SGEN are current (R309); the objects of a slice that stays closed are orphaned (R325). -/
def Dev.linkOk (d : Dev) (n : Nat) : Bool :=
  match d.node? n with
  | none => false
  | some x =>
    !x.destroyed &&
    (match x.parent with
     | none => (d.root x.slice).held && !(d.root x.slice).closed && (d.root x.slice).gen == x.pgen
     | some p => match d.node? p with | some y => y.gen == x.pgen | none => false) &&
    (match x.source with
     | none => true
     | some p => match d.node? p with | some y => y.gen == x.sgen | none => false)

/-- The ancestor test (R309). -/
def Dev.ancestorsOk (d : Dev) (n : Nat) : Bool := (d.family n).all d.linkOk

/-- The generations recorded at a load: of each node of the family, and of the slice root as key 2^28 + slice (R90 check 2). -/
def Dev.gensOf (d : Dev) (n slice : Nat) : List (Nat × Nat) :=
  (2 ^ 28 + slice, (d.root slice).gen) :: (d.family n).map (fun x => (x, match d.node? x with | some y => y.gen | none => 0))

/-- The recorded generations are still current and nothing is destroyed (R309, R90 check 2). -/
def Dev.gensCurrent (d : Dev) (l : List (Nat × Nat)) : Bool :=
  l.all (fun e =>
    if e.1 ≥ 2 ^ 28 then (d.root (e.1 - 2 ^ 28)).gen == e.2
    else match d.node? e.1 with | some y => y.gen == e.2 && !y.destroyed | none => false)

/-! ### Sizes, residency and pinning -/

/-- Is the key stateful (R225)? -/
def Node.isStateful (x : Node) : Bool := x.stateful.isSome

/-- Heights of the levels or layers of a stateful key, from its descriptor (R224): LMS typecodes 5 to 8 and 15 to 18 give 5 to 20; an XMSS OID
gives its height, split over its layers. -/
def lmsHeight (t : Nat) : Nat := if 5 ≤ t && t ≤ 9 then 5 * (t - 4) else if 10 ≤ t && t ≤ 14 then 5 * (t - 9) else if 15 ≤ t && t ≤ 19 then 5 * (t - 14) else if 20 ≤ t && t ≤ 24 then 5 * (t - 19) else 0
def xmssHeight (oid : Nat) : Nat := [10, 16, 20].getD ((oid - 1) % 3) 0
/-- Total height and layers of an XMSS^MT OID (RFC 8391): 1 to 8 SHA2_256, 9 to 16 SHA2_512, 17 to 24 SHAKE_256, 25 on as SP 800-208 goes on. -/
def xmssMtShape (oid : Nat) : Nat × Nat :=
  [(20, 2), (20, 4), (40, 2), (40, 4), (40, 8), (60, 3), (60, 6), (60, 12)].getD ((oid - 1) % 8) (0, 1)

/-- The heights of each level or layer (R225). -/
def levelHeights (fam : Nat) (desc : Bytes) : List Nat :=
  if fam == 0x19 then (List.range (leAt 0 1 desc)).map (fun i => lmsHeight (beNat (slice (4 + 8 * i) 4 desc)))
  else if leAt 0 1 desc == 0 then [xmssHeight (beNat (slice 4 4 desc) % 256)]
  else
    let s := xmssMtShape (beNat (slice 4 4 desc))
    List.replicate s.2 (s.1 / s.2)

/-- Bytes of the traversal state (R225): 2 × (h + 2) × 32 for each level or layer. -/
def traversalBytes (f : Nat) (desc : Bytes) : Nat := (levelHeights f desc).foldl (fun a h => a + 2 * (h + 2) * 32) 0
/-- The traversal state of a stateful key whose next index is `i`: the cached nodes and authentication paths of its trees, the scheme's function 12 of the
descriptor, the seeds and the index (R225). (DESIGN CHOICE, assumption log 4) -/
def traversalOf (f : Nat) (desc seeds : Bytes) (i : Nat) : Bytes := fitLen (traversalBytes f desc) (Config.scheme f 0 12 [desc, seeds, natBE 8 i])
/-- The part of it that the signature with index `i` needs: function 13. -/
def traversalPart (f : Nat) (desc tree : Bytes) (i : Nat) : Bytes := Config.scheme f 0 13 [desc, tree, natBE 8 i]

/-- Key material and public bytes (R305): the public key and traversal state of a private key, the parameters of a loaded curve. -/
def Node.secretBytes (x : Node) : Nat := if x.public then 0 else x.material.length
def Node.publicBytes (x : Node) : Nat := x.pub.length + x.tree.length + (if x.cls == 0 then x.params.length else 0) + (if x.public then x.material.length else 0)
/-- Granules of a resident object (R306) and 32-byte units of a stored one (R305). (DESIGN CHOICE, assumption log 38) -/
def Node.granules (x : Node) : Nat := ceilDiv (2 * x.secretBytes + x.publicBytes) 64
def Node.units (x : Node) : Nat := ceilDiv (x.secretBytes + x.publicBytes) 32

/-- The slice has reserved hearths, and with them a cache partition (R392, R393). -/
def Dev.reservedSlice (d : Dev) (i : Nat) : Bool := d.sliceExists i && d.flag P.slcReserve i
/-- Granules reserved as partitions. -/
def Dev.partitions (d : Dev) : Nat := d.slices.foldl (fun a e => if d.reservedSlice e.1 then a + d.num P.slcCacheGranules e.1 else a) 0
/-- The granules a slice's objects may take: its partition, or what the partitions leave (R306, R393). -/
def Dev.cachePool (d : Dev) (i : Nat) : Nat := if d.reservedSlice i then d.num P.slcCacheGranules i else 262144 - d.partitions
/-- Two slices share a part of the cache. -/
def Dev.sameCache (d : Dev) (i j : Nat) : Bool := i == j || (!d.reservedSlice i && !d.reservedSlice j)
/-- Granules in use in a slice's part of the cache. -/
def Dev.cacheUsed (d : Dev) (i : Nat) : Nat :=
  d.vault.nodes.foldl (fun a e => if e.2.resident && d.sameCache i e.2.slice then a + e.2.granules else a) 0

/-- The objects a request names. -/
def Dev.reqObjs (d : Dev) (q : Request) : List Nat := (d.keyNeeds q.slice q.desc q.input).map (fun k => handleObj k.handle)

/-- Key-bearing (R68): by its operation, or because a handle of it names a private, secret or stateful key. -/
def Dev.bearing (d : Dev) (q : Request) : Bool :=
  (d.opReq q).bearing || (d.reqObjs q).any (fun n => match d.node? n with | some x => !x.public | none => false)

/-- Pinned (R307). -/
def Dev.pinned (d : Dev) (n : Nat) (x : Node) : Bool :=
  isVol n || (match x.stateful with | some s => s.window | none => false) ||
  d.disp.reqs.any (fun e => !e.2.released && (d.reqObjs e.2).contains n) ||
  d.vault.nodes.any (fun e => e.2.resident && e.1 != n && (d.family e.1).contains n)

/-- Evict least recently used unpinned objects until `need` granules are free; `none` where no more can go (R307). -/
def Dev.makeRoom (d : Dev) (i need : Nat) : Nat → Option Dev
  | 0 => if d.cacheUsed i + need ≤ d.cachePool i then some d else none
  | k + 1 =>
    if d.cacheUsed i + need ≤ d.cachePool i then some d
    else
      match (d.vault.nodes.filter (fun e => e.2.resident && d.sameCache i e.2.slice && !d.pinned e.1 e.2)).foldl
          (fun (m : Option (Nat × Node)) e => match m with | none => some e | some y => if e.2.used < y.2.used then some e else m) none with
      | none => none
      | some v => (d.onNode v.1 Node.evicted).makeRoom i need k

/-- A use of a node now. -/
def Dev.touch (d : Dev) (n : Nat) : Dev :=
  let c := d.vault.useClock
  (d.onVault (fun v => { v with useClock := c + 1 })).onNode n (fun x => { x with used := c })

/-- Make a node resident if there is room (R307). -/
def Dev.bringIn (d : Dev) (n : Nat) : Option Dev :=
  match d.node? n with
  | none => none
  | some x =>
    if x.resident then some (d.touch n)
    else match d.makeRoom x.slice x.granules (d.vault.nodes.length + 1) with
      | none => none
      | some d => let (k, d) := d.fresh
                  some ((d.onNode n (fun y => y.cached k)).touch n)

/-! ### Prefetch -/

/-- Step `k` of R309's order for one key: its status where the step fails. -/
def Dev.prefetchStep (d : Dev) (slice k : Nat) (n : KeyNeed) : Nat :=
  match d.named slice n.handle with
  | none => if k == 1 then 0x0201 else 0
  | some (o, x) =>
    match k with
    | 1 => 0
    | 2 => if d.ancestorsOk o then 0 else 0x0203
    | 3 => if n.uses.isEmpty then (if x.cls == 0 then 0x0202 else 0) else if n.uses.contains x.cls then 0 else n.clsStatus
    | _ => n.algStatus x.alg

/-- The status of the first step that either key fails, KEY_A's first (R309); 0 where all pass. -/
def Dev.prefetchStatus (d : Dev) (slice : Nat) (l : List KeyNeed) : Nat :=
  ((([1, 2, 3, 4] : List Nat).flatMap (fun k => l.map (d.prefetchStep slice k))).find? (· != 0)).getD 0

/-- All the objects a request names are resident. -/
def Dev.allResident (d : Dev) (q : Request) : Bool :=
  (d.reqObjs q).all (fun n => match d.node? n with | some x => x.resident | none => true)

/-- Prefetches outstanding: the vault has been asked and the keys have not come (R76). -/
def Dev.prefetches (d : Dev) : Nat := (d.disp.reqs.filter (fun e => e.2.asked && !e.2.keysReady && !e.2.released)).length

/-- Objects that have been loaded become resident as soon as there is space (R307). -/
def Dev.fillRoom (d : Dev) : Dev :=
  d.vault.roomless.foldl (fun d n => match d.bringIn n with
    | some e => e.onVault (fun v => { v with roomless := v.roomless.filter (· != n) })
    | none => d) d

/-- Issue prefetches in rank order, at most DSP_PREFETCH_DEPTH outstanding (R76); the vault loads at most 64 objects at once for them (R308). The
requests whose keys have come are noted. -/
def Dev.prefetch (d : Dev) : Dev :=
  let d := d.fillRoom
  d.ranked.foldl (fun d r =>
    match d.req? r with
    | none => d
    | some q =>
      if q.keysReady || q.released || q.phase == .waitTranslation then d
      else if (d.reqObjs q).isEmpty then d.onReq r (fun q => { q with keysReady := true })
      else if !q.asked && d.prefetches ≥ d.num P.dspPrefetchDepth 0 then d
      else if d.allResident q then d.onReq r (fun q => { q with asked := true, keysReady := true })
      else (d.reqObjs q).foldl (fun d n =>
        match d.node? n with
        | none => d
        | some x => if x.resident || d.vault.misses.contains n || d.vault.roomless.contains n || d.vault.misses.length ≥ 64 then d
                    else d.onVault (fun v => { v with misses := v.misses ++ [n] })) (d.onReq r (fun q => { q with asked := true }))) d

/-- CACHE_MISS_DONE (R308): after the tag check (R298) the object becomes resident, once there is space for it (R307), or the requests that need it fail. That
the store gave back what was written is the command's finding. -/
def cacheMissDone (n : Nat) (tagOk : Bool) (d : Dev) : Dev :=
  if !d.vault.misses.contains n then d
  else
    let d := d.onVault (fun v => { v with misses := v.misses.filter (· != n) })
    match d.node? n with
    | none => d.prefetch
    | some x =>
      if tagOk && d.storedUnder x then (d.onVault (fun v => { v with roomless := v.roomless ++ [n] })).prefetch
      else
        let d := d.event x.slice 5 0xFFFF (mkHandle x.slice n x.tag) 0
        let d := d.disp.reqs.foldl (fun d e => if !e.2.keysReady && !e.2.released && (d.reqObjs e.2).contains n then d.fail e.1 0x0206 else d) d
        d.prefetch

/-! ### Creation -/

/-- What a creation asks for. -/
structure NewObject where
  slice : Nat
  cls : Nat
  alg : Nat
  /-- KEY_B: a WRAP-ONLY parent, or none for the slice root. -/
  parent : Option Nat
  source : Option Nat
  persistent : Bool
  childExport : Bool
  /-- The wrapped header's EXPORTABLE, or true (R320). -/
  exportable : Bool
  seedForm : Bool
  material : Bytes
  pub : Bytes
  params : Bytes
  tree : Bytes
  stateful : Option Stateful

/-- CHILD_EXPORT of the parent: of the slice root it is SLC_CHILD_EXPORT as at admission (R303, R390). -/
def Dev.parentExport (d : Dev) (q : Policy) (p : Option Nat) : Bool :=
  match p with
  | none => q.childExport
  | some n => match d.node? n with | some x => x.childExport | none => false

/-- The level of an object under a parent (R296). -/
def Dev.levelUnder (d : Dev) (p : Option Nat) : Nat :=
  match p with
  | none => 1
  | some n => match d.node? n with | some x => x.level + 1 | none => 1

/-- The lowest index that names no object and is not reserved for one of another member (R329; which index is given is left open: DESIGN CHOICE, assumption log 21). -/
def Dev.freeIndex (d : Dev) (vol : Bool) : Nat :=
  let used := (d.vault.nodes.map Prod.fst ++ d.vault.reserved).filterMap (fun n => if isVol n == vol then some (n % 2 ^ 22) else none)
  ((List.range (used.length + 1)).find? (fun i => !used.contains i)).getD 0 + (if vol then 2 ^ 27 else 0)

/-- The check tag of a new object (R301): the earlier tag of the index plus 1; the first tag of an index is left open. (DESIGN CHOICE, assumption log 21) -/
def Dev.nextTag (d : Dev) (n : Nat) : Nat × Dev :=
  match tabGet? n d.vault.tags with
  | some t => (if t ≥ 0xFFFFFF then 1 else t + 1, d)
  | none =>
    let (i, d) := d.fresh
    (Config.freeNat i % 0xFFFFFF + 1, d)

/-- Persistent objects of a slice that count against its quota: orphaned ones do not (R312). -/
def Dev.quotaUsed (d : Dev) (i : Nat) : Nat :=
  (d.vault.nodes.filter (fun e => e.2.slice == i && !isVol e.1 && d.ancestorsOk e.1)).length

/-- The node that a creation makes (R296, R302 to R304), with its check tag. It stays pending until its commit (R314). -/
def Dev.nodeFor (d : Dev) (q : Policy) (tag : Nat) (o : NewObject) : Node :=
  { slice := o.slice, tag := tag, parent := o.parent, source := o.source, level := d.levelUnder o.parent, cls := o.cls, alg := o.alg, gen := 0,
    pgen := (match o.parent with | none => (d.root o.slice).gen | some p => match d.node? p with | some y => y.gen | none => 0),
    sgen := (match o.source with | none => 0 | some p => match d.node? p with | some y => y.gen | none => 0),
    version := 0, exportable := o.stateful.isNone && o.exportable && d.parentExport q o.parent, childExport := o.childExport,
    seedForm := o.seedForm, destroyed := false, pending := o.persistent, material := o.material, pub := o.pub, params := o.params, tree := o.tree,
    resident := true, shares := [], used := d.vault.useClock, stateful := o.stateful, stored := [] }

/-- Why a creation is refused, 0 where it may go on: parent and source persistence (R304), level (R296), store (R305), volatile limit (R306). -/
def Dev.createStatus (d : Dev) (q : Policy) (o : NewObject) : Nat :=
  let x := d.nodeFor q 0 o
  if o.persistent && (o.parent.any isVol || o.source.any isVol) then 0x0207
  else if x.level > (if o.cls == 5 || o.cls == 6 then 8 else 9) then 0x0208
  else if o.persistent then
    let here := d.vault.nodes.filter (fun e => !isVol e.1)
    if here.length ≥ 4194304 || here.foldl (fun a e => a + e.2.units) x.units > 4194304 || d.quotaUsed o.slice ≥ d.num P.slcKeyQuota o.slice then 0x0340 else 0
  else
    let here := d.vault.nodes.filter (fun e => isVol e.1)
    if here.foldl (fun a e => a + e.2.granules) x.granules > d.num P.vltVolatileGranules 0 || here.length ≥ 262144 then 0x0341 else 0

/-- Enter the object in the node table: its index, its handle, the device. -/
def Dev.place (d : Dev) (q : Policy) (o : NewObject) : Nat × Nat × Dev :=
  let n := d.freeIndex (!o.persistent)
  let (t, d) := d.nextTag n
  let (k, d) := d.fresh
  let x := (d.nodeFor q t o).cached k
  let d := match d.makeRoom o.slice x.granules (d.vault.nodes.length + 1) with | some d' => d' | none => d
  (n, mkHandle o.slice n t, d.onVault (fun v => { v with nodes := tabSet n x v.nodes, tags := tabSet n t v.tags, useClock := v.useClock + 1 }))

/-! ### Journaled updates -/

/-- The journal area (R493), and the bytes a record takes: the node records and blobs of its nodes (R305, R314). -/
def journalArea : Nat := 64 * 1024 * 1024
def Dev.recordBytes (d : Dev) (k : UpdateKind) : Nat :=
  let one := fun n => match d.node? n with | some x => 32 + 32 * x.units | none => 32
  match k with
  | .create l => l.foldl (fun a n => a + one n) 0
  | .destroy n => one n
  | .revoke (some n) => one n
  | .restrict n => one n
  | .reserve n _ => one n
  | .reclaim n => one n
  | .library c => c.length
  | _ => 32

/-- The nodes that an update changes, and what each is once it has committed (R302, R314). -/
def UpdateKind.nodes : UpdateKind → List Nat
  | .create l => l
  | .destroy n => [n]
  | .revoke (some n) => [n]
  | .restrict n => [n]
  | .reserve n _ => [n]
  | .reclaim n => [n]
  | _ => []
def UpdateKind.after (k : UpdateKind) (seq : Nat) (x : Node) : Node :=
  match k with
  | .create _ => { x with pending := false, version := seq }
  | .destroy _ => { x with version := seq }
  | .revoke _ => { x with version := seq }
  | .restrict _ => { x with exportable := false, childExport := false, version := seq }
  | .reserve _ upTo => { x with stateful := x.stateful.map (fun s => { s with committed := upTo, reserving := false, window := true }) }
  | _ => x

/-- Write an update's journal record (R314): the stored form that each node has after it, authenticated under the device-domain storage key, by a function that the
manual leaves open. (DESIGN CHOICE, assumption log 38) (DESIGN CHOICE, assumption log 130) -/
def Dev.journal (d : Dev) (u : Update) : Dev :=
  let ns := u.kind.nodes
  let (k, d) := d.draw (12 * ns.length)
  let sealed := (ns.zip (List.range ns.length)).filterMap (fun e => (d.node? e.1).map (fun x => (e.1, d.seal (slice (12 * e.2) 12 k) (u.kind.after u.seq x))))
  let mac := fitLen 16 (Config.scheme 0x50 0 3 (d.domainStorageKey :: sealed.map Prod.snd))
  d.onVault (fun v => { v with updates := v.updates ++ [{ u with sealed := sealed, mac := mac }] })

/-- This device is the slice's home (R328, R391): named in VLT_SLICE_HOME. -/
def Dev.isHome (d : Dev) (i : Nat) : Bool := d.oct P.vltSliceHome i == deviceIdentity

/-- Retain the outcome of a committed update: 65,536 for each slice, the highest SEQ that leaves raising the low mark (R316). -/
def Dev.retain (d : Dev) (r : Retained) : Dev :=
  if r.seq == 0 then d
  else d.onVault (fun v =>
    let l := v.retained ++ [r]
    let mine := l.filter (fun x => x.slice == r.slice)
    if mine.length > 65536 then
      match mine with
      | old :: _ => { v with retained := l.eraseP (fun x => x.slice == r.slice), lowMarks := tabSet r.slice (Nat.max old.seq (tabGet 0 r.slice v.lowMarks)) v.lowMarks }
      | [] => { v with retained := l }
    else { v with retained := l })

/-- What an update with this SEQ meets (R316). -/
inductive SeqCase where
  | run
  | done (r : Retained)
  | conflict
  | busy
  deriving DecidableEq, Repr

/-- The case of an update of a slice by its SEQ: opcode and parent, or the object acted on, must agree (R316). -/
def Dev.seqCase (d : Dev) (slice seq opcode parent : Nat) : SeqCase :=
  match d.vault.retained.find? (fun r => r.slice == slice && r.seq == seq) with
  | some r => if r.opcode == opcode && r.parent == parent then .done r else .conflict
  | none =>
    if seq ≤ tabGet 0 slice d.vault.lowMarks then .conflict
    else if d.vault.updates.any (fun u => u.slice == slice && u.seq == seq) then .busy
    else .run

/-- Free a node's place: its tag stays used (R301). -/
def Dev.freeNode (d : Dev) (n : Nat) : Dev :=
  (d.dropPlacements (fun _ k => k == n)).onVault (fun v => { v with
    tags := (match tabGet? n v.nodes with | some x => tabSet n x.tag v.tags | none => v.tags), nodes := tabErase n v.nodes, misses := v.misses.filter (· != n) })

/-! ### Invalidation -/

/-- Nodes whose family holds `n`, itself included: what an invalidation of `n` touches (R311). -/
def Dev.below (d : Dev) (n : Nat) : List Nat := (d.vault.nodes.filter (fun e => (d.family e.1).contains n)).map Prod.fst
/-- Every node of a slice: what a change of the slice root touches (R310). -/
def Dev.ofSlice (d : Dev) (i : Nat) : List Nat := (d.vault.nodes.filter (fun e => e.2.slice == i)).map Prod.fst

/-- Steps 2 and 3 of R311: clear every matching key register and context, set matching operations to abort, abandon windows (R313), drop
placements (R241) and cached curve constants (R267), discard reservations that wait (R229). -/
def Dev.broadcast (d : Dev) (affected : List Nat) : Dev :=
  let d := (d.clearKeysWhere (fun k => affected.contains k.node)).onUnits (tabMap (fun _ u => { u with curves := u.curves.filter (fun c => !affected.contains c) }))
  let d := d.onDisp (fun x => { x with jobs := x.jobs.map (fun e =>
    match tabGet? e.2.req x.reqs with
    | some q => if !q.released && !e.2.finished && e.2.keyReady && q.keyGens.any (fun g => affected.contains g.1) then (e.1, { e.2 with abort := some (e.2.abort.getD 0x0204) }) else e
    | none => e) })
  let d := (d.abandonOf affected).dropPlacements (fun _ k => affected.contains k)
  d.onVault (fun v => { v with
    nodes := v.nodes.map (fun e => if affected.contains e.1 then (e.1, { e.2 with stateful := e.2.stateful.map (fun s => { s with reserving := false }) }) else e)
    updates := v.updates.filter (fun u => match u.kind with | .reserve n _ => !affected.contains n | _ => true) })

/-- A result of the request has passed check 2 (R90, R92): it is released, a half of it waits for the other, or a creation waits for its commit. -/
def Dev.pastCheck2 (d : Dev) (r : Nat) (q : Request) : Bool :=
  q.released || !q.halves.isEmpty || (q.phase == .committing && !d.vault.invalidations.any (fun i => i.req == some r))

/-- INVALIDATION_ACK (R311 step 4): once every match is cleared and every result past check 2 with an affected key has finished its writes, the
invalidation is acknowledged. A volatile one completes; a persistent one goes on to its commit. -/
def invalidationAck (n : Nat) (d : Dev) : Dev :=
  let key := if n ≥ 2 ^ 28 then none else some n
  match d.vault.invalidations with
  | [] => d
  | i :: rest =>
    if i.node != key || (key.isNone && i.slice != n - 2 ^ 28) then d
    else if d.disp.reqs.any (fun e => d.pastCheck2 e.1 e.2 && some e.1 != i.req && e.2.keyGens.any (fun g => i.affected.contains g.1)) then d
    else
      let d := d.onVault (fun v => { v with invalidations := rest })
      let upd := d.vault.updates.any (fun u => u.req == i.req && !u.acked)
      if upd then d.onVault (fun v => { v with updates := v.updates.map (fun u => if u.req == i.req && !u.acked then { u with acked := true } else u) })
      else match i.req with
        | none => d
        | some r => d.complete r { Completion.ofStatus 0 with engineClass := 5 }

/-! ### Commits -/

/-- The status a creation commits with (R313): 0x0203 where its parent's generation has moved. (DEDUCED, assumption log 109) -/
def Dev.creationStale (d : Dev) (u : Update) : Bool :=
  match u.kind with
  | .create (n :: _) => (match d.node? n with
    | none => true
    | some x => match x.parent with
      | none => (d.root x.slice).gen != u.parentGen
      | some p => match d.node? p with | none => true | some y => y.gen != u.parentGen || y.destroyed)
  | _ => false

/-- Apply a committed update to the device (R314): the node table, roots and windows; a new slice root is in the store from here. Library and slice updates act
through `other`. -/
def Dev.applyUpdate (d : Dev) (other : Dev → Update → Dev) (u : Update) : Dev :=
  match u.kind with
  | .revoke none => d.onRoot u.slice (fun r => { r with wrapped := d.wrapRoot r.key })
  | .reclaim n => d.freeNode n
  | k => match k.nodes with
    | [] => other d u
    | l => l.foldl (fun d n => d.onNode n (fun x => { k.after u.seq x with stored := tabGet x.stored n u.sealed })) d

/-- The other members of the group, by row of VLT_GROUP_MEMBERS (R327). -/
def Dev.members (d : Dev) : List Nat :=
  (List.range 16).filter (fun r => !(d.oct P.vltGroupMembers r).isEmpty && (d.oct P.vltGroupMembers r).take 32 != deviceIdentity)

/-- The body of a replicated record (R328, R329): of each node its index, and, but for a stateful key, its record and its stored form, encrypted as it is.
(DESIGN CHOICE, assumption log 61) -/
def Dev.recordBody (d : Dev) (u : Update) : Bytes :=
  natLE 4 (d.root u.slice).gen ++ u.kind.nodes.flatMap (fun n => natLE 4 n ++ (match d.node? n with | some x => if x.isStateful then [] else x.record ++ x.stored | none => []))

/-- The home sends a committed record to every member (R328): the message names the member and the record's place in the slice's sequence. (DESIGN CHOICE, assumption log 61) -/
def Dev.replicate (d : Dev) (i : Nat) (body : Bytes) : Dev :=
  if i < 4096 && d.isHome i then
    d.members.foldl (fun d m => (d.addNum P.vltReplLag (16 * i + m) 1).emit (.peer 0 i (natLE 2 m ++ natLE 8 (tabGet 0 i d.vault.seqs) ++ body))) d
  else d

/-- The transport key of a session between members (R328): the manual names it and states no formation. (DESIGN CHOICE, assumption log 130) -/
def Session.transportKey (s : Session) : Bytes := fitLen 32 (Config.scheme 0x50 0 2 [s.keys.clientKey, s.keys.deviceKey])

/-- The home sends a slice's root over a session with a member, wrapped under that session's transport key (R328). -/
def Dev.sendRoot (d : Dev) (i : Nat) (s : Session) : Dev :=
  if i < 4096 && d.isHome i && (d.root i).held && s.peer then
    d.emit (.peer 5 i (natLE 8 (tabGet 0 i d.vault.seqs) ++ wrapKey s.transportKey (d.root i).key)) else d
/-- To every member: after each change of the root. -/
def Dev.sendRootToAll (d : Dev) (i : Nat) : Dev := d.mgmt.sessions.foldl (fun d e => d.sendRoot i e.2) d
/-- Every root over a session that has just opened: the slices join replication with that member. -/
def Dev.sendRoots (d : Dev) (s : Session) : Dev := d.vault.roots.foldl (fun d e => d.sendRoot e.1 s) d

/-- One update commits (R314 to R316): its effect, its retained outcome, its replication, and its completion or response. -/
def Dev.commitOne (other : Dev → Update → Dev) (d : Dev) (u : Update) : Dev :=
  let stale := d.creationStale u
  let rec' := d.recordBytes u.kind
  let st := if stale then 0x0203 else u.status
  let out := if stale then [] else u.output
  let d := if stale then (match u.kind with | .create l => l.foldl (fun d n => d.freeNode n) d | _ => d) else d.applyUpdate other u
  let d := d.retain { slice := u.slice, seq := u.seq, opcode := u.opcode, parent := u.parent, status := st, output := out }
  let d := d.onVault (fun v => { v with journalUsed := v.journalUsed + rec', seqs := tabSet u.slice (tabGet 0 u.slice v.seqs + 1) v.seqs })
  let d := (d.onVault (fun v => { v with journalHigh := v.journalHigh || decide (10 * v.journalUsed ≥ 9 * journalArea) })).replicate u.slice (d.recordBody u)
  let d := if u.kind == .revoke none || u.kind == .sliceRoot then d.sendRootToAll u.slice else d
  let d := match u.ticket with
    | some (src, id) => d.respondLate src id Reply.ok
    | none => d
  match u.req with
  | none => d
  | some r =>
    match d.req? r with
    | none => d
    | some q =>
      let c := (d.opReq q).cls
      let c := if c == 6 then 5 else c
      if st == 0 then
        d.complete r { status := 0, output := out, engineClass := (match q.completion with | some y => y.engineClass | none => c),
                       quadA := (match q.completion with | some y => y.quadA | none => 0), quadB := 0 }
      else d.complete r (Completion.ofStatus st)

/-- The update may commit: acknowledged, and the key store is open. A library update is no part of the store. (DEDUCED, assumption log 76) -/
def Dev.mayCommit (d : Dev) (u : Update) : Bool := u.acked && (d.modes.storeOpen || u.slice == 0xFFFF)

/-- Commit the first `n` updates that may, as the journal has room for them (R314, R317). (DEDUCED, assumption log 76) -/
def Dev.commitSome (other : Dev → Update → Dev) (d : Dev) : Nat → Dev
  | 0 => d
  | n + 1 =>
    match d.vault.updates.find? d.mayCommit with
    | none => d
    | some u =>
      if d.vault.journalUsed + d.recordBytes u.kind > journalArea then d
      else ((d.onVault (fun v => { v with updates := v.updates.eraseP d.mayCommit })).commitOne other u).commitSome other n

/-- The flash interface could not write a group's records after its own retries (R229): the reservations of the group are given up, COMMITTED unchanged. The manual
states no failure of another update: they wait for a later group. (DESIGN CHOICE, assumption log 129) -/
def Dev.reservationsFail (d : Dev) (n : Nat) : List Nat × Dev :=
  let group := (d.vault.updates.filter d.mayCommit).take n
  let keys := group.filterMap (fun u => match u.kind with | .reserve k _ => some k | _ => none)
  (keys, keys.foldl (fun d k => d.onNode k (fun x => { x with stateful := x.stateful.map (fun s => { s with reserving := false }) }))
    (d.onVault (fun v => { v with updates := v.updates.filter (fun u => !group.contains u || (match u.kind with | .reserve _ _ => false | _ => true)) })))

/-- Every update whose journal record is written commits, as step 5 of R401 and a warm reset have it. -/
def Dev.commitWritten (other : Dev → Update → Dev) (d : Dev) (p : Update → Bool) : Dev :=
  (d.vault.updates.filter p).foldl (fun d u => (d.onVault (fun v => { v with updates := v.updates.filter (· != u) })).commitOne other u) d

/-- An update without its commit record is rolled back (R315): what it changed in the table stands as before. A new slice root gives way to the old
one, which the store still holds. -/
def Dev.rollBack (d : Dev) (u : Update) : Dev :=
  match u.kind with
  | .create l => l.foldl (fun d n => d.freeNode n) d
  | .destroy n => d.onNode n (fun x => { x with destroyed := false, gen := (x.gen + 2 ^ 32 - 1) % 2 ^ 32 })
  | .revoke (some n) => d.onNode n (fun x => { x with gen := x.gen - 1 })
  | .revoke none => d.onRoot u.slice (fun r => { r with gen := r.gen - 1, key := (d.vault.master.bind (fun m => unwrapKey m r.wrapped)).getD [] })
  | .reserve n _ => d.onNode n (fun x => { x with stateful := x.stateful.map (fun s => { s with reserving := false }) })
  | _ => d

/-- Roll back every update that has not committed. -/
def Dev.rollBackAll (d : Dev) : Dev :=
  (d.vault.updates.foldl Dev.rollBack d).onVault (fun v => { v with updates := [], invalidations := [] })

/-- JOURNAL_COMPACTION (R317, R326): the committed records are folded into the key-store area with each slice's compaction mark, and the area is free again. A node
whose update has not committed stays there as it was. -/
def journalCompaction (d : Dev) : Dev :=
  let open' := d.vault.updates.flatMap (fun u => u.kind.nodes)
  d.onVault (fun v => { v with
    journalUsed := 0, journalHigh := false, marks := v.seqs
    store := v.store.filter (fun e => open'.contains e.1) ++ v.nodes.filter (fun e => !isVol e.1 && !open'.contains e.1) })

/-! ### Reclamation and temper pass -/

/-- Objects that wait to be reclaimed (R312): destroyed or orphaned, and committed. (DESIGN CHOICE, assumption log 26) -/
def Dev.orphans (d : Dev) : List Nat :=
  (d.vault.nodes.filter (fun e => !e.2.pending && !d.ancestorsOk e.1 &&
    !d.vault.updates.any (fun u => u.kind == .destroy e.1 || u.kind == .reclaim e.1))).map Prod.fst

/-- RECLAIM_TASK (R312): volatile orphans go at once; each persistent one by a journaled record, while the key store is open. -/
def reclaimTask (d : Dev) : Dev :=
  d.orphans.foldl (fun d n =>
    if isVol n then d.freeNode n
    else if !d.modes.storeOpen then d
    else match d.node? n with
      | none => d
      | some x => d.journal { req := none, slice := x.slice, seq := 0, opcode := 0, parent := 0, kind := .reclaim n, parentGen := 0, acked := true,
                              status := 0, output := [], ticket := none }) d

/-- A pass has not finished: a key register or context is still being refreshed (R323). -/
def Dev.temperRuns (d : Dev) : Bool := d.units.any (fun e => e.2.refreshing)

/-- TEMPER_PASS_START (R323): every VLT_TEMPER_MS; where the last pass has not finished, this one is skipped and counted. Every resident granule takes new shares;
idle key registers and contexts are refreshed under R109, those of a unit in service at its next idle moment. (DEDUCED, assumption log 131) -/
def temperPassStart (d : Dev) : Dev :=
  if !d.modes.mode.powered || d.now < d.vault.temperDue then d
  else
    let d := d.onVault (fun v => { v with temperDue := d.now + d.num P.vltTemperMs 0 * 1000 * ticksPerUs })
    if d.temperRuns then d.addNum P.vltTemperOverrunCount 0 1
    else
      let (k, d) := d.fresh
      let d := d.onVault (fun v => { v with nodes := v.nodes.map (fun e => (e.1, { e.2 with shares := remask k e.1 e.2.shares })) })
      d.onUnits (tabMap (fun u x => if u < nUnits && (x.key.isSome || !x.contexts.isEmpty) then (if x.job.isNone then { x with refreshing := true } else { x with refreshDue := true }) else x))

/-! ### The commands -/

def execCacheMissDone (object : Nat) (tagOk : Bool) (s : State) := s.run (cacheMissDone object tagOk)
def execInvalidationAck (node : Nat) (s : State) := s.run (invalidationAck node)
def execReclaimTask (s : State) := s.run reclaimTask
def execJournalCompaction (s : State) := s.run journalCompaction
def execTemperPassStart (s : State) := s.run temperPassStart

end Sys2Proof.Machine
end

