-- ==== Sys2Proof/Machine/Service.lean ====
section
/-! DEFINITION. Choosing a unit, the masking order of an operation, withheld results and re-execution, and what a unit does when it
fails (R78 to R84, R97, R98, R102 to R104, R121, R122, R276, R277). -/

namespace Sys2Proof.Machine

/-! ### Masking order -/

/-- The requested masking order (R97): PROFILE MASK_ORDER, or the slice default where it is 0. -/
def Request.requestedOrder (q : Request) : Nat := if q.desc.profile % 4 == 0 then q.policy.maskDefault else q.desc.profile % 4

/-- The masking orders that the microprogram of an operation supports (R172). -/
def Dev.ordersOf (d : Dev) (tiles : List Nat) (op : Nat) : Nat :=
  match d.bound tiles op with | some e => e.1.orders % 16 | none => 0

/-- The effective masking order of an operation on a unit (R97, R98). -/
def Dev.effectiveOrder (d : Dev) (q : Request) (u : Nat) : Nat :=
  if !(d.opReq q).masked then 0
  else
    let r := q.requestedOrder
    let up := Nat.min 3 (r + 1)
    if u < 128 && d.level u ≥ 5 && (d.ordersOf [u] q.desc.opcode).testBit up then up else r

/-! ### Eligibility -/

/-- A FULL check asks for a second computation by a second assignment (R114, R115): on tiles. Engines compute both at once (R270, R281). (DESIGN CHOICE, assumption log 31) -/
def Dev.twice (d : Dev) (q : Request) : Bool :=
  let i := d.opReq q
  (i.cls == 1 || i.cls == 6) && (i.strike == 4 || (i.strike == 1 && q.policy.strikeSign == 1) || (i.strike == 2 && q.policy.strikeKem == 1))

/-- The class of unit that a computation of a request needs (R85, R115). -/
def Dev.classFor (d : Dev) (q : Request) (k : JobKind) : Nat :=
  let c := (d.opReq q).cls
  if c == 6 then (if k.half == 1 then 2 else 1) else c

/-- The microprogram a tile would run for an opcode declares long-vector use (R153, R562). -/
def Dev.longVector (d : Dev) (t op : Nat) : Bool :=
  match d.bound? t op with
  | some e => e.1.flags.testBit 0
  | none => false

/-- The VEC domain of the tile's quadrant is off by command: its tiles take only microprograms without the declaration (R169). -/
def Dev.vecOff (d : Dev) (t : Nat) : Bool :=
  d.domain (12 + quadOf t) == .off || d.domain (12 + quadOf t) == .draining || d.domain (12 + quadOf t) == .ramping

/-- The unit computes such work: by class and microprogram (R78), and a unit whose spark generator is unseeded takes nothing key-bearing (R112, R250, R279). -/
def Dev.computes (d : Dev) (q : Request) (k : JobKind) (u : Nat) : Bool :=
  classOf u == d.classFor q k && u < nUnits && d.unitPowered u &&
  (u ≥ 128 || ((d.binds u q.desc.opcode).isSome && !(d.longVector u q.desc.opcode && d.vecOff u))) &&
  (!d.bearing q || (d.unit u).spark.seeded)

/-- The unit serves the computation: it also lies in the slice's hearth set (R78). -/
def Dev.serves (d : Dev) (q : Request) (k : JobKind) (u : Nat) : Bool :=
  d.computes q k u && (d.num P.slcHearthSet q.slice).testBit (hearthOf u)

/-- The unit is eligible (R78), the rule on withheld results apart: one whose departure is pending takes no assignment of a later pass (R82). -/
def Dev.eligibleBase (d : Dev) (q : Request) (k : JobKind) (u : Nat) : Bool := (d.unit u).pool == .inPool && !d.leaving u && d.serves q k u

/-- The eligible units: not one that produced a withheld result, where another is eligible (R78). -/
def Dev.eligibleUnits (d : Dev) (q : Request) (k : JobKind) : List Nat :=
  let all := (List.range nUnits).filter (d.eligibleBase q k)
  let rest := all.filter (fun u => !q.excluded.contains u)
  if rest.isEmpty then all else rest

/-- The unit is free for an assignment: a due probe holds it, an idle probe does not (R365, R366). -/
def Dev.unitFree (d : Dev) (u : Nat) : Bool :=
  (d.unit u).job.isNone && !(d.unit u).scrubbing && !(u < nTiles && (d.q u).probing && !(d.q u).idleProbe)

/-! ### Withholding and re-execution -/

/-- Record a half's failure (R86): the first recorded stands, but of two in one device tick the first half's. -/
def Dev.noteHalf (d : Dev) (r h st : Nat) : Dev :=
  d.onReq r (fun q => { q with halfFail := match q.halfFail with
    | some (s, t, k) => if t == d.now && h < k then some (st, t, h) else some (s, t, k)
    | none => some (st, d.now, h) })

/-- The status that a composite request fails with (R86). -/
def Request.halfStatus (q : Request) (st : Nat) : Nat := match q.halfFail with | some (s, _, _) => s | none => st

/-- Half `h` of a composite request has failed (R86): its computations end, the other half's are aborted, at their next checkpoint where they run; with
nothing left that runs the request fails. -/
def Dev.halfFailed (d : Dev) (r h st : Nat) : Dev :=
  let d := d.noteHalf r h st
  let mine := (d.jobsOf r).filter (fun e => !e.2.kind.isShadow && e.2.kind.half == h)
  let d := mine.foldl (fun d e => (if e.2.unit < nUnits && !e.2.result.any (fun x => x.status != 0) then d.scrub e.2.unit else d).dropJob e.1) d
  let other := (d.jobsOf r).filter (fun e => !e.2.kind.isShadow)
  if other.any (fun e => e.2.runs) then d.abortReq r st
  else d.fail r (((d.req? r).map (fun q => q.halfStatus st)).getD st)

/-- A computation of a request has failed with a status: of a composite request its half fails (R86), any other request fails. -/
def Dev.failWork (d : Dev) (r h st : Nat) : Dev :=
  match d.req? r with
  | none => d
  | some q => if (d.opReq q).cls == 6 then d.halfFailed r h st else d.fail r st

/-- A computation is withheld and its request waits to be computed again (R83, R90): its unit is noted, a re-executed stateful signature takes
a new index (R121, R227), a half that had finished is finished no more, a second
computation with the old index ends, and with no eligible unit left the request completes with 0x0402 (R94, R104). -/
def Dev.withhold (d : Dev) (j : Nat) : Dev :=
  match d.job? j with
  | none => d
  | some x =>
    let d := d.dropJob j
    match d.req? x.req with
    | none => d
    | some q =>
      if q.released then d
      else
        let q' := { q with retried := true, excluded := q.excluded ++ [x.unit], index := if x.kind == JobKind.second then q.index else none,
                           halves := q.halves.filter (fun e => e.1 != x.kind.half) }
        let q' := { q' with phase := if (d.jobsOf x.req).isEmpty then .waiting else q.phase }
        let d := d.onReq x.req (fun _ => q')
        let d := if x.kind == JobKind.first && (d.opReq q).stateful then ((d.jobsOf x.req).filter (fun (e : Nat × Job) => e.2.kind == JobKind.second)).foldl (fun d e => (d.scrub e.2.unit).dropJob e.1) d else d
        let k := if x.kind == JobKind.second then JobKind.first else x.kind
        if x.unit < nUnits && (d.eligibleUnits q' k).isEmpty then d.failWork x.req x.kind.half 0x0402 else d

/-- Withhold computations of one request for a cause (R90, R95): where the request goes on, its re-execution is counted under that cause. The units
scrub where the operation's completion would have them do so (R116). -/
def Dev.withholdFor (d : Dev) (r : Nat) (js : List (Nat × Job)) (cause : Param) : Dev :=
  let scrub := match d.req? r with | some q => (d.opReq q).scrub | none => false
  let d := js.foldl (fun d e => (if scrub && e.2.unit < nUnits then d.scrub e.2.unit else d).withhold e.1) d
  match d.req? r with
  | some q => if q.released || q.halfFail.isSome then d else d.addNum cause 0 1
  | none => d

/-- Drop a shadow copy: it releases nothing (R84). -/
def Dev.dropShadows (d : Dev) (u : Nat) : Dev :=
  (d.disp.jobs.filter (fun e => e.2.unit == u && e.2.kind.isShadow)).foldl (fun x e => x.dropJob e.1) d

/-- A unit goes OUT for a fault (R81, R83): the results of its operations in service are withheld and executed again elsewhere, each counted as a
re-execution for a unit fault (R95). -/
def Dev.unitOut (d : Dev) (u : Nat) (k : EdgeKind) : Dev :=
  let live := d.disp.jobs.filter (fun e => e.2.unit == u && !e.2.kind.isShadow)
  let d := (d.dropShadows u).setPool u .out k
  live.foldl (fun x e => x.withholdFor e.2.req [e] P.dspRetryCount04) d

/-- Move an operation off its unit (R102, R104): key register cleared, unit scrubbed and taken OUT, an A2 unit response recorded under source
0x0802; a third faulty unit ends the request with 0x0403. -/
def Dev.moveOff (d : Dev) (u : Nat) : Dev :=
  let d := d.raiseUnit 0x0802 u 0
  let reqs := (d.disp.jobs.filter (fun e => e.2.unit == u && !e.2.kind.isShadow)).map (fun e => e.2.req)
  let d := reqs.foldl (fun x r => x.onReq r (fun q => { q with unitFaults := q.unitFaults + 1 })) d
  let d := reqs.foldl (fun x r => match x.req? r with
    | some q => if q.unitFaults ≥ 3 && !q.released then x.fail r 0x0403 else x
    | none => x) d
  (d.wipe u).unitOut u .alarm

/-- Count a recovered uncorrectable word (R103): the third within 2^32 tile cycles (268,435,456 ticks at 1.6 GHz) takes the unit to DRAINING. -/
def Dev.recoveredWord (d : Dev) (u : Nat) : Dev :=
  let d := d.raiseUnit 0x0801 u 0
  let keep := ((d.unit u).ueTimes.filter (fun t => d.now < t + 268435456)) ++ [d.now]
  let d := d.onUnit u (fun x => { x with ueTimes := if keep.length ≥ 3 then [] else keep })
  if keep.length ≥ 3 then (d.raiseUnit 0x0806 u 0).drainUnit u .alarm else d

/-! ### The tile's side of a start (R126, R178, R180) -/

/-- A tile's instruction-set state. -/
def Dev.tile (d : Dev) (t : Nat) : TileSt := tabGet TileSt.reset t d.tiles
/-- Change it. -/
def Dev.onTile (d : Dev) (t : Nat) (f : TileSt → TileSt) : Dev := d.onTiles (tabSet t (f (d.tile t)))

/-- OUT_CAP, or for inline output the lesser of OUT_CAP and QP_INLINE_LIMIT (R127). -/
def Dev.capacity (d : Dev) (q : Request) : Nat := if q.desc.flags.testBit 1 then q.desc.outCap else Nat.min q.desc.outCap (d.num P.qpInlineLimit q.qp)

/-- The state of a tile at the start of an operation (R126): registers and memory of vectors stay as they were. (DESIGN CHOICE, assumption log 94) -/
def TileSt.start (y : TileSt) (pc slot : Nat) : TileSt :=
  { y with s := [], m := [], vl := 0, vstart := 0, vtype := 0x22, csr := [], keccak := [], sha2 := none, pc := pc, staged := [], slot := slot,
           cycles := 0, sinceChkpt := 0, lvWaiting := none, sparkWaiting := none }

/-- The entry point of an opcode on a tile, and the slot that binds it (R126, R181). -/
def Dev.entryOf (d : Dev) (t op : Nat) : Nat × Nat :=
  match d.bound? t op with
  | none => (0, 0)
  | some (m, e) => (e.entry, ((d.slots t).findIdx? (· == (m.mpId, m.version))).getD 0)

/-- Start the operation that a tile has been assigned. -/
def Dev.startTile (d : Dev) (t op : Nat) : Dev := let e := d.entryOf t op
                                                  d.onTile t (fun y => y.start e.1 e.2)

/-! ### Finished computations -/

/-- The unit reports a computation finished (R162): its result is staged in its area of hearth memory (R119), and its execution ended now. -/
def Dev.finishJob (d : Dev) (j : Nat) (r : JobResult) : Dev :=
  let d := match d.job? j with
    | some x => if x.unit < nUnits then d.onUnit x.unit (fun y => { y with staging := r.output }) else d
    | none => d
  d.onJob j (fun x => { x with result := some r, stop := some d.now, finished := true })

/-- A result that only carries a status. -/
def JobResult.ofStatus (st : Nat) : JobResult := { status := st, output := [], mismatch := false, secret := [] }

end Sys2Proof.Machine
end

