-- ==== Sys2Proof/Machine/Plan.lean ====
section
/-! DEFINITION. What the checks of R43 and R561 ask of a family's descriptor, and what a finished computation hands over. -/

namespace Sys2Proof.Machine

/-- What a family's chapter says of one descriptor, for the checks of R43. -/
structure Plan where
  /-- Check 2: AUX must be 0 where the operation defines no use for it. -/
  auxBad : Bool
  /-- Check 4: IN_LEN differs from what the operation takes. -/
  lenBad : Bool
  /-- R561 check 2: a reserved field of an input structure is not 0. -/
  reservedBad : Bool
  /-- R561 check 3: a handle is not 0 where the operation has no use for it. -/
  handleBad : Bool
  /-- Check 6 of the family, in its order: the first that holds decides. -/
  checks : List (Bool × Nat)
  /-- Output bytes, where the length is known at admission (check 8). -/
  outLen : Option Nat

/-- A plan whose operation has no AUX field, no input and no output. -/
def Plan.plain : Plan := { auxBad := false, lenBad := false, reservedBad := false, handleBad := false, checks := [], outLen := some 0 }

/-- The input's bytes are there for a check to look at: an input that cannot be read fails check 7 of R43, after every check that needs none of it. -/
def Descriptor.seen (q : Descriptor) (input : Bytes) : Bool := q.inLen == 0 || !input.isEmpty

/-- The object a handle names, for a check that looks at it: none of another slice. (DEDUCED, assumption log 39) -/
def Dev.peek (d : Dev) (slice h : Nat) : Option Node := (d.named slice h).map Prod.snd

/-- Key material of the object a handle names. -/
def Dev.material (d : Dev) (h : Nat) : Bytes := match d.node? (handleObj h) with | some x => x.material | none => []
/-- Public bytes of the object a handle names: a public key object's material, else its public key (R188, R305). -/
def Dev.publicOf (d : Dev) (h : Nat) : Bytes := match d.node? (handleObj h) with | some x => if x.public then x.material else x.pub | none => []
/-- ALG and class of the object a handle names. -/
def Dev.algOf (d : Dev) (h : Nat) : Nat := match d.node? (handleObj h) with | some x => x.alg | none => 0
def Dev.clsOf (d : Dev) (h : Nat) : Nat := match d.node? (handleObj h) with | some x => x.cls | none => 0

/-- The values that a computation forms from its secrets, in order, and whether G.UNMASK is applied to each (R205, R247). -/
abbrev Trace := List (SecretValue × Bytes × Bool)
/-- A value that stays in shares, and one that is unmasked. -/
def keeps (n : SecretValue) (b : Bytes) : SecretValue × Bytes × Bool := (n, b, false)
def unmasks (n : SecretValue) (b : Bytes) : SecretValue × Bytes × Bool := (n, b, true)

/-- The shares of the `i`-th value of computation `n`: `order` fresh ones, and plane 0 that completes them (R112, R135). -/
def sharesOf (n i order : Nat) (b : Bytes) : List Bytes :=
  let rest := (List.range order).map (fun p => (List.range b.length).map (fun k => BitVec.ofNat 8 (Config.sparkWord n ((4 * i + p) * 2 ^ 32 + k)).toNat))
  rest.foldl xorBytes b :: rest

/-- A tile holds the values of its operation in shares, and those that were unmasked in the open, until it scrubs or the next operation overwrites them
(R205, R247); a big-number engine holds blinded values alone (R268, R271). -/
def Dev.holdWork (d : Dev) (u n order : Nat) (l : Trace) : Dev :=
  d.onUnit u (fun x => { x with
    work := (l.zip (List.range l.length)).map (fun e => { name := e.1.1, shares := if u < nTiles then sharesOf n e.2 order e.1.2.1 else [e.1.2.1] })
    opened := (l.filter (fun e => e.2.2)).map (fun e => (e.1, e.2.1)) })

/-- Success with output. -/
def JobResult.good (out : Bytes) : JobResult := { status := 0, output := out, mismatch := false, secret := [] }
/-- A result whose check found nothing wrong, or a mismatch (R114, R192). -/
def JobResult.checked (r : JobResult) (ok : Bool) : JobResult := { r with mismatch := !ok }
/-- A new key: the public part that follows the handle, and the material kept inside. -/
def JobResult.made (out secret : Bytes) : JobResult := { status := 0, output := out, mismatch := false, secret := secret }

/-- Drawn bytes of a request (R345): `n` from position `o` of its draw. -/
def Request.drawn (q : Request) (o n : Nat) : Bytes := (match q.draw with | some s => s.stream (o + n) | none => zeros (o + n)).drop o

/-- The computation needs spark randomness: a masked one on a tile, a key-bearing one on an engine (R111, R250, R279). -/
def Dev.drawsSpark (d : Dev) (q : Request) (x : Job) : Bool := if x.unit < nTiles then x.order > 0 else x.unit < nUnits && d.bearing q

/-- Outputs that it took, in the cycles since it began: on a tile at quench level 1 and above every cycle; else as many as its gadgets, hash cores or blinding asked for, a
free number of its cycles (R111, R250). (DESIGN CHOICE, assumption log 118) -/
def Dev.runDraws (d : Dev) (q : Request) (x : Job) (n : Nat) : Nat :=
  let cycles := (if x.unit < nTiles then 16 else 12) * (d.now - x.begun.getD d.now)
  if x.unit < nTiles && d.level x.unit ≥ 1 then cycles else if d.drawsSpark q x then Config.freeNat n % (cycles + 1) else 0

/-- A check of R114, R268, R269 or R281 that can find a fault of the unit: DECAPS under CHECK has its re-encryption, whose rejection is a correct result. -/
def Dev.checksUnit (d : Dev) (q : Request) : Bool :=
  let i := d.opReq q
  i.strike != 0 && (i.strike != 2 || i.makes || d.twice q)

/-- Run the computation of a job that is assigned, loaded and not yet finished: its result is staged. The check that belongs to it (R114, R192) is computed with it;
whether the unit itself failed, so that the check or the comparison finds a mismatch, is a free choice (R90 check 4). A stalled spark generator holds up what needs it (R111), and the staged
plaintext of a decryption that fails is scrubbed (R286). -/
def Dev.computeWith (d : Dev) (j : Nat) (fam : Nat → Bool) (f : Dev → Request → Job → JobResult) (g : Dev → Request → Job → Trace) : Dev :=
  match d.job? j with
  | none => d
  | some x =>
    match d.jobReq x with
    | none => d
    | some q =>
      if !fam q.desc.opcode || x.begun.isNone || x.finished || x.abort.isSome then d
      else if d.drawsSpark q x && d.sparkOut x.unit then d.stallOn x.unit
      else
        let (n, d) := d.fresh
        let r := f d q x
        let l := g d q x
        let d := d.finishJob j { r with mismatch := r.mismatch || (d.checksUnit q && Config.freeBool n) }
        let d := if x.unit < 160 then d.holdWork x.unit n x.order l else d
        let d := if x.unit < nUnits then (d.sparkDraw x.unit (d.runDraws q x n)).usedMemory x.unit else d
        if (x.unit < nTiles && r.status / 256 == 8) || (160 ≤ x.unit && r.status == 0x0170) then d.scrub x.unit else d

/-- The same, of a computation whose values the manual does not follow. -/
def Dev.compute (d : Dev) (j : Nat) (fam : Nat → Bool) (f : Dev → Request → Job → JobResult) : Dev := d.computeWith j fam f (fun _ _ _ => [])

/-- Runs when the job's opcode is this one; the lattice half of a composite request runs under its own row. -/
def opIs (op : Nat) : Nat → Bool := fun o => o == op
def opIn (l : List Nat) : Nat → Bool := fun o => l.contains o

end Sys2Proof.Machine
end

