-- ==== Sys2Proof/Machine/Symmetric.lean ====
section
/-! DEFINITION. The symmetric family 0x40 (R282 to R287, R295). -/

namespace Sys2Proof.Machine

/-! ### Fields -/

/-- AUX fields (R284). -/
def Descriptor.tagLen (q : Descriptor) : Nat := bits 47 40 q.aux
def Descriptor.ivLen (q : Descriptor) : Nat := bits 39 32 q.aux
def Descriptor.aadLen (q : Descriptor) : Nat := bits 31 16 q.aux
def Descriptor.func (q : Descriptor) : Nat := bits 15 8 q.aux

/-- Bytes of a symmetric key by key type (R283). -/
def keyTypeLen (t : Nat) : Nat := [0, 16, 24, 32, 16, 24, 32, 64, 32, 64].getD t 0
/-- A key type of R283. -/
def keyTypeOk (t : Nat) : Bool := 1 ≤ t && t ≤ 9

/-- The functions of R199 by code: hash, digest bytes, HMAC block bytes. -/
def hashLen (f : Nat) : Nat := [0, 32, 48, 64, 32, 48, 64, 32, 64].getD f 0
def hashBlock (f : Nat) : Nat := [0, 64, 128, 128, 136, 104, 72, 168, 136].getD f 0
def hashOf (f : Nat) (m : Bytes) : Bytes :=
  match f with
  | 1 => Sha2.sha256 m | 2 => Sha2.sha384 m | 3 => Sha2.sha512 m | 4 => Keccak.sha3_256 m | 5 => Keccak.sha3_384 m | 6 => Keccak.sha3_512 m
  | 7 => Keccak.shake128 m 32 | _ => Keccak.shake256 m 64

/-- HMAC (FIPS 198-1) with one of those functions. -/
def hmac (f : Nat) (key m : Bytes) : Bytes :=
  let b := hashBlock f
  let k := fitLen b (if key.length > b then hashOf f key else key)
  hashOf f (k.map (· ^^^ 0x5C) ++ hashOf f (k.map (· ^^^ 0x36) ++ m))

/-- HKDF (RFC 5869): extract, then expand to `n` bytes. -/
def hkdfExpand (f : Nat) (prk info : Bytes) (n : Nat) : Bytes :=
  ((List.range (ceilDiv n (hashLen f))).foldl (fun (s : Bytes × Bytes) i =>
    let t := hmac f prk (s.2 ++ info ++ natLE 1 (i + 1))
    (s.1 ++ t, t)) ([], [])).1.take n
def hkdf (f : Nat) (salt ikm info : Bytes) (n : Nat) : Bytes := hkdfExpand f (hmac f (if salt.isEmpty then zeros (hashLen f) else salt) ikm) info n

/-- The PRFs of R287: HMAC-SHA-2, CMAC-AES, KMAC128, KMAC256. -/
def prf (p : Nat) (key m : Bytes) : Bytes :=
  if p ≤ 3 then hmac p key m else if p == 4 then (aes key).cmac m else if p == 5 then Keccak.kmac 168 key m 32 [] else Keccak.kmac 136 key m 64 []
/-- SP 800-108 (R287): counter, feedback from a zero block, double pipeline. -/
def kdf108 (mode p : Nat) (key fixed : Bytes) (n : Nat) : Bytes :=
  let tail := fixed ++ natBE 4 (8 * n)
  let h := (prf p key []).length
  ((List.range (ceilDiv n h)).foldl (fun (s : Bytes × Bytes) i =>
    let c := natBE 4 (i + 1)
    if mode == 3 then let a := prf p key s.2
                      (s.1 ++ prf p key (a ++ c ++ tail), a)
    else let k := prf p key ((if mode == 2 then s.2 else []) ++ c ++ tail)
         (s.1 ++ k, k)) ([], if mode == 3 then tail else zeros h)).1.take n

/-! ### Descriptor checks -/

/-- The tag length in force: TAG_LEN, or the full length where it is 0 (R284). KMAC's full length is the end of its range. -/
def fullTag (q : Descriptor) : Nat :=
  let lo := q.opcode % 256
  if lo == 7 || lo == 8 || lo == 9 || lo == 0x0A || lo == 0x11 || lo == 0x12 then 16
  else if lo == 0x25 || lo == 0x26 then 8
  else if lo == 0x32 || lo == 0x33 then hashLen q.func else 64
def Descriptor.tag' (q : Descriptor) : Nat := if q.tagLen == 0 then fullTag q else q.tagLen

/-- The operation takes IV_LEN and AAD_LEN; TAG_LEN; FUNC (R284). -/
def symAead (lo : Nat) : Bool := 7 ≤ lo && lo ≤ 0x0A
def symTagged (lo : Nat) : Bool := symAead lo || [0x11, 0x12, 0x25, 0x26, 0x32, 0x33, 0x34, 0x35].contains lo
def symFunc (lo : Nat) : Bool := [0x31, 0x32, 0x33, 0x34, 0x35, 0x41, 0x42].contains lo

/-- AUX bits that R284 reserves, or that the operation defines no use for: check 2 of R43. (DEDUCED, assumption log 92) -/
def symUnused (q : Descriptor) : Bool :=
  let lo := q.opcode % 256
  bits 63 48 q.aux != 0 || bits 7 2 q.aux != 0 || q.aux? 0 ||
  (!symAead lo && (q.ivLen != 0 || q.aadLen != 0)) || (!symTagged lo && q.tagLen != 0) || (!symFunc lo && q.func != 0) ||
  (q.aux? 1 && lo != 7 && lo != 0x41 && lo != 0x42)

/-- TAG_LEN out of the operation's range (R284). -/
def tagBad (q : Descriptor) : Bool :=
  let lo := q.opcode % 256
  let t := q.tagLen
  t != 0 &&
  (if lo == 7 || lo == 8 then t < 12 || t > 16
   else if lo == 9 || lo == 0x0A then t < 4 || t > 16 || t % 2 == 1
   else if lo == 0x11 || lo == 0x12 then t < 8 || t > 16
   else if lo == 0x25 || lo == 0x26 then t < 4 || t > 8
   else if lo == 0x32 || lo == 0x33 then t < 16 || t > hashLen q.func
   else if lo == 0x34 || lo == 0x35 then t < 16 || t > 64 else false)

/-- A forbidden value or combination of the fields in use: 0x0116 (R284, R287, R295). -/
def symAuxBad (q : Descriptor) : Bool :=
  let lo := q.opcode % 256
  let f := q.func
  tagBad q ||
  (if lo == 7 || lo == 8 then q.ivLen < 12 || q.ivLen > 64 else symAead lo && (q.ivLen < 7 || q.ivLen > 13)) ||
  (if lo == 0x31 || lo == 0x32 || lo == 0x33 then f < 1 || f > 8
   else if lo == 0x34 || lo == 0x35 then f != 9 && f != 10
   else if lo == 0x41 then f < 1 || f > 3
   else lo == 0x42 && (f / 16 < 1 || f / 16 > 3 || f % 16 < 1 || f % 16 > 6)) ||
  (lo == 7 && q.aux? 1 && q.ivLen != 12)

/-- S_LEN of a KMAC input (R285). -/
def kmacHead (q : Descriptor) (input : Bytes) : Nat := (if q.opcode % 256 == 0x35 then q.tag' else 0) + 2 + leAt (if q.opcode % 256 == 0x35 then q.tag' else 0) 2 input

/-- Bytes of input before and after the data (R285). -/
def symHead (q : Descriptor) : Nat :=
  let lo := q.opcode % 256
  if lo == 3 || lo == 4 then 16
  else if lo == 5 || lo == 6 then 16
  else if lo == 7 then (if q.aux? 1 then 0 else q.ivLen) + q.aadLen
  else if lo == 8 || lo == 9 || lo == 0x0A then q.ivLen + q.aadLen
  else if lo == 0x0B || lo == 0x0C then 16
  else if lo == 0x23 || lo == 0x24 then 8
  else if lo == 0x12 || lo == 0x26 || lo == 0x33 then q.tag' else 0
def symTail (q : Descriptor) : Nat := let lo := q.opcode % 256
                                      if lo == 8 || lo == 0x0A then q.tag' else 0

/-- The data length of an input. -/
def symData (q : Descriptor) (n : Nat) : Nat := n - symHead q - symTail q

/-- IN_LEN outside the limits of R285: 0x0103. -/
def symLenBad (q : Descriptor) (input : Bytes) : Bool :=
  let lo := q.opcode % 256
  let n := q.inLen
  let k := symData q n
  n > 1048576 || n < symHead q + symTail q ||
  (if lo ≤ 4 && lo ≥ 1 then k % 16 != 0
   else if lo == 9 || lo == 0x0A then k ≥ 256 ^ (15 - q.ivLen)
   else if lo == 0x0B || lo == 0x0C then k < 16
   else if lo == 0x0D then k % 8 != 0 || k < 16
   else if lo == 0x0E then k % 8 != 0 || k < 24
   else if lo == 0x0F then k == 0
   else if lo == 0x10 then k % 8 != 0 || k < 16
   else if 0x21 ≤ lo && lo ≤ 0x24 then k % 8 != 0
   else if lo == 0x31 then (q.func == 7 || q.func == 8) && (q.outCap < 1 || q.outCap > 4096)
   else if lo == 0x34 || lo == 0x35 then n < 2 + (if lo == 0x35 then q.tag' else 0) || (q.seen input && n < kmacHead q input)
   else if lo == 0x41 then n < 16 || n < 16 + leAt 10 2 input
   else if lo == 0x42 then n < 16 else false)

/-- Output bytes known at admission. (DEDUCED, assumption log 92) -/
def symOutLen (q : Descriptor) (n : Nat) : Option Nat :=
  let lo := q.opcode % 256
  let k := symData q n
  if lo ≤ 6 then some k
  else if lo == 7 then some (k + q.tag' + (if q.aux? 1 then 12 else 0))
  else if lo == 9 then some (k + q.tag')
  else if lo == 8 || lo == 0x0A || lo == 0x0B || lo == 0x0C then some k
  else if lo == 0x0D then some (k + 8)
  else if lo == 0x0E then some (k - 8)
  else if lo == 0x0F then some (ceilDiv k 8 * 8 + 8)
  else if lo == 0x10 then none
  else if 0x21 ≤ lo && lo ≤ 0x24 then some k
  else if lo == 0x11 || lo == 0x25 || lo == 0x32 || lo == 0x34 then some q.tag'
  else if lo == 0x31 then some (if q.func == 7 || q.func == 8 then q.outCap else hashLen q.func)
  else if lo == 0x41 || lo == 0x42 then some 8 else some 0

/-- A KDF's child: CLASS and KTYPE of the input (R287, R318). -/
def childClassBad (c : Nat) : Bool := c < 1 || c > 6 || c == 3 || c == 4
/-- SEQ, the input's first eight bytes, and PERSISTENT disagree (R190, R316). -/
def seqBad (q : Descriptor) (input : Bytes) : Bool := q.seen input && q.aux? 1 != (leAt 0 8 input != 0)

/-- The plan of a symmetric operation. -/
def symPlan (d : Dev) (slice : Nat) (q : Descriptor) (input : Bytes) : Plan :=
  let lo := q.opcode % 256
  let kdf := lo == 0x41 || lo == 0x42
  { auxBad := symUnused q
    lenBad := symLenBad q input
    reservedBad := kdf && leAt 12 4 input != 0
    handleBad := (!kdf && q.keyB != 0) || (lo == 0x31 && q.keyA != 0)
    checks :=
      [(symAuxBad q, 0x0116),
       (kdf && q.seen input && (childClassBad (leAt 8 1 input) || seqBad q input || (lo == 0x42 && leAt 10 2 input != 0)), 0x0116),
       (kdf && q.seen input && !keyTypeOk (leAt 9 1 input), 0x0167),
       (lo == 0x42 && q.func % 16 == 4 && (match d.peek slice q.keyA with | some x => x.alg / 256 == 0x40 && x.alg % 256 > 3 | none => false), 0x0167)]
    outLen := symOutLen q q.inLen }

/-! ### Results -/

/-- A tag check's outcome. -/
def tagResult (ok : Bool) (fail : Nat) (out : Bytes) : JobResult := if ok then JobResult.good out else JobResult.ofStatus fail

/-- The result of a symmetric operation under a key (R285 to R287). -/
def symResult (key : Bytes) (r : Request) : JobResult :=
  let q := r.desc
  let lo := q.opcode % 256
  let input := r.input
  let a := aes key
  let t := tdes key
  let b := input.drop (symHead q)
  let data := b.take (b.length - symTail q)
  let tg := b.drop (b.length - symTail q)
  let iv := if lo == 7 && q.aux? 1 then r.drawn 0 12 else input.take q.ivLen
  let aad := slice (symHead q - q.aadLen) q.aadLen input
  match lo with
  | 0x01 => JobResult.good (a.ecb true data)
  | 0x02 => JobResult.good (a.ecb false data)
  | 0x03 => JobResult.good (a.cbcE (input.take 16) data)
  | 0x04 => JobResult.good (a.cbcD (input.take 16) data)
  | 0x05 => JobResult.good (a.ctr 128 (input.take 16) data)
  | 0x06 => JobResult.good (a.ctr 128 (input.take 16) data)
  | 0x07 => let c := a.gcmData iv data
            JobResult.good ((if q.aux? 1 then iv else []) ++ c ++ (a.gcmTag iv aad c).take q.tag')
  | 0x08 => tagResult ((a.gcmTag iv aad data).take q.tag' == tg) 0x0170 (a.gcmData iv data)
  | 0x09 => JobResult.good (a.ccmData iv data ++ a.ccmTag iv aad data q.tag')
  | 0x0A => let p := a.ccmData iv data
            tagResult (a.ccmTag iv aad p q.tag' == tg) 0x0170 p
  | 0x0B => let h := key.length / 2
            JobResult.good (xts (aes (key.take h)) (aes (key.drop h)) true (input.take 16) data)
  | 0x0C => let h := key.length / 2
            JobResult.good (xts (aes (key.take h)) (aes (key.drop h)) false (input.take 16) data)
  | 0x0D => JobResult.good (a.kwWrap kwIv data)
  | 0x0E => (match a.kwOpen data with | some p => JobResult.good p | none => JobResult.ofStatus 0x0170)
  | 0x0F => JobResult.good (a.kwpWrap data)
  | 0x10 => (match a.kwpUnwrap data with | some p => JobResult.good p | none => JobResult.ofStatus 0x0170)
  | 0x11 => JobResult.good ((a.cmac data).take q.tag')
  | 0x12 => tagResult ((a.cmac data).take q.tag' == input.take q.tag') 0x0120 []
  | 0x21 => JobResult.good (t.ecb true data)
  | 0x22 => JobResult.good (t.ecb false data)
  | 0x23 => JobResult.good (t.cbcE (input.take 8) data)
  | 0x24 => JobResult.good (t.cbcD (input.take 8) data)
  | 0x25 => JobResult.good ((mac3 key data).take q.tag')
  | 0x26 => tagResult ((mac3 key data).take q.tag' == input.take q.tag') 0x0120 []
  | 0x31 => JobResult.good (if q.func == 7 then Keccak.shake128 input q.outCap else if q.func == 8 then Keccak.shake256 input q.outCap else hashOf q.func input)
  | 0x32 => JobResult.good ((hmac q.func key data).take q.tag')
  | 0x33 => tagResult ((hmac q.func key data).take q.tag' == input.take q.tag') 0x0120 []
  | 0x41 => let n := keyTypeLen (leAt 9 1 input)
            let sl := leAt 10 2 input
            JobResult.made [] (hkdf q.func (slice 16 sl input) key (input.drop (16 + sl)) n)
  | 0x42 => JobResult.made [] (kdf108 (q.func / 16) (q.func % 16) key (input.drop 16) (keyTypeLen (leAt 9 1 input)))
  | _ =>
    -- KMAC: S_LEN, S and data, after the tag of a verify
    let o := if lo == 0x35 then q.tag' else 0
    let s := slice (o + 2) (leAt o 2 input) input
    let m := input.drop (kmacHead q input)
    let mac := Keccak.kmac (if q.func == 9 then 168 else 136) key m q.tag' s
    if lo == 0x34 then JobResult.good mac else tagResult (mac == input.take q.tag') 0x0120 []

/-- Run a symmetric operation. -/
def symRun (op j : Nat) (d : Dev) : Dev := d.compute j (opIs op) (fun d q _ => symResult (d.material q.desc.keyA) q)

/-! ### The commands -/

def execAesEcbEncrypt (j : Nat) (s : State) := s.run (symRun 0x4001 j)
def execAesEcbDecrypt (j : Nat) (s : State) := s.run (symRun 0x4002 j)
def execAesCbcEncrypt (j : Nat) (s : State) := s.run (symRun 0x4003 j)
def execAesCbcDecrypt (j : Nat) (s : State) := s.run (symRun 0x4004 j)
def execAesCtrEncrypt (j : Nat) (s : State) := s.run (symRun 0x4005 j)
def execAesCtrDecrypt (j : Nat) (s : State) := s.run (symRun 0x4006 j)
def execAesGcmEncrypt (j : Nat) (s : State) := s.run (symRun 0x4007 j)
def execAesGcmDecrypt (j : Nat) (s : State) := s.run (symRun 0x4008 j)
def execAesCcmEncrypt (j : Nat) (s : State) := s.run (symRun 0x4009 j)
def execAesCcmDecrypt (j : Nat) (s : State) := s.run (symRun 0x400A j)
def execAesXtsEncrypt (j : Nat) (s : State) := s.run (symRun 0x400B j)
def execAesXtsDecrypt (j : Nat) (s : State) := s.run (symRun 0x400C j)
def execAesKwWrap (j : Nat) (s : State) := s.run (symRun 0x400D j)
def execAesKwUnwrap (j : Nat) (s : State) := s.run (symRun 0x400E j)
def execAesKwpWrap (j : Nat) (s : State) := s.run (symRun 0x400F j)
def execAesKwpUnwrap (j : Nat) (s : State) := s.run (symRun 0x4010 j)
def execAesCmacGenerate (j : Nat) (s : State) := s.run (symRun 0x4011 j)
def execAesCmacVerify (j : Nat) (s : State) := s.run (symRun 0x4012 j)
def execTdesEcbEncrypt (j : Nat) (s : State) := s.run (symRun 0x4021 j)
def execTdesEcbDecrypt (j : Nat) (s : State) := s.run (symRun 0x4022 j)
def execTdesCbcEncrypt (j : Nat) (s : State) := s.run (symRun 0x4023 j)
def execTdesCbcDecrypt (j : Nat) (s : State) := s.run (symRun 0x4024 j)
def execMacAlgorithm3Generate (j : Nat) (s : State) := s.run (symRun 0x4025 j)
def execMacAlgorithm3Verify (j : Nat) (s : State) := s.run (symRun 0x4026 j)
def execHash (j : Nat) (s : State) := s.run (symRun 0x4031 j)
def execHmacGenerate (j : Nat) (s : State) := s.run (symRun 0x4032 j)
def execHmacVerify (j : Nat) (s : State) := s.run (symRun 0x4033 j)
def execKmacGenerate (j : Nat) (s : State) := s.run (symRun 0x4034 j)
def execKmacVerify (j : Nat) (s : State) := s.run (symRun 0x4035 j)
def execHkdf (j : Nat) (s : State) := s.run (symRun 0x4041 j)
def execSp800108Kdf (j : Nat) (s : State) := s.run (symRun 0x4042 j)

end Sys2Proof.Machine
end

