-- ==== Sys2Proof/Machine/EcBig.lean ====
section
/-! DEFINITION. The arithmetic of the big-number engines (R249, R253, R254): residues, RSA, short Weierstrass curves, the two
Montgomery curves of RFC 7748 and the two Edwards curves of RFC 8032. Blinding (R268) changes no result. -/

namespace Sys2Proof.Machine

/-! ### Residues -/

/-- Bits of a number. -/
def bitLen (n : Nat) : Nat := if n == 0 then 0 else Nat.log2 n + 1
/-- b^e mod m. -/
def expMod (b e m : Nat) : Nat := powMod m (b % m) (bitLen e) e
/-- One division step of the extended Euclid on (r, s) pairs, `k` times at most. -/
def egcd : Nat → (Int × Int) → (Int × Int) → Int × Int
  | 0, x, _ => x
  | k + 1, x, y => if y.1 == 0 then x else let q := x.1 / y.1
                                           egcd k y (x.1 - q * y.1, x.2 - q * y.2)
/-- a⁻¹ mod m, for a prime to m. -/
def invMod (a m : Nat) : Nat := (((egcd (2 * bitLen m + 2) ((a % m : Nat), 1) ((m : Nat), 0)).2) % (m : Int)).toNat
/-- The Jacobi symbol (a/n) for odd n: 0, 1 or −1. -/
def jacobi : Nat → Nat → Nat → Int
  | 0, _, _ => 0
  | k + 1, a, n =>
    let a := a % n
    if a == 0 then (if n == 1 then 1 else 0)
    else if a % 2 == 0 then (if n % 8 == 3 || n % 8 == 5 then -1 else 1) * jacobi k (a / 2) n
    else (if a % 4 == 3 && n % 4 == 3 then -1 else 1) * jacobi k n a
def legendre (a p : Nat) : Int := jacobi (4 * bitLen p + 8) a p

/-- n = d·2^s with d odd. -/
def oddPart : Nat → Nat → Nat × Nat
  | 0, n => (n, 0)
  | k + 1, n => if n % 2 == 1 || n == 0 then (n, 0) else let r := oddPart k (n / 2)
                                                         (r.1, r.2 + 1)

/-- The Tonelli–Shanks loop: (r, t, c, m) with r² = a·t. -/
def tonelli (p : Nat) : Nat → Nat → Nat → Nat → Nat → Nat
  | 0, r, _, _, _ => r
  | k + 1, r, t, c, m =>
    if t == 1 || t == 0 then r
    else
      let i := ((List.range m).find? (fun i => expMod t (2 ^ i) p == 1)).getD m
      let b := expMod c (2 ^ (m - i - 1)) p
      tonelli p k (r * b % p) (t * (b * b % p) % p) (b * b % p) i
/-- A square root of a mod the odd prime p, where there is one. -/
def sqrtMod (a p : Nat) : Option Nat :=
  let a := a % p
  let r :=
    if p % 4 == 3 then expMod a ((p + 1) / 4) p
    else
      let (d, s) := oddPart (bitLen p) (p - 1)
      let z := ((List.range 400).find? (fun z => z ≥ 2 && legendre z p == -1)).getD 2
      tonelli p s (expMod a ((d + 1) / 2) p) (expMod a d p) (expMod z d p) s
  if r * r % p == a then some r else none

/-! ### Baillie–PSW (R265) -/

/-- A strong probable prime to base 2. -/
def strongTwo (n : Nat) : Bool :=
  let (d, s) := oddPart (bitLen n) (n - 1)
  let x := expMod 2 d n
  x == 1 || (List.range s).any (fun i => expMod x (2 ^ i) n == n - 1)
/-- Selfridge's D: the first of 5, −7, 9, −11, … with (D/n) = −1. -/
def selfridge (n : Nat) : Nat → Nat → Option (Bool × Nat)
  | 0, _ => none
  | k + 1, d =>
    let neg := d % 4 == 3
    let j := legendre (if neg then n - d % n else d) n
    if j == -1 then some (neg, d) else if j == 0 && d % n != 0 then none else selfridge n k (d + 2)
/-- Halve mod the odd n. -/
def halfMod (x n : Nat) : Nat := (if x % 2 == 0 then x else x + n) / 2 % n
/-- (U, V, Q^k) of the Lucas sequence with P = 1 at k, by the bits of k from the top. -/
def lucas (n dd q : Nat) (k : Nat) : Nat × Nat :=
  let r := ((List.range (bitLen k - 1)).foldr (fun i (s : Nat × Nat × Nat) =>
    let (u, v, qk) := s
    let u2 := u * v % n
    let v2 := (v * v + 2 * (n - qk)) % n
    let q2 := qk * qk % n
    if k.testBit i then (halfMod (u2 + v2) n, halfMod (dd * u2 + v2) n, q2 * q % n) else (u2, v2, q2)) (1 % n, 1 % n, q % n))
  (r.1, r.2.1)
/-- A Lucas probable prime by Selfridge's method A. -/
def lucasPrime (n : Nat) : Bool :=
  match selfridge n 200 5 with
  | none => false
  | some (neg, d) =>
    let dd := if neg then n - d % n else d % n
    -- Q = (1 − D) / 4
    let q := if neg then (1 + d) / 4 % n else n - ((d - 1) / 4) % n
    (lucas n dd q (n + 1)).1 == 0
/-- n is a square. -/
def isSquare : Nat → Nat → Nat → Nat → Bool
  | 0, lo, _, n => lo * lo == n
  | k + 1, lo, hi, n => let m := (lo + hi + 1) / 2
                        if m * m ≤ n then isSquare k m hi n else isSquare k lo (m - 1) n
def bpsw (n : Nat) : Bool :=
  if n < 2 then false else if n == 2 then true else if n % 2 == 0 then false
  else if n < 100 then (List.range n).all (fun k => k < 2 || n % k != 0)
  else [3, 5, 7, 11, 13, 17, 19, 23, 29, 31, 37, 41, 43, 47].all (fun p => n % p != 0 || n == p) &&
    strongTwo n && !isSquare (bitLen n) 0 (2 ^ ceilDiv (bitLen n) 2) n && lucasPrime n

/-! ### Short Weierstrass curves -/

/-- y² = x³ + ax + b over p, with its base point, order and cofactor. -/
structure Curve where
  p : Nat
  a : Nat
  b : Nat
  gx : Nat
  gy : Nat
  n : Nat
  h : Nat

def Curve.fieldBits (c : Curve) : Nat := bitLen c.p
def Curve.fieldBytes (c : Curve) : Nat := ceilDiv c.fieldBits 8
def Curve.orderBytes (c : Curve) : Nat := ceilDiv (bitLen c.n) 8

/-- A point: affine, or the identity. -/
abbrev Point := Option (Nat × Nat)

def Curve.onCurve (c : Curve) (x y : Nat) : Bool := y * y % c.p == (x * x % c.p * x + c.a * x + c.b) % c.p
def Curve.add (c : Curve) (P Q : Point) : Point :=
  match P, Q with
  | none, q => q
  | p, none => p
  | some (x1, y1), some (x2, y2) =>
    if x1 == x2 && (y1 + y2) % c.p == 0 then none
    else
      let l := if x1 == x2 then (3 * x1 * x1 + c.a) % c.p * invMod (2 * y1) c.p % c.p
               else subMod c.p y2 y1 * invMod (subMod c.p x2 x1) c.p % c.p
      let x3 := subMod c.p (l * l) (x1 + x2)
      some (x3, subMod c.p (l * subMod c.p x1 x3) y1)
/-- k·P. -/
def Curve.mul (c : Curve) (k : Nat) (P : Point) : Point :=
  (List.range (bitLen k)).foldr (fun i acc => let d := c.add acc acc
                                              if k.testBit i then c.add d P else d) none
def Curve.base (c : Curve) : Point := some (c.gx, c.gy)

def curveP256 : Curve :=
  { p := 0xffffffff00000001000000000000000000000000ffffffffffffffffffffffff
    a := 0xffffffff00000001000000000000000000000000fffffffffffffffffffffffc
    b := 0x5ac635d8aa3a93e7b3ebbd55769886bc651d06b0cc53b0f63bce3c3e27d2604b
    gx := 0x6b17d1f2e12c4247f8bce6e563a440f277037d812deb33a0f4a13945d898c296
    gy := 0x4fe342e2fe1a7f9b8ee7eb4a7c0f9e162bce33576b315ececbb6406837bf51f5
    n := 0xffffffff00000000ffffffffffffffffbce6faada7179e84f3b9cac2fc632551, h := 1 }
def curveP384 : Curve :=
  { p := 0xfffffffffffffffffffffffffffffffffffffffffffffffffffffffffffffffeffffffff0000000000000000ffffffff
    a := 0xfffffffffffffffffffffffffffffffffffffffffffffffffffffffffffffffeffffffff0000000000000000fffffffc
    b := 0xb3312fa7e23ee7e4988e056be3f82d19181d9c6efe8141120314088f5013875ac656398d8a2ed19d2a85c8edd3ec2aef
    gx := 0xaa87ca22be8b05378eb1c71ef320ad746e1d3b628ba79b9859f741e082542a385502f25dbf55296c3a545e3872760ab7
    gy := 0x3617de4a96262c6f5d9e98bf9292dc29f8f41dbd289a147ce9da3113b5f0b8c00a60b1ce1d7e819d7a431d7c90ea0e5f
    n := 0xffffffffffffffffffffffffffffffffffffffffffffffffc7634d81f4372ddf581a0db248b0a77aecec196accc52973, h := 1 }
def curveP521 : Curve :=
  { p := 2 ^ 521 - 1, a := 2 ^ 521 - 4
    b := 0x0051953eb9618e1c9a1f929a21a0b68540eea2da725b99b315f3b8b489918ef109e156193951ec7e937b1652c0bd3bb1bf073573df883d2c34f1ef451fd46b503f00
    gx := 0x00c6858e06b70404e9cd9e3ecb662395b4429c648139053fb521f828af606b4d3dbaa14b5e77efe75928fe1dc127a2ffa8de3348b3c1856a429bf97e7e31c2e5bd66
    gy := 0x011839296a789a3bc0045c8a5fb42c7d1bd998f54449579b446817afbd17273e662c97ee72995ef42640c550b9013fad0761353c7086a272c24088be94769fd16650
    n := 2 ^ 521 - 2 ^ 264 + 0xfa51868783bf2f966b7fcc0148f709a5d03bb5c9b8899c47aebb6fb71e91386409
    h := 1 }
def brainpool256 : Curve :=
  { p := 0xa9fb57dba1eea9bc3e660a909d838d726e3bf623d52620282013481d1f6e5377
    a := 0x7d5a0975fc2c3057eef67530417affe7fb8055c126dc5c6ce94a4b44f330b5d9
    b := 0x26dc5c6ce94a4b44f330b5d9bbd77cbf958416295cf7e1ce6bccdc18ff8c07b6
    gx := 0x8bd2aeb9cb7e57cb2c4b482ffc81b7afb9de27e1e3bd23c23a4453bd9ace3262
    gy := 0x547ef835c3dac4fd97f8461a14611dc9c27745132ded8e545c1d54c72f046997
    n := 0xa9fb57dba1eea9bc3e660a909d838d718c397aa3b561a6f7901e0e82974856a7, h := 1 }
def brainpool384 : Curve :=
  { p := 0x8cb91e82a3386d280f5d6f7e50e641df152f7109ed5456b412b1da197fb71123acd3a729901d1a71874700133107ec53
    a := 0x7bc382c63d8c150c3c72080ace05afa0c2bea28e4fb22787139165efba91f90f8aa5814a503ad4eb04a8c7dd22ce2826
    b := 0x04a8c7dd22ce28268b39b55416f0447c2fb77de107dcd2a62e880ea53eeb62d57cb4390295dbc9943ab78696fa504c11
    gx := 0x1d1c64f068cf45ffa2a63a81b7c13f6b8847a3e77ef14fe3db7fcafe0cbd10e8e826e03436d646aaef87b2e247d4af1e
    gy := 0x8abe1d7520f9c2a45cb1eb8e95cfd55262b70b29feec5864e19c054ff99129280e4646217791811142820341263c5315
    n := 0x8cb91e82a3386d280f5d6f7e50e641df152f7109ed5456b31f166e6cac0425a7cf3ab6af6b7fc3103b883202e9046565, h := 1 }
def brainpool512 : Curve :=
  { p := 0xaadd9db8dbe9c48b3fd4e6ae33c9fc07cb308db3b3c9d20ed6639cca703308717d4d9b009bc66842aecda12ae6a380e62881ff2f2d82c68528aa6056583a48f3
    a := 0x7830a3318b603b89e2327145ac234cc594cbdd8d3df91610a83441caea9863bc2ded5d5aa8253aa10a2ef1c98b9ac8b57f1117a72bf2c7b9e7c1ac4d77fc94ca
    b := 0x3df91610a83441caea9863bc2ded5d5aa8253aa10a2ef1c98b9ac8b57f1117a72bf2c7b9e7c1ac4d77fc94cadc083e67984050b75ebae5dd2809bd638016f723
    gx := 0x81aee4bdd82ed9645a21322e9c4c6a9385ed9f70b5d916c1b43b62eef4d0098eff3b1f78e2d0d48d50d1687b93b97d5f7c6d5047406a5e688b352209bcb9f822
    gy := 0x7dde385d566332ecc0eabfa9cf7822fdf209f70024a57b1aa000c55b881f8111b2dcde494a5f485e5bca4bd88a2763aed1ca2b2fa8f0540678cd1e0f3ad80892
    n := 0xaadd9db8dbe9c48b3fd4e6ae33c9fc07cb308db3b3c9d20ed6639cca70330870553e5c414ca92619418661197fac10471db1d381085ddaddb58796829ca90069, h := 1 }
def secp256k1 : Curve :=
  { p := 2 ^ 256 - 2 ^ 32 - 977, a := 0, b := 7
    gx := 0x79be667ef9dcbbac55a06295ce870b07029bfcdb2dce28d959f2815b16f81798
    gy := 0x483ada7726a3c4655da4fbfc0e1108a8fd17b448a68554199c47d08ffb10d4b8
    n := 0xfffffffffffffffffffffffffffffffebaaedce6af48a03bbfd25e8cd0364141, h := 1 }

/-- The built-in Weierstrass curves by CURVE (R253). -/
def builtinCurve (n : Nat) : Option Curve :=
  match n with
  | 1 => some curveP256 | 2 => some curveP384 | 3 => some curveP521 | 4 => some brainpool256 | 5 => some brainpool384 | 6 => some brainpool512
  | 7 => some secp256k1 | _ => none

/-- A loaded curve from the L field of its LOAD_CURVE input on (R264). -/
def curveOfParams (b : Bytes) : Curve :=
  let l := leAt 0 2 b
  let f := fun i => beNat (slice (8 + i * l) l b)
  { p := f 0, a := f 1, b := f 2, gx := f 3, gy := f 4, n := f 5, h := leAt 4 4 b }

/-- The SEC 1 uncompressed encoding. -/
def Curve.encode (c : Curve) : Point → Bytes
  | none => [0]
  | some (x, y) => 4 :: (natBE c.fieldBytes x ++ natBE c.fieldBytes y)

/-- The length of a point that leads an input, from its first byte (R263). (DEDUCED, assumption log 96) -/
def Curve.pointLen (c : Curve) (first : Nat) : Nat :=
  if first == 0 then 1 else if first == 2 || first == 3 then 1 + c.fieldBytes else 1 + 2 * c.fieldBytes

/-- A status or a value. -/
inductive Checked (α : Type) where
  | refused (status : Nat)
  | value (a : α)

/-- The window of R262 on one point: encoding, range, identity, on-curve, and the subgroup of a curve with h > 1. (DEDUCED, assumption log 96) -/
def Curve.decode (c : Curve) (b : Bytes) : Checked (Nat × Nat) :=
  let first := (b.headD 0).toNat
  let x := beNat (slice 1 c.fieldBytes b)
  let y := beNat (slice (1 + c.fieldBytes) c.fieldBytes b)
  if first == 0 then .refused 0x0143
  else if (first != 2 && first != 3 && first != 4) || b.length != c.pointLen first then .refused 0x0142
  else if x ≥ c.p || (first == 4 && y ≥ c.p) then .refused 0x0141
  else
    let y' := if first == 4 then (if c.onCurve x y then some y else none)
              else (sqrtMod (x * x % c.p * x + c.a * x + c.b) c.p).map (fun r => if r % 2 == first % 2 then r else (c.p - r) % c.p)
    match y' with
    | none => .refused 0x0142
    | some y => if c.h > 1 && (c.mul c.n (some (x, y))).isSome then .refused 0x0144 else .value (x, y)

/-! ### ECDSA (FIPS 186-5, RFC 6979) -/

/-- The leftmost bits of a string, to `k` bits. -/
def leftBits (k : Nat) (b : Bytes) : Nat := beNat b / 2 ^ (8 * b.length - k)

/-- RFC 6979: update K and V. -/
def drbgUpdate (f : Nat) (k v seed : Bytes) : Bytes × Bytes :=
  let k := hmac f k (v ++ [0] ++ seed)
  let v := hmac f k v
  if seed.isEmpty then (k, v) else
  let k := hmac f k (v ++ [1] ++ seed)
  (k, hmac f k v)
/-- `n` bytes of the generator. -/
def drbgFill (f : Nat) (k : Bytes) : Nat → Bytes → Bytes → Bytes × Bytes
  | 0, v, t => (t, v)
  | i + 1, v, t => let v := hmac f k v
                   drbgFill f k i v (t ++ v)
/-- One signature from a nonce, none where r or s is 0. -/
def Curve.signWith (c : Curve) (d z k : Nat) : Option (Nat × Nat) :=
  if k == 0 || k ≥ c.n then none
  else match c.mul k c.base with
    | none => none
    | some (x, _) =>
      let r := x % c.n
      let s := invMod k c.n * ((z + r * d) % c.n) % c.n
      if r == 0 || s == 0 then none else some (r, s)
/-- The generator goes on until a nonce signs (R260): the nonce, r and s. (DEDUCED, assumption log 97) -/
def Curve.signLoop (c : Curve) (f d z : Nat) : Nat → Bytes → Bytes → Option (Nat × Nat × Nat)
  | 0, _, _ => none
  | i + 1, k, v =>
    let (t, v) := drbgFill f k (ceilDiv c.orderBytes (hashLen f)) v []
    let nonce := leftBits (bitLen c.n) (t.take c.orderBytes)
    match c.signWith d z nonce with
    | some x => some (nonce, x)
    | none => let k := hmac f k (v ++ [0])
              c.signLoop f d z i k (hmac f k v)
/-- The nonce of RFC 6979 with its additional data (R260), and the r and s that it gives. -/
def Curve.ecdsaNonce (c : Curve) (hash d : Nat) (digest extra : Bytes) : Option (Nat × Nat × Nat) :=
  let f := if hash ≤ 3 then hash else 3
  let qb := bitLen c.n
  let z := if 8 * digest.length > qb then leftBits qb digest else beNat digest
  let n := hashLen f
  let seed := natBE c.orderBytes d ++ natBE c.orderBytes (z % c.n) ++ extra
  let kv := drbgUpdate f (zeros n) (List.replicate n 1) seed
  c.signLoop f d z 256 kv.1 kv.2
/-- ECDSA over a digest (R257): r ‖ s. -/
def Curve.ecdsaSign (c : Curve) (hash d : Nat) (digest extra : Bytes) : Bytes :=
  match c.ecdsaNonce hash d digest extra with
  | some (_, r, s) => natBE c.orderBytes r ++ natBE c.orderBytes s
  | none => fitLen (2 * c.orderBytes) (Config.scheme 0x31 0 2 [natBE c.orderBytes d, digest, extra])
/-- ECDSA verification (R261: r or s out of range is a false signature). -/
def Curve.ecdsaVerify (c : Curve) (Q : Nat × Nat) (digest sig : Bytes) : Bool :=
  let qb := bitLen c.n
  let z := if 8 * digest.length > qb then leftBits qb digest else beNat digest
  let r := beNat (sig.take c.orderBytes)
  let s := beNat (sig.drop c.orderBytes)
  if r == 0 || s == 0 || r ≥ c.n || s ≥ c.n || sig.length != 2 * c.orderBytes then false
  else
    let w := invMod s c.n
    match c.add (c.mul (z * w % c.n) c.base) (c.mul (r * w % c.n) (some Q)) with
    | none => false
    | some (x, _) => x % c.n == r

/-! ### X25519 and X448 (RFC 7748) -/

/-- Bytes, prime and a24 of CURVE 0x10 or 0x11. -/
def xdhBytes (cv : Nat) : Nat := if cv == 0x10 then 32 else 56
def xdhPrime (cv : Nat) : Nat := if cv == 0x10 then 2 ^ 255 - 19 else 2 ^ 448 - 2 ^ 224 - 1
def xdhScalar (cv : Nat) (k : Bytes) : Nat :=
  let n := leNat k
  if cv == 0x10 then n % 2 ^ 254 / 8 * 8 + 2 ^ 254 else n % 2 ^ 447 / 4 * 4 + 2 ^ 447
/-- The u-coordinate, the top bit of an X25519 u cleared (R261). -/
def xdhU (cv : Nat) (u : Bytes) : Nat := if cv == 0x10 then leNat u % 2 ^ 255 else leNat u

/-- One ladder step on (x2, z2, x3, z3). -/
def ladderStep (p a24 u : Nat) (s : Nat × Nat × Nat × Nat) : Nat × Nat × Nat × Nat :=
  let (x2, z2, x3, z3) := s
  let a := (x2 + z2) % p
  let aa := a * a % p
  let b := subMod p x2 z2
  let bb := b * b % p
  let e := subMod p aa bb
  let da := subMod p x3 z3 * a % p
  let cb := (x3 + z3) % p * b % p
  let t := subMod p da cb
  (aa * bb % p, e * (aa + a24 * e) % p, (da + cb) * (da + cb) % p, u * (t * t % p) % p)
def swapIf (b : Bool) (s : Nat × Nat × Nat × Nat) : Nat × Nat × Nat × Nat := if b then (s.2.2.1, s.2.2.2, s.1, s.2.1) else s
/-- The Montgomery ladder: scalar and u to the u of the product. -/
def xdhMul (cv k u : Nat) : Nat :=
  let p := xdhPrime cv
  let (nb, a24) := if cv == 0x10 then (255, 121665) else (448, 39081)
  let r := (List.range nb).foldr (fun i s => swapIf (k.testBit i) (ladderStep p a24 u (swapIf (k.testBit i) s))) (1, 0, u % p, 1)
  r.1 * expMod r.2.1 (p - 2) p % p
/-- The public u of a secret key. -/
def xdhPublic (cv : Nat) (k : Bytes) : Bytes := natLE (xdhBytes cv) (xdhMul cv (xdhScalar cv k) (if cv == 0x10 then 9 else 5))
/-- The window on a peer u (R261). -/
def xdhCheck (cv : Nat) (u : Bytes) : Nat := if xdhU cv u ≥ xdhPrime cv then 0x0141 else 0

/-! ### Ed25519 and Ed448 (RFC 8032) -/

/-- Twisted Edwards curve: a·x² + y² = 1 + d·x²·y², with encoding bytes, base point and order. -/
structure Edwards where
  p : Nat
  a : Nat
  d : Nat
  bytes : Nat
  baseX : Nat
  baseY : Nat
  l : Nat
  cof : Nat

def edwards25519 : Edwards :=
  { p := 2 ^ 255 - 19, a := 2 ^ 255 - 20
    d := 37095705934669439343138083508754565189542113879843219016388785533085940283555, bytes := 32
    baseX := 15112221349535400772501151409588531511454012693041857206046113283949847762202
    baseY := 46316835694926478169428394003475163141307993866256225615783033603165251855960
    l := 2 ^ 252 + 27742317777372353535851937790883648493, cof := 8 }
def edwards448 : Edwards :=
  { p := 2 ^ 448 - 2 ^ 224 - 1, a := 1, d := 2 ^ 448 - 2 ^ 224 - 1 - 39081, bytes := 57
    baseX := 224580040295924300187604334099896036246789641632564134246125461686950415467406032909029192869357953282578032075146446173674602635247710
    baseY := 298819210078481492676017930443930673437544040154080242095928241372331506189835876003536878655418784733982303233503462500531545062832660
    l := 2 ^ 446 - 13818066809895115352007386748515426880336692474882178609894547503885, cof := 4 }
/-- The curve of CURVE 0x12 or 0x13. -/
def edwardsOf (cv : Nat) : Edwards := if cv == 0x12 then edwards25519 else edwards448

def Edwards.add (c : Edwards) (P Q : Nat × Nat) : Nat × Nat :=
  let (x1, y1) := P
  let (x2, y2) := Q
  let t := c.d * (x1 * x2 % c.p) % c.p * (y1 * y2 % c.p) % c.p
  ((x1 * y2 + x2 * y1) % c.p * invMod (1 + t) c.p % c.p,
   subMod c.p (y1 * y2) (c.a * (x1 * x2 % c.p)) * invMod (subMod c.p 1 t) c.p % c.p)
def Edwards.mul (c : Edwards) (k : Nat) (P : Nat × Nat) : Nat × Nat :=
  (List.range (bitLen k)).foldr (fun i acc => let d := c.add acc acc
                                              if k.testBit i then c.add d P else d) (0, 1)
def Edwards.encode (c : Edwards) (P : Nat × Nat) : Bytes := natLE c.bytes (P.2 + P.1 % 2 * 2 ^ (8 * c.bytes - 1))
/-- Decode: the range step, then the recovery of x (R262). The identity decodes here. -/
def Edwards.decode (c : Edwards) (b : Bytes) : Checked (Nat × Nat) :=
  let v := leNat b
  let sign := v / 2 ^ (8 * c.bytes - 1)
  let y := v % 2 ^ (8 * c.bytes - 1)
  if y ≥ c.p then .refused 0x0141
  else
    let num := subMod c.p (y * y) 1
    let den := subMod c.p (c.d * (y * y % c.p)) c.a
    match sqrtMod (num * invMod den c.p) c.p with
    | none => .refused 0x0142
    | some x => if x == 0 && sign == 1 then .refused 0x0142
                else .value (if x % 2 == sign then x else c.p - x, y)
/-- The window on a public key A (R261, R262): range, identity, recovery of x, small order. -/
def Edwards.check (c : Edwards) (b : Bytes) : Checked (Nat × Nat) :=
  match c.decode b with
  | .refused s => .refused s
  | .value P => if P == (0, 1) then .refused 0x0143 else if c.mul c.cof P == (0, 1) then .refused 0x0144 else .value P

/-- The hash of EdDSA with its domain prefix: variant 0 pure, 1 Ed25519ctx, 2 prehash (RFC 8032). -/
def edHash (cv var : Nat) (ctx m : Bytes) : Bytes :=
  let pre := natLE 1 (if var == 2 then 1 else 0) ++ natLE 1 ctx.length ++ ctx
  if cv == 0x12 then Sha2.sha512 ((if var == 0 then [] else ascii "SigEd25519 no Ed25519 collisions" ++ pre) ++ m)
  else Keccak.shake256 (ascii "SigEd448" ++ pre ++ m) 114
/-- The message as signed: its prehash in the prehash variants. -/
def edMessage (cv var : Nat) (m : Bytes) : Bytes := if var != 2 then m else if cv == 0x12 then Sha2.sha512 m else Keccak.shake256 m 64
/-- The scalar and prefix of a secret seed. -/
def edExpand (cv : Nat) (seed : Bytes) : Nat × Bytes :=
  if cv == 0x12 then let h := Sha2.sha512 seed
                     (leNat (h.take 32) % 2 ^ 254 / 8 * 8 + 2 ^ 254, h.drop 32)
  else let h := Keccak.shake256 seed 114
       (leNat (h.take 56) % 2 ^ 447 / 4 * 4 + 2 ^ 447, h.drop 57)
/-- The public key of a secret seed. -/
def edPublic (cv : Nat) (seed : Bytes) : Bytes := let c := edwardsOf cv
                                                  c.encode (c.mul ((edExpand cv seed).1 % c.l) (c.baseX, c.baseY))
/-- The nonce of a signature. -/
def edNonce (cv var : Nat) (seed ctx m : Bytes) : Nat := leNat (edHash cv var ctx ((edExpand cv seed).2 ++ edMessage cv var m)) % (edwardsOf cv).l
def edSign (cv var : Nat) (seed ctx m : Bytes) : Bytes :=
  let c := edwardsOf cv
  let s := (edExpand cv seed).1
  let A := edPublic cv seed
  let M := edMessage cv var m
  let r := edNonce cv var seed ctx m
  let R := c.encode (c.mul r (c.baseX, c.baseY))
  let k := leNat (edHash cv var ctx (R ++ A ++ M)) % c.l
  R ++ natLE c.bytes ((r + k * s) % c.l)
/-- Verification by [S]B = R + [k]A (R258). -/
def edVerify (cv var : Nat) (A : Nat × Nat) (abytes ctx m sig : Bytes) : Bool :=
  let c := edwardsOf cv
  let s := leNat (sig.drop c.bytes)
  match c.decode (sig.take c.bytes) with
  | .refused _ => false
  | .value R =>
    if s ≥ c.l || sig.length != 2 * c.bytes then false
    else
      let k := leNat (edHash cv var ctx (sig.take c.bytes ++ abytes ++ edMessage cv var m)) % c.l
      c.mul s (c.baseX, c.baseY) == c.add R (c.mul k A)

/-! ### RSA (RFC 8017) -/

/-- DER length and INTEGER. -/
def derLen (n : Nat) : Bytes := if n < 128 then natLE 1 n else let k := ceilDiv (bitLen n) 8
                                                               natLE 1 (128 + k) ++ natBE k n
def derInt (v : Nat) : Bytes := let b := natBE (bitLen v / 8 + 1) v
                                2 :: (derLen b.length ++ b)
/-- RSAPublicKey. -/
def rsaDer (n e : Nat) : Bytes := let b := derInt n ++ derInt e
                                  0x30 :: (derLen b.length ++ b)

/-- One DER element with a tag: its content and the rest. -/
def derTake (tag : Nat) (b : Bytes) : Option (Bytes × Bytes) :=
  match b with
  | t :: l :: r =>
    let (n, h) := if l.toNat < 128 then (l.toNat, 0) else (beNat (r.take (l.toNat - 128)), l.toNat - 128)
    if t.toNat != tag || h > 4 || derLen n != (l :: r.take h) || (r.drop h).length < n then none
    else some (slice h n r, r.drop (h + n))
  | _ => none
/-- Modulus and exponent of a DER RSAPublicKey that leads a string, with its length; none where the DER is malformed. -/
def rsaParse (b : Bytes) : Option (Nat × Nat × Nat) :=
  match derTake 0x30 b with
  | none => none
  | some (body, rest) =>
    match derTake 2 body with
    | none => none
    | some (n, r) =>
      match derTake 2 r with
      | none => none
      | some (e, t) =>
        if !t.isEmpty || derInt (beNat n) != 2 :: (derLen n.length ++ n) || derInt (beNat e) != 2 :: (derLen e.length ++ e) then none
        else some (beNat n, beNat e, b.length - rest.length)
/-- R263: the key is valid for public operations. -/
def rsaKeyOk (n e : Nat) : Bool := n % 2 == 1 && 1024 ≤ bitLen n && bitLen n ≤ 8192 && e % 2 == 1 && 3 ≤ e && e < n

/-- The CRT values of a secret key's material after n and e (R254), by the modulus and the bytes of e: p, q, dp, dq and qInv, from 0. -/
def rsaCrt (n eb : Nat) (m : Bytes) (i : Nat) : Nat :=
  let h := ceilDiv (bitLen n) 16
  beNat (slice (ceilDiv (bitLen n) 8 + eb + i * h) h m)
/-- The secret operation by the two primes, recombined by Garner's formula (R268). -/
def rsaPrivate (n eb : Nat) (m : Bytes) (x : Nat) : Nat :=
  let f := rsaCrt n eb m
  let p := f 0
  let q := f 1
  let m1 := expMod x (f 2) p
  let m2 := expMod x (f 3) q
  m2 + subMod p m1 m2 * f 4 % p * q

/-- MGF1. -/
def mgf1 (f n : Nat) (seed : Bytes) : Bytes := ((List.range (ceilDiv n (hashLen f))).flatMap (fun i => hashOf f (seed ++ natBE 4 i))).take n
/-- EMSA-PSS over a digest: `bits` is the modulus length less 1. -/
def pssEncode (f bits_ : Nat) (digest salt : Bytes) : Bytes :=
  let em := ceilDiv bits_ 8
  let h := hashOf f (zeros 8 ++ digest ++ salt)
  let db := zeros (em - salt.length - digest.length - 2) ++ [1] ++ salt
  let masked := xorBytes db (mgf1 f db.length h)
  natBE db.length (beNat masked % 2 ^ (8 * db.length - (8 * em - bits_))) ++ h ++ [0xBC]
def pssVerify (f bits_ saltLen : Nat) (digest em : Bytes) : Bool :=
  let n := ceilDiv bits_ 8
  let hl := hashLen f
  if n < hl + saltLen + 2 || em.length != n then false
  else
    let mdb := em.take (n - hl - 1)
    let h := slice (n - hl - 1) hl em
    let db := natBE mdb.length (beNat (xorBytes mdb (mgf1 f mdb.length h)) % 2 ^ (8 * mdb.length - (8 * n - bits_)))
    em.getLastD 0 == 0xBC && beNat mdb < 2 ^ (8 * mdb.length - (8 * n - bits_)) &&
    db.take (n - hl - saltLen - 1) == zeros (n - hl - saltLen - 2) ++ [1] &&
    hashOf f (zeros 8 ++ digest ++ db.drop (n - hl - saltLen - 1)) == h
/-- EMSA-PKCS1-v1_5 over a digest, HASH 1 to 6 (R199 gives the OID bytes). -/
def pkcs1Encode (f k : Nat) (digest : Bytes) : Bytes :=
  let oid := [0, 1, 2, 3, 8, 9, 10].getD f 0
  let head := [0x30] ++ natLE 1 (17 + digest.length) ++ [0x30, 0x0D, 0x06, 0x09, 0x60, 0x86, 0x48, 0x01, 0x65, 0x03, 0x04, 0x02] ++ natLE 1 oid ++ [5, 0, 4] ++ natLE 1 digest.length
  [0, 1] ++ List.replicate (k - 3 - head.length - digest.length) 0xFF ++ [0] ++ head ++ digest
/-- RSAES-OAEP encoding and decoding. -/
def oaepEncode (f k : Nat) (label m seed : Bytes) : Bytes :=
  let hl := hashLen f
  let db := hashOf f label ++ zeros (k - m.length - 2 * hl - 2) ++ [1] ++ m
  let mdb := xorBytes db (mgf1 f db.length seed)
  [0] ++ xorBytes seed (mgf1 f hl mdb) ++ mdb
def oaepDecode (f : Nat) (label em : Bytes) : Option Bytes :=
  let hl := hashLen f
  let mdb := em.drop (hl + 1)
  let seed := xorBytes (slice 1 hl em) (mgf1 f hl mdb)
  let db := xorBytes mdb (mgf1 f mdb.length seed)
  let rest := (db.drop hl).dropWhile (· == 0)
  if em.headD 1 != 0 || db.take hl != hashOf f label || rest.headD 0 != 1 then none else some (rest.drop 1)

end Sys2Proof.Machine
end

