-- ==== Sys2Proof/Machine/Hammer.lean ====
section
/-! DEFINITION. The operations of the big-number engines: RSA, ECDSA, EdDSA, ECDH and XDH, and loading a curve (R252 to R278).
UNLOAD_CURVE runs on the key vault. -/

namespace Sys2Proof.Machine

/-! ### Curves of a request -/

/-- A curve of R253, by its kind. -/
inductive CurveKind where
  | none
  | ws (c : Curve)
  | xdh (cv : Nat)
  | ed (cv : Nat)

/-- The curve that a CURVE value names; 0xFF takes a handle (R253). (DESIGN CHOICE, assumption log 28) -/
def Dev.curveAt (d : Dev) (slice cv h : Nat) : CurveKind :=
  if cv == 0x10 || cv == 0x11 then .xdh cv else if cv == 0x12 || cv == 0x13 then .ed cv
  else if cv == 0xFF then (match d.peek slice h with | some x => if x.cls == 0 then .ws (curveOfParams x.params) else .none | none => .none)
  else match builtinCurve cv with | some c => .ws c | none => .none

/-- The curve of a key object; a loaded curve is the key's source (R255, R302). -/
def Dev.curveOfKey (d : Dev) (slice h : Nat) : CurveKind :=
  match d.peek slice h with
  | none => .none
  | some x =>
    if x.alg / 256 < 0x31 || x.alg / 256 > 0x33 then .none
    else if x.alg % 256 == 0xFF then (match x.source with
      | some s => (match d.node? s with | some y => .ws (curveOfParams y.params) | none => .none)
      | none => .none)
    else d.curveAt slice (x.alg % 256) 0

/-- CURVE values of each family (R253). -/
def curveInFamily (f cv : Nat) : Bool :=
  if f == 0x32 then cv == 0x12 || cv == 0x13
  else (1 ≤ cv && cv ≤ 7) || cv == 0xFF || (f == 0x33 && (cv == 0x10 || cv == 0x11))

/-- Bytes of a public key that leads an input; of a shared secret; of an uncompressed or own public key; of a signature. -/
def CurveKind.pkLen : CurveKind → Bytes → Nat
  | .none, _ => 0
  | .ws c, b => c.pointLen (b.headD 0).toNat
  | .xdh cv, _ => xdhBytes cv
  | .ed cv, _ => (edwardsOf cv).bytes
def CurveKind.secretLen : CurveKind → Nat
  | .none => 0
  | .ws c => c.fieldBytes
  | .xdh cv => xdhBytes cv
  | .ed _ => 0
def CurveKind.ownLen : CurveKind → Nat
  | .none => 0
  | .ws c => 1 + 2 * c.fieldBytes
  | .xdh cv => xdhBytes cv
  | .ed cv => (edwardsOf cv).bytes
def CurveKind.sigLen : CurveKind → Nat
  | .none => 0
  | .ws c => 2 * c.orderBytes
  | .xdh _ => 0
  | .ed cv => 2 * (edwardsOf cv).bytes

/-- Bytes drawn for a secret key, the secret key from them (FIPS 186-5 A.2.1: assumption log 33), and its public key. -/
def CurveKind.drawLen : CurveKind → Nat
  | .none => 0
  | .ws c => c.orderBytes + 8
  | .xdh cv => xdhBytes cv
  | .ed cv => (edwardsOf cv).bytes
def CurveKind.secretPart : CurveKind → Bytes → Bytes
  | .ws c, r => natBE c.orderBytes (beNat r % (c.n - 1) + 1)
  | _, r => r
def CurveKind.public' : CurveKind → Bytes → Bytes
  | .none, _ => []
  | .ws c, k => c.encode (c.mul (beNat k) c.base)
  | .xdh cv, k => xdhPublic cv k
  | .ed cv, k => edPublic cv k

/-- The window of R262 on a public key: 0, or the status of the first failing step. -/
def CurveKind.check : CurveKind → Bytes → Nat
  | .none, _ => 0x0145
  | .ws c, b => (match c.decode b with | .refused s => s | .value _ => 0)
  | .xdh cv, b => xdhCheck cv b
  | .ed cv, b => (match (edwardsOf cv).check b with | .refused s => s | .value _ => 0)

/-- Key agreement of a secret key with a peer (R259, R261): a refusal, or the secret. -/
def CurveKind.agree (c : CurveKind) (k peer : Bytes) : Checked Bytes :=
  match c with
  | .ws w => (match w.decode peer with
    | .refused s => .refused s
    | .value P => (match w.mul (beNat k) (some P) with | some (x, _) => .value (natBE w.fieldBytes x) | _ => .refused 0x0144))
  | .xdh cv =>
    if xdhCheck cv peer != 0 then .refused (xdhCheck cv peer)
    else let z := xdhMul cv (xdhScalar cv k) (xdhU cv peer)
         if z == 0 then .refused 0x0144 else .value (natLE (xdhBytes cv) z)
  | _ => .refused 0x0145

/-- A signature over a message or digest (R257, R258): ECDSA takes the digest and its HASH, EdDSA the variant, context and message. -/
def Checked.result (f : Bytes → JobResult) : Checked Bytes → JobResult
  | .refused s => JobResult.ofStatus s
  | .value b => f b

/-! ### Fields and plans -/

def Descriptor.pkin (q : Descriptor) : Bool := q.aux? 15
def Descriptor.det (q : Descriptor) : Bool := q.aux? 14
def Descriptor.phExt (q : Descriptor) : Bool := q.aux? 12
def Descriptor.hashField (q : Descriptor) : Nat := bits 11 8 q.aux
/-- PKIN does not match KEY_A (R197). (DEDUCED, assumption log 96) -/
def pkinBad (q : Descriptor) : Bool := q.pkin != (q.keyA == 0)

/-- The salt length of PSS (R256). -/
def Descriptor.saltLen (q : Descriptor) : Nat := if bits 31 16 q.aux == 0xFFFF then hashLen q.hashField else bits 31 16 q.aux

/-- The RSA public key of a request: n, e and its length in the input; of the key object where PKIN is 0. -/
def Dev.rsaKey (d : Dev) (slice : Nat) (q : Descriptor) (input : Bytes) : Option (Nat × Nat × Nat) :=
  if q.pkin && [3, 5, 7, 9].contains (q.opcode % 256) then rsaParse input
  else match d.peek slice q.keyA with
    | some x => (rsaParse (if x.public then x.material else x.pub)).map (fun r => (r.1, r.2.1, 0))
    | none => none

/-- The modulus sizes of KEYGEN (R254). (DEDUCED, assumption log 97) -/
def rsaSizes : List Nat := [2048, 3072, 4096, 6144, 8192]

/-- The plan of a big-number KEYGEN (R255). (DEDUCED, assumption log 95) -/
def bigKeygenPlan (d : Dev) (slice : Nat) (q : Descriptor) (input : Bytes) : Plan :=
  let f := q.opcode / 256
  let cv := bits 15 8 q.aux
  let c := d.curveAt slice cv (leAt 8 8 input)
  let nb := bits 31 16 q.aux
  let e := if q.inLen == 8 || !q.seen input then 65537 else beNat (input.drop 8)
  { auxBad := bits 63 32 q.aux != 0 || bits 7 3 q.aux != 0
    lenBad := if f == 0x30 then q.inLen != 8 && (q.inLen < 11 || q.inLen > 40) else q.inLen != (if cv == 0xFF then 16 else 8)
    reservedBad := false
    handleBad := q.keyA != 0
    checks :=
      [(q.aux? 0 || seqBad q input || (if f == 0x30 then cv != 0 else nb != 0 || q.aux? 2), 0x0116),
       (if f == 0x30 then !rsaSizes.contains nb else !curveInFamily f cv, 0x0145),
       (f == 0x30 && (e % 2 == 0 || e < 65537), 0x0146)]
    outLen := some (8 + (if f == 0x30 then (rsaDer (2 ^ (nb - 1)) e).length else c.ownLen)) }

/-- The plan of the other RSA operations (R256). (DEDUCED, assumption log 95) -/
def rsaPlan (d : Dev) (slice : Nat) (q : Descriptor) (input : Bytes) : Plan :=
  let lo := q.opcode % 256
  let pss := lo == 4 || lo == 5
  let oaep := lo == 8 || lo == 9
  let sig := 4 ≤ lo && lo ≤ 7
  let pub := lo == 3 || lo == 5 || lo == 7 || lo == 9
  let key := d.rsaKey slice q input
  let (n, e, dl) := key.getD (0, 0, 0)
  let k := ceilDiv (bitLen n) 8
  let h := q.hashField
  let lab := q.aux % 256
  let head := dl + (if lo == 5 || lo == 7 then k else 0) + (if oaep then lab else 0)
  { auxBad := bits 63 32 q.aux != 0 || bits 14 13 q.aux != 0 || (!pss && bits 31 16 q.aux != 0) || (!pub && q.pkin) || (!sig && q.phExt) ||
              (!sig && !oaep && h != 0) || (!oaep && lab != 0)
    lenBad := key.isSome &&
      (if lo == 2 then q.inLen != k else if lo == 3 then q.inLen != dl + k else if lo == 8 then q.inLen != lab + k else q.inLen < head)
    reservedBad := false
    handleBad := q.keyB != 0 || (pub && pkinBad q)
    checks :=
      [(pss && 1 ≤ h && h ≤ 6 && q.saltLen > hashLen h, 0x0116),
       ((sig || oaep) && (h < 1 || h > 6), 0x0112),
       (sig && q.phExt && q.seen input && q.inLen - head != hashLen h, 0x0113),
       (pub && q.pkin && q.seen input && (key.isNone || !rsaKeyOk n e), 0x0146),
       (key.isSome && ((lo == 9 && q.inLen - head + 2 * hashLen h + 2 > k) || (lo == 4 && ceilDiv (bitLen n - 1) 8 < hashLen h + q.saltLen + 2) ||
         (lo == 6 && k < 19 + hashLen h + 11)), 0x0147)]
    outLen := if lo == 5 || lo == 7 then some 0 else if lo == 8 then none else some k }

/-- The plan of ECDSA SIGN and VERIFY (R257). -/
def ecdsaPlan (d : Dev) (slice : Nat) (q : Descriptor) (input : Bytes) : Plan :=
  let sign := q.opcode % 256 == 2
  let cv := q.aux % 256
  let c := if q.pkin then d.curveAt slice cv q.keyB else d.curveOfKey slice q.keyA
  let known := match c with | .ws _ => true | _ => false
  let head := (if q.pkin then c.pkLen input else 0) + (if sign then 0 else c.sigLen)
  let h := q.hashField
  { auxBad := bits 63 16 q.aux != 0 || q.aux? 13 || (sign && q.pkin) || (!sign && q.det)
    lenBad := known && (!q.pkin || q.seen input) && q.inLen < head
    reservedBad := false
    handleBad := (q.keyB != 0 && !(q.pkin && cv == 0xFF)) || (!sign && pkinBad q)
    checks :=
      [(!q.pkin && cv != 0, 0x0116), (h < 1 || h > 8, 0x0112), (q.det && !d.flag P.slcDetSignAllow slice, 0x0114),
       (q.phExt && known && (!q.pkin || q.seen input) && q.inLen - head != hashLen h, 0x0113), (q.pkin && !curveInFamily 0x31 cv, 0x0145)]
    outLen := some (if sign then c.sigLen else 0) }

/-- The plan of EdDSA SIGN and VERIFY (R258). -/
def eddsaPlan (d : Dev) (slice : Nat) (q : Descriptor) (_input : Bytes) : Plan :=
  let sign := q.opcode % 256 == 2
  let cv := bits 23 16 q.aux
  let c := if q.pkin then (if cv == 0x12 || cv == 0x13 then .ed cv else .none) else d.curveOfKey slice q.keyA
  let v := bits 9 8 q.aux
  let ctx := q.aux % 256
  let n := match c with | .ed n => n | _ => 0
  { auxBad := bits 63 24 q.aux != 0 || bits 14 10 q.aux != 0 || (sign && q.pkin)
    lenBad := n != 0 && q.inLen < (if q.pkin then c.ownLen else 0) + (if sign then 0 else c.sigLen) + ctx
    reservedBad := false
    handleBad := q.keyB != 0 || (!sign && pkinBad q)
    checks :=
      [(v == 3 || (!q.pkin && cv != 0) || (n == 0x12 && ((v == 0 && ctx != 0) || (v == 1 && ctx == 0))) || (n == 0x13 && v == 1), 0x0116),
       (q.pkin && cv != 0x12 && cv != 0x13, 0x0145)]
    outLen := some (if sign then c.sigLen else 0) }

/-- The plan of DERIVE, EPHEMERAL and CHECK_PK (R259). -/
def ecdhPlan (d : Dev) (slice : Nat) (q : Descriptor) (input : Bytes) : Plan :=
  let f := q.opcode / 256
  let derive := q.opcode == 0x3302
  let eph := q.opcode == 0x3303
  let cv := q.aux % 256
  let c := if derive then d.curveOfKey slice q.keyA else d.curveAt slice cv q.keyB
  let known := match c with | .none => false | _ => true
  { auxBad := bits 63 8 q.aux != 0
    lenBad := if eph && q.keyA != 0 then q.inLen != 0 else known && q.seen input && q.inLen != c.pkLen input
    reservedBad := false
    handleBad := (q.keyB != 0 && (derive || cv != 0xFF)) || (!derive && !eph && q.keyA != 0)
    checks := [(derive && cv != 0, 0x0116), (!derive && !curveInFamily f cv, 0x0145)]
    outLen := some (if derive then c.secretLen else if eph then c.ownLen + c.secretLen else 0) }

/-- The plan of LOAD_CURVE (R264). -/
def loadCurvePlan (q : Descriptor) (input : Bytes) : Plan :=
  let l := leAt 8 2 input
  { auxBad := q.aux != 0 && q.aux != 2
    lenBad := q.inLen < 16 || (q.seen input && (l < 20 || l > 80 || q.inLen != 16 + 6 * l))
    reservedBad := leAt 10 2 input != 0
    handleBad := q.keyA != 0
    checks := [(seqBad q input, 0x0116)]
    outLen := some 16 }

/-- The plan of a big-number operation. -/
def hamPlan (d : Dev) (slice : Nat) (q : Descriptor) (input : Bytes) : Plan :=
  let f := q.opcode / 256
  let lo := q.opcode % 256
  if lo == 1 then bigKeygenPlan d slice q input
  else if f == 0x30 then rsaPlan d slice q input
  else if q.opcode == 0x310F then loadCurvePlan q input
  else if f == 0x32 then eddsaPlan d slice q input
  else if f == 0x31 && (lo == 2 || lo == 3) then ecdsaPlan d slice q input
  else ecdhPlan d slice q input

/-! ### Results -/

/-- A prime of `h` bytes as FIPS 186-5 A.1.3 has it: odd, its two top bits set, so that a product of two has every bit of the modulus. -/
def rsaPrime (h : Nat) (b : Bytes) : Nat := beNat b % 2 ^ (8 * h - 2) / 2 * 2 + 1 + 3 * 2 ^ (8 * h - 2)

/-- A new RSA key (FIPS 186-5 A.1.3): the two primes are that generation's; the rest follows from them (R254). The key holds e without leading zeros. -/
def rsaKeygenResult (q : Request) : JobResult :=
  let nb := bits 31 16 q.desc.aux
  let e := if q.input.length == 8 then 65537 else beNat (q.input.drop 8)
  let eb := natBE (ceilDiv (bitLen e) 8) e
  let h := nb / 16
  let seed := q.drawn 0 64
  let p := rsaPrime h (Config.scheme 0x30 nb 1 [seed, eb])
  let r := rsaPrime h (Config.scheme 0x30 nb 2 [seed, eb])
  let n := p * r
  let d := invMod e ((p - 1) * (r - 1) / Nat.gcd (p - 1) (r - 1))
  JobResult.made (rsaDer n e)
    (natBE (nb / 8) n ++ eb ++ natBE h p ++ natBE h r ++ natBE h (d % (p - 1)) ++ natBE h (d % (r - 1)) ++ natBE h (invMod r p))

/-- A new elliptic-curve key (R255). (PRESUMED, assumption log 33) -/
def ecKeygenResult (d : Dev) (q : Request) : JobResult :=
  let c := d.curveAt q.slice (bits 15 8 q.desc.aux) (leAt 8 8 q.input)
  let k := c.secretPart (q.drawn 0 c.drawLen)
  JobResult.made (c.public' k) k

/-- The digest that a request signs or verifies (R256, R257). -/
def digestOf (q : Descriptor) (payload : Bytes) : Bytes := if q.phExt then payload else hashOf q.hashField payload

/-- An RSA secret operation on a key object: the representative range first (R261). -/
def rsaPriv (d : Dev) (q : Request) (n e x : Nat) (check : Bool) : Checked Nat :=
  if check && x ≥ n then .refused 0x0141
  else if check && (x ≤ 1 || x == n - 1) then .refused 0x0140
  else .value (rsaPrivate n (ceilDiv (bitLen e) 8) (d.material q.desc.keyA) x)

/-- The result of an RSA operation other than KEYGEN (R256, R261). -/
def rsaResult (d : Dev) (r : Request) : JobResult :=
  let q := r.desc
  let lo := q.opcode % 256
  let (n, e, dl) := (d.rsaKey r.slice q r.input).getD (0, 0, 0)
  let k := ceilDiv (bitLen n) 8
  let b := r.input.drop dl
  let h := q.hashField
  let lab := q.aux % 256
  let out : Checked Nat → JobResult := fun x => match x with | .refused s => JobResult.ofStatus s | .value v => JobResult.good (natBE k v)
  let verdict := fun (ok : Bool) => if ok then JobResult.good [] else JobResult.ofStatus 0x0120
  match lo with
  | 2 => out (rsaPriv d r n e (beNat b) true)
  | 3 => if beNat b ≥ n then JobResult.ofStatus 0x0141 else JobResult.good (natBE k (expMod (beNat b) e n))
  | 4 => out (rsaPriv d r n e (beNat (pssEncode h (bitLen n - 1) (digestOf q b) (r.drawn 0 q.saltLen))) false)
  | 5 =>
    let s := beNat (b.take k)
    let m := expMod s e n
    let em := ceilDiv (bitLen n - 1) 8
    verdict (s < n && m < 256 ^ em && pssVerify h (bitLen n - 1) q.saltLen (digestOf q (b.drop k)) (natBE em m))
  | 6 => out (rsaPriv d r n e (beNat (pkcs1Encode h k (digestOf q b))) false)
  | 7 => let s := beNat (b.take k)
         verdict (s < n && k ≥ 19 + hashLen h + 11 && natBE k (expMod s e n) == pkcs1Encode h k (digestOf q (b.drop k)))
  | 8 =>
    match rsaPriv d r n e (beNat (b.drop lab)) true with
    | .refused s => JobResult.ofStatus s
    | .value m => if k < 2 * hashLen h + 2 then JobResult.ofStatus 0x0148
                  else match oaepDecode h (b.take lab) (natBE k m) with | some x => JobResult.good x | none => JobResult.ofStatus 0x0148
  | _ => JobResult.good (natBE k (expMod (beNat (oaepEncode h k (b.take lab) (b.drop lab) (r.drawn 0 (hashLen h)))) e n))

/-- ECDSA signing (R257, R260). -/
def ecdsaSignResult (d : Dev) (r : Request) : JobResult :=
  match d.curveOfKey r.slice r.desc.keyA with
  | .ws c => JobResult.good (c.ecdsaSign r.desc.hashField (beNat (d.material r.desc.keyA)) (digestOf r.desc r.input) (if r.desc.det then [] else r.drawn 0 32))
  | _ => JobResult.ofStatus 0x0145

/-- A verdict on a signature under a public key in its encoding: 0, 0x0120, or the refusal of the key (R261). -/
def ecdsaVerdict (c : Curve) (pk digest sig : Bytes) : Nat :=
  match c.decode pk with
  | .refused s => s
  | .value P => if c.ecdsaVerify P digest sig then 0 else 0x0120
def edVerdict (cv var : Nat) (pk ctx m sig : Bytes) : Nat :=
  match (edwardsOf cv).check pk with
  | .refused s => s
  | .value P => if edVerify cv var P pk ctx m sig then 0 else 0x0120

/-- ECDSA verification. -/
def ecdsaVerifyResult (d : Dev) (r : Request) : JobResult :=
  let q := r.desc
  match if q.pkin then d.curveAt r.slice (q.aux % 256) q.keyB else d.curveOfKey r.slice q.keyA with
  | .ws c =>
    let pl := if q.pkin then c.pointLen (r.input.headD 0).toNat else 0
    let pk := if q.pkin then r.input.take pl else d.publicOf q.keyA
    let b := r.input.drop pl
    JobResult.ofStatus (ecdsaVerdict c pk (digestOf q (b.drop (2 * c.orderBytes))) (b.take (2 * c.orderBytes)))
  | _ => JobResult.ofStatus 0x0145

/-- EdDSA signing and verification (R258). -/
def eddsaSignResult (d : Dev) (r : Request) : JobResult :=
  let ctx := r.desc.aux % 256
  match d.curveOfKey r.slice r.desc.keyA with
  | .ed cv => JobResult.good (edSign cv (bits 9 8 r.desc.aux) (d.material r.desc.keyA) (r.input.take ctx) (r.input.drop ctx))
  | _ => JobResult.ofStatus 0x0145
def eddsaVerifyResult (d : Dev) (r : Request) : JobResult :=
  let q := r.desc
  let ctx := q.aux % 256
  match if q.pkin then .ed (bits 23 16 q.aux) else d.curveOfKey r.slice q.keyA with
  | .ed cv =>
    let n := (edwardsOf cv).bytes
    let pl := if q.pkin then n else 0
    let pk := if q.pkin then r.input.take n else d.publicOf q.keyA
    let b := r.input.drop pl
    JobResult.ofStatus (edVerdict cv (bits 9 8 q.aux) pk (slice (2 * n) ctx b) (b.drop (2 * n + ctx)) (b.take (2 * n)))
  | _ => JobResult.ofStatus 0x0145

/-- DERIVE, EPHEMERAL and CHECK_PK (R259). -/
def deriveResult (d : Dev) (r : Request) : JobResult :=
  ((d.curveOfKey r.slice r.desc.keyA).agree (d.material r.desc.keyA) r.input).result JobResult.good
def ephemeralWith (c : CurveKind) (draw peer : Bytes) : JobResult :=
  let k := c.secretPart draw
  (c.agree k peer).result (fun z => JobResult.good (c.public' k ++ z))
def ephemeralResult (d : Dev) (r : Request) : JobResult :=
  let c := d.curveAt r.slice (r.desc.aux % 256) r.desc.keyB
  ephemeralWith c (r.drawn 0 c.drawLen) (if r.desc.keyA != 0 then d.publicOf r.desc.keyA else r.input)
def checkPkResult (d : Dev) (r : Request) : JobResult :=
  JobResult.ofStatus ((d.curveAt r.slice (r.desc.aux % 256) r.desc.keyB).check r.input)

/-- The checks of R265 in order: the first that fails, or 0. (DEDUCED, assumption log 97) -/
def loadCurveStatus (l : Nat) (c : Curve) : Nat :=
  let hn := (c.h * c.n : Int)
  let t := hn - (c.p + 1)
  (([(160 ≤ bitLen c.p && bitLen c.p ≤ 640 && bitLen c.p > 8 * (l - 1), 0x0150),
     (bpsw c.p, 0x0151),
     (c.a < c.p && c.b < c.p, 0x0152),
     ((4 * c.a ^ 3 + 27 * c.b ^ 2) % c.p != 0, 0x0153),
     (c.gx < c.p && c.gy < c.p && c.onCurve c.gx c.gy, 0x0154),
     (bpsw c.n, 0x0155),
     ((c.mul c.n c.base).isNone, 0x0156),
     (decide (t * t ≤ 4 * c.p), 0x0157),
     (c.n != c.p, 0x0158),
     ((List.range 100).all (fun k => expMod c.p (k + 1) c.n != 1), 0x0159)] : List (Bool × Nat)).find? (fun x => !x.1)).map Prod.snd |>.getD 0

/-- Cycles of one variable-base scalar multiplication on a loaded curve: the manual states none (DESIGN CHOICE, assumption log 34). -/
def scalarCycles (params : Bytes) : Nat := Config.schemeNat 0x31 0 5 [params] % 2 ^ 32
/-- The validation window of R262. -/
def curveWindow (params : Bytes) : Nat :=
  let c := curveOfParams params
  256 * Nat.max 4 (ceilDiv (bitLen c.p) 64) + (if c.h > 1 then scalarCycles params else 0)

/-- LOAD_CURVE (R264, R265): the counts that follow the handle. (DESIGN CHOICE, assumption log 29) -/
def loadCurveResult (r : Request) : JobResult :=
  let params := r.input.drop 8
  let st := loadCurveStatus (leAt 0 2 params) (curveOfParams params)
  if st != 0 then JobResult.ofStatus st else JobResult.made (natLE 4 (scalarCycles params) ++ natLE 4 (curveWindow params)) []

/-! ### Blinding (R268, R269) -/

/-- The computations of one request on an engine: two under FULL, each with its own blinding (R269, R270). -/
def strikesOf (d : Dev) (q : Request) : List Nat :=
  let s := (d.opReq q).strike
  if s == 4 || (s == 3 && q.policy.strikeHammer == 1) then [0, 1] else [0]

/-- Blinding value `i` of computation `c`, of `w` spark outputs: those of the computation's own index of free values. -/
def Dev.blinding (d : Dev) (c i w : Nat) : Nat :=
  leNat ((List.range w).flatMap (fun k => natLE 8 (Config.sparkWord (d.freeCtr - 1) (1024 * (8 * c + i) + k)).toNat))

/-- The order and the field prime of a curve. -/
def CurveKind.order : CurveKind → Nat
  | .none => 1
  | .ws c => c.n
  | .xdh cv => (edwardsOf (cv + 2)).l
  | .ed cv => (edwardsOf cv).l
def CurveKind.prime : CurveKind → Nat
  | .none => 1
  | .ws c => c.p
  | .xdh cv => xdhPrime cv
  | .ed cv => (edwardsOf cv).p

/-- A scalar multiplication by a secret: scalar k + r·n with a random 64-bit r, and a random Z. -/
def scalarBlinded (d : Dev) (c : CurveKind) (t i k : Nat) : Trace :=
  let v := k + d.blinding t i 1 * c.order
  [keeps .blindedScalar (natBE (ceilDiv (bitLen v) 8) v), keeps .projectiveZ (natBE (ceilDiv (bitLen c.prime) 8) (d.blinding t (i + 1) 10 % c.prime))]

/-- An RSA private operation on x: base x·r^e mod n, exponents dp + k1·(p − 1) and dq + k2·(q − 1) with random 64-bit k1 and k2. -/
def rsaBlinded (d : Dev) (q : Request) (x : Nat) : Trace :=
  let (n, e, _) := (d.rsaKey q.slice q.desc q.input).getD (0, 0, 0)
  let f := rsaCrt n (ceilDiv (bitLen e) 8) (d.material q.desc.keyA)
  let h := ceilDiv (bitLen n) 16 + 8
  (strikesOf d q).flatMap (fun t =>
    [keeps .blindedBase (natBE (ceilDiv (bitLen n) 8) (x * expMod (d.blinding t 0 (ceilDiv (bitLen n) 64)) e n % n)),
     keeps .blindedExponent (natBE h (f 2 + d.blinding t 1 1 * (f 0 - 1))), keeps .blindedExponent (natBE h (f 3 + d.blinding t 2 1 * (f 1 - 1)))])

/-- An ECDSA signature: its nonce as a scalar, and the product k·β that is inverted. -/
def ecdsaBlinded (d : Dev) (c : Curve) (ts : List Nat) (hash : Nat) (sk digest extra : Bytes) : Trace :=
  let k := ((c.ecdsaNonce hash (beNat sk) digest extra).map Prod.fst).getD 0
  ts.flatMap (fun t => scalarBlinded d (.ws c) t 0 k ++ [keeps .blindedInverse (natBE c.orderBytes (k * d.blinding t 2 10 % c.n))])
/-- An EdDSA signature: its nonce and its secret scalar. -/
def edBlinded (d : Dev) (cv var : Nat) (ts : List Nat) (seed ctx m : Bytes) : Trace :=
  ts.flatMap (fun t => scalarBlinded d (.ed cv) t 0 (edNonce cv var seed ctx m) ++ scalarBlinded d (.ed cv) t 2 (edExpand cv seed).1)
/-- The scalar of a private key. -/
def CurveKind.scalar : CurveKind → Bytes → Nat
  | .xdh cv, k => xdhScalar cv k
  | .ed cv, k => (edExpand cv k).1
  | _, k => beNat k
/-- An agreement, or a key formed, with a private key. -/
def keyBlinded (d : Dev) (c : CurveKind) (ts : List Nat) (k : Bytes) : Trace := ts.flatMap (fun t => scalarBlinded d c t 0 (c.scalar k))

/-- What an engine's storage holds of the secrets of a computation: blinded values (R251, R268). -/
def hamTrace (d : Dev) (r : Request) (_ : Job) : Trace :=
  let q := r.desc
  let ts := strikesOf d r
  let (n, _, dl) := (d.rsaKey r.slice q r.input).getD (0, 0, 0)
  let b := r.input.drop dl
  let new := d.curveAt r.slice (bits 15 8 q.aux) (leAt 8 8 r.input)
  let eph := d.curveAt r.slice (q.aux % 256) q.keyB
  match q.opcode with
  | 0x3002 => rsaBlinded d r (beNat b)
  | 0x3004 => rsaBlinded d r (beNat (pssEncode q.hashField (bitLen n - 1) (digestOf q b) (r.drawn 0 q.saltLen)))
  | 0x3006 => rsaBlinded d r (beNat (pkcs1Encode q.hashField (ceilDiv (bitLen n) 8) (digestOf q b)))
  | 0x3008 => rsaBlinded d r (beNat (b.drop (q.aux % 256)))
  | 0x3101 | 0x3201 | 0x3301 => keyBlinded d new ts (new.secretPart (r.drawn 0 new.drawLen))
  | 0x3102 =>
    match d.curveOfKey r.slice q.keyA with
    | .ws c => ecdsaBlinded d c ts q.hashField (d.material q.keyA) (digestOf q r.input) (if q.det then [] else r.drawn 0 32)
    | _ => []
  | 0x3202 =>
    match d.curveOfKey r.slice q.keyA with
    | .ed cv => edBlinded d cv (bits 9 8 q.aux) ts (d.material q.keyA) (r.input.take (q.aux % 256)) (r.input.drop (q.aux % 256))
    | _ => []
  | 0x3302 => keyBlinded d (d.curveOfKey r.slice q.keyA) ts (d.material q.keyA)
  | 0x3303 => keyBlinded d eph ts (eph.secretPart (r.drawn 0 eph.drawLen))
  | _ => []

/-- Run one. -/
def hamRun (op j : Nat) (f : Dev → Request → JobResult) (d : Dev) : Dev := d.computeWith j (opIs op) (fun d q _ => f d q) hamTrace

/-! ### The commands -/

def execRsaKeygen (j : Nat) (s : State) := s.run (hamRun 0x3001 j (fun _ q => rsaKeygenResult q))
def execRsaPrivate (j : Nat) (s : State) := s.run (hamRun 0x3002 j rsaResult)
def execRsaPublic (j : Nat) (s : State) := s.run (hamRun 0x3003 j rsaResult)
def execRsassaPssSign (j : Nat) (s : State) := s.run (hamRun 0x3004 j rsaResult)
def execRsassaPssVerify (j : Nat) (s : State) := s.run (hamRun 0x3005 j rsaResult)
def execRsassaPkcs1V15Sign (j : Nat) (s : State) := s.run (hamRun 0x3006 j rsaResult)
def execRsassaPkcs1V15Verify (j : Nat) (s : State) := s.run (hamRun 0x3007 j rsaResult)
def execRsaesOaepDecrypt (j : Nat) (s : State) := s.run (hamRun 0x3008 j rsaResult)
def execRsaesOaepEncrypt (j : Nat) (s : State) := s.run (hamRun 0x3009 j rsaResult)
def execEcdsaKeygen (j : Nat) (s : State) := s.run (hamRun 0x3101 j ecKeygenResult)
def execEcdsaSign (j : Nat) (s : State) := s.run (hamRun 0x3102 j ecdsaSignResult)
def execEcdsaVerify (j : Nat) (s : State) := s.run (hamRun 0x3103 j ecdsaVerifyResult)
def execEcdsaCheckPk (j : Nat) (s : State) := s.run (hamRun 0x3104 j checkPkResult)
def execLoadCurve (j : Nat) (s : State) := s.run (hamRun 0x310F j (fun _ q => loadCurveResult q))
def execEddsaKeygen (j : Nat) (s : State) := s.run (hamRun 0x3201 j ecKeygenResult)
def execEddsaSign (j : Nat) (s : State) := s.run (hamRun 0x3202 j eddsaSignResult)
def execEddsaVerify (j : Nat) (s : State) := s.run (hamRun 0x3203 j eddsaVerifyResult)
def execEcdhXdhKeygen (j : Nat) (s : State) := s.run (hamRun 0x3301 j ecKeygenResult)
def execDerive (j : Nat) (s : State) := s.run (hamRun 0x3302 j deriveResult)
def execEphemeral (j : Nat) (s : State) := s.run (hamRun 0x3303 j ephemeralResult)
def execEcdhXdhCheckPk (j : Nat) (s : State) := s.run (hamRun 0x3304 j checkPkResult)

end Sys2Proof.Machine
end

