-- ==== Sys2Proof/Machine/Lattice.lean ====
section
/-! DEFINITION. The lattice, hash-based and code-based schemes (R186 to R248) and the hybrids (R211 to R215). ML-KEM and ML-DSA are computed as FIPS 203
and FIPS 204 define them; what another published scheme computes is the scheme's own function (assumption log 4): `Config.scheme` by family, parameter set
and function, 1 public key, 2 secret key or signature, 3 verification, 4 ciphertext, 5 shared secret, 6 decapsulation, 10 to 13 intermediate values. -/

namespace Sys2Proof.Machine

/-! ### Sizes -/

/-- Public key, secret key, ciphertext or signature (R187, R220, R235, R238). -/
def schemeSizes (f ps : Nat) : Nat × Nat × Nat :=
  (match f with
   | 0x10 => [(800, 1632, 768), (1184, 2400, 1088), (1568, 3168, 1568)]
   | 0x11 => [(1312, 2560, 2420), (1952, 4032, 3309), (2592, 4896, 4627)]
   | 0x12 => [(897, 1281, 666), (1793, 2305, 1280)]
   | 0x18 => [(32, 64, 7856), (32, 64, 7856), (32, 64, 17088), (32, 64, 17088), (48, 96, 16224), (48, 96, 16224), (48, 96, 35664), (48, 96, 35664),
              (64, 128, 29792), (64, 128, 29792), (64, 128, 49856), (64, 128, 49856)]
   | 0x20 => [(2249, 2305, 4433), (4522, 4586, 8978), (7245, 7317, 14421)]
   | _ => [(1047319, 13948, 194), (1357824, 14120, 208)] : List (Nat × Nat × Nat)).getD (ps - 1) (0, 0, 0)
def pkLenOf (f ps : Nat) : Nat := (schemeSizes f ps).1
def skLenOf (f ps : Nat) : Nat := (schemeSizes f ps).2.1
def ctLenOf (f ps : Nat) : Nat := (schemeSizes f ps).2.2
/-- Seed form (R187): ML-KEM and ML-DSA only. -/
def seedLenOf (f : Nat) : Nat := if f == 0x10 then 64 else 32
/-- Shared secret. -/
def ssLenOf (f : Nat) : Nat := if f == 0x20 then 64 else 32
/-- Bytes drawn for a new key: d ‖ z, ξ, the seeds of the others. -/
def keyDraw (f ps : Nat) : Nat := if f == 0x11 then 32 else if f == 0x18 then 3 * (pkLenOf f ps / 2) else 64
/-- Bytes drawn for an encapsulation: m of ML-KEM (R194), m and the 16-byte salt of HQC (R236), the source of the error vector of Classic McEliece (R242).
(PRESUMED, assumption log 122) -/
def kemDraw (f ps : Nat) : Nat := if f == 0x10 then 32 else if f == 0x20 then [32, 40, 48].getD (ps - 1) 32 else [870, 1024].getD (ps - 1) 870

/-- The expanded secret key of an object, whatever its form (R189): only ML-KEM and ML-DSA keys have a seed form. -/
def expanded (f ps : Nat) (m : Bytes) : Bytes :=
  if m.length == skLenOf f ps then m else if f == 0x10 then (MlKem.keygen ps (m.take 32) (m.drop 32)).dk else (MlDsa.keygen ps m).sk

/-! ### Stateful parameter sets (R223 to R226) -/

/-- n, hash and Winternitz chains of an LM-OTS typecode; n and hash of an LMS typecode; 0 where none is approved (SP 800-208). -/
def otsN (t : Nat) : Nat := if 1 ≤ t && t ≤ 16 then (if (t - 1) / 4 % 2 == 0 then 32 else 24) else 0
def otsChains (t : Nat) : Nat := if otsN t == 32 then [265, 133, 67, 34].getD ((t - 1) % 4) 0 else [200, 101, 51, 26].getD ((t - 1) % 4) 0
def otsHash (t : Nat) : Nat := (t - 1) / 8
def lmsN (t : Nat) : Nat := if 5 ≤ t && t ≤ 24 then (if (t - 5) / 5 % 2 == 0 then 32 else 24) else 0
def lmsHash (t : Nat) : Nat := (t - 5) / 10
/-- An LMS type and an LM-OTS type that go together for VERIFY. -/
def lmsPairOk (l o : Nat) : Bool := lmsN l != 0 && lmsN l == otsN o && lmsHash l == otsHash o
/-- A record that KEYGEN supports (R223). -/
def lmsRecordOk (l o : Nat) : Bool := lmsPairOk l o && lmsN l == 32 && lmsHeight l ≤ 20 && ((o - 1) % 4 == 2 || (o - 1) % 4 == 3)
/-- Bytes of one LMS signature and one LMS public key. -/
def lmsSigLen (l o : Nat) : Nat := 4 + (4 + otsN o + otsN o * otsChains o) + 4 + lmsN l * lmsHeight l
def lmsPubLen (l : Nat) : Nat := 24 + lmsN l
/-- The two typecodes at offset `i` of a descriptor or a public key. -/
def typesAt (i : Nat) (b : Bytes) : Nat × Nat := (beNat (slice i 4 b), beNat (slice (i + 4) 4 b))
/-- The records of an HSS descriptor. -/
def hssRecords (desc : Bytes) : List (Nat × Nat) := (List.range (leAt 0 1 desc)).map (fun i => typesAt (4 + 8 * i) desc)
/-- Signature bytes of an HSS key. -/
def hssSigLenOf (desc : Bytes) : Nat :=
  let r := hssRecords desc
  4 + r.foldl (fun a x => a + lmsSigLen x.1 x.2) 0 + (r.drop 1).foldl (fun a x => a + lmsPubLen x.1) 0
/-- Bytes of the LMS signature at the head of a string by its own typecodes. -/
def lmsParse (b : Bytes) : Option Nat :=
  let o := beNat (slice 4 4 b)
  let ol := 4 + otsN o + otsN o * otsChains o
  let l := beNat (slice (4 + ol) 4 b)
  if otsN o == 0 || !lmsPairOk l o || b.length < lmsSigLen l o then none else some (lmsSigLen l o)
/-- Bytes of an HSS signature of `k` levels after its level count (R226). -/
def hssParse : Nat → Bytes → Option Nat
  | 0, _ => none
  | 1, b => lmsParse b
  | k + 2, b =>
    match lmsParse b with
    | none => none
    | some n =>
      let (l, o) := typesAt n b
      if !lmsPairOk l o || b.length < n + lmsPubLen l then none
      else (hssParse (k + 1) (b.drop (n + lmsPubLen l))).map (· + (n + lmsPubLen l))
/-- The bytes of the HSS signature that leads a string, for a public key's level count (R226). -/
def hssSigLen (levels : Nat) (b : Bytes) : Option Nat := if b.length < 4 || beNat (b.take 4) + 1 != levels then none else (hssParse levels (b.drop 4)).map (· + 4)

/-- XMSS and XMSS^MT OIDs that SP 800-208 approves; those of KEYGEN (R223); hash bytes; signature bytes (RFC 8391). (DESIGN CHOICE, assumption log 98) -/
def xmssOk (mt : Bool) (oid : Nat) : Bool := if mt then (1 ≤ oid && oid ≤ 8) || (0x21 ≤ oid && oid ≤ 0x38) else (1 ≤ oid && oid ≤ 3) || (0x0D ≤ oid && oid ≤ 0x15)
def xmssMakes (mt : Bool) (oid : Nat) : Bool := if mt then (1 ≤ oid && oid ≤ 8) || (0x29 ≤ oid && oid ≤ 0x30) else (1 ≤ oid && oid ≤ 3) || (0x10 ≤ oid && oid ≤ 0x12)
def xmssN (mt : Bool) (oid : Nat) : Nat :=
  if mt then (if (0x21 ≤ oid && oid ≤ 0x28) || oid ≥ 0x31 then 24 else 32) else if (0x0D ≤ oid && oid ≤ 0x0F) || oid ≥ 0x13 then 24 else 32
def xmssSigLen (mt : Bool) (oid : Nat) : Nat :=
  let n := xmssN mt oid
  let len := if n == 32 then 67 else 51
  if mt then let s := xmssMtShape oid
             ceilDiv s.1 8 + n + s.2 * len * n + s.1 * n
  else 4 + n + len * n + xmssHeight oid * n

/-- The scheme and OID of a family 0x1A descriptor (R224). -/
def xmssDesc (desc : Bytes) : Bool × Nat := (leAt 0 1 desc == 1, beNat (slice 4 4 desc))
/-- TOTAL (R226). -/
def totalOf (f : Nat) (desc : Bytes) : Nat := 2 ^ (levelHeights f desc).foldl (· + ·) 0
/-- Signature bytes of a stateful key. -/
def statefulSigLen (f : Nat) (desc : Bytes) : Nat := if f == 0x19 then hssSigLenOf desc else xmssSigLen (xmssDesc desc).1 (xmssDesc desc).2
/-- Levels of a stateful descriptor that are supported for KEYGEN. -/
def descOk (f : Nat) (desc : Bytes) : Bool :=
  if f == 0x19 then
    let r := hssRecords desc
    let h := r.map (fun x => lmsHash x.1)
    1 ≤ r.length && r.length ≤ 4 && r.all (fun x => lmsRecordOk x.1 x.2) && h.all (· == h.headD 0)
  else leAt 0 1 desc ≤ 1 && xmssMakes (xmssDesc desc).1 (xmssDesc desc).2

/-- A stateful public key: its bytes by its type, and whether its types are known (R226). -/
def statefulPkLen (f : Nat) (mt : Bool) (b : Bytes) : Nat :=
  if f == 0x19 then (let l := beNat (slice 4 4 b)
                     if lmsN l == 24 then 52 else 60)
  else if xmssOk mt (beNat (b.take 4)) && xmssN mt (beNat (b.take 4)) == 24 then 52 else 68
def statefulPkOk (f : Nat) (mt : Bool) (b : Bytes) : Bool :=
  if f == 0x19 then lmsPairOk (typesAt 4 b).1 (typesAt 4 b).2 else xmssOk mt (beNat (b.take 4))

/-- The scheme of a family 0x1A key: AUX MT with PKIN, else what the object records (R226). -/
def Dev.mtOf (d : Dev) (slice : Nat) (q : Descriptor) : Bool :=
  if q.pkin then q.aux? 0 else match d.peek slice q.keyA with | some x => leAt 0 1 x.params == 1 | none => false

/-! ### Messages (R199) -/

/-- The OID of a pre-hash function. -/
def preOid (ph : Nat) : Bytes :=
  [0x06, 0x09, 0x60, 0x86, 0x48, 0x01, 0x65, 0x03, 0x04, 0x02] ++ natLE 1 ([0, 1, 2, 3, 8, 9, 0x0A, 0x0B, 0x0C].getD ph 0)
/-- PH and MU_EXT (R197). -/
def Descriptor.ph (q : Descriptor) : Nat := bits 11 8 q.aux
def Descriptor.muExt (q : Descriptor) : Bool := q.aux? 13
/-- M′ from context and payload; μ itself where it is given (R198). -/
def messageOf (q : Descriptor) (ctx payload : Bytes) : Bytes :=
  if q.muExt then payload
  else if q.ph == 0 then pureMessage ctx payload
  else [1] ++ natLE 1 ctx.length ++ ctx ++ preOid q.ph ++ (if q.phExt then payload else hashOf q.ph payload)

/-- The FN-DSA signature length of a VERIFY (R197, R198). -/
def fnSigLen (q : Descriptor) : Nat := if bits 31 16 q.aux == 0 then ctLenOf 0x12 (lowSet q.opcode) else bits 31 16 q.aux
/-- Signature bytes of a SIGN or VERIFY. -/
def sigLenFor (q : Descriptor) : Nat :=
  if q.opcode / 256 == 0x12 && lowOp q.opcode == 3 then fnSigLen q else ctLenOf (q.opcode / 256) (lowSet q.opcode)

/-! ### Plans -/

/-- KEYGEN (R190, R218, R225, R239). -/
def schemeKeygenPlan (q : Descriptor) (input : Bytes) : Plan :=
  let f := q.opcode / 256
  let ps := lowSet q.opcode
  let st := f == 0x19 || f == 0x1A
  let desc := input.drop 8
  let block := bits 47 16 q.aux
  { auxBad := if st then bits 63 48 q.aux != 0 || bits 15 2 q.aux != 0 else bits 63 (if f == 0x21 then 3 else 2) q.aux != 0
    lenBad := if st then q.inLen < 8 || (q.seen input && q.inLen != 8 + (if f == 0x19 then 4 + 8 * leAt 0 1 desc else 8)) else q.inLen != 8
    reservedBad := st && leAt 1 3 desc != 0
    handleBad := q.keyA != 0
    checks :=
      [((q.aux? 0 && f != 0x10 && f != 0x11) || seqBad q input || (st && (!q.aux? 1 || (block != 0 && (block < 256 || block > 65536)))) ||
        (f == 0x21 && q.aux? 2 && !q.aux? 1), 0x0116),
       (st && q.seen input && !descOk f desc, 0x0131)]
    outLen := some (if st then 8 + (if f == 0x19 then 60 else 68) else 8 + (if f == 0x21 && q.aux? 2 then 8 else 0) + pkLenOf f ps) }

/-- An EVICT of this key from this hearth has begun: assignments there have stopped, and the copy stands until it completes (R240). -/
def Dev.evicting (d : Dev) (h n : Nat) : Bool :=
  d.disp.jobs.any (fun e => e.2.begun.isSome && !e.2.finished && (match d.req? e.2.req with
    | some r => r.desc.opcode / 256 == 0x21 && lowOp r.desc.opcode == 7 && handleObj r.desc.keyA == n && r.desc.aux.testBit h
    | none => false))
/-- The hearths of the slice's set that hold a placement of a key (R240, R242). -/
def Dev.placedHearths (d : Dev) (slice h : Nat) : List Nat :=
  (List.range 16).filter (fun e => (d.hearth e).objects.any (fun o => o.1 == handleObj h) && (d.num P.slcHearthSet slice).testBit e && !d.evicting e (handleObj h))

/-- ENCAPS, DECAPS and CHECK_EK (R193 to R196, R236, R242). -/
def kemPlan (d : Dev) (slice : Nat) (q : Descriptor) : Plan :=
  let f := q.opcode / 256
  let ps := lowSet q.opcode
  let o := lowOp q.opcode
  { auxBad := q.aux != 0
    lenBad := q.inLen != (if o == 4 then ctLenOf f ps else if q.keyA != 0 then 0 else pkLenOf f ps)
    reservedBad := false
    handleBad := q.keyB != 0
    checks := [(f == 0x21 && o == 3 && q.keyA != 0 && (d.peek slice q.keyA).isSome && (d.placedHearths slice q.keyA).isEmpty, 0x0331)]
    outLen := some (if o == 4 then ssLenOf f else if o == 3 then ctLenOf f ps + ssLenOf f else 0) }

/-- SIGN and VERIFY of ML-DSA, FN-DSA and SLH-DSA (R197, R198, R221). -/
def signPlan (d : Dev) (slice : Nat) (q : Descriptor) : Plan :=
  let f := q.opcode / 256
  let ps := lowSet q.opcode
  let sign := lowOp q.opcode == 2
  let fnv := f == 0x12 && !sign
  let sl := bits 31 16 q.aux
  let head := (if q.pkin then pkLenOf f ps else 0) + (if sign then 0 else sigLenFor q) + q.aux % 256
  let pay := q.inLen - head
  { auxBad := bits 63 32 q.aux != 0 || (!fnv && sl != 0) || (sign && q.pkin) || (!sign && q.det) || (f == 0x12 && q.muExt)
    lenBad := q.inLen < head || (fnv && ((1 ≤ sl && sl ≤ 40) || sl > ctLenOf f ps)) || (q.muExt && f == 0x11 && pay != 64)
    reservedBad := false
    handleBad := q.keyB != 0 || (!sign && pkinBad q)
    checks :=
      [((q.muExt && (q.ph != 0 || q.phExt || q.aux % 256 != 0 || f != 0x11)) || (q.phExt && q.ph == 0) || (f == 0x12 && q.det), 0x0116),
       (q.ph > 8, 0x0112), (q.det && !d.flag P.slcDetSignAllow slice, 0x0114), (q.phExt && pay != hashLen q.ph, 0x0113)]
    outLen := some (if sign then ctLenOf f ps else 0) }

/-- Stateful SIGN, VERIFY and QUERY (R226, R232). -/
def statefulPlan (d : Dev) (slice : Nat) (q : Descriptor) (input : Bytes) : Plan :=
  let f := q.opcode / 256
  let o := lowOp q.opcode
  let mt := d.mtOf slice q
  let pk := if q.pkin then input else match d.peek slice q.keyA with | some x => x.material | none => []
  { auxBad := if o == 3 then q.aux != (if q.pkin then 0x8000 + (if f == 0x1A && q.aux? 0 then 1 else 0) else 0) else q.aux != 0
    lenBad := (o == 4 && q.inLen != 0) || (o == 3 && q.pkin && q.seen input && q.inLen < statefulPkLen f mt input)
    reservedBad := false
    handleBad := q.keyB != 0 || (o == 3 && pkinBad q)
    checks := [(o == 3 && (!q.pkin || q.seen input) && (q.pkin || (d.peek slice q.keyA).any (fun x => x.alg / 256 == f && x.cls == 4)) && !statefulPkOk f mt pk, 0x0131)]
    outLen := if o == 3 then some 0 else if o == 4 then some 32
              else (d.peek slice q.keyA).bind (fun x => if x.stateful.isSome then some (statefulSigLen f x.params) else none) }

/-- PLACE and EVICT (R240). -/
def placePlan (d : Dev) (slice : Nat) (q : Descriptor) : Plan :=
  let set := q.aux % 65536
  { auxBad := q.aux / 65536 != 0
    lenBad := q.inLen != 0
    reservedBad := false
    handleBad := q.keyB != 0
    checks := [(set == 0 || (List.range 16).any (fun h => set.testBit h && !(d.num P.slcHearthSet slice).testBit h), 0x0133)]
    outLen := some 0 }

/-- The lattice set, classical curve and LABEL of a composite opcode (R211). -/
def hybridOf (op : Nat) : Nat × CurveKind × Bytes :=
  match op % 256 / 2 with
  | 8 => if op % 2 == 1 then (2, .xdh 0x10, ascii "OCTUANO-HYB/MLKEM768-X25519") else (0, .none, [])
  | 9 => if op % 2 == 0 then (2, .xdh 0x10, ascii "OCTUANO-HYB/MLKEM768-X25519") else (3, .ws curveP384, ascii "OCTUANO-HYB/MLKEM1024-P384")
  | 10 => if op % 2 == 0 then (3, .ws curveP384, ascii "OCTUANO-HYB/MLKEM1024-P384") else (3, .xdh 0x11, ascii "OCTUANO-HYB/MLKEM1024-X448")
  | 11 => (3, .xdh 0x11, ascii "OCTUANO-HYB/MLKEM1024-X448")
  | 16 => (2, .ws curveP256, ascii "OCTUANO-HYB/MLDSA65-P256")
  | 17 => if op % 2 == 0 then (2, .ws curveP256, ascii "OCTUANO-HYB/MLDSA65-P256") else (3, .ws curveP384, ascii "OCTUANO-HYB/MLDSA87-P384")
  | 18 => if op % 2 == 0 then (3, .ws curveP384, ascii "OCTUANO-HYB/MLDSA87-P384") else (2, .ed 0x12, ascii "OCTUANO-HYB/MLDSA65-ED25519")
  | _ => (2, .ed 0x12, ascii "OCTUANO-HYB/MLDSA65-ED25519")
/-- The hash of the ECDSA half (R213). -/
def hybridHash (ps : Nat) : Nat := if ps == 2 then 1 else 2

/-- A composite request (R212, R213). -/
def hybridPlan (d : Dev) (slice : Nat) (q : Descriptor) (input : Bytes) : Plan :=
  let (ps, c, _) := hybridOf q.opcode
  let lo := q.opcode % 256
  let enc := lo % 2 == 1
  if lo < 0x20 then
    { auxBad := q.aux > 1
      lenBad := if enc then (if q.keyA == 0 && q.keyB == 0 then q.inLen != pkLenOf 0x10 ps + c.ownLen else if q.keyA != 0 && q.keyB != 0 then q.inLen != 0 else false)
                else q.inLen != ctLenOf 0x10 ps + c.ownLen
      reservedBad := false, handleBad := false
      checks := [(enc && (q.keyA == 0) != (q.keyB == 0), 0x0116)]
      outLen := some ((if enc then ctLenOf 0x10 ps + c.ownLen else 0) + (if q.aux? 0 then 32 else 32 + c.secretLen)) }
  else
    let pk := if q.pkin then pkLenOf 0x11 ps + c.pkLen (input.drop (pkLenOf 0x11 ps)) else 0
    { auxBad := bits 63 16 q.aux != 0 || (enc && q.pkin) || (!enc && q.det)
      lenBad := (!q.pkin || q.seen input) && q.inLen < pk + (if enc then 0 else ctLenOf 0x11 ps + c.sigLen) + q.aux % 256
      reservedBad := false
      handleBad := !enc && (if q.pkin then q.keyA != 0 || q.keyB != 0 else q.keyA == 0 || q.keyB == 0)
      checks := [(bits 13 8 q.aux != 0, 0x0116), (q.det && !d.flag P.slcDetSignAllow slice, 0x0114)]
      outLen := some (if enc then ctLenOf 0x11 ps + c.sigLen else 0) }

/-- The plan of a lattice, hash-based or code-based operation. -/
def schemePlan (d : Dev) (slice : Nat) (q : Descriptor) (input : Bytes) : Plan :=
  let f := q.opcode / 256
  let o := lowOp q.opcode
  if f == 0x60 then hybridPlan d slice q input
  else if o == 1 then schemeKeygenPlan q input
  else if f == 0x19 || f == 0x1A then statefulPlan d slice q input
  else if f == 0x21 && (o == 6 || o == 7) then placePlan d slice q
  else if f == 0x10 || f == 0x20 || f == 0x21 then kemPlan d slice q
  else signPlan d slice q

/-! ### Results -/

/-- The sign bit, the low seven bits and the unary high part of one coefficient of a compressed FN-DSA signature: its size, and the bits after it. -/
def fnUnary : Nat → List Bool → Option (Nat × List Bool)
  | _, [] => none
  | n, true :: r => some (n, r)
  | n, false :: r => fnUnary (n + 1) r
/-- The bits that follow `n` coefficients: none where one is cut short, lies beyond the bound of 2,047, or is a negative zero (R202). (PRESUMED, assumption log 122) -/
def fnCoefficients : Nat → List Bool → Option (List Bool)
  | 0, b => some b
  | n + 1, b =>
    match fnUnary 0 (b.drop 8) with
    | none => none
    | some (hi, r) =>
      let v := 128 * hi + ((b.drop 1).take 7).foldl (fun a x => 2 * a + bnat x) 0
      if v > 2047 || (v == 0 && b.headD false) then none else fnCoefficients n r
/-- A well-formed FN-DSA signature of the padded or the compressed format (R198, R202): its header, the 40-byte salt, the coefficients, and nothing but zero
bits after them. (PRESUMED, assumption log 122) -/
def fnSigOk (ps : Nat) (sig : Bytes) : Bool :=
  (sig.headD 0).toNat == 0x38 + ps &&
  (match fnCoefficients (256 * 2 ^ ps) ((sig.drop 41).flatMap (fun x => (List.range 8).map (fun i => x.toNat.testBit (7 - i)))) with
   | some r => r.all (fun x => !x)
   | none => false)

/-- The scheme's verdict on a signature of a message, or of μ (R202). -/
def verdictOk (f ps : Nat) (mu : Bool) (pk m sig : Bytes) : Bool :=
  if f == 0x11 then MlDsa.verify ps pk mu m sig else (f != 0x12 || fnSigOk ps sig) && Config.schemeOk f ps 3 [pk, m, sig]
/-- Its status. -/
def verdictOf (f ps : Nat) (mu : Bool) (pk m sig : Bytes) : Nat := if verdictOk f ps mu pk m sig then 0 else 0x0120

/-- The fixed 32-byte message that a pairwise test signs (R192): the unit's own data. (DESIGN CHOICE, assumption log 123) -/
def pairwiseMessage : Bytes := unitBytes 192 32

/-- The pairwise test of a new key pair (R192): for ML-KEM the modulus check of the new key, its hash check (R195), and t̂ recomputed; for ML-DSA and FN-DSA a signature of the
fixed message that verifies. The other families' tests are not stated. -/
def pairwiseOk (f ps : Nat) (seed pk sk rnd : Bytes) : Bool :=
  if f == 0x10 then
    let k := MlKem.keygen ps (seed.take 32) (seed.drop 32)
    MlKem.ekOk ps pk && MlKem.hashOk ps k.dk && MlKem.encode12 (MlKem.tOf ps k.rho k.sHat k.eHat) == pk.take (384 * MlKem.rank ps)
  else if f == 0x11 then (match MlDsa.sign ps (MlDsa.decodeSk ps sk) false pairwiseMessage rnd with | some s => MlDsa.verify ps pk false pairwiseMessage s | none => false)
  else if f == 0x12 then verdictOk f ps false pk pairwiseMessage (fitLen (ctLenOf f ps) (Config.scheme f ps 2 [sk, pairwiseMessage, rnd]))
  else true

/-- The public and the expanded private key of a seed. -/
def keyPair (f ps : Nat) (seed : Bytes) : Bytes × Bytes :=
  if f == 0x10 then let k := MlKem.keygen ps (seed.take 32) (seed.drop 32)
                    (k.ek, k.dk)
  else if f == 0x11 then let k := MlDsa.keygen ps seed
                         (k.pk, k.sk)
  else (fitLen (pkLenOf f ps) (Config.scheme f ps 1 [seed]), fitLen (skLenOf f ps) (Config.scheme f ps 2 [seed]))

/-- The secret of a new key: its material, the stateful seeds among them (R225); with its pairwise test (R192). -/
def schemeKeygenResult (r : Request) : JobResult :=
  let q := r.desc
  let f := q.opcode / 256
  let ps := lowSet q.opcode
  let desc := r.input.drop 8
  if f == 0x19 then
    let l := leAt 0 1 desc
    let seeds := r.drawn 0 (48 * l)
    JobResult.made (natBE 4 l ++ slice 4 8 desc ++ seeds.take 16 ++ fitLen 32 (Config.scheme f 0 1 [desc, seeds])) seeds
  else if f == 0x1A then
    let seeds := r.drawn 0 64
    let pub := r.drawn 64 32
    JobResult.made (slice 4 4 desc ++ fitLen 32 (Config.scheme f (leAt 0 1 desc) 1 [desc, seeds, pub]) ++ pub) seeds
  else
    let seed := r.drawn 0 (keyDraw f ps)
    let (pk, sk) := keyPair f ps seed
    (JobResult.made pk (if q.aux? 0 then seed else sk)).checked (pairwiseOk f ps seed pk sk (r.drawn (keyDraw f ps) 32))

/-- The padding bits of an HQC key (R236). -/
def hqcEkOk (ps : Nat) (ek : Bytes) : Bool := (ek.getLastD 0).toNat < 2 ^ (8 - [3, 5, 3].getD (ps - 1) 0)
/-- The encapsulation-key check: 0, or the refusing status. -/
def ekStatus (f ps : Nat) (ek : Bytes) : Nat :=
  if f == 0x10 then (if MlKem.ekOk ps ek then 0 else 0x0110) else if f == 0x20 then (if hqcEkOk ps ek then 0 else 0x0130) else 0
/-- An FN-DSA public key encoding: header byte, and every 14-bit coefficient below 12,289 (R202). -/
def fnPkOk (ps : Nat) (pk : Bytes) : Bool :=
  let v := beNat (pk.drop 1)
  (pk.headD 0).toNat == 8 + ps && (List.range (256 * 2 ^ ps)).all (fun i => v / 2 ^ (14 * i) % 16384 < 12289)

/-- What the tile's own check of a key in the input will find, the last of check 6 of R43 (R193, R202, R216, R236): the tile reports it at the end of its fixed count, and
it decides over what checks 7 and 8 find. -/
def inputKeyStatus (q : Descriptor) (input : Bytes) : Nat :=
  let f := q.opcode / 256
  let ps := lowSet q.opcode
  let o := lowOp q.opcode
  if !q.seen input || q.keyA != 0 then 0
  else if (f == 0x10 || f == 0x20) && (o == 3 || o == 5) then ekStatus f ps input
  else if f == 0x12 && o == 3 && !fnPkOk ps (input.take (pkLenOf f ps)) then 0x0115
  else if f == 0x60 && q.opcode % 256 < 0x20 && o % 2 == 1 then ekStatus 0x10 (hybridOf q.opcode).1 (input.take (pkLenOf 0x10 (hybridOf q.opcode).1))
  else 0

/-- ENCAPS with drawn bytes: the ciphertext and the shared secret (R194, R236, R242). -/
def encapsWith (f ps : Nat) (ek rnd : Bytes) : JobResult :=
  let st := ekStatus f ps ek
  if st != 0 then JobResult.ofStatus st
  else if f == 0x10 then let x := MlKem.encaps ps ek rnd
                         JobResult.good (x.1 ++ x.2)
  else JobResult.good (fitLen (ctLenOf f ps) (Config.scheme f ps 4 [ek, rnd]) ++ fitLen (ssLenOf f) (Config.scheme f ps 5 [ek, rnd]))
/-- The key of ENCAPS and CHECK_EK: the object's, else the input's. -/
def Dev.ekOf (d : Dev) (r : Request) : Bytes := if r.desc.keyA != 0 then d.publicOf r.desc.keyA else r.input
def encapsResult (d : Dev) (r : Request) : JobResult :=
  let f := r.desc.opcode / 256
  let ps := lowSet r.desc.opcode
  encapsWith f ps (d.ekOf r) (r.drawn 0 (kemDraw f ps))
def checkEkResult (d : Dev) (r : Request) : JobResult := JobResult.ofStatus (ekStatus (r.desc.opcode / 256) (lowSet r.desc.opcode) (d.ekOf r))
/-- DECAPS: the selected secret, of ML-KEM K′ or the rejection value J(z ‖ c) (R196). -/
def decapsWith (f ps : Nat) (sk ct : Bytes) : Bytes :=
  if f == 0x10 then (MlKem.decaps ps (expanded f ps sk) ct).secret else fitLen (ssLenOf f) (Config.scheme f ps 6 [sk, ct])
def decapsResult (d : Dev) (r : Request) : JobResult :=
  JobResult.good (decapsWith (r.desc.opcode / 256) (lowSet r.desc.opcode) (d.material r.desc.keyA) r.input)

/-- ML-DSA signing, with its bound of 814 iterations (R203), and the signature verified against the key object's public key (R114). -/
def mlDsaSignWith (ps : Nat) (mu : Bool) (sk pk m rnd : Bytes) : JobResult :=
  match MlDsa.sign ps (MlDsa.decodeSk ps (expanded 0x11 ps sk)) mu m rnd with
  | none => JobResult.ofStatus 0x0310
  | some s => (JobResult.good s).checked (MlDsa.verify ps pk mu m s)

/-- SIGN of ML-DSA, FN-DSA and SLH-DSA (R200, R221), with its verify-after-sign; FN-DSA has none (R114). -/
def schemeSignResult (d : Dev) (r : Request) : JobResult :=
  let q := r.desc
  let f := q.opcode / 256
  let ps := lowSet q.opcode
  let ctx := q.aux % 256
  let m := messageOf q (r.input.take ctx) (r.input.drop ctx)
  let sk := d.material q.keyA
  let pk := d.publicOf q.keyA
  if f == 0x11 then mlDsaSignWith ps q.muExt sk pk m (if q.det then zeros 32 else r.drawn 0 32)
  else if f == 0x12 then JobResult.good (fitLen (ctLenOf f ps) (Config.scheme f ps 2 [sk, m, r.drawn 0 96]))
  else
    let n := pkLenOf f ps / 2
    let sig := fitLen (ctLenOf f ps) (Config.scheme f ps 2 [sk, m, if q.det then slice (2 * n) n sk else r.drawn 0 n])
    (JobResult.good sig).checked (verdictOk f ps false pk m sig)

/-- VERIFY of ML-DSA, FN-DSA and SLH-DSA (R202). -/
def schemeVerifyResult (d : Dev) (r : Request) : JobResult :=
  let q := r.desc
  let f := q.opcode / 256
  let ps := lowSet q.opcode
  let pl := if q.pkin then pkLenOf f ps else 0
  let pk := if q.pkin then r.input.take pl else d.publicOf q.keyA
  let b := r.input.drop pl
  let sl := sigLenFor q
  let ctx := q.aux % 256
  let m := messageOf q (slice sl ctx b) (b.drop (sl + ctx))
  if f == 0x12 && !fnPkOk ps pk then JobResult.ofStatus 0x0115
  else JobResult.ofStatus (verdictOf f ps q.muExt pk m (b.take sl))

/-- A stateful signature with the index assigned to the computation (R226, R227), made from the seeds and the staged part of the traversal state (R225),
and verified (R114). -/
def statefulSignResult (d : Dev) (r : Request) : JobResult :=
  match d.node? (handleObj r.desc.keyA) with
  | none => JobResult.ofStatus 0x0320
  | some x =>
    let f := r.desc.opcode / 256
    let i := r.index.getD 0
    let mt := f == 0x1A && leAt 0 1 x.params != 0
    let body := Config.scheme f (bnat mt) 2 [x.params, x.material, x.pub, traversalPart f x.params (traversalOf f x.params x.material i) i, natBE 8 i, r.input]
    let sig := fitLen (statefulSigLen f x.params)
      ((if f == 0x19 then natBE 4 (leAt 0 1 x.params - 1) else if mt then natBE (ceilDiv (xmssMtShape (xmssDesc x.params).2).1 8) i else natBE 4 i) ++ body)
    (JobResult.good sig).checked (verdictOk f (bnat mt) false x.pub r.input sig)

/-- A stateful VERIFY: the signature parsed from its own types, then the scheme's verdict (R226). -/
def statefulVerifyResult (d : Dev) (r : Request) : JobResult :=
  let q := r.desc
  let f := q.opcode / 256
  let mt := d.mtOf r.slice q
  let pl := if q.pkin then statefulPkLen f mt r.input else 0
  let pk := if q.pkin then r.input.take pl else d.publicOf q.keyA
  let b := r.input.drop pl
  let n := if f == 0x19 then hssSigLen (beNat (pk.take 4)) b
           else let k := xmssSigLen mt (beNat (pk.take 4))
                if b.length < k then none else some k
  match n with
  | none => JobResult.ofStatus 0x0120
  | some n => JobResult.ofStatus (verdictOf f (bnat (f == 0x1A && mt)) false pk (b.drop n) (b.take n))

/-- QUERY of a stateful key (R232). -/
def statefulQueryResult (d : Dev) (r : Request) : JobResult :=
  match (d.node? (handleObj r.desc.keyA)).bind Node.stateful with
  | some s => JobResult.good (natLE 8 s.total ++ natLE 8 s.committed ++ natLE 8 s.next ++ natLE 4 s.block ++ zeros 4)
  | none => JobResult.ofStatus 0x0205

/-! ### Placements (R240, R241) -/

/-- Bytes of a hearth's public-object area in use. -/
def Dev.areaUsed (d : Dev) (h : Nat) : Nat := (d.hearth h).objects.foldl (fun a e => a + e.2.length) 0
/-- The hearths named in AUX. -/
def hearthsOf (q : Descriptor) : List Nat := (List.range 16).filter (fun h => (q.aux % 65536).testBit h)
/-- PLACE: all or nothing. -/
def place (j : Nat) (d : Dev) : Dev :=
  match d.job? j with
  | none => d
  | some x =>
    match d.req? x.req with
    | none => d
    | some q =>
      if lowOp q.desc.opcode != 6 || q.desc.opcode / 256 != 0x21 || x.begun.isNone || x.finished then d
      else
        let n := handleObj q.desc.keyA
        let key := d.material q.desc.keyA
        let new := (hearthsOf q.desc).filter (fun h => !(d.hearth h).objects.any (fun o => o.1 == n))
        if new.any (fun h => d.areaUsed h + key.length > 2097152) then d.finishJob j (JobResult.ofStatus 0x0330)
        else (new.foldl (fun d h => d.onHearth h (fun m => { m with objects := tabSet n key m.objects })) d).finishJob j (JobResult.good [])
/-- EVICT: assignments there stop at once; it completes once no operation in service on one of the hearths reads a copy, and the space is free then. (DESIGN CHOICE, assumption log 101) -/
def evict (j : Nat) (d : Dev) : Dev :=
  match d.job? j with
  | none => d
  | some x =>
    match d.req? x.req with
    | none => d
    | some q =>
      if lowOp q.desc.opcode != 7 || q.desc.opcode / 256 != 0x21 || x.begun.isNone || x.finished then d
      else
        let n := handleObj q.desc.keyA
        let hs := hearthsOf q.desc
        if d.disp.jobs.any (fun e => e.2.unit < nTiles && hs.contains (hearthOf e.2.unit) &&
            (match d.req? e.2.req with | some r => r.desc.opcode / 256 == 0x21 && lowOp r.desc.opcode == 3 && handleObj r.desc.keyA == n && r.desc.keyA != 0 && !r.released | none => false)) then d
        else (d.dropPlacements (fun h k => k == n && hs.contains h)).finishJob j (JobResult.good [])

/-! ### Composite halves (R211 to R214) -/

/-- The classical public key of a composite request: in ENCAPS the peer's, in DECAPS and VERIFY as R212 and R213 place it. -/
def Dev.hybridEk (d : Dev) (r : Request) : Bytes × Bytes :=
  let (ps, _, _) := hybridOf r.desc.opcode
  if r.desc.keyA == 0 then (r.input.take (pkLenOf 0x10 ps), r.input.drop (pkLenOf 0x10 ps)) else (d.publicOf r.desc.keyA, d.publicOf r.desc.keyB)

/-- The input of the lattice half of a composite request (R127, R212, R213): its key or ciphertext; of SIGN the whole; of VERIFY all but the classical key and signature. -/
def latticeInput (q : Request) : Bytes :=
  let (ps, c, _) := hybridOf q.desc.opcode
  let op := q.desc.opcode % 256
  if op < 0x20 then q.input.take (if op % 2 == 1 then pkLenOf 0x10 ps else ctLenOf 0x10 ps)
  else if op % 2 == 1 then q.input
  else
    let pm := if q.desc.pkin then pkLenOf 0x11 ps else 0
    let b := q.input.drop (if q.desc.pkin then pm + c.pkLen (q.input.drop pm) else 0)
    q.input.take pm ++ b.take (ctLenOf 0x11 ps) ++ b.drop (ctLenOf 0x11 ps + c.sigLen)

/-- The half of a composite KEM request that a job computes. (DESIGN CHOICE, assumption log 30) -/
def hybridKemResult (d : Dev) (r : Request) (x : Job) : JobResult :=
  let (ps, c, _) := hybridOf r.desc.opcode
  let enc := r.desc.opcode % 2 == 1
  if enc then
    if x.kind.half == 1 then ephemeralWith c (r.drawn 32 c.drawLen) (d.hybridEk r).2
    else encapsWith 0x10 ps (d.hybridEk r).1 (r.drawn 0 32)
  else if x.kind.half == 1 then (c.agree (d.material r.desc.keyB) (r.input.drop (ctLenOf 0x10 ps))).result JobResult.good
  else JobResult.good (decapsWith 0x10 ps (d.material r.desc.keyA) (r.input.take (ctLenOf 0x10 ps)))

/-- M′ of a composite signature (R213). -/
def hybridMessage (label ctx m : Bytes) : Bytes := label ++ natLE 1 ctx.length ++ ctx ++ m

/-- The half of a composite SIGN. (DESIGN CHOICE, assumption log 30) -/
def hybridSignResult (d : Dev) (r : Request) (x : Job) : JobResult :=
  let (ps, c, label) := hybridOf r.desc.opcode
  let n := r.desc.aux % 256
  let m := hybridMessage label (r.input.take n) (r.input.drop n)
  let sk := d.material r.desc.keyB
  if x.kind.half == 1 then
    match c with
    | .ws w => JobResult.good (w.ecdsaSign (hybridHash ps) (beNat sk) (hashOf (hybridHash ps) m) (r.drawn 32 32))
    | _ => JobResult.good (edSign 0x12 0 sk [] m)
  else mlDsaSignWith ps false (d.material r.desc.keyA) (d.publicOf r.desc.keyA) (pureMessage [] m) (if r.desc.det then zeros 32 else r.drawn 0 32)

/-- The half of a composite VERIFY. A false half is its outcome 0x0120; a refusal of the classical key is a failure (R214). -/
def hybridVerifyResult (d : Dev) (r : Request) (x : Job) : JobResult :=
  let (ps, c, label) := hybridOf r.desc.opcode
  let q := r.desc
  let pm := pkLenOf 0x11 ps
  let pc := if q.pkin then c.pkLen (r.input.drop pm) else 0
  let b := if q.pkin then r.input.drop (pm + pc) else r.input
  let sm := ctLenOf 0x11 ps
  let n := q.aux % 256
  let o := sm + c.sigLen
  let m := hybridMessage label (slice o n b) (b.drop (o + n))
  let pkC := if q.pkin then slice pm pc r.input else d.publicOf q.keyB
  if x.kind.half == 1 then
    match c with
    | .ws w => JobResult.ofStatus (ecdsaVerdict w pkC (hashOf (hybridHash ps) m) (slice sm c.sigLen b))
    | _ => JobResult.ofStatus (edVerdict 0x12 0 pkC [] m (slice sm c.sigLen b))
  else JobResult.ofStatus (verdictOf 0x11 ps false (if q.pkin then r.input.take pm else d.publicOf q.keyA) (pureMessage [] m) (b.take sm))

/-- The combined output of two finished halves (R212 to R214). -/
def Dev.hybridCombine (d : Dev) (r : Request) (a b : JobResult) : JobResult :=
  let (ps, c, label) := hybridOf r.desc.opcode
  let lo := r.desc.opcode % 256
  let secret := fun (kM kC ctC ekC : Bytes) => if r.desc.aux? 0 then Keccak.sha3_256 (kM ++ kC ++ ctC ++ ekC ++ label) else kM ++ kC
  if lo < 0x20 then
    if lo % 2 == 1 then
      let n := ctLenOf 0x10 ps
      let ctC := b.output.take c.ownLen
      JobResult.good (a.output.take n ++ ctC ++ secret (a.output.drop n) (b.output.drop c.ownLen) ctC (d.hybridEk r).2)
    else JobResult.good (secret a.output b.output (r.input.drop (ctLenOf 0x10 ps)) (d.publicOf r.desc.keyB))
  else if lo % 2 == 1 then JobResult.good (a.output ++ b.output)
  else JobResult.ofStatus (if a.status == 0 then (if b.status == 0 then 0 else 0x0122) else if b.status == 0 then 0x0121 else 0x0123)

/-! ### The commands -/

/-! ### What is unmasked (R205, R247) -/

/-- A new ML-KEM key: ρ, t̂, the encoded key and the pairwise bit are unmasked. -/
def mlKemKeyTrace (ps : Nat) (seed : Bytes) : Trace :=
  let k := MlKem.keygen ps (seed.take 32) (seed.drop 32)
  [keeps .seed seed, keeps .secretKey (MlKem.encode12 k.sHat), keeps .errors (MlKem.encode12 k.eHat), unmasks .rho k.rho, unmasks .tHat (MlKem.encode12 k.tHat),
   unmasks .publicKey k.ek]
/-- A new ML-DSA key: ρ, t1, the public key, tr and the accept bits of its candidates. -/
def mlDsaKeyTrace (ps : Nat) (seed : Bytes) : Trace :=
  let k := MlDsa.keygen ps seed
  [keeps .seed seed, keeps .secretKey k.sk, unmasks .rho k.rho, unmasks .t1 (k.t1.flatMap (packBits 10)), unmasks .publicKey k.pk, unmasks .tr k.tr,
   unmasks .candidateBits (k.accepted.flatMap (fun b => natLE 1 (bnat b)))]
/-- The expansion of a seed-form key opens what KEYGEN does (R189, R205). -/
def expansionTrace (f ps : Nat) (m : Bytes) : Trace :=
  if m.length == skLenOf f ps then [] else if f == 0x10 then mlKemKeyTrace ps m else mlDsaKeyTrace ps m
/-- DECAPS of ML-KEM: the selected secret alone is unmasked; the comparison bit never is. -/
def mlKemDecapsTrace (ps : Nat) (sk ct : Bytes) : Trace :=
  let o := MlKem.decaps ps (expanded 0x10 ps sk) ct
  expansionTrace 0x10 ps sk ++
  [keeps .message o.message, keeps .sharedKey o.key, keeps .coins o.coins, keeps .rejection o.reject, keeps .reencryption o.again, keeps .comparison (natLE 1 (bnat o.same)),
   unmasks .selected o.secret]
/-- An ML-DSA signature: of every iteration w1, c̃, c and one accept bit, and z and h of the accepted one. -/
def mlDsaSignTrace (ps : Nat) (mu : Bool) (sk m rnd : Bytes) : Trace :=
  let x := MlDsa.decodeSk ps (expanded 0x11 ps sk)
  expansionTrace 0x11 ps sk ++ [keeps .secretKey x.sk, keeps .randomness rnd] ++
  (MlDsa.passes ps x mu m rnd).flatMap (fun p =>
    [keeps .maskingVector (p.y.flatMap (packBits 23)), unmasks .w1 (MlDsa.encodeW1 ps p.w1), unmasks .challengeHash p.cHash, unmasks .challenge (packBits 23 p.c),
     unmasks .acceptBit (natLE 1 (bnat p.accept)), (.response, p.z.flatMap (packBits 23), p.accept), (.hint, p.h.flatMap (packBits 1), p.accept)])

/-- The blinded values of the classical half of a composite request (R268). -/
def hybridBlinded (d : Dev) (r : Request) : Trace :=
  let q := r.desc
  let (ps, c, label) := hybridOf q.opcode
  let n := q.aux % 256
  let m := hybridMessage label (r.input.take n) (r.input.drop n)
  let sk := d.material q.keyB
  if q.opcode % 256 < 0x20 then keyBlinded d c [0, 1] (if q.opcode % 2 == 1 then c.secretPart (r.drawn 32 c.drawLen) else sk)
  else if q.opcode % 2 == 1 then
    match c with
    | .ws w => ecdsaBlinded d w [0, 1] (hybridHash ps) sk (hashOf (hybridHash ps) m) (r.drawn 32 32)
    | _ => edBlinded d 0x12 0 [0, 1] sk [] m
  else []

/-- The values of a computation on a tile, and which of them are unmasked; of the classical half of a composite request, its engine's. The intermediate values of a scheme that the model does not compute are the scheme's
functions 10 and 11. -/
def latticeTrace (d : Dev) (r : Request) (x : Job) : Trace :=
  let q := r.desc
  let f := q.opcode / 256
  let ps := lowSet q.opcode
  let o := lowOp q.opcode
  let sk := d.material q.keyA
  let ctx := q.aux % 256
  if f == 0x60 && x.kind.half == 1 then hybridBlinded d r
  else if f == 0x60 then
    let (ps, _, label) := hybridOf q.opcode
    if q.opcode % 256 < 0x20 then (if o % 2 == 0 then mlKemDecapsTrace ps sk (r.input.take (ctLenOf 0x10 ps)) else [])
    else if o % 2 == 1 then mlDsaSignTrace ps false sk (pureMessage [] (hybridMessage label (r.input.take ctx) (r.input.drop ctx))) (if q.det then zeros 32 else r.drawn 0 32)
    else []
  else if o == 1 then
    let seed := r.drawn 0 (keyDraw f ps)
    let pk := (schemeKeygenResult r).output
    if f == 0x10 then mlKemKeyTrace ps seed ++ [unmasks .pairwise (natLE 1 (bnat !(schemeKeygenResult r).mismatch))]
    else if f == 0x11 then mlDsaKeyTrace ps seed
    else if f == 0x18 || f == 0x19 || f == 0x1A then [keeps .seed (schemeKeygenResult r).secret, unmasks .treeNodes (Config.scheme f ps 10 [(schemeKeygenResult r).secret]), unmasks .publicKey pk]
    else if f == 0x12 then []
    else if f == 0x20 then [keeps .seed seed, keeps .secretKey (keyPair f ps seed).2, unmasks .publicKey pk]
    else [keeps .seed seed, keeps .secretKey (keyPair f ps seed).2, unmasks .matrix (Config.scheme f ps 10 [seed]), unmasks .publicKey pk]
  else if o == 4 && f == 0x10 then mlKemDecapsTrace ps sk r.input
  else if o == 4 && (f == 0x20 || f == 0x21) then
    [keeps .message (Config.scheme f ps 10 [sk, r.input]), keeps .reencryption (Config.scheme f ps 11 [sk, r.input]), unmasks .selected (decapsWith f ps sk r.input)]
  else if o == 2 && f == 0x11 then
    mlDsaSignTrace ps q.muExt sk (messageOf q (r.input.take ctx) (r.input.drop ctx)) (if q.det then zeros 32 else r.drawn 0 32)
  else if o == 2 && f != 0x12 then
    let sig := if f == 0x18 then (schemeSignResult d r).output else (statefulSignResult d r).output
    [keeps .secretKey sk, unmasks .randomiser (Config.scheme f ps 10 [sig]), unmasks .digest (Config.scheme f ps 11 [sig]), unmasks .treeNodes sig, unmasks .oneTimeValues sig]
  else []

/-- The opcodes of a family with an operation nibble. -/
def famOp (f o : Nat) : Nat → Bool := fun op => op / 256 == f && lowOp op == o
/-- Run one. -/
def schemeRun (f o j : Nat) (g : Dev → Request → JobResult) (d : Dev) : Dev := d.computeWith j (famOp f o) (fun d q _ => g d q) latticeTrace

def execMlKemKeygen (j : Nat) (s : State) := s.run (schemeRun 0x10 1 j (fun _ q => schemeKeygenResult q))
def execMlKemEncaps (j : Nat) (s : State) := s.run (schemeRun 0x10 3 j encapsResult)
def execMlKemDecaps (j : Nat) (s : State) := s.run (schemeRun 0x10 4 j decapsResult)
def execMlKemCheckEk (j : Nat) (s : State) := s.run (schemeRun 0x10 5 j checkEkResult)
def execMlDsaKeygen (j : Nat) (s : State) := s.run (schemeRun 0x11 1 j (fun _ q => schemeKeygenResult q))
def execMlDsaSign (j : Nat) (s : State) := s.run (schemeRun 0x11 2 j schemeSignResult)
def execMlDsaVerify (j : Nat) (s : State) := s.run (schemeRun 0x11 3 j schemeVerifyResult)
def execFnDsaKeygen (j : Nat) (s : State) := s.run (schemeRun 0x12 1 j (fun _ q => schemeKeygenResult q))
def execFnDsaSign (j : Nat) (s : State) := s.run (schemeRun 0x12 2 j schemeSignResult)
def execFnDsaVerify (j : Nat) (s : State) := s.run (schemeRun 0x12 3 j schemeVerifyResult)
def execHybridKemEncaps (j : Nat) (s : State) := s.run fun d => d.computeWith j (opIn [0x6011, 0x6013, 0x6015]) hybridKemResult latticeTrace
def execHybridKemDecaps (j : Nat) (s : State) := s.run fun d => d.computeWith j (opIn [0x6012, 0x6014, 0x6016]) hybridKemResult latticeTrace
def execHybridSign (j : Nat) (s : State) := s.run fun d => d.computeWith j (opIn [0x6021, 0x6023, 0x6025]) hybridSignResult latticeTrace
def execHybridVerify (j : Nat) (s : State) := s.run fun d => d.computeWith j (opIn [0x6022, 0x6024, 0x6026]) hybridVerifyResult latticeTrace
def execSlhDsaKeygen (j : Nat) (s : State) := s.run (schemeRun 0x18 1 j (fun _ q => schemeKeygenResult q))
def execSlhDsaSign (j : Nat) (s : State) := s.run (schemeRun 0x18 2 j schemeSignResult)
def execSlhDsaVerify (j : Nat) (s : State) := s.run (schemeRun 0x18 3 j schemeVerifyResult)
def execLmsHssKeygen (j : Nat) (s : State) := s.run (schemeRun 0x19 1 j (fun _ q => schemeKeygenResult q))
def execLmsHssSign (j : Nat) (s : State) := s.run (schemeRun 0x19 2 j statefulSignResult)
def execLmsHssVerify (j : Nat) (s : State) := s.run (schemeRun 0x19 3 j statefulVerifyResult)
def execLmsHssQuery (j : Nat) (s : State) := s.run (schemeRun 0x19 4 j statefulQueryResult)
def execXmssKeygen (j : Nat) (s : State) := s.run (schemeRun 0x1A 1 j (fun _ q => schemeKeygenResult q))
def execXmssSign (j : Nat) (s : State) := s.run (schemeRun 0x1A 2 j statefulSignResult)
def execXmssVerify (j : Nat) (s : State) := s.run (schemeRun 0x1A 3 j statefulVerifyResult)
def execXmssQuery (j : Nat) (s : State) := s.run (schemeRun 0x1A 4 j statefulQueryResult)
def execHqcKeygen (j : Nat) (s : State) := s.run (schemeRun 0x20 1 j (fun _ q => schemeKeygenResult q))
def execHqcEncaps (j : Nat) (s : State) := s.run (schemeRun 0x20 3 j encapsResult)
def execHqcDecaps (j : Nat) (s : State) := s.run (schemeRun 0x20 4 j decapsResult)
def execHqcCheckEk (j : Nat) (s : State) := s.run (schemeRun 0x20 5 j checkEkResult)
def execClassicMcelieceKeygen (j : Nat) (s : State) := s.run (schemeRun 0x21 1 j (fun _ q => schemeKeygenResult q))
def execClassicMcelieceEncaps (j : Nat) (s : State) := s.run (schemeRun 0x21 3 j encapsResult)
def execClassicMcelieceDecaps (j : Nat) (s : State) := s.run (schemeRun 0x21 4 j decapsResult)
def execPlace (j : Nat) (s : State) := s.run (place j)
def execEvict (j : Nat) (s : State) := s.run (evict j)

end Sys2Proof.Machine
end

