-- ==== Sys2Proof/Machine/Payment.lean ====
section
/-! DEFINITION. The payment family 0x48 (R288 to R293, R295). -/

namespace Sys2Proof.Machine

/-! ### PIN blocks (R288 to R290) -/

def Descriptor.inFmt (q : Descriptor) : Nat := bits 23 20 q.aux
def Descriptor.outFmt (q : Descriptor) : Nat := bits 19 16 q.aux
def Descriptor.inDukpt (q : Descriptor) : Bool := q.aux? 15
def Descriptor.panLen (q : Descriptor) : Nat := q.aux % 256

/-- Nibbles of bytes, the high one first, and back. -/
def nibbles (b : Bytes) : List Nat := b.flatMap (fun x => [x.toNat / 16, x.toNat % 16])
def ofNibbles : List Nat → Bytes
  | a :: b :: r => BitVec.ofNat 8 (16 * a + b) :: ofNibbles r
  | _ => []

/-- The PAN field of formats 0 and 3: four zero nibbles and the 12 rightmost digits without the check digit. -/
def panField (pan : List Nat) : List Nat :=
  let ds := pan.dropLast
  let last := ds.drop (ds.length - 12)
  List.replicate (16 - last.length) 0 ++ last
/-- The PAN field of format 4: the length over 12, the digits, zeros. -/
def panField4 (pan : List Nat) : List Nat := let l := (pan.length - 12) :: pan
                                             l ++ List.replicate (32 - l.length) 0

/-- Format 4 takes 16-byte blocks (R288). -/
def fmtBytes (f : Nat) : Nat := if f == 4 then 16 else 8
def fmtOk (f : Nat) : Bool := f == 0 || f == 1 || f == 3 || f == 4

/-- The clear PIN field of an incoming block (R290). -/
def clearField (fmt : Nat) (key : Bytes) (pan : List Nat) (blk : Bytes) : List Nat :=
  if fmt == 4 then
    let a := aes key
    nibbles (a.dec (xorBytes (a.dec blk) (ofNibbles (panField4 pan))))
  else
    let c := nibbles ((tdes key).dec blk)
    if fmt == 1 then c else List.zipWith (· ^^^ ·) c (panField pan)

/-- The PIN digits, where every check of R290 passes. -/
def pinOf (fmt : Nat) (f : List Nat) : Option (List Nat) :=
  let n := f.getD 1 0
  let pin := (f.drop 2).take n
  let fill := (f.drop (2 + n)).take (14 - n)
  if f.headD 99 == fmt && 4 ≤ n && n ≤ 12 && pin.all (· ≤ 9) &&
     (if fmt == 0 then fill.all (· == 15) else if fmt == 3 then fill.all (· ≥ 10) else if fmt == 4 then fill.all (· == 10) else true)
  then some pin else none

/-- The outgoing block; random fill comes from the drawn bytes (R290). (PRESUMED, assumption log 93) -/
def pinBlock (fmt : Nat) (key : Bytes) (pan pin : List Nat) (rnd : Bytes) : Bytes :=
  let n := 14 - pin.length
  let r := nibbles rnd
  if fmt == 4 then
    let a := aes key
    let f := 4 :: pin.length :: pin ++ List.replicate n 10 ++ (List.range 16).map (fun i => r.getD i 0)
    a.enc (xorBytes (a.enc (ofNibbles f)) (ofNibbles (panField4 pan)))
  else
    let fill := if fmt == 0 then List.replicate n 15 else (List.range n).map (fun i => if fmt == 3 then 10 + r.getD i 0 % 6 else r.getD i 0)
    let f := fmt :: pin.length :: pin ++ fill
    (tdes key).enc (ofNibbles (if fmt == 1 then f else List.zipWith (· ^^^ ·) f (panField pan)))

/-! ### AES DUKPT (R291) -/

/-- The algorithm indicator of a key type: TDES 0 and 1, AES 2 to 4. -/
def dukptAlg (t : Nat) : Nat := if t == 4 then 0 else if t == 5 then 1 else t + 1

/-- One derivation of X9.24-3: `n` bytes under a key, for a usage and type, from the key ID and counter. (PRESUMED, assumption log 93) -/
def dukptKey (key : Bytes) (usage t n : Nat) (tail : Bytes) : Bytes :=
  ((List.range (ceilDiv n 16)).flatMap (fun i =>
    (aes key).enc ([0x01] ++ natLE 1 (i + 1) ++ natBE 2 usage ++ natBE 2 (dukptAlg t) ++ natBE 2 (8 * n) ++ tail))).take n

/-- The key type of an AES key by its bytes. -/
def aesType (key : Bytes) : Nat := if key.length == 16 then 1 else if key.length == 24 then 2 else 3

/-- The working key of a KSN (R291); `none`: 0x0161. -/
def dukptWorking (bdk ksn : Bytes) (usage t : Nat) : Option Bytes :=
  let ik := ksn.take 8
  let c := beNat (slice 8 4 ksn)
  if c == 0 || popcount 32 c > 16 then none
  else
    let bt := aesType bdk
    let bl := bdk.length
    let ini := dukptKey bdk 0x8001 bt bl ik
    let s := (List.range 32).foldl (fun (s : Bytes × Nat) i =>
      let m := 2 ^ (31 - i)
      if c.testBit (31 - i) then (dukptKey s.1 0x8000 bt bl (ik.drop 4 ++ natBE 4 (s.2 + m)), s.2 + m) else s) (ini, 0)
    some (dukptKey s.1 usage t (keyTypeLen t) (ik.drop 4 ++ natBE 4 c))

/-- Usage indicator and use class of a DUKPT_DERIVE usage (R291). -/
def dukptUsage (u : Nat) : Nat := [0, 0x1000, 0x2000, 0x2001, 0x3000, 0x3001].getD u 0
def dukptClass (u : Nat) : Nat := if u == 3 || u == 5 then 2 else 1

/-! ### ISO 20038 key blocks (R292, R293), by the standard's own functions (assumption log 4) -/

/-- The key block of a key, and its length. (PRESUMED, assumption log 93) -/
def keyBlock (kbpk : Bytes) (cls alg : Nat) (key opt : Bytes) (rnd : Bytes) : Bytes :=
  fitLen (Config.schemeNat 0x48 0 1 [natLE 4 key.length, natLE 4 opt.length]) (Config.scheme 0x48 0 1 [kbpk, natLE 1 cls, natLE 2 alg, key, opt, rnd])
def keyBlockMacOk (kbpk blk : Bytes) : Bool := Config.schemeOk 0x48 0 2 [kbpk, blk]
/-- The header's use class by the table of R292, the key type, exportability; 0 for a class the header does not map to. -/
def keyBlockClass (kbpk blk : Bytes) : Nat := Config.schemeNat 0x48 0 3 [kbpk, blk]
def keyBlockType (kbpk blk : Bytes) : Nat := Config.schemeNat 0x48 0 4 [kbpk, blk]
def keyBlockExportable (blk : Bytes) : Bool := Config.schemeOk 0x48 0 5 [blk]
def keyBlockKey (kbpk blk : Bytes) : Bytes := fitLen (keyTypeLen (keyBlockType kbpk blk)) (Config.scheme 0x48 0 6 [kbpk, blk])
/-- The header is one that R292 maps to a use class. -/
def keyBlockHeaderOk (kbpk blk : Bytes) : Bool :=
  let c := keyBlockClass kbpk blk
  (c == 1 || c == 2 || c == 5 || c == 6) && keyTypeOk (keyBlockType kbpk blk)

/-! ### Descriptor checks -/

/-- The PAN digits of an input, and the incoming block. -/
def panOf (q : Descriptor) (input : Bytes) : Bytes := slice (if q.inDukpt then 12 else 0) q.panLen input
def pinIn (q : Descriptor) (input : Bytes) : Bytes := input.drop ((if q.inDukpt then 12 else 0) + q.panLen)

/-- A forbidden AUX field of PIN_TRANSLATE (R288). -/
def pinAuxBad (q : Descriptor) : Bool :=
  let need := q.inFmt != 1 || q.outFmt != 1
  !fmtOk q.inFmt || !fmtOk q.outFmt ||
  (if need then q.panLen < 12 || q.panLen > 19 else q.panLen != 0)

/-- A refused translation (R289). -/
def Dev.pinRefused (d : Dev) (slice : Nat) (q : Descriptor) : Bool :=
  (q.outFmt == 1 && q.inFmt != 1 && !d.flag P.slcPinFmt1Allow slice) ||
  (q.outFmt != 4 && q.inFmt == 4 && !d.flag P.slcPinDowngradeAllow slice)

/-- The key types of PIN_TRANSLATE do not suit the formats (R289). -/
def Dev.pinTypesBad (d : Dev) (slice : Nat) (q : Descriptor) : Bool :=
  let bad := fun h l => match d.peek slice h with | some x => x.alg / 256 == 0x40 && !(l : List Nat).contains (x.alg % 256) | none => false
  bad q.keyA (if q.inDukpt then [1, 2, 3] else pinTypes q.inFmt) || bad q.keyB (pinTypes q.outFmt)

/-- The plan of a payment operation; AUX bits that R288 reserves or R291 and R292 give no use fail check 2 of R43. (DEDUCED, assumption log 92) -/
def payPlan (d : Dev) (slice : Nat) (q : Descriptor) (input : Bytes) : Plan :=
  let lo := q.opcode % 256
  if lo == 1 then
    { auxBad := bits 63 24 q.aux != 0 || bits 14 8 q.aux != 0, lenBad := q.inLen != (if q.inDukpt then 12 else 0) + q.panLen + fmtBytes q.inFmt, reservedBad := false, handleBad := false
      checks := [(pinAuxBad q, 0x0116), (d.pinTypesBad slice q, 0x0167), (d.pinRefused slice q, 0x0165),
                 ((panOf q input).any (fun b => b.toNat < 0x30 || b.toNat > 0x39), 0x0166)]
      outLen := some (fmtBytes q.outFmt) }
  else if lo == 0x11 then
    { auxBad := q.aux != 0 && q.aux != 2, lenBad := q.inLen != 22, reservedBad := false, handleBad := false
      checks := [(seqBad q input || (q.seen input && (leAt 20 1 input < 1 || leAt 20 1 input > 5)), 0x0116),
                 (q.seen input && (leAt 21 1 input < 1 || leAt 21 1 input > 5), 0x0167)]
      outLen := some 8 }
  else if lo == 0x21 then
    { auxBad := q.aux != 0, lenBad := q.inLen > 1024, reservedBad := false, handleBad := false
      checks := []
      outLen := (d.peek slice q.keyB).map (fun x => Config.schemeNat 0x48 0 1 [natLE 4 x.material.length, natLE 4 q.inLen]) }
  else
    { auxBad := q.aux != 0 && q.aux != 2, lenBad := q.inLen ≤ 8, reservedBad := false, handleBad := false
      checks := [(seqBad q input, 0x0116)]
      outLen := some 8 }

/-! ### Results -/

/-- PIN_TRANSLATE (R288 to R291). -/
def pinTranslateResult (ka kb : Bytes) (r : Request) : JobResult :=
  let q := r.desc
  let pan := (panOf q r.input).map (fun b => b.toNat - 0x30)
  let key := if q.inDukpt then dukptWorking ka (r.input.take 12) 0x1000 (if q.inFmt == 4 then 1 else 4) else some ka
  match key with
  | none => JobResult.ofStatus 0x0161
  | some k =>
    match pinOf q.inFmt (clearField q.inFmt k pan (pinIn q r.input)) with
    | none => JobResult.ofStatus 0x0160
    | some pin => JobResult.good (pinBlock q.outFmt kb pan pin (r.drawn 0 8))

/-- DUKPT_DERIVE (R291). -/
def dukptResult (bdk : Bytes) (r : Request) : JobResult :=
  match dukptWorking bdk (slice 8 12 r.input) (dukptUsage (leAt 20 1 r.input)) (leAt 21 1 r.input) with
  | none => JobResult.ofStatus 0x0161
  | some k => JobResult.made [] k

/-- KB_EXPORT (R292): a non-exportable object is refused. -/
def kbExportResult (d : Dev) (r : Request) (rnd : Bytes) : JobResult :=
  match d.node? (handleObj r.desc.keyB) with
  | none => JobResult.ofStatus 0x0201
  | some x => if !x.exportable || x.isStateful then JobResult.ofStatus 0x0164
              else if x.alg / 256 != 0x40 then JobResult.ofStatus 0x0163
              else JobResult.good (keyBlock (d.material r.desc.keyA) x.cls x.alg x.material r.input rnd)

/-- KB_IMPORT (R293): the MAC first, then the header. -/
def kbImportResult (kbpk : Bytes) (r : Request) : JobResult :=
  let blk := r.input.drop 8
  if !keyBlockMacOk kbpk blk then JobResult.ofStatus 0x0162
  else if !keyBlockHeaderOk kbpk blk then JobResult.ofStatus 0x0163
  else JobResult.made [] (keyBlockKey kbpk blk)

/-! ### The commands -/

def execPinTranslate (j : Nat) (s : State) :=
  s.run fun d => d.compute j (opIs 0x4801) (fun d q _ => pinTranslateResult (d.material q.desc.keyA) (d.material q.desc.keyB) q)
def execDukptDerive (j : Nat) (s : State) := s.run fun d => d.compute j (opIs 0x4811) (fun d q _ => dukptResult (d.material q.desc.keyA) q)
def execKbExport (j : Nat) (s : State) := s.run fun d => d.compute j (opIs 0x4821) (fun d q _ => kbExportResult d q [])
def execKbImport (j : Nat) (s : State) := s.run fun d => d.compute j (opIs 0x4822) (fun d q _ => kbImportResult (d.material q.desc.keyA) q)

end Sys2Proof.Machine
end

