-- ==== Sys2Proof/Machine/Create.lean ====
section
/-! DEFINITION. The objects that creations leave behind: KEYGEN of every family, loaded curves, derived keys, GENERATE and the imports
(R190, R255, R264, R287, R291, R293, R302 to R305, R316, R318, R320, R321). -/

namespace Sys2Proof.Machine

/-! ### Wrapped objects (R320) -/

/-- The header of a wrapped object. -/
def wrapHeader (x : Node) : Bytes :=
  natLE 4 0x4F51574F ++ natLE 2 1 ++ natLE 1 x.cls ++ natLE 1 (bnat x.exportable + 2 * bnat x.childExport + 4 * bnat x.seedForm) ++ natLE 2 x.alg ++
  zeros 2 ++ natLE 4 x.material.length ++ natLE 8 x.version
/-- Bytes of the wrapped part. -/
def wrappedLen (n : Nat) : Nat := ceilDiv (24 + n) 8 * 8 + 8

/-- What an unwrapped object holds: its class, ALG, flags and material. -/
structure Unwrapped where
  cls : Nat
  alg : Nat
  exportable : Bool
  seedForm : Bool
  material : Bytes

/-- Unwrap under a key; none where the unwrap fails or the headers differ (R320). (DESIGN CHOICE, assumption log 98) -/
def unwrapObject (kek blob : Bytes) : Option Unwrapped :=
  let hd := blob.take 24
  match (aes kek).kwpUnwrap (blob.drop 24) with
  | none => none
  | some p =>
    if p.take 24 != hd || p.length != 24 + leAt 12 4 hd || leAt 0 4 hd != 0x4F51574F || leAt 4 2 hd != 1 || leAt 7 1 hd / 8 != 0 || leAt 10 2 hd != 0 then none
    else some { cls := leAt 6 1 hd, alg := leAt 8 2 hd, exportable := (leAt 7 1 hd).testBit 0, seedForm := (leAt 7 1 hd).testBit 2, material := p.drop 24 }

/-- An RSA secret key's modulus and exponent from its material: n = p·q decides the place of e (R254, R321). (PRESUMED, assumption log 33) -/
def rsaMaterial (code : Nat) (m : Bytes) : Option (Nat × Nat) :=
  (List.range 769).findSome? (fun i =>
    let k := 256 + i
    let h := ceilDiv k 2
    if m.length ≤ k + 5 * h then none
    else
      let eb := m.length - k - 5 * h
      let f := fun j => beNat (slice (k + eb + j * h) h m)
      let n := beNat (m.take k)
      let e := beNat (slice k eb m)
      let (p, q) := (f 0, f 1)
      if ceilDiv (bitLen n) 8 == k && p * q == n && (Config.rsaSizeCode (bitLen n)).toNat == code && p > 1 && q > 1 &&
         e * f 2 % (p - 1) == 1 % (p - 1) && e * f 3 % (q - 1) == 1 % (q - 1) && f 4 * q % p == 1 && ceilDiv (bitLen e) 8 == eb then some (n, e) else none)

/-- The import check of an object's algorithm (R321): none where it fails, else its public bytes. An ML-DSA private key passes where its parts are those that its ρ,
K, s1 and s2 make. The other published schemes' recomputations are the schemes' own (functions 8 and 9). (DESIGN CHOICE, assumption log 98) -/
def importCheck (u : Unwrapped) : Option Bytes :=
  let f := u.alg / 256
  let ps := u.alg % 256 / 16
  let m := u.material
  let secretPart := u.cls == 2 || u.cls == 3
  let whole := u.alg % 16 == 0 && ps ≥ 1
  if f == 0x40 then
    if keyTypeOk (u.alg % 256) && m.length == keyTypeLen (u.alg % 256) && !childClassBad u.cls && !u.seedForm then some [] else none
  else if f == 0x10 || f == 0x20 || f == 0x21 then
    if !whole || ps > (if f == 0x21 then 2 else 3) || (u.seedForm && f != 0x10) then none
    else if u.cls == 1 then (if m.length == pkLenOf f ps && ekStatus f ps m == 0 then some [] else none)
    else if u.cls != 2 then none
    else if f == 0x10 then
      if u.seedForm then (if m.length == 64 then some (keyPair f ps m).1 else none)
      else
        let ek := MlKem.dkEk ps m
        if m.length == skLenOf f ps && MlKem.ekOk ps ek && MlKem.hashOk ps m then some ek else none
    else if m.length != skLenOf f ps then none
    else some (if f == 0x20 then fitLen (pkLenOf f ps) (Config.scheme f ps 8 [m]) else [])
  else if f == 0x11 || f == 0x12 || f == 0x18 then
    if !whole || ps > (if f == 0x11 then 3 else if f == 0x12 then 2 else 12) || (u.seedForm && f != 0x11) then none
    else if u.cls == 4 then (if m.length == pkLenOf f ps then some [] else none)
    else if u.cls != 3 || m.length != (if u.seedForm then 32 else skLenOf f ps) then none
    else if u.seedForm then some (keyPair f ps m).1
    else if f == 0x11 then (if (MlDsa.recompute ps m).sk == m then some (MlDsa.recompute ps m).pk else none)
    else if Config.schemeOk f ps 8 [m] then some (fitLen (pkLenOf f ps) (Config.scheme f ps 8 [m])) else none
  else if f == 0x19 || f == 0x1A then
    if u.cls == 4 && u.alg % 256 == 0 && !u.seedForm then
      (let mt := f == 0x1A && Config.schemeNat 0x1A 0 9 [m] % 2 == 1
       if statefulPkOk f mt m && m.length == statefulPkLen f mt m then some [] else none)
    else none
  else if u.seedForm then none
  else if f == 0x30 then
    if secretPart then (rsaMaterial (u.alg % 256) m).map (fun r => rsaDer r.1 r.2)
    else if u.cls == 4 || u.cls == 1 then
      match rsaParse m with
      | some (n, e, l) => if l == m.length && rsaKeyOk n e && (Config.rsaSizeCode (bitLen n)).toNat == u.alg % 256 then some [] else none
      | none => none
    else none
  else if f == 0x31 || f == 0x32 || f == 0x33 then
    let cv := u.alg % 256
    let c : CurveKind := if cv == 0x10 || cv == 0x11 then .xdh cv else if cv == 0x12 || cv == 0x13 then .ed cv else match builtinCurve cv with | some c => .ws c | none => .none
    if cv == 0xFF || !curveInFamily f cv then none
    else if u.cls == (if f == 0x33 then 2 else 3) then
      let good := match c with | .ws w => m.length == w.orderBytes && 1 ≤ beNat m && beNat m < w.n | .xdh n => m.length == xdhBytes n | .ed n => m.length == (edwardsOf n).bytes | .none => false
      if good then some (c.public' m) else none
    else if u.cls == (if f == 0x33 then 1 else 4) then (if c.check m == 0 && m.length == c.pkLen m then some [] else none)
    else none
  else none

/-! ### The new object of a request -/

/-- A key of family 0x40. -/
def symObject (cls t : Nat) : Nat × Nat := (cls, 0x4000 + t)

/-- Class and ALG of the object that a KEYGEN makes (R188, R218, R255). -/
def keygenObject (q : Descriptor) : Nat × Nat :=
  let f := q.opcode / 256
  if f == 0x30 then (if q.aux? 2 then 2 else 3, 0x3000 + (Config.rsaSizeCode (bits 31 16 q.aux)).toNat)
  else if f == 0x31 || f == 0x32 then (3, f * 256 + bits 15 8 q.aux)
  else if f == 0x33 then (2, f * 256 + bits 15 8 q.aux)
  else if f == 0x10 || f == 0x20 || f == 0x21 then (2, f * 256 + lowSet q.opcode * 16)
  else (3, f * 256 + lowSet q.opcode * 16)

/-- The node a parent handle names. -/
def parentNode (h : Nat) : Option Nat := if h == 0 then none else some (handleObj h)

/-- The object that a finished creation makes from its result (R302, R303). -/
def Dev.newObject (d : Dev) (r : Request) (res : JobResult) : NewObject :=
  let q := r.desc
  let f := q.opcode / 256
  let lo := q.opcode % 256
  let i := r.input
  let blank : NewObject :=
    { slice := r.slice, cls := 0, alg := 0, parent := parentNode q.keyB, source := none, persistent := q.aux? 1, childExport := false, exportable := true,
      seedForm := false, material := res.secret, pub := [], params := [], tree := [], stateful := none }
  if q.opcode == 0x310F then { blank with alg := 0x31FF, params := i.drop 8 }
  else if f == 0x40 then { blank with cls := leAt 8 1 i, alg := 0x4000 + leAt 9 1 i, source := some (handleObj q.keyA) }
  else if f == 0x48 && lo == 0x11 then { blank with cls := dukptClass (leAt 20 1 i), alg := 0x4000 + leAt 21 1 i, source := some (handleObj q.keyA) }
  else if f == 0x48 then
    let k := d.material q.keyA
    { blank with cls := keyBlockClass k (i.drop 8), alg := 0x4000 + keyBlockType k (i.drop 8), exportable := keyBlockExportable (i.drop 8) }
  else if f == 0x50 && lo == 1 then { blank with cls := leAt 8 1 i, alg := 0x4000 + leAt 9 1 i, childExport := q.aux? 2 }
  else if f == 0x50 then
    match unwrapObject (d.material q.keyA) (i.drop 8) with
    | none => blank
    | some u => { blank with cls := u.cls, alg := u.alg, exportable := u.exportable, seedForm := u.seedForm, material := u.material, pub := (importCheck u).getD [],
                             params := if u.alg == 0x1A00 then natLE 1 (Config.schemeNat 0x1A 0 9 [u.material] % 2) else [] }
  else
    let (c, a) := keygenObject q
    let st := f == 0x19 || f == 0x1A
    let block := bits 47 16 q.aux
    { blank with
      cls := c, alg := a, seedForm := q.aux? 0 && (f == 0x10 || f == 0x11)
      source := if (f == 0x31 || f == 0x33) && bits 15 8 q.aux == 0xFF then some (handleObj (leAt 8 8 i)) else none
      pub := if f == 0x21 then [] else res.output
      params := if st then i.drop 8 else []
      tree := if st then traversalOf f (i.drop 8) res.secret 0 else []
      stateful := if st then some { total := totalOf f (i.drop 8), committed := 0, next := 0, block := if block == 0 then r.policy.statefulBlock else block,
                                    reserving := false, window := false, lowRaised := false } else none }

/-- The public key object that a Classic McEliece KEYGEN makes as well (R239). -/
def Dev.pubObject (d : Dev) (r : Request) (res : JobResult) : Option NewObject :=
  if r.desc.opcode / 256 == 0x21 && r.desc.aux? 2 then some { d.newObject r res with cls := 1, material := res.output } else none

/-- The SEQ of an update request: the first eight bytes of its input (R190, R318). -/
def Request.updateSeq (r : Request) : Nat := leAt 0 8 r.input

/-- Create what a released request asks for (R190, R314): a volatile object at once; a persistent one as an update that waits for its commit. -/
def Dev.create (d : Dev) (n : Nat) (r : Request) (res : JobResult) (c : Completion) : Dev :=
  let o := d.newObject r res
  let st := d.createStatus r.policy o
  if st != 0 then d.complete n { Completion.ofStatus st with engineClass := c.engineClass, quadA := c.quadA }
  else
    let gen := match o.parent with | none => (d.root o.slice).gen | some p => match d.node? p with | some y => y.gen | none => 0
    let (a, h, d') := d.place r.policy o
    let second := d'.pubObject r res
    let st2 := match second with | some p => d'.createStatus r.policy p | none => 0
    if st2 != 0 then (d'.freeNode a).complete n { Completion.ofStatus st2 with engineClass := c.engineClass, quadA := c.quadA }
    else
      let (l, hs, d) := match second with
        | some p => let (b, h2, d2) := d'.place r.policy p
                    ([a, b], natLE 8 h ++ natLE 8 h2, d2)
        | none => ([a], natLE 8 h, d')
      let out := hs ++ res.output
      if !o.persistent then d.complete n { c with output := out }
      else
        let d := d.onReq n (fun q => { q with phase := .committing, completion := some { c with output := [] } })
        d.journal { req := some n, slice := r.slice, seq := r.updateSeq, opcode := r.desc.opcode, parent := r.desc.keyB, kind := .create l, parentGen := gen,
                    acked := true, status := 0, output := out, ticket := none }

end Sys2Proof.Machine
end

