-- ==== Sys2Proof/Machine/KeyMgmt.lean ====
section
/-! DEFINITION. The key-management family 0x50, UNLOAD_CURVE, the software port, and the officer's commands to the vault (R267, R310, R311,
R318 to R322, R325, R330, R355, R356). -/

namespace Sys2Proof.Machine

/-! ### Plans -/

/-- An update's SEQ does not match the persistence of the object it acts on (R316). -/
def actSeqBad (persistent : Bool) (q : Descriptor) (input : Bytes) : Bool := q.seen input && persistent != (leAt 0 8 input != 0)

/-- The plan of a key-management operation (R318, R319), and of UNLOAD_CURVE (R267). -/
def mgmtPlan (d : Dev) (slice : Nat) (q : Descriptor) (input : Bytes) : Plan :=
  let lo := if q.opcode == 0x310E then 0x0E else q.opcode % 256
  let seen := q.seen input
  let parentExport := if q.keyB == 0 then d.flag P.slcChildExport slice else (d.peek slice q.keyB).any (fun x => x.childExport)
  let cls := leAt 8 1 input
  -- the reserved bits of R319 fail check 2 of R43, a breach of its two fields check 6 (DEDUCED, assumption log 92)
  let reserved := q.aux / 8 != 0 || q.aux? 0
  let auxBad :=
    (q.aux? 1 && lo != 1 && lo != 3) || (q.aux? 2 && !(lo == 1 && (!seen || cls == 5 || cls == 6) && parentExport))
  match lo with
  | 1 => { auxBad := reserved, lenBad := q.inLen != 16, reservedBad := !allZero ((input.drop 10).take 6), handleBad := q.keyA != 0
           checks := [(auxBad || seqBad q input || (seen && childClassBad cls), 0x0116), (seen && !keyTypeOk (leAt 9 1 input), 0x0167)], outLen := some 8 }
  | 2 => { auxBad := reserved, lenBad := q.inLen != 0, reservedBad := false, handleBad := false, checks := [(auxBad, 0x0116)]
           outLen := (d.peek slice q.keyB).map (fun x => 24 + wrappedLen x.material.length) }
  | 3 => { auxBad := reserved, lenBad := q.inLen < 32 || (seen && q.inLen != 32 + wrappedLen (leAt 20 4 input)), reservedBad := leAt 15 1 input / 8 != 0 || leAt 18 2 input != 0
           handleBad := false
           -- a Classic McEliece public key is always persistent (R239; DEDUCED, assumption log 98)
           checks := [(auxBad || seqBad q input || (seen && leAt 14 1 input == 1 && leAt 17 1 input == 0x21 && !q.aux? 1), 0x0116)], outLen := some 8 }
  | 7 => { auxBad := reserved, lenBad := q.inLen != 0, reservedBad := false, handleBad := q.keyB != 0, checks := [(auxBad, 0x0116)], outLen := some 64 }
  | 8 => { auxBad := reserved, lenBad := q.inLen != 8, reservedBad := false, handleBad := q.keyA != 0 || q.keyB != 0, checks := [(auxBad, 0x0116)]
           outLen := some 16 }
  | 0x0E => { auxBad := q.aux != 0, lenBad := q.inLen != 8, reservedBad := false, handleBad := q.keyA != 0
              checks := [(actSeqBad (!isVol (handleObj q.keyB)) q input, 0x0116)], outLen := some 0 }
  | _ => { auxBad := reserved, lenBad := q.inLen != 8, reservedBad := false, handleBad := q.keyB != 0
           checks := [(auxBad || actSeqBad (!isVol (handleObj q.keyA)) q input, 0x0116)], outLen := some 0 }

/-- The plan of the software port's GENERATE (R355). -/
def portPlan (q : Descriptor) : Plan :=
  { auxBad := q.aux > 1, lenBad := q.inLen > 256, reservedBad := false, handleBad := q.keyA != 0 || q.keyB != 0
    checks := [(q.outCap == 0 || q.outCap > 1048576, 0x0180)], outLen := some q.outCap }

/-! ### Creation, export and import -/

/-- GENERATE: a fresh key of the type (R318). -/
def generateResult (r : Request) : JobResult := JobResult.made [] (r.drawn 0 (keyTypeLen (leAt 9 1 r.input)))

/-- WRAP_EXPORT (R320). -/
def wrapExportResult (d : Dev) (r : Request) : JobResult :=
  match d.node? (handleObj r.desc.keyB) with
  | none => JobResult.ofStatus 0x0201
  | some x => if !x.exportable || x.isStateful then JobResult.ofStatus 0x0164
              else JobResult.good (wrapHeader x ++ (aes (d.material r.desc.keyA)).kwpWrap (wrapHeader x ++ x.material))

/-- UNWRAP_IMPORT: the unwrap, then the import check (R320, R321). -/
def unwrapImportResult (d : Dev) (r : Request) : JobResult :=
  match unwrapObject (d.material r.desc.keyA) (r.input.drop 8) with
  | none => JobResult.ofStatus 0x0170
  | some u => if (importCheck u).isNone then JobResult.ofStatus 0x0117 else JobResult.made [] u.material

/-! ### Invalidation, restriction -/

/-- A job of a vault operation that may act now: assigned, its node entries read, not finished, and alone among invalidations (R311). -/
def Dev.vaultJob (d : Dev) (j : Nat) (op : Nat) : Option (Nat × Request) :=
  match d.job? j with
  | none => none
  | some x =>
    match d.req? x.req with
    | none => none
    | some q => if q.desc.opcode == op && x.begun.isSome && !x.finished && x.unit == vaultUnit && !q.released then some (x.req, q) else none

/-- The request's update leaves the unit and waits for its acknowledgement or its commit. -/
def Dev.startCommit (d : Dev) (j n : Nat) : Dev := (d.dropJob j).onReq n (fun q => { q with phase := .committing, completion := some { Completion.ofStatus 0 with engineClass := 5 } })

/-- Start the invalidation of a node (R310, R311 steps 1 to 3): one at a time. A persistent one is journaled and commits after its acknowledgement. (DEDUCED, assumption log 102) -/
def Dev.invalidate (d : Dev) (j n : Nat) (q : Request) (node : Option Nat) (handle : Nat) (affected : List Nat) (k : UpdateKind) (persistent : Bool) : Dev :=
  let d := (d.startCommit j n).broadcast affected
  let d := d.onVault (fun v => { v with invalidations := v.invalidations ++ [{ node := node, slice := q.slice, affected := affected, req := some n }] })
  if persistent then
    d.journal { req := some n, slice := q.slice, seq := q.updateSeq, opcode := q.desc.opcode, parent := handle, kind := k, parentGen := 0, acked := false,
                status := 0, output := [], ticket := none }
  else d

/-- DESTROY and UNLOAD_CURVE (R267, R310): the node is destroyed and its GEN raised; itself and all below it are affected. -/
def destroy (op j : Nat) (d : Dev) : Dev :=
  match d.vaultJob j op with
  | none => d
  | some (n, q) =>
    if !d.vault.invalidations.isEmpty then d
    else
      let h := if op == 0x310E then q.desc.keyB else q.desc.keyA
      let o := handleObj h
      if !d.ancestorsOk o then d.finishJob j (JobResult.ofStatus 0x0203)
      else
        let below := d.below o
        let d := d.onNode o (fun x => { x with destroyed := true, gen := (x.gen + 1) % 2 ^ 32 })
        d.invalidate j n q (some o) h below (.destroy o) (!isVol o)

/-- REVOKE_CHILDREN (R310): of a node, or of the slice root, which is drawn anew. -/
def revokeChildren (j : Nat) (d : Dev) : Dev :=
  match d.vaultJob j 0x5005 with
  | none => d
  | some (n, q) =>
    if !d.vault.invalidations.isEmpty then d
    else if q.desc.keyA == 0 then
      if (d.root q.slice).gen ≥ 2 ^ 32 - 1 then d.finishJob j (JobResult.ofStatus 0x020B)
      else
        let all := d.ofSlice q.slice
        let (k, d) := d.draw 32
        let d := d.onRoot q.slice (fun r => { r with gen := r.gen + 1, key := k })
        d.invalidate j n q none 0 all (.revoke none) true
    else
      let o := handleObj q.desc.keyA
      if !d.ancestorsOk o then d.finishJob j (JobResult.ofStatus 0x0203)
      else if (d.node? o).any (fun x => x.gen ≥ 2 ^ 32 - 1) then d.finishJob j (JobResult.ofStatus 0x020B)
      else
        let below := (d.below o).filter (· != o)
        let d := d.onNode o (fun x => { x with gen := x.gen + 1 })
        d.invalidate j n q (some o) q.desc.keyA below (.revoke (some o)) (!isVol o)

/-- RESTRICT (R303, R318): at once on a volatile object, as an update on a persistent one. -/
def restrict (j : Nat) (d : Dev) : Dev :=
  match d.vaultJob j 0x5006 with
  | none => d
  | some (n, q) =>
    let o := handleObj q.desc.keyA
    if !d.ancestorsOk o then d.finishJob j (JobResult.ofStatus 0x0203)
    else if isVol o then (d.onNode o (fun x => { x with exportable := false, childExport := false })).finishJob j (JobResult.good [])
    else (d.startCommit j n).journal { req := some n, slice := q.slice, seq := q.updateSeq, opcode := q.desc.opcode, parent := q.desc.keyA, kind := .restrict o,
                                       parentGen := 0, acked := true, status := 0, output := [], ticket := none }

/-! ### Queries (R322) -/

/-- The handle of a node; 0 for none. -/
def Dev.handleOf (d : Dev) (n : Option Nat) : Nat :=
  match n with | none => 0 | some o => match d.node? o with | some x => mkHandle x.slice o x.tag | none => 0

/-- QUERY. -/
def queryResult (d : Dev) (r : Request) : JobResult :=
  let o := handleObj r.desc.keyA
  match d.node? o with
  | none => JobResult.ofStatus 0x0201
  | some x =>
    JobResult.good (natLE 8 r.desc.keyA ++ natLE 8 (d.handleOf x.parent) ++ natLE 8 (d.handleOf x.source) ++ natLE 8 x.version ++ natLE 4 x.gen ++
      natLE 1 x.cls ++ natLE 1 x.level ++ natLE 2 x.alg ++
      natLE 1 (bnat (!isVol o) + 2 * bnat x.exportable + 4 * bnat x.childExport + 8 * bnat x.seedForm + 16 * bnat x.isStateful + 32 * bnat x.resident +
        64 * bnat (d.isHome x.slice)) ++ zeros 3 ++ natLE 4 x.material.length ++ zeros 16)

/-- SEQ_QUERY: 0 not known, 1 committed, 2 in progress, 3 below the low mark; and the handle that the update created. -/
def seqQueryResult (d : Dev) (r : Request) : JobResult :=
  let q := r.updateSeq
  let (st, h) :=
    match d.vault.retained.find? (fun x => x.slice == r.slice && x.seq == q) with
    | some x => (1, if x.status == 0 then x.output.take 8 else [])
    | none => if d.vault.updates.any (fun u => u.slice == r.slice && u.seq == q && q != 0) then (2, []) else if q ≤ tabGet 0 r.slice d.vault.lowMarks then (3, []) else (0, [])
  JobResult.good (natLE 1 st ++ zeros 7 ++ fitLen 8 h)

/-! ### The software port (R355, R356) -/

/-- The generate calls of a request, in order: each waits for instance 16, and with PR for its own block. -/
def portCalls (n : Nat) (pr : Bool) (total : Nat) : Nat → Dev → Dev
  | 0, d => d
  | k + 1, d =>
    match d.req? n with
    | none => d
    | some q =>
      if q.calls ≥ total then d
      else if pr then
        if d.bellows.waiters.contains (.call n) || !(d.inst 16).seeded then d
        else portCalls n pr total k ((d.onBellows (fun b => { b with waiters := b.waiters ++ [.call n] })).deliverAll)
      else if !d.generates 16 then d
      else portCalls n pr total k (d.portCall n q)

/-- SOFTWARE_PORT_GENERATE: in EXHAUSTED it completes with 0x0502; with every call made its output is ready. -/
def portGenerate (j : Nat) (d : Dev) : Dev :=
  match d.job? j with
  | none => d
  | some x =>
    match d.req? x.req with
    | none => d
    | some q =>
      if q.desc.opcode != 0x5801 || x.begun.isNone || x.finished || x.unit != portUnit || q.released then d
      else if d.num P.blwState 0 == blwExhausted then d.fail x.req 0x0502
      else
        let total := ceilDiv q.desc.outCap 65536
        let pr := q.desc.aux? 0
        let d := portCalls x.req pr total total d
        match d.req? x.req with
        | none => d
        | some q => if q.calls < total then d else d.finishJob j (JobResult.good q.port)

/-! ### The officer's commands -/

/-- A new ember key, in its mask, a new vault master and device-domain root, each wrapped under the key above it (R325): the key-store journal records are discarded
(R326). -/
def Dev.newMaster (d : Dev) : Dev :=
  let (b, d) := d.draw 128
  let part := fun i => slice (32 * i) 32 b
  let d := d.onBackup (fun b => { b with emberShares := [xorBytes (part 0) (part 1), part 1], reprovisioned := true })
  d.onVault (fun v => { v with
    deviceRoot := none, master := some (part 2), domainRoot := some (part 3), masterWrapped := wrapKey (d.rootOfBoot.getD []) (part 2), domainWrapped := wrapKey (part 2) (part 3)
    recovered := true, updates := [], journalUsed := 0, journalHigh := false })

/-- VLT_CMD_INIT (R325): in SEALED; the key store is erased, and every index keeps its last check tag (R301). (DESIGN CHOICE, assumption log 101) -/
def effVltInit : Effect := withArg 0 fun d _ =>
  if d.modes.mode != .sealed || d.lcState ≥ 4 then deny d (Reply.err resState)
  else
    let d := d.newMaster
    let tags := d.vault.nodes.foldl (fun t e => tabSet e.1 e.2.tag t) d.vault.tags
    let d := d.dropPlacements (fun _ _ => true)
    accept (d.onVault (fun v => { v with nodes := [], tags := tags, roots := [], retained := [], lowMarks := [], misses := [], roomless := [], invalidations := [],
                                         store := [], marks := [], reserved := [], seqs := [], transport := [], recovering := false, homeMoves := [] }))

/-- VLT_CMD_RECOVER (R325, R326): in SEALED; the key-store area is kept as its last compaction left it, with each slice's mark, and slices stay closed until a peer
supplies their roots. Stateful keys do not survive. (DESIGN CHOICE, assumption log 101) -/
def effVltRecover : Effect := withArg 0 fun d _ =>
  if d.modes.mode != .sealed || d.lcState ≥ 4 then deny d (Reply.err resState)
  else
    let d := d.newMaster
    let d := d.dropPlacements (fun _ _ => true)
    accept (d.onVault (fun v => { v with
      recovering := true, roots := v.roots.map (fun e => (e.1, { e.2 with closed := true, key := [] })), seqs := v.marks, misses := [], roomless := [], invalidations := [],
      tags := v.nodes.foldl (fun t e => tabSet e.1 e.2.tag t) v.tags, nodes := (v.store.filter (fun e => !e.2.isStateful)).map (fun e => (e.1, e.2.evicted)) }))

/-- The sums of VLT_REPL_LAG over the members of one slice (R328). -/
def Dev.replLag (d : Dev) (i : Nat) : Nat := (List.range 16).foldl (fun a m => a + d.num P.vltReplLag (16 * i + m)) 0

/-- An identity stands in VLT_GROUP_MEMBERS (R327). -/
def Dev.groupMember (d : Dev) (id : Bytes) : Bool := (List.range 16).any (fun r => (d.oct P.vltGroupMembers r).take 32 == id && !(d.oct P.vltGroupMembers r).isEmpty)

/-- VLT_CMD_SET_HOME (R330): the old home stops accepting the slice's persistent updates at once; a new home waits for a lag of 0. -/
def effVltSetHome : Effect := withArg 34 fun d m =>
  let i := leAt 0 2 m.body
  let id := m.body.drop 2
  if i ≥ 4096 then deny d (Reply.range P.vltCmdSetHome)
  else if id != deviceIdentity && !d.groupMember id then deny d (Reply.range P.vltCmdSetHome)
  else
    let d := if id == deviceIdentity && !d.isHome i && d.replLag i != 0 then d.onVault (fun v => { v with homeMoves := v.homeMoves.filter (· != i) ++ [i] })
             else d.onVault (fun v => { v with homeMoves := v.homeMoves.filter (· != i) })
    accept (d.setOct P.vltSliceHome i id)

/-! ### The commands -/

def execGenerate (j : Nat) (s : State) := s.run fun d => d.compute j (opIs 0x5001) (fun _ q _ => generateResult q)
def execWrapExport (j : Nat) (s : State) := s.run fun d => d.compute j (opIs 0x5002) (fun d q _ => wrapExportResult d q)
def execUnwrapImport (j : Nat) (s : State) := s.run fun d => d.compute j (opIs 0x5003) (fun d q _ => unwrapImportResult d q)
def execDestroy (j : Nat) (s : State) := s.run (destroy 0x5004 j)
def execRevokeChildren (j : Nat) (s : State) := s.run (revokeChildren j)
def execRestrict (j : Nat) (s : State) := s.run (restrict j)
def execQuery (j : Nat) (s : State) := s.run fun d => d.compute j (opIs 0x5007) (fun d q _ => queryResult d q)
def execSeqQuery (j : Nat) (s : State) := s.run fun d => d.compute j (opIs 0x5008) (fun d q _ => seqQueryResult d q)
def execUnloadCurve (j : Nat) (s : State) := s.run (destroy 0x310E j)
def execSoftwarePortGenerate (j : Nat) (s : State) := s.run (portGenerate j)
def execVltCmdInit (m : Msg) (s : State) := s.run fun d => d.serve d.lc P.vltCmdInit 0 m false effVltInit
def execVltCmdRecover (m : Msg) (s : State) := s.run fun d => d.serve d.lc P.vltCmdRecover 0 m false effVltRecover
def execVltCmdSetHome (m : Msg) (s : State) := s.run fun d => d.serve d.lc P.vltCmdSetHome 0 m false effVltSetHome

end Sys2Proof.Machine
end

