-- ==== Sys2Proof/Machine/Microprograms.lean ====
section
/-! DEFINITION. The microprogram library, slot configurations and rollout (R172 to R185). -/

namespace Sys2Proof.Machine

/-! ### Containers (R172 to R175) -/

/-- Lengths in a header: entries, code, twiddles, known answers; and of the whole container. -/
def mpLens (h : Bytes) : Nat × Nat × Nat × Nat := (leAt 6 2 h, leAt 24 4 h, leAt 28 4 h, leAt 32 4 h)
def mpTotal (h : Bytes) : Nat := let (n, c, t, k) := mpLens h
                                 64 + 32 * n + c + 4 * t + k + 2592 + 4627

/-- Check 1 of R176. -/
def mpFormatOk (c : Bytes) : Bool :=
  let (n, cl, t, k) := mpLens c
  c.length ≥ 64 && leAt 0 4 c == 0x4F514D50 && leAt 4 2 c == 1 && 1 ≤ n && n ≤ 32 && leAt 21 1 c / 16 == 0 &&
  leAt 22 2 c / 4 == 0 && cl % 4 == 0 && 4 ≤ cl && cl ≤ 61440 && t ≤ 4096 && 1 ≤ k && k ≤ 1048576 && allZero (slice 36 28 c) && c.length == mpTotal c

/-- A container by its parts. -/
def mpParse (c : Bytes) : Microprogram :=
  let (n, cl, t, k) := mpLens c
  { mpId := leAt 8 4 c, version := leAt 12 4 c, svn := leAt 16 4 c, authority := leAt 20 1 c, orders := leAt 21 1 c, flags := leAt 22 2 c, measurement := Sha2.sha384 (c.take (64 + 32 * n + cl + 4 * t + k + 2592)),
    table := (entryPieces n (c.drop 64)).map MpEntry.parse, code := slice (64 + 32 * n) cl c, tables := slice (64 + 32 * n + cl) (4 * t) c,
    kat := slice (64 + 32 * n + cl + 4 * t) k c }

/-- Check 2 (R172, R175): OTP enables an integrator authority where its hash is programmed; an AUTHORITY other than 1 and 2 is refused. (DEDUCED, assumption log 99) -/
def mpAuthorityOk (c : Bytes) : Bool :=
  let key := slice (c.length - 2592 - 4627) 2592 c
  if leAt 20 1 c == 1 then Sha2.sha384 key == vendorHash 1 else leAt 20 1 c == 2 && !allZero (vendorHash 3) && Sha2.sha384 key == vendorHash 3

/-- Check 5: the entry records (R173), with a known answer for each order and opcode, and the family range of the authority (R175). -/
def mpEntriesOk (c : Bytes) : Bool :=
  let m := mpParse c
  (entryPieces (leAt 6 2 c) (c.drop 64)).all (fun b => leAt 6 2 b == 0) &&
  m.table.all (fun e =>
    e.entry % 4 == 0 && e.entry < m.code.length && e.eflags / 16 == 0 && e.keyUse ≤ 6 &&
    (List.range 4).all (fun o => !m.orders.testBit o || (e.ceil.getD o 0 != 0 && Config.katCovers m.kat e.opcode o)) &&
    (if m.authority == 1 then 0x10 ≤ e.opcode / 256 && e.opcode / 256 ≤ 0x6F else e.opcode / 256 == 0x70))

/-- The library as it will be once every accepted install has committed (R176): the later checks look at it. (DEDUCED, assumption log 99) -/
def Dev.libraryToBe (d : Dev) : List Microprogram :=
  d.lib.library ++ d.vault.updates.filterMap (fun u => match u.kind with | .library c => some (mpParse c) | _ => none)

/-- Check 6: another MP_ID in the library binds one of its opcodes. -/
def Dev.mpConflict (d : Dev) (m : Microprogram) : Bool :=
  d.libraryToBe.any (fun x => x.mpId != m.mpId && x.table.any (fun y => m.table.any (fun e => y.opcode == e.opcode)))

/-- Check 8: 32 MiB in all, and at most 8 versions of one MP_ID (R177). (DEDUCED, assumption log 100) -/
def Dev.mpFull (d : Dev) (m : Microprogram) : Bool :=
  d.libraryToBe.foldl (fun a x => a + x.size) m.size > 32 * 1024 * 1024 || (d.libraryToBe.filter (fun x => x.mpId == m.mpId)).length ≥ 8

/-- The first failing check of R176, by its reason. (DEDUCED, assumption log 99) -/
def Dev.mpBar (d : Dev) (c : Bytes) : Option String :=
  let m := mpParse c
  let n := c.length - 4627
  if !mpFormatOk c then some "FORMAT"
  else if !mpAuthorityOk c then some "AUTHORITY"
  else if !mlDsa87Verify (slice (n - 2592) 2592 c) (c.take n) [] (c.drop n) then some "SIGNATURE"
  else if m.svn < d.num P.mpgMinSvn m.mpId then some "ROLLBACK"
  else if !mpEntriesOk c then some "ENTRY"
  else if d.mpConflict m then some "OPCODE_CONFLICT"
  else if d.libraryToBe.any (fun x => x.mpId == m.mpId && x.version == m.version) then some "DUPLICATE"
  else if d.mpFull m then some "SPACE" else none

/-! ### Library commands (R176, R177) -/

/-- A version stands in some tile's slot configuration, or a rollout in progress is to put it there (R177, R182). (DEDUCED, assumption log 100) -/
def Dev.mpInUse (d : Dev) (id ver : Nat) : Bool :=
  (List.range nTiles).any (fun t => (d.slots t).contains (id, ver)) ||
  (d.lib.rolloutState == 1 && d.lib.rolloutTiles.any (fun t => (tabGet (d.slots t) t d.lib.target).contains (id, ver)))

/-- A library update waits for its commit: the response follows it. -/
def Dev.libJournal (d : Dev) (m : Msg) (k : UpdateKind) : Option Reply × Dev :=
  (none, d.journal { req := none, slice := 0xFFFF, seq := 0, opcode := 0, parent := 0, kind := k, parentGen := 0, acked := true, status := 0, output := [],
                     ticket := some (m.src, m.reqId.toNat) })

/-- MPG_INSTALL of MPG_CONTAINER. -/
def effMpgInstall : Effect := withArg 0 fun d m =>
  match d.mpBar d.lib.container with
  | some why => deny d (Reply.refused why 0)
  | none => d.libJournal m (.library d.lib.container)

/-- MPG_REMOVE: refused while a slot configuration names the version. (DEDUCED, assumption log 100) -/
def effMpgRemove : Effect := withArg 8 fun d m =>
  let id := leAt 0 4 m.body
  let ver := leAt 4 4 m.body
  if (d.mp? id ver).isNone then deny d (Reply.range P.mpgRemove)
  else if d.mpInUse id ver then deny d (Reply.err resState)
  else d.libJournal m (.libraryRemove id ver)

/-- MPG_MIN_SVN of the MP_ID in ROW: it never falls, nor passes the SVN of a version that a slot configuration names. (DEDUCED, assumption log 100) -/
def effMpgMinSvn : Effect := withArg 4 fun d m =>
  let id := m.row.toNat
  let v := leNat m.body
  if v < d.num P.mpgMinSvn id || d.lib.library.any (fun x => x.mpId == id && d.mpInUse id x.version && x.svn < v) then deny d (Reply.range P.mpgMinSvn)
  else accept (d.setNum P.mpgMinSvn id v)

/-- The effect of a library update at its commit. -/
def Dev.libApply (d : Dev) (k : UpdateKind) : Dev :=
  match k with
  | .library c => d.onLib (fun l => { l with library := l.library ++ [mpParse c] })
  | .libraryRemove id ver => d.onLib (fun l => { l with library := l.library.filter (fun x => !(x.mpId == id && x.version == ver)) })
  | .librarySvn id svn => d.setNum P.mpgMinSvn id svn
  | _ => d

/-! ### Slot configurations (R178, R179) -/

/-- A slot's footprint in KiB (R178). -/
def Dev.footprint (d : Dev) (s : Nat × Nat) : Nat := match d.mp? s.1 s.2 with | some m => m.footprint | none => 0

/-- The version is in the library, and no removal of it waits for its commit. -/
def Dev.mpStays (d : Dev) (s : Nat × Nat) : Bool := (d.mp? s.1 s.2).isSome && !d.vault.updates.any (fun u => u.kind == .libraryRemove s.1 s.2)

/-- The 16 slots of a value of MPG_SLOT_CONFIG; a slot of zeros is empty. -/
def slotsOf (b : Bytes) : List (Nat × Nat) := ((List.range 16).map (fun i => (leAt (8 * i) 4 b, leAt (8 * i + 4) 4 b))).filter (fun s => s != (0, 0))

/-- Two slots of one MP_ID. -/
def slotTwice : List (Nat × Nat) → Bool
  | [] => false
  | s :: r => r.any (fun x => x.1 == s.1) || slotTwice r

/-- A configuration that R178 and R179 allow. -/
def Dev.slotsOk (d : Dev) (l : List (Nat × Nat)) : Bool :=
  !slotTwice l && l.all d.mpStays && l.foldl (fun a s => a + d.footprint s) 0 ≤ 64

/-- A write to MPG_SLOT_TARGET. -/
def Dev.writeTarget (d : Dev) (t : Nat) (b : Bytes) : Option Reply × Dev :=
  if b.length != 128 then deny d (Reply.err resLength)
  else if !d.slotsOk (slotsOf b) then deny d (Reply.range P.mpgSlotTarget)
  else accept (d.onLib (fun l => { l with target := tabSet t (slotsOf b) l.target }))

/-! ### Rollout (R182, R183) -/

/-- Rollout states: 0 IDLE, 1 running, 2 stopped; reasons: 1 the tile failed or lost its power before it had drained, 2 after (DESIGN CHOICE, assumption log 35). -/
def Dev.stopRollout (d : Dev) (t reason : Nat) : Dev :=
  d.onLib (fun l => { l with rolloutState := 2, rolloutStopped := t, rolloutReason := reason, rolloutTiles := [] })

/-- A drained tile takes its target as its configuration in force and enters RETURNING (R182 steps 2 and 3). -/
def Dev.writeSlots (d : Dev) (t : Nat) : Dev :=
  let new := tabGet (d.slots t) t d.lib.target
  let d := d.onLib (fun l => { l with config := tabSet t new l.config, rolloutTiles := l.rolloutTiles.filter (· != t) })
  (d.setPool t .returning .host).onUnit t (fun u => { u with returnStep := 2, matched := 0 })

/-- Ask the current tile of a rollout to drain (R182 step 1). -/
def Dev.rolloutDrain (d : Dev) (t : Nat) : Dev := (d.onLib (fun l => { l with rolloutDraining := true })).drainUnit t .host

/-- Move a rollout on (R182, R183): drain the next tile, write a drained one, go on when it has joined, stop where it failed: a tile that a fault takes OUT while
it drains has failed. (DESIGN CHOICE, assumption log 35) -/
def Dev.rolloutStep (d : Dev) : Dev :=
  if d.lib.rolloutState != 1 then d
  else
    let t := d.lib.rolloutCurrent
    let p := (d.unit t).pool
    if d.lib.rolloutTiles.contains t then
      (match p with
       | .out => if d.lib.rolloutDraining && (d.unit t).outEdge == .alarm then d.stopRollout t 1 else d.writeSlots t
       | .off => d.stopRollout t 1
       | .draining => d.onLib (fun l => { l with rolloutDraining := true })
       | _ => d.rolloutDrain t)
    else if p == .inPool then
      match d.lib.rolloutTiles with
      | [] => d.onLib (fun l => { l with rolloutState := 0 })
      | n :: _ => (d.onLib (fun l => { l with rolloutCurrent := n, rolloutDraining := false })).rolloutDrain n
    else if p == .out || p == .off then d.stopRollout t 2
    else d

/-- MPG_CMD_ROLLOUT: the tiles of a mask, in ascending order, each to its target. A tile whose target is its configuration in force needs no change and keeps
serving (R179); so a new rollout goes on with the tiles not yet handled (R183). (DEDUCED, assumption log 126) -/
def effRollout : Effect := withArg 16 fun d m =>
  let v := leNat m.body
  let mask := (List.range nTiles).filter (fun t => v.testBit t)
  let l := mask.filter (fun t => tabGet (d.slots t) t d.lib.target != d.slots t)
  if mask.isEmpty then deny d (Reply.range P.mpgCmdRollout)
  else if d.lib.rolloutState == 1 then deny d (Reply.err resBusy)
  else if l.any (fun t => (d.unit t).pool == .off) then deny d (Reply.err resState)
  else if !l.all (fun t => d.slotsOk (tabGet (d.slots t) t d.lib.target)) then deny d (Reply.range P.mpgSlotTarget)
  else match l with
    | [] => accept (d.onLib (fun x => { x with rolloutState := 0, rolloutTiles := [], rolloutStopped := 0, rolloutReason := 0 }))
    | n :: _ => accept ((d.onLib (fun x => { x with rolloutState := 1, rolloutDraining := false, rolloutTiles := l, rolloutCurrent := n, rolloutStopped := 0, rolloutReason := 0 })).rolloutStep)

/-! ### The commands -/

def execMpgInstall (m : Msg) (s : State) := s.run fun d => d.serve d.lc P.mpgInstall 0 m false effMpgInstall
def execMpgRemove (m : Msg) (s : State) := s.run fun d => d.serve d.lc P.mpgRemove 0 m false effMpgRemove
def execMpgMinSvn (m : Msg) (s : State) := s.run fun d => d.serve d.lc P.mpgMinSvn 0 m true effMpgMinSvn
def execMpgCmdRollout (m : Msg) (s : State) := s.run fun d => d.serve d.lc P.mpgCmdRollout 0 m false effRollout

end Sys2Proof.Machine
end

