-- ==== Sys2Proof/Machine/Cycles.lean ====
section
/-! DEFINITION. Tile cycles of an operation at quench level 2, as the dispatcher's estimate takes them (R79, R189, R207 to R210, R219, R222,
R234, R237, R244). -/

namespace Sys2Proof.Machine

/-- Row `ps`, column `order` of a table of counts for masking orders 1 to 3. -/
def orderCount (t : List (List Nat)) (ps order : Nat) : Nat := (t.getD (ps - 1) []).getD (order - 1) 0

/-- ML-KEM (R208) and the encapsulation-key check (R193). -/
def mlKemCycles (ps o order : Nat) : Nat :=
  if o == 1 then orderCount [[17800, 22600, 28400], [27700, 35200, 44300], [41800, 53100, 66900]] ps order
  else if o == 3 then [20600, 31400, 46800].getD (ps - 1) 0
  else if o == 4 then orderCount [[20400, 25300, 31600], [31700, 39400, 49200], [47600, 59200, 73900]] ps order
  else [900, 1300, 1700].getD (ps - 1) 0

/-- ML-DSA means (R209). -/
def mlDsaCycles (ps o order : Nat) : Nat :=
  if o == 1 then orderCount [[129500, 157100, 192400], [214300, 260700, 319300], [268800, 321300, 387900]] ps order
  else if o == 2 then orderCount [[112300, 135100, 164200], [187800, 226700, 275800], [228200, 269300, 321300]] ps order
  else [31000, 51000, 83000].getD (ps - 1) 0

/-- Seed expansion (R189): 0.78 and 1.28 times the order-2 figure at orders 1 and 3. -/
def expansionCycles (f ps order : Nat) : Nat :=
  (if f == 0x10 then [13900, 21900, 33000] else [22000, 34000, 52000]).getD (ps - 1) 0 * [78, 100, 128].getD (order - 1) 100 / 100

/-- FN-DSA means (R210); one of the two computations of a signature. -/
def fnDsaCycles (ps o : Nat) : Nat :=
  if o == 1 then [9600000, 28800000].getD (ps - 1) 0 else if o == 2 then [291450, 600000].getD (ps - 1) 0 else [34000, 68000].getD (ps - 1) 0

/-- SLH-DSA (R222): odd sets are SHA2, at 9.0 times the SHAKE figure, VERIFY at 4.5 times. -/
def slhCycles (ps o : Nat) : Nat :=
  let i := (ps - 1) / 2
  let v := [29100, 81600, 45000, 122000, 68000, 128000].getD i 0
  let k := if o == 1 then [3300000, 52000, 4900000, 76000, 3200000, 200000].getD i 0 else [170000000, 3400000, 300000000, 5600000, 265000000, 11200000].getD i 0
  if o == 3 then (if ps % 2 == 1 then v * 9 / 2 else v) else if ps % 2 == 1 then 9 * k else k

/-- A figure of an n = 24 type: 0.8 times, to the nearest 1,000 (R234). -/
def figure24 (n v : Nat) : Nat := if n == 24 then (8 * v + 5000) / 10000 * 1000 else v
/-- VERIFY, SIGN less VERIFY, crossing and leaf of an LM-OTS type (R234). -/
def otsFigures (t : Nat) : Nat × Nat × Nat × Nat :=
  let w := (t - 1) % 4
  let g := figure24 (otsN t)
  if otsHash t == 0 then (g ([36000, 40000, 64000, 270000].getD w 0), g ([0, 0, 170000, 610000].getD w 0), g ([0, 0, 70000, 290000].getD w 0), g ([0, 0, 128000, 1020000].getD w 0))
  else (g ([24000, 26000, 40000, 160000].getD w 0), g ([0, 0, 150000, 520000].getD w 0), g ([0, 0, 60000, 250000].getD w 0), g ([0, 0, 100000, 800000].getD w 0))
/-- The same for one layer of an XMSS or XMSS^MT OID. -/
def xmssFigures (mt : Bool) (oid : Nat) : Nat × Nat × Nat × Nat :=
  let g := figure24 (xmssN mt oid)
  let sha := if mt then oid ≤ 0x28 else oid ≤ 0x0F
  if sha then (g 96000, g 255000, g 110000, g 190000) else (g 60000, g 210000, g 90000, g 150000)

/-- Crossing figures of one signature: each level below the top whose tree the index opens (R234). -/
def crossingCycles (index : Nat) : List (Nat × Nat) → Nat × Nat
  | [] => (0, 1)
  | [x] => (0, 2 ^ x.1)
  | x :: y :: r => let (c, span) := crossingCycles index (y :: r)
                   ((if index != 0 && index % span == 0 then y.2 else 0) + c, span * 2 ^ x.1)

/-- The LM-OTS types that an HSS signature carries, top level first (R226). -/
def hssTypes : Nat → Bytes → List Nat
  | 0, _ => []
  | k + 1, b => beNat (slice 4 4 b) :: (match lmsParse b with
    | some n => hssTypes k (b.drop (n + lmsPubLen (beNat (slice n 4 b))))
    | none => [])

/-- SIGN of a stateful key at an index (R234). -/
def statefulSignCycles (f : Nat) (desc : Bytes) (index : Nat) : Nat :=
  if f == 0x19 then
    let r := hssRecords desc
    let figs := r.map (fun x => otsFigures x.2)
    let verify := figs.foldl (fun a x => a + x.1 / 2) 0
    let bottom := figs.getLastD (0, 0, 0, 0)
    (bottom.2.1 - bottom.1) + verify + (crossingCycles index ((r.zip figs).map (fun x => (lmsHeight x.1.1, x.2.2.2.1)))).1
  else
    let (mt, oid) := xmssDesc desc
    let g := xmssFigures mt oid
    let hs := levelHeights f desc
    g.2.1 + (hs.length - 1) * g.1 + (crossingCycles index (hs.map (fun h => (h, g.2.2.1)))).1

/-- KEYGEN of a stateful key: 2^H leaves of the top tree of each level (R234). -/
def statefulKeygenCycles (f : Nat) (desc : Bytes) : Nat :=
  if f == 0x19 then (hssRecords desc).foldl (fun a x => a + 2 ^ lmsHeight x.1 * (otsFigures x.2).2.2.2) 0
  else (levelHeights f desc).foldl (fun a h => a + 2 ^ h * (xmssFigures (xmssDesc desc).1 (xmssDesc desc).2).2.2.2) 0

/-- VERIFY of a stateful signature. -/
def statefulVerifyCycles (d : Dev) (q : Request) : Nat :=
  let f := q.desc.opcode / 256
  let mt := d.mtOf q.slice q.desc
  let pl := if q.desc.pkin then statefulPkLen f mt q.input else 0
  let pk := if q.desc.pkin then q.input.take pl else d.publicOf q.desc.keyA
  if f == 0x19 then (hssTypes (beNat (pk.take 4)) (q.input.drop (pl + 4))).foldl (fun a t => a + (otsFigures t).1 / 2) 0
  else
    let oid := beNat (pk.take 4)
    (if mt then (xmssMtShape oid).2 else 1) * (xmssFigures mt oid).1

/-- Cycles of one computation of a request on tile `u` at a masking order, at level 2. Of an integrator operation, whose header gives ceilings and no
counts, the ceiling of the version loaded there, at order 0 where it does not mask (R173, R181). (DESIGN CHOICE, assumption log 103) -/
def Dev.tileCycles (d : Dev) (q : Request) (order u : Nat) : Nat :=
  let op := q.desc.opcode
  let f := op / 256
  let ps := lowSet op
  let o := lowOp op
  let seedKey := (f == 0x10 || f == 0x11) && (if o == 1 then q.desc.aux? 0 else (d.node? (handleObj q.desc.keyA)).any Node.seedForm) && (o == 1 || o == 2 || o == 4)
  let seed := if seedKey then expansionCycles f ps order else 0
  match f with
  | 0x10 => mlKemCycles ps o order + seed
  | 0x11 => mlDsaCycles ps o order + seed
  | 0x12 => fnDsaCycles ps o
  | 0x18 => slhCycles ps o
  | 0x20 =>
    if o == 1 then orderCount [[100000, 120000, 146000], [208000, 250000, 305000], [350000, 420000, 512000]] ps order
    else if o == 3 then [204000, 470000, 820000].getD (ps - 1) 0
    else if o == 4 then orderCount [[209100, 255000, 316200], [482000, 590000, 730000], [840000, 1030000, 1270000]] ps order
    else 200
  | 0x21 =>
    if o == 1 then orderCount [[78300000, 81600000, 85700000], [106000000, 110000000, 115500000]] ps order
    else if o == 3 then (if q.desc.keyA == 0 then [5100000, 6450000] else [3400000, 4300000]).getD (ps - 1) 0
    else orderCount [[620000, 816000, 1060000], [760000, 1000000, 1300000]] ps order
  | 0x60 =>
    let a := (hybridAlgs op).1
    let lo := op % 256
    if lo < 0x20 then mlKemCycles (a / 16 % 16) (if lo % 2 == 1 then 3 else 4) order else mlDsaCycles (a / 16 % 16) (if lo % 2 == 1 then 2 else 3) order
  | 0x70 => (match d.bound? u op with | some e => e.2.ceil.getD (if e.2.eflags.testBit 1 then order else 0) 0 | none => 0)
  | _ =>
    if o == 1 then statefulKeygenCycles f (q.input.drop 8)
    else if o == 2 then (match d.node? (handleObj q.desc.keyA) with
      | some x => statefulSignCycles f x.params ((x.stateful.map Stateful.next).getD 0)
      | none => 0)
    else statefulVerifyCycles d q

end Sys2Proof.Machine
end

