-- ==== Sys2Proof/Machine/Smith.lean ====
section
/-! DEFINITION. Smith-core threads: the 4,096 contexts, who holds one, and which threads the 16 cores run (R88, R89, R393). -/

namespace Sys2Proof.Machine

/-! ### Who needs a thread -/

/-- The request is a persistent update (R316): a persistent creation, or an act on a persistent object or on the slice root. -/
def Dev.persistentUpdate (d : Dev) (q : Request) : Bool :=
  let i := d.opReq q
  let h := if q.desc.opcode == 0x310E then q.desc.keyB else q.desc.keyA
  (i.makes && q.desc.aux? 1) || (i.acts && !isVol (handleObj h))

/-- The request runs in a smith thread (R88): a composite request, one of the key-management family, or one that commits to the key store. -/
def Dev.needsThread (d : Dev) (q : Request) : Bool := (d.opReq q).cls == 6 || q.desc.opcode / 256 == 0x50 || q.desc.opcode == 0x310E || d.persistentUpdate q

/-! ### Contexts and cores (R88, R393) -/

/-- Context numbers in all, and the first of the requests'. -/
def nContexts : Nat := 4096
def firstRequestContext : Nat := 256
/-- Smith cores, one for each hearth. -/
def nCores : Nat := 16

/-- The hearths reserved to a slice, and those reserved to none (R392). -/
def Dev.reservedBy (d : Dev) (i : Nat) : Nat := if d.sliceExists i && d.num P.slcReserve i == 1 then d.num P.slcHearthSet i else 0
def Dev.reservedHearths (d : Dev) : Nat := d.slices.foldl (fun m e => m ||| d.reservedBy e.1) 0

/-- The hearths whose smith cores and contexts a thread may use (R393): the slice's own where it has reserved some, else every unreserved one. -/
def Dev.threadHearths (d : Dev) (slice : Option Nat) : List Nat :=
  let own := match slice with | some i => d.reservedBy i | none => 0
  (List.range nCores).filter (fun h => if own != 0 then own.testBit h else !d.reservedHearths.testBit h)

/-- The context of a request's thread. -/
def Dev.threadOf (d : Dev) (o : ThreadOwner) : Option Nat := (d.disp.threads.find? (fun e => e.2.owner == o)).map Prod.fst

/-- The lowest free request context of a slice: 240 contexts belong to each hearth (R393). (DESIGN CHOICE, assumption log 114) -/
def Dev.freeContext (d : Dev) (slice : Nat) : Option Nat :=
  ((d.threadHearths (some slice)).flatMap (fun h => (List.range 240).map (fun k => firstRequestContext + 240 * h + k))).find?
    (fun c => (tabGet? c d.disp.threads).isNone)

/-- The request's thread has a context, or may have one (R68). -/
def Dev.threadFree (d : Dev) (r : Nat) (q : Request) : Bool := (d.threadOf (.request r)).isSome || (d.freeContext q.slice).isSome

/-- A request that becomes ready gets its thread (R88). -/
def Dev.openThread (d : Dev) (r : Nat) (q : Request) : Dev :=
  if !d.needsThread q || (d.threadOf (.request r)).isSome then d
  else match d.freeContext q.slice with
    | none => d
    | some c => d.onDisp (fun x => { x with threads := tabSet c { owner := .request r, deadline := q.deadline, state := .ready } x.threads })

/-! ### Upkeep -/

/-- A request's thread blocks on events: while it waits for a commit, or while a unit of the pool works for it (R89). -/
def Dev.threadBlocks (d : Dev) (r : Nat) (q : Request) : Bool :=
  q.phase == .committing || (d.jobsOf r).any (fun e => e.2.unit < nUnits && !e.2.kind.isShadow && !e.2.reported)

/-- The service tasks that have work, each with its context and whether an event has woken it (R88): journal commits while an update waits for its commit
record, quench analysis while a window has ended, the temper pass while it runs. A management message wakes and ends its task in one step.
(DESIGN CHOICE, assumption log 114) -/
def Dev.serviceTasks (d : Dev) : List (Nat × ThreadOwner × Bool) :=
  [(0, .commits, d.vault.updates.any (fun u => u.acked)), (1, .quench, d.quench.any (fun e => e.2.windowEnded)), (2, .temper, d.temperRuns)]

/-- The lesser deadline first; `none` is infinity, ties go to the lower context (R89). -/
def threadBefore (a b : Nat × Thread) : Bool :=
  match a.2.deadline, b.2.deadline with
  | some x, some y => x < y || (x == y && a.1 < b.1)
  | some _, none => true
  | none, some _ => false
  | none, none => a.1 < b.1

/-- The first thread of a list by deadline and context. -/
def firstThread (l : List (Nat × Thread)) : Option (Nat × Thread) :=
  l.foldl (fun m e => match m with | none => some e | some b => if threadBefore e b then some e else some b) none

/-- The slice whose cores a thread may use. -/
def Dev.threadSlice (d : Dev) (t : Thread) : Option Nat :=
  match t.owner with
  | .request r => (d.req? r).map Request.slice
  | _ => none

/-- The running threads, by core. -/
def Dev.runningOn (d : Dev) (h : Nat) : Option (Nat × Thread) := d.disp.threads.find? (fun e => e.2.state == .running h)

/-- Put a thread in a state. -/
def Dev.setThread (d : Dev) (c : Nat) (s : ThreadState) : Dev :=
  d.onDisp (fun x => { x with threads := x.threads.map (fun e => if e.1 == c then (e.1, { e.2 with state := s }) else e) })

/-- Give a ready thread a core: an idle one that may run it, else that of the running thread of latest deadline, where the new deadline is earlier
(R89). A halted core runs nothing (R457). -/
def Dev.placeThread (d : Dev) (e : Nat × Thread) : Dev :=
  let cores := (d.threadHearths (d.threadSlice e.2)).filter (fun h => !d.dbg.halted.contains h)
  match cores.find? (fun h => (d.runningOn h).isNone) with
  | some h => d.setThread e.1 (.running h)
  | none =>
    let busy := cores.filterMap (fun h => (d.runningOn h).map (fun x => (h, x)))
    let last := busy.foldl (fun (m : Option (Nat × Nat × Thread)) x => match m with | none => some x | some b => if threadBefore b.2 x.2 then some x else some b) none
    match last with
    | none => d
    | some (h, c, t) =>
      let earlier := match e.2.deadline, t.deadline with | some x, some y => decide (x < y) | some _, none => true | none, _ => false
      if earlier then (d.setThread c .preempted).setThread e.1 (.running h) else d

/-- Threads ready for a core, the earliest deadline first, at most `fuel`. -/
def Dev.runThreads (d : Dev) : Nat → List Nat → Dev
  | 0, _ => d
  | n + 1, tried =>
    match firstThread (d.disp.threads.filter (fun e => (e.2.state == .ready || e.2.state == .preempted) && !tried.contains e.1)) with
    | none => d
    | some e => (d.placeThread e).runThreads n (e.1 :: tried)

/-- The scheduler after an event (R88, R89): threads of requests that are released or gone end; a request's thread carries its effective deadline and blocks
where the request waits; a service task has a thread while it has work, its deadline that of the event that woke it plus DSP_SVC_BUDGET_US; then the cores
run the earliest deadlines. -/
def Dev.schedule (d : Dev) : Dev :=
  let eff := d.withEff
  let keep := d.disp.threads.filterMap (fun e => match e.2.owner with
    | .request r => (match d.req? r with
      | some q => if q.released then none
        else some (e.1, { e.2 with
          deadline := (match eff.find? (fun x => x.1.1 == r) with | some x => x.2 | none => q.deadline)
          state := if d.threadBlocks r q then .blocked else if e.2.state == .blocked then .ready else e.2.state })
      | none => none)
    | o => if d.serviceTasks.any (fun t => t.2.1 == o && t.2.2) then some e else none)
  let budget : Int := (d.num P.dspSvcBudgetUs 0 * ticksPerUs : Nat)
  let woken := d.serviceTasks.filter (fun t => t.2.2 && !keep.any (fun e => e.2.owner == t.2.1))
  let due : ThreadOwner → Option Int := fun o =>
    if o == .commits then
      (match d.vault.updates.find? (fun u => u.acked) with
       | some { req := some r, .. } => (match eff.find? (fun x => x.1.1 == r) with | some x => x.2 | none => some (d.now : Int))
       | some { req := none, carries := some t, .. } => t
       | _ => some (d.now : Int))
    else some (d.now : Int)
  let all := woken.foldl (fun l t => tabSet t.1 { owner := t.2.1, deadline := (due t.2.1).map (· + budget), state := .ready } l) keep
  let d := d.onDisp (fun x => { x with threads := all })
  d.runThreads d.disp.threads.length []

end Sys2Proof.Machine
end

