-- ==== Sys2Proof/Machine/Tuyere.lean ====
section
/-! DEFINITION. The dispatcher: readiness, the assignment pass, key loads, starts, release checks and epochs (R63 to R95, R97, R114, R115,
R227 to R231, R316, R330). -/

namespace Sys2Proof.Machine

/-! ### What a computation needs -/

/-- A stateful signature (R73, R227). -/
def Dev.signsStateful (d : Dev) (q : Request) : Bool := (d.opReq q).stateful && (d.opReq q).cls == 1

/-- The operation draws DRBG bytes for this request: not a deterministic signature, v1.5 or EdDSA, a GCM call without IV_GEN, or a PIN block of
format 0 (R200, R260, R285, R288, R354); of a composite signature, DET bears on the ML-DSA half alone, and the Ed25519 half draws nothing (R213). -/
def Dev.drawsBytes (d : Dev) (q : Request) (k : JobKind) : Bool :=
  let op := q.desc.opcode
  let f := op / 256
  (d.opReq q).draws &&
  !(((f == 0x11 || f == 0x18) && lowOp op == 2 || op == 0x3102) && q.desc.det) &&
  !(f == 0x60 && op % 256 ≥ 0x20 && (if k.half == 1 then op == 0x6025 else q.desc.det)) &&
  op != 0x3006 && op != 0x3202 && !(op == 0x4007 && !q.desc.aux? 1) && !(op == 0x4801 && q.desc.outFmt == 0)

/-- The bytes that a request's draw has (R344, R345): what its operation needs. (DEDUCED, assumption log 138) -/
def Dev.drawLen (d : Dev) (q : Request) : Nat :=
  let op := q.desc.opcode
  let f := op / 256
  let ps := lowSet op
  if f == 0x19 then 48 * leAt 8 1 q.input
  else if f == 0x1A then 96
  else if f == 0x30 then (if op % 256 == 1 then 64 else if op % 256 == 4 then q.desc.saltLen else hashLen q.desc.hashField)
  else if op == 0x3102 then 32
  else if f / 16 == 3 then (if op % 256 == 1 then d.curveAt q.slice (bits 15 8 q.desc.aux) (leAt 8 8 q.input) else d.curveAt q.slice (q.desc.aux % 256) q.desc.keyB).drawLen
  else if f == 0x40 then 12
  else if f == 0x48 then 8
  else if f == 0x50 then keyTypeLen (leAt 9 1 q.input)
  else if f == 0x60 then 32 + (if op % 256 < 0x20 then (hybridOf op).2.1.drawLen else 32)
  else if lowOp op == 1 then keyDraw f ps + 32
  else if f == 0x11 then 32
  else if f == 0x12 then 96
  else if f == 0x18 then pkLenOf f ps / 2
  else kemDraw f ps

/-- An operation draw is delivered (R344, R345): once per request, from the hearth instance of the unit, or instance 16 for the
software port; in EXHAUSTED the request completes with 0x0502 (R354); the flag of R352 is kept. -/
def drbgDrawDone (j : Nat) (d : Dev) : Dev :=
  match d.job? j with
  | none => d
  | some x =>
    match d.req? x.req with
    | none => d
    | some q =>
      if x.drawReady then d
      else if q.draw.isSome then d.onJob j (fun x => { x with drawReady := true })
      else
        let i := if q.desc.opcode == 0x5801 then 16 else if x.unit < nUnits then hearthOf x.unit else 0
        if d.num P.blwState 0 == blwExhausted then d.fail x.req 0x0502
        else if !d.generates i then d
        else
          let old := (d.inst i).age > ageReseed
          let (c, d) := d.generate i [] (d.drawLen q)
          let d := d.onReq x.req (fun q => { q with draw := some c, stretched := q.stretched || old })
          d.onJob j (fun x => { x with drawReady := true })

/-- The handles whose objects a computation loads: not the parents; of a composite request, its half's (R85, R105). -/
def Dev.workNeeds (d : Dev) (q : Request) (k : JobKind) : List KeyNeed :=
  let l := (d.keyNeeds q.slice q.desc q.input).filter (fun n => n.clsStatus != 0x0207)
  if (d.opReq q).cls == 6 then (if k.half == 1 then l.drop 1 else l.take 1) else l
/-- The objects, loaded curves apart, and the loaded curves. -/
def Dev.workKeys (d : Dev) (q : Request) (k : JobKind) : List Nat := ((d.workNeeds q k).filter (fun n => n.clsStatus != 0x0201)).map (fun n => handleObj n.handle)
def Dev.workCurves (d : Dev) (q : Request) (k : JobKind) : List Nat := ((d.workNeeds q k).filter (fun n => n.clsStatus == 0x0201)).map (fun n => handleObj n.handle)

/-- The key register or context holds this node for the slice at its generation and the masking order (R77, R107). -/
def Dev.holds (d : Dev) (q : Request) (n order : Nat) (k : KeyHeld) : Bool :=
  k.node == n && k.slice == q.slice && k.order == order && (match d.node? n with | some x => x.gen == k.gen | none => false)

/-- Key affinity (R77): the unit holds what the computation needs. A tile or big-number engine holds one key. -/
def Dev.affinity (d : Dev) (q : Request) (k : JobKind) (u order : Nat) : Bool :=
  let x := d.unit u
  (x.lastSlice.isNone || x.lastSlice == some q.slice) && (d.workCurves q k).all (fun c => x.curves.contains c) &&
  (if classOf u == 3 then (d.workKeys q k).all (fun n => x.contexts.any (fun c => d.holds q n 0 c.held))
   else match d.workKeys q k with | [] => true | n :: _ => x.key.any (d.holds q n order))

/-- The masking order at which a unit's key register holds a key. -/
def Dev.keyOrder (d : Dev) (q : Request) (u : Nat) : Nat := d.effectiveOrder q u

/-! ### Starting -/

/-- Start a reservation (R228): a journaled write that sets COMMITTED to min(NEXT + BLOCK, TOTAL), its commit under the deadline of the request that asks for
it. One that is pending is not started again. -/
def Dev.startReservation (d : Dev) (n : Nat) (q : Request) : Dev :=
  match d.node? n with
  | none => d
  | some x => match x.stateful with
    | none => d
    | some s =>
      if s.reserving then d
      else
        let up := Nat.min (s.next + s.block) s.total
        (d.onNode n (fun x => { x with stateful := some { s with reserving := true } })).journal
          { req := none, slice := x.slice, seq := 0, opcode := 0, parent := 0, kind := .reserve n up, parentGen := 0, acked := true, status := 0, output := [], ticket := none,
            carries := some q.deadline }

/-- Assign the next index of a stateful key to a computation, and start a reservation where the window runs low (R227, R228, R231); the traversal state moves on to
the next index (R225). With an empty window nothing is assigned, and the reservation that it waits for is started (R229). -/
def Dev.assignIndex (d : Dev) (r : Nat) (q : Request) : Dev :=
  let n := handleObj q.desc.keyA
  match d.node? n with
  | none => d
  | some x => match x.stateful with
    | none => d
    | some s =>
      if s.next ≥ s.committed then (if s.next < s.total then d.startReservation n q else d)
      else
        let d := d.onNode n (fun x => { x with stateful := some { s with next := s.next + 1, window := true }, tree := traversalOf (x.alg / 256) x.params x.material (s.next + 1) })
        let d := (d.onReq r (fun q => { q with index := some s.next })).noteLow [n] (some q.policy.statefulLow)
        if 4 * (s.committed - (s.next + 1)) < s.block then d.startReservation n q else d

/-- Begin a computation whose key and drawn bytes are in place on a unit that is neither scrubbed nor refreshed (R77, R109, R116, R344). -/
def Dev.begin (d : Dev) (j : Nat) : Dev :=
  match d.job? j with
  | none => d
  | some x =>
    match d.jobReq x with
    | none => d
    | some q =>
      let u := x.unit
      if x.begun.isSome || !x.keyReady || !(x.drawReady || q.draw.isSome) || (u < nUnits && ((d.unit u).scrubbing || (d.unit u).refreshing)) then d
      else
        let st := d.signsStateful q
        let d := if st && q.index.isNone && x.kind == .first then d.assignIndex x.req q else d
        if st && ((d.jobReq x).bind Request.index).isNone then d
        else
          let d := d.onJob j (fun x => { x with begun := some d.now, drawReady := true })
          if u < nTiles then
            let d := if (d.opReq q).masked then d.onQ u (fun y => { y with lastOrder := q.requestedOrder }) else d
            d.startTile u q.desc.opcode
          else d

/-- Begin every computation that can begin. -/
def Dev.startReady (d : Dev) : Dev := (d.disp.jobs.map Prod.fst).foldl (fun d j => d.begin j) d

/-! ### Readiness (R68) -/

/-- The read-only vault queries, which run under an alarm hold. -/
def readOnlyQuery (op : Nat) : Bool := op == 0x5007 || op == 0x5008 || op == 0x1904 || op == 0x1A04

/-- Held by the mode: QUIESCED, SEALED, or DEBUG under an alarm hold. A request that has entered service runs to its release point (R94).
(DEDUCED, assumption log 108) -/
def Dev.heldByMode (d : Dev) (q : Request) : Bool :=
  (d.modes.mode == .quiesced || d.modes.mode == .sealed || (d.modes.mode == .debug && d.modes.hold)) && !readOnlyQuery q.desc.opcode && !q.entered

/-- In BOOT with a spark generator unseeded. -/
def Dev.bootUnseeded (d : Dev) : Bool := d.modes.mode == .boot && (List.range nUnits).any (fun u => (d.configured u || (160 ≤ u && d.unitPowered u)) && !(d.unit u).spark.seeded)

/-- Nothing of R68 holds the request. -/
def Dev.isReady (d : Dev) (r : Nat) (q : Request) : Bool :=
  d.modes.mode.powered && !q.released && (q.phase == .waiting || q.phase == .inService) && !d.heldByMode q &&
  !(d.bearing q && (d.bootUnseeded || d.tamper.a1Hold)) && q.keysReady && d.keyFlowClear q && d.genericClear q &&
  d.fenceClear q && (!d.needsThread q || d.threadFree r q)

/-! ### Choosing a unit (R78, R79, R184, R239, R242) -/

/-- Tiles whose binding of the opcode is at the version of the tile that computed it before, where one is eligible (R184). -/
def Dev.sameVersion (d : Dev) (q : Request) (prior : Option Nat) (l : List Nat) : List Nat :=
  match prior with
  | none => l
  | some t =>
    let same := l.filter (fun u => u ≥ nTiles || d.binds u q.desc.opcode == d.binds t q.desc.opcode)
    if same.isEmpty then l else same

/-- What Classic McEliece adds to eligibility: a placement for ENCAPS by handle, one KEYGEN in each hearth. -/
def Dev.mcElieceOk (d : Dev) (q : Request) (u : Nat) : Bool :=
  if q.desc.opcode / 256 != 0x21 then true
  else if lowOp q.desc.opcode == 3 && q.desc.keyA != 0 then (d.placedHearths q.slice q.desc.keyA).contains (hearthOf u)
  else if lowOp q.desc.opcode == 1 then
    !d.disp.jobs.any (fun e => e.2.unit < nTiles && hearthOf e.2.unit == hearthOf u && e.2.unit != u &&
      (match d.req? e.2.req with | some r => r.desc.opcode / 256 == 0x21 && lowOp r.desc.opcode == 1 | none => false))
  else true

/-- Key load time in tile cycles: 0.8 µs (R308). (DESIGN CHOICE, assumption log 103) -/
def loadCycles : Nat := 1280

/-- est_finish without its common terms, as a fraction (R79): load plus cycles over the throughput factor, in tile cycles. (DESIGN CHOICE, assumption log 103) -/
def Dev.estimate (d : Dev) (q : Request) (k : JobKind) (u : Nat) : Nat × Nat :=
  let load := if d.affinity q k u (d.keyOrder q u) then 0 else loadCycles
  if u < nTiles then
    let f := levelFactor (d.level u)
    (load * f + (if q.desc.opcode / 256 == 0x70 then 100 else 95) * d.tileCycles q q.requestedOrder u, f)
  else (load, 1)

/-- The unit of least estimated finish, ties to the lower number. -/
def Dev.best (d : Dev) (q : Request) (k : JobKind) (l : List Nat) : Option Nat :=
  (l.foldl (fun (m : Option (Nat × Nat × Nat)) u =>
    let e := d.estimate q k u
    match m with
    | none => some (u, e)
    | some (_, b) => if e.1 * b.2 < b.1 * e.2 then some (u, e) else m) none).map Prod.fst

/-- The free units a computation may take. -/
def Dev.freeUnits (d : Dev) (q : Request) (k : JobKind) (prior : Option Nat) : List Nat :=
  let all := (d.eligibleUnits q (if k == .second then .first else k)).filter (d.mcElieceOk q)
  (d.sameVersion q prior all).filter d.unitFree

/-- The unit for a computation now: the vault, the software port when it is idle, or the best free unit. -/
def Dev.choose (d : Dev) (q : Request) (k : JobKind) : Option Nat :=
  let c := (d.opReq q).cls
  if c == 5 then some vaultUnit
  else if c == 4 then (if d.disp.jobs.any (fun e => e.2.unit == portUnit) then none else some portUnit)
  else d.best q k (d.freeUnits q k (if q.retried then (q.excluded.filter (· < nTiles)).getLast? else none))

/-! ### Assignment -/

/-- Give a computation of a request to a unit in the current epoch (R69, R77, R82): where the unit passes to another slice it is scrubbed and its
key cleared first (R108, R116). -/
def Dev.give (d : Dev) (r : Nat) (k : JobKind) (u : Nat) : Dev :=
  match d.req? r with
  | none => d
  | some q =>
    let d := if u < nTiles then d.abandonProbe u else d
    let passes := u < nUnits && (d.unit u).lastSlice.any (· != q.slice)
    let d := if passes then d.wipe u else d
    let order := d.effectiveOrder q u
    let aff := (d.workNeeds q k).isEmpty || (u < nUnits && !passes && d.affinity q k u order)
    let j := d.disp.nextJob
    let x : Job := { req := r, kind := k, unit := u, epoch := d.num P.dspEpoch 0, start := d.now, stop := none, order := order, keyReady := aff || u ≥ nUnits,
                     drawReady := !d.drawsBytes q k, result := none, abort := none, held := false, finished := false, begun := none, reported := false, expect := none,
                     copy := if k.isShadow then some q else none }
    let d := d.onDisp (fun y => { y with jobs := tabSet j x y.jobs, nextJob := j + 1 })
    let gens := if aff || u ≥ nUnits then (d.workNeeds q k).flatMap (fun n => d.gensOf (handleObj n.handle) q.slice) else []
    let d := d.onReq r (fun q => { q with phase := .inService, keyGens := if k.isShadow then q.keyGens else q.keyGens ++ gens, shadowed := q.shadowed || k.isShadow })
    if u < nUnits then
      let part := if d.signsStateful q then (match d.node? (handleObj q.desc.keyA) with
        | some n => traversalPart (q.desc.opcode / 256) n.params n.tree ((n.stateful.map Stateful.next).getD 0)
        | none => []) else []
      d.onUnit u (fun y => { y with job := some j, lastSlice := some q.slice, staging := part })
    else d

/-- A unit in probation shadows a live operation of this unit (R84, R123, R184), whatever the slice's hearth set: of its class, bound there, free, within
R239, and at the same version or at an earlier one whose results do not change. -/
def Dev.mayShadow (d : Dev) (q : Request) (k : JobKind) (live p : Nat) : Bool :=
  (d.unit p).pool == .probation && d.computes q k p && d.mcElieceOk q p && d.unitFree p && p != live &&
  (p ≥ nTiles || d.binds p q.desc.opcode == d.binds live q.desc.opcode ||
    (match d.binds p q.desc.opcode, d.binds live q.desc.opcode with
     | some a, some b => a.1 == b.1 && b.2 < a.2 && (match d.mp? a.1 a.2 with | some m => !m.flags.testBit 1 | none => false)
     | _, _ => false))

/-- Give every free unit in probation a shadow copy of an operation just assigned (R84). (DEDUCED, assumption log 105) -/
def Dev.shadow (d : Dev) (r : Nat) (q : Request) (k : JobKind) (live : Nat) : Dev :=
  if live ≥ nUnits then d
  else ((List.range nUnits).filter (fun p => (d.unit p).pool == .probation)).foldl (fun d p => if d.mayShadow q k live p then d.give r (if k.half == 1 then .shadowClassical else .shadow) p else d) d

/-- The second computation goes to another eligible free tile, at the version of the first (R115, R184). (DESIGN CHOICE, assumption log 31) (DEDUCED, assumption log 105) -/
def Dev.giveSecond (d : Dev) (r : Nat) (q : Request) (first : Nat) : Dev :=
  match d.best q .second ((d.freeUnits q .second (some first)).filter (· != first)) with
  | some u => d.give r .second u
  | none => d

/-- The computations of a request that still need a unit. -/
def Dev.missing (d : Dev) (r : Nat) (q : Request) : List JobKind :=
  let has := fun k => (d.jobsOf r).any (fun e => e.2.kind == k)
  let half := fun h => q.halves.any (fun e => e.1 == h)
  (if has .first || half 0 then [] else [.first]) ++
  (if (d.opReq q).cls == 6 && !has .classical && !half 1 then [.classical] else [])

/-- What an update's SEQ has it do before it runs (R316, R330): wait, complete, or run. -/
inductive UpdateTurn where
  | go
  | wait
  | done (st : Nat) (out : Bytes)

/-- The turn of a request that is a persistent update. -/
def Dev.updateTurn (d : Dev) (q : Request) : UpdateTurn :=
  if d.vault.homeMoves.contains q.slice then .wait
  else if !d.isHome q.slice then .done 0x0603 []
  else
    let h := if q.desc.opcode == 0x310E then q.desc.keyB else if (d.opReq q).acts then q.desc.keyA else q.desc.keyB
    let sq := q.updateSeq
    match d.seqCase q.slice sq q.desc.opcode h with
    | .done x => .done x.status (if x.status == 0 then x.output else [])
    | .conflict => .done 0x0209 []
    | .busy => .wait
    | .run =>
      if d.disp.reqs.any (fun e => e.2.seq != q.seq && e.2.slice == q.slice && !e.2.released && (e.2.phase == .inService || e.2.phase == .committing) &&
          d.persistentUpdate e.2 && e.2.updateSeq == sq) then .wait else .go

/-- A stateful signature whose key has no index left, or none committed (R229, R231): none where it may go on. (DEDUCED, assumption log 107) -/
def Dev.statefulTurn (d : Dev) (q : Request) : Option (Option Nat) :=
  match (d.node? (handleObj q.desc.keyA)).bind Node.stateful with
  | none => none
  | some s => if !d.ancestorsOk (handleObj q.desc.keyA) then none else if s.next ≥ s.total then some (some 0x0320) else if s.next ≥ s.committed then some none else none

/-- Assign what a ready request still needs (R69), at its first assignment after the tests of entropy, update order and indices. -/
def Dev.assign (d : Dev) (r : Nat) : Dev :=
  match d.req? r with
  | none => d
  | some q =>
    if !d.isReady r q then d
    else if d.missing r q == [] then
      -- a second computation that found no tile yet
      (match (d.jobsOf r).find? (fun e => e.2.kind == .first) with
       | some e => if d.twice q && !e.2.finished && !(d.jobsOf r).any (fun e => e.2.kind == .second) then d.giveSecond r q e.2.unit else d
       | none => d)
    else
      let d := d.openThread r q
      let fresh := q.phase == .waiting && q.draw.isNone
      if fresh && ((d.opReq q).entropy || q.desc.opcode == 0x5801) && d.num P.blwState 0 == blwExhausted then d.fail r 0x0502
      else
        match (if q.phase == .waiting && d.persistentUpdate q then d.updateTurn q else .go) with
        | .wait => d
        | .done st out => d.complete r { Completion.ofStatus st with output := out, engineClass := 5 }
        | .go =>
          match (if d.signsStateful q then d.statefulTurn q else none) with
          | some (some st) => d.fail r st
          | some none => d.startReservation (handleObj q.desc.keyA) q
          | none =>
            if (d.opReq q).cls == 5 && !(d.keyNeeds q.slice q.desc q.input).all (fun n => d.ancestorsOk (handleObj n.handle)) then d.fail r 0x0203
            else
              (d.missing r q).foldl (fun d k =>
                match d.choose q k with
                | none => d
                | some u =>
                  let d := (d.give r k u).shadow r q k u
                  if k == .first && d.twice q then d.giveSecond r q u else d) d


/-! ### Release (R90, R91) -/

/-- The execution overlapped an excursion window, of the device or of its tile (R91, R423). -/
def Dev.inWindow (d : Dev) (x : Job) : Bool :=
  let a := x.begun.getD x.start
  let b := x.stop.getD d.now
  d.tamper.windows.any (fun w => w.start ≤ b && (match w.stop with | some e => a ≤ e | none => true))
def Dev.inTileWindow (d : Dev) (x : Job) : Bool :=
  let a := x.begun.getD x.start
  let b := x.stop.getD d.now
  x.unit < nTiles && (d.unit x.unit).windows.any (fun w => w.1 ≤ b && a ≤ w.2)

/-- Some rail stands below its guard level (R91, R415). -/
def Dev.belowGuard (d : Dev) : Bool := (List.range 7).any (fun r => d.railWatched r && !d.railGood r)

/-- A released or recorded computation leaves its unit: its tile cycles enter the probe credit (R365), a pending level takes effect (R374), and the
unit scrubs where the operation asks for it (R116, R271). -/
def Dev.leave (d : Dev) (e : Nat × Job) (scrub : Bool) : Dev :=
  let d := d.dropJob e.1
  let u := e.2.unit
  let d := if u < nTiles then
      let c := (d.tile u).cycles
      (d.addCredit u (if c > 0 then c else 16 * (e.2.stop.getD d.now - e.2.begun.getD d.now))).applyLevel u
    else d
  if scrub && u < nUnits then d.scrub u else d

/-- The pages of an output range under OUT_HOST that have no translation (R45). -/
def pagesOf (a n : Nat) : List Nat := if n == 0 then [] else (List.range ((a % 4096 + n + 4095) / 4096)).map (fun i => (a / 4096 + i) % 2 ^ 52)
def Dev.pasid (d : Dev) (i : Nat) : Nat := d.num P.slcPasid i
def Dev.missingPages (d : Dev) (slice a n : Nat) : List Nat := (pagesOf a n).filter (fun p => !d.host.translations.contains (d.pasid slice, p))

/-- The bytes a request's success writes: handles of a creation and the unit's output (R190, R239). -/
def Dev.outBytes (d : Dev) (q : Request) (res : JobResult) : Nat :=
  if (d.opReq q).makes then (if q.desc.opcode / 256 == 0x21 && q.desc.aux? 2 then 16 else 8) + res.output.length else res.output.length

/-- A unit scrubs after this computation of an operation completes normally too (R116, R271); of a composite request, its lattice half, and the half that
made the ephemeral key of an ENCAPS. -/
def Dev.scrubsAfter (d : Dev) (q : Request) (k : JobKind) : Bool :=
  if (d.opReq q).cls == 6 then
    ((d.opReq q).scrub && k.half == 0) || (q.desc.opcode % 256 < 0x20 && k.half == 1 && q.desc.opcode % 2 == 1)
  else (d.opReq q).scrub

/-- Checks 5 and 6, then the release point (R90): a creation goes on to its commit. (DEDUCED, assumption log 104) (DEDUCED, assumption log 109) -/
def Dev.release (d : Dev) (r : Nat) (q : Request) (res : JobResult) (cls qa qb : Nat) : Dev :=
  let c : Completion := { status := res.status, output := if res.status == 0 then res.output else [], engineClass := cls, quadA := qa, quadB := qb }
  let n := if res.status == 0 then d.outBytes q res else 0
  if n > d.capacity q then d.fail r 0x0104
  else
    let miss := if q.outHost then d.missingPages q.slice q.desc.outPtr n else []
    if !miss.isEmpty then miss.foldl (fun d p => d.emit (.priRequest (d.pasid q.slice) (4096 * p))) d
    else
      let d := ((d.jobsOf r).filter (fun e => !e.2.kind.isShadow)).foldl (fun d e => d.leave e (d.scrubsAfter q e.2.kind)) d
      if res.status == 0 && (d.opReq q).makes then
        if q.desc.keyB != 0 && !(d.keyNeeds q.slice q.desc q.input).all (fun k => d.ancestorsOk (handleObj k.handle)) then d.complete r { c with status := 0x0203, output := [] }
        else d.create r q res c
      else d.complete r c

/-- Composite: both halves have passed checks 1 to 4; their outputs are combined and the request goes on as one (R85, R87). The halves' units stay theirs
until then, so that a failure of check 5 or 6 finds them (R83, R90). -/
def Dev.combine (d : Dev) (r : Nat) : Dev :=
  match d.req? r with
  | none => d
  | some q =>
    match q.halves.find? (fun e => e.1 == 0), q.halves.find? (fun e => e.1 == 1) with
    | some (_, a, ua), some (_, b, ub) =>
      d.release r q (d.hybridCombine q a b) (if ua < nTiles && nTiles ≤ ub && ub < 160 then 6 else 7) (quadOf ua) (quadOf ub)
    | _, _ => d

/-- Apply the release checks to one half of a request that has been reported (R90). (DEDUCED, assumption log 105) -/
def Dev.settleHalf (d : Dev) (r h : Nat) : Dev :=
  match d.req? r with
  | none => d
  | some q =>
    let js := (d.jobsOf r).filter (fun e => !e.2.kind.isShadow && e.2.kind.half == h)
    match js.find? (fun e => e.2.kind != .second) with
    | none => d
    | some e =>
      if q.released || !e.2.reported || q.phase == .waitTranslation || q.halves.any (fun x => x.1 == h) then d
      else if q.halfFail.isSome then d.fail r (q.halfStatus 0)
      else if h == 0 && d.twice q && !js.any (fun e => e.2.kind == .second) && (match e.2.result with | some x => x.status == 0 | none => false) then
        -- the second computation, on another free tile or on the same one (R115)
        let d' := d.giveSecond r q e.2.unit
        (if (d'.jobsOf r).any (fun e => e.2.kind == .second) then d' else d.give r .second e.2.unit).startReady
      else if js.any (fun e => !e.2.reported) then d
      else if d.releaseAfter q then d
      else if q.gen != d.num P.slcGeneration q.slice then d.dropReq r true
      else if !d.gensCurrent q.keyGens then d.failWork r h 0x0204
      else if js.any (fun e => d.inWindow e.2 || d.inTileWindow e.2) then
        d.withholdFor r js (if js.any (fun e => d.inWindow e.2) then P.dspRetryCount01 else P.dspRetryCount02)
      else if (d.belowGuard || e.2.held) && js.any (fun e => d.now < e.2.stop.getD 0 + ticksPerUs) then d.onJob e.1 (fun x => { x with held := true })
      else
        match e.2.result with
        | none => d
        | some res =>
          let second := (js.find? (fun e => e.2.kind == .second)).bind (fun e => e.2.result)
          if res.mismatch || (match second with | some y => y.mismatch || y.status != res.status || y.output != res.output || y.secret != res.secret | none => false) then
            if q.mismatches ≥ 1 then
              let d := js.foldl (fun d e => d.raiseUnit 0x0802 e.2.unit 0) (d.failWork r h 0x0401)
              js.foldl (fun d e => if e.2.unit < nUnits then d.unitOut e.2.unit .alarm else d) d
            else
              let d := d.onReq r (fun q => { q with mismatches := q.mismatches + 1 })
              let d := js.foldl (fun d e => d.raiseUnit 0x0800 e.2.unit 0) d
              d.withholdFor r js P.dspRetryCount03
          else if (d.opReq q).cls == 6 then
            let verify := q.desc.opcode % 256 ≥ 0x20 && q.desc.opcode % 2 == 0
            if res.status != 0 && !(verify && res.status == 0x0120) then d.halfFailed r h res.status
            else (d.onReq r (fun q => { q with halves := q.halves ++ [(h, res, e.2.unit)] })).combine r
          else
            let u := e.2.unit
            d.release r q res (classOf u) (if u < nUnits then quadOf u else 0) 0

/-- Settle every request whose results have been reported, in acceptance order (R71). -/
def Dev.settle (d : Dev) : Dev :=
  ((latestFirst d.disp.reqs).reverse.map Prod.fst).foldl (fun d r =>
    let d := (d.settleHalf r 0).settleHalf r 1
    match d.req? r with
    | some q => if (d.opReq q).cls == 6 && q.halves.length == 2 && !q.released then d.combine r else d
    | none => d) d

/-- A unit's or request's end has effects on the others (R71, R88): what waited for it settles, what can begin begins, and the threads run on. -/
def Dev.goOn (d : Dev) : Dev := (d.settle.startReady).schedule

/-- A pending abort is acted on (R163, R272): the computation ends and its unit scrubs, its key register too in an A3 or A4 response (R108, R116). With the
last that ran, the request completes with the status of its cause; one of an old generation (R401), or aborted by A4 (R94), leaves nothing behind. -/
def Dev.abortJob (d : Dev) (j : Nat) (x : Job) (q : Request) (st : Nat) : Dev :=
  let d := ((if st == 0x0701 || st == 0 then d.wipe x.unit else d.scrub x.unit).dropJob j)
  if (d.jobsOf x.req).any (fun e => e.2.runs) then d
  else
    (if q.gen != d.num P.slcGeneration q.slice then d.dropReq x.req false
     else if st == 0 then (d.dropReq x.req false).freezeSettled q.slice
     else d.fail x.req (q.halfStatus st)).goOn

/-- Compare a finished shadow result with the serving unit's (R84): equal, it counts; a difference sends the unit OUT (R81). The comparison waits until
both have been reported. -/
def Dev.compareShadow (d : Dev) (j : Nat) (scrub : Bool) : Dev :=
  match d.job? j with
  | none => d
  | some x =>
    match x.reported, x.result, x.expect with
    | true, some mine, some live =>
      let u := x.unit
      let d := d.dropJob j
      let d := if scrub then d.scrub u else d
      if mine.mismatch || mine.status != live.status || mine.output != live.output || mine.secret != live.secret then
        let d := if u < 160 then d.addNum P.dspShadowMismatchCount u 1 else d
        (d.raiseUnit 0x0802 u 0).unitOut u .alarm
      else d.onUnit u (fun y => { y with matched := y.matched + 1 })
    | _, _, _ => d

/-- A live result has been reported: the shadow copies of its computation have it to compare with (R84). -/
def Dev.tellShadows (d : Dev) (x : Job) (scrub : Bool) : Dev :=
  match x.result with
  | none => d
  | some res =>
    if res.mismatch || x.kind == .second then d
    else
      let mine := (d.jobsOf x.req).filter (fun e => e.2.kind.isShadow && e.2.kind.half == x.kind.half)
      mine.foldl (fun d e => (d.onJob e.1 (fun y => { y with expect := some res })).compareShadow e.1 scrub) d

/-- RESULT_FINISHED (R90): the unit reports; its service time is sampled (R381); the checks follow. (DEDUCED, assumption log 5) -/
def resultFinished (j : Nat) (d : Dev) : Dev :=
  match d.job? j with
  | none => d
  | some x =>
    if !x.finished || x.reported then d
    else
      let d := if x.unit < nUnits then d.sample (1152 + x.unit) ((d.now - x.start : Nat) : Int) else d
      let scrub := match d.jobReq x with | some q => d.scrubsAfter q x.kind | none => false
      let d := d.onJob j (fun x => { x with reported := true })
      if x.kind.isShadow then (d.compareShadow j scrub).rolloutStep
      else ((d.tellShadows x scrub).goOn).rolloutStep

/-- RELEASE_HOLD_EXPIRE (R91): 1 µs after the end of execution the hold ends, and check 3 is applied again. (DEDUCED, assumption log 109) -/
def releaseHoldExpire (j : Nat) (d : Dev) : Dev :=
  match d.job? j with
  | none => d
  | some x =>
    if !x.held || d.now < x.stop.getD 0 + ticksPerUs then d
    else (d.onJob j (fun x => { x with held := false })).goOn

/-! ### Key loads -/

/-- The key material of a node. -/
def Dev.nodeKey (d : Dev) (n : Nat) : Bytes := match d.node? n with | some x => x.material | none => []

/-- The vault reloads the key of a unit's operation from its cache (R102, R273). -/
def Dev.reloadKey (d : Dev) (u : Nat) : Dev := match (d.unit u).key with | some k => d.loadShares u k (d.nodeKey k.node) | none => d

/-- The computation a unit waits to load a key for. -/
def Dev.loading (d : Dev) (u : Nat) : Option Nat :=
  (d.unit u).job.filter (fun j => match d.job? j with | some x => !x.keyReady | none => false)

/-- KEY_LOAD_DONE (R77, R107, R309): the ancestor test again; the key stands in the register or context, its generations recorded. (DEDUCED, assumption log 5) -/
def keyLoadDone (u : Nat) (d : Dev) : Dev :=
  if (d.unit u).scrubbing || (d.unit u).refreshing then d
  else match d.loading u with
  | none => d
  | some j =>
    match d.job? j with
    | none => d
    | some x =>
      match d.jobReq x with
      | none => d.dropJob j
      | some q =>
        let ns := (d.workNeeds q x.kind).map (fun n => handleObj n.handle)
        if !ns.all d.ancestorsOk then (if x.kind.isShadow then d.dropJob j else (d.failWork x.req x.kind.half 0x0203).goOn)
        else
          let held := (d.workKeys q x.kind).map (fun n => ({ node := n, gen := (match d.node? n with | some y => y.gen | none => 0), slice := q.slice, order := x.order,
                                                              form := (if u < nTiles then (match d.binds u q.desc.opcode with | some s => Config.keyForm s.1 s.2 | none => 8) else 8) } : KeyHeld))
          let d := if classOf u == 3 then d.loadContexts u (held.map (fun k => (k, d.nodeKey k.node)))
            else d.onUnit u (fun y => { y with curves := d.workCurves q x.kind ++ y.curves.filter (fun c => !(d.workCurves q x.kind).contains c) })
          let d := if classOf u == 3 then d else match held with | k :: _ => d.loadShares u k (d.nodeKey k.node) | [] => d
          let gens := ns.flatMap (fun n => d.gensOf n q.slice)
          let d := if x.kind.isShadow then d else d.onReq x.req (fun q => { q with keyGens := q.keyGens ++ gens })
          let d := ns.foldl (fun d n => d.touch n) d
          (d.onJob j (fun x => { x with keyReady := true })).startReady

/-- One assignment pass (R69): ready requests, highest rank first. -/
def assignmentPass (d : Dev) : Dev :=
  let d := d.prefetch
  (d.ranked.foldl (fun d r => d.assign r) d).goOn

/-! ### Epochs (R82) -/

/-- The bytes of a tile's slot configuration (R178). -/
def Dev.slotBytes (d : Dev) (t : Nat) : Bytes := fitLen 128 ((d.slots t).flatMap (fun s => natLE 4 s.1 ++ natLE 4 s.2))

/-- A unit joins the pool (R81); a tile that joins in a rollout is measured (R466). (DEDUCED, assumption log 46) -/
def Dev.join (d : Dev) (u : Nat) : Dev :=
  if (d.unit u).pool != .joining then d
  else
    let d := if u < nTiles && d.lib.rolloutState == 1 && d.lib.rolloutCurrent == u then d.extend 5 0x0A u (Sha2.sha384 (d.slotBytes u)) else d
    d.setPool u .inPool .host

/-- A unit leaves the pool (R81): to DRAINING, and at once OUT where nothing is in service on it; or straight to where it is going. -/
def Dev.depart (d : Dev) (m : PoolMove) : Dev :=
  if (d.unit m.unit).pool != .inPool then d
  else
    let d := d.putPool m.unit m.target m.edge
    if m.target == .draining && (d.unit m.unit).job.isNone then d.setPool m.unit .out m.edge else d

/-- EPOCH_BOUNDARY: the number goes up by 1 and wraps; every pending change takes effect together. -/
def epochBoundary (d : Dev) : Dev :=
  if d.disp.changes.isEmpty then d
  else
    let l := d.disp.changes
    let d := (d.setNum P.dspEpoch 0 ((d.num P.dspEpoch 0 + 1) % 2 ^ 32)).onDisp (fun x => { x with changes := [] })
    (l.foldl (fun d c => if c.target == .inPool then d.join c.unit else d.depart c) d).rolloutStep

/-! ### The commands -/

def execAssignmentPass (s : State) := s.run fun d => (assignmentPass d).rolloutStep
def execEpochBoundary (s : State) := s.run epochBoundary
def execKeyLoadDone (u : Nat) (s : State) := s.runPart u nUnits (keyLoadDone u)
def execResultFinished (j : Nat) (s : State) := s.run (resultFinished j)
def execReleaseHoldExpire (j : Nat) (s : State) := s.run (releaseHoldExpire j)
def execDrbgDrawDone (j : Nat) (s : State) := s.run fun d => (drbgDrawDone j d).startReady

end Sys2Proof.Machine
end

