-- ==== Sys2Proof/Machine/Flags.lean ====
section
/-! DEFINITION. The checks of tile instructions (R136, R165, R166), the words they read (R99 to R103), and what their ends do to the device:
TIL_LAST_FAULT, the staged result, the scrub, cycle and spark counts. -/

namespace Sys2Proof.Machine

/-! ### Status values (R165) -/

def stIllegal : Nat := 0x0801
def stBounds : Nat := 0x0802
def stAlign : Nat := 0x0803
def stVtype : Nat := 0x0804
def stModulus : Nat := 0x0805
def stOverlap : Nat := 0x0806
def stKeyRange : Nat := 0x0807
def stTwiddle : Nat := 0x0808
def stStaging : Nat := 0x0809
def stCeiling : Nat := 0x080A
def stTarget : Nat := 0x080B
def stLvDecl : Nat := 0x080C
def stHash : Nat := 0x080D
def stSampler : Nat := 0x080E
def stDeliberate : Nat := 0x080F
def stCapacity : Nat := 0x0104

/-! ### Checks shared by classes of instructions -/

/-- Short-vector instructions need LONG 0 (R128, R165). -/
def needShort (y : TileSt) : List (Bool × Nat) := [(y.long, stVtype)]
/-- Modular and GF(2^m) instructions exist at EW 16 and 32 only (R134). -/
def needEw (y : TileSt) : List (Bool × Nat) := [(y.ew != 16 && y.ew != 32, stVtype)]
/-- m[MSEL] is a usable prime-field modulus (R134, R165). -/
def needPrime (y : TileSt) : List (Bool × Nat) :=
  [(y.msel.value == 0 || y.msel.kind != 0 || (y.ew == 16 && y.msel.value ≥ 2 ^ 15), stModulus)]
/-- m[MSEL] is a GF(2^m) polynomial. -/
def needGf (y : TileSt) : List (Bool × Nat) := [(y.msel.value == 0 || y.msel.kind != 1, stModulus)]
/-- The modulus in use. -/
def TileSt.modq (y : TileSt) : Nat := y.msel.value

/-- A twiddle entry, its low 16 bits at EW 16 (R144). -/
def TileSt.twiddle (y : TileSt) (c : TileCtx) (i : Nat) : Nat := if y.ew == 16 then c.tw i % 65536 else c.tw i

/-! ### What the running operation gives -/

/-- The computation a tile runs. -/
def Dev.running (d : Dev) (t : Nat) : Option (Nat × Job × Request) :=
  match (d.unit t).job with
  | none => none
  | some j => match d.job? j with
    | none => none
    | some x => (d.jobReq x).map (fun q => (j, x, q))

/-- The microprogram of a tile's running slot. -/
def Dev.runningMp (d : Dev) (t : Nat) : Option Microprogram :=
  match (d.slots t)[(d.tile t).slot]? with
  | none => none
  | some s => d.mp? s.1 s.2

/-- A Classic McEliece ENCAPS that streams its public key: the input is the bound public object (R242). -/
def Request.streams (q : Request) : Bool := q.desc.opcode / 256 == 0x21 && lowOp q.desc.opcode == 3 && q.desc.keyA == 0

/-- The public object bound to an operation whose entry declares one (R127, R173): the streamed key, the material of a public key object in KEY_A, else the public
bytes of the object. (DEDUCED, assumption log 91) -/
def Dev.boundObject (d : Dev) (q : Request) : Bytes :=
  if q.streams then q.input
  else match d.node? (handleObj q.desc.keyA) with
    | none => []
    | some x =>
      match (d.placedHearths q.slice q.desc.keyA).findSome? (fun h => tabGet? (handleObj q.desc.keyA) (d.hearth h).objects) with
      | some b => b
      | none => if x.public then x.material else x.pub

/-- The input bytes of an operation on a tile (R127, R242). -/
def Request.tileInput (q : Request) : Bytes := if q.streams then [] else if q.desc.opcode / 256 == 0x60 then latticeInput q else q.input

/-- What a tile's instructions see. The code and twiddle table of a vendor microprogram are the unit's own data (assumption log 20). -/
def Dev.tileCtx (d : Dev) (t : Nat) : TileCtx :=
  let mp := d.runningMp t
  let job := d.running t
  let q := job.map (fun x => x.2.2)
  let flags := (q.bind (fun q => d.bound? t q.desc.opcode)).map (fun e => e.2.eflags)
  let reg := (d.unit t).keyReg
  { order := (match job with | some (_, x, _) => x.order | none => 0)
    keyLen := (match job with
      | some (_, x, q) => (match d.workKeys q x.kind with | [] => 0 | n :: _ => (d.nodeKey n).length)
      | none => 0)
    keyArr := fun i => reg.array.byte i
    keySeeds := reg.seeds
    keyForm := (match (d.unit t).key with | some k => k.form | none => 8)
    input := (match q with | some q => q.tileInput | none => [])
    outCap := (match q with | some q => d.capacity q | none => 0)
    aux := (match q with | some q => q.desc.aux | none => 0)
    param := (match q, flags with | some q, some e => if e.testBit 2 then 0 else q.desc.keyB | _, _ => 0)
    opcode := (match q with | some q => q.desc.opcode | none => 0)
    pub := (match q, flags with | some q, some e => if e.testBit 3 then d.boundObject q else [] | _, _ => [])
    codeLen := (match mp with | some m => m.code.length | none => 0)
    twLen := (match mp with | some m => m.tables.length / 4 | none => 0)
    tw := fun i => (match mp with | some m => leAt (4 * i) 4 m.tables | none => 0)
    longVector := (match mp with | some m => m.flags.testBit 0 | none => true)
    rnd := d.freeCtr }

/-- The cycle ceiling of the operation that a tile runs (R164). -/
def Dev.ceiling (d : Dev) (t : Nat) : Option Nat :=
  match d.running t, d.runningMp t with
  | some (_, x, q), some m => (m.entry? q.desc.opcode).map (fun e => e.ceil.getD x.order 0)
  | _, _ => none
/-- The operation has run longer. -/
def Dev.pastCeiling (d : Dev) (t : Nat) : Bool := match d.ceiling t with | some n => decide ((d.tile t).cycles > n) | none => false

/-- The tile issues its next instruction: none waits in line for the long-vector unit or for spark randomness (R111, R167, R170), the tile does not scrub (R110, R116),
and the operation has not passed its ceiling. (DESIGN CHOICE, assumption log 84) -/
def Dev.issues (d : Dev) (t : Nat) : Bool :=
  (d.tile t).lvWaiting.isNone && (d.tile t).sparkWaiting.isNone && !(d.unit t).scrubbing && !d.pastCeiling t

/-! ### Ends -/

/-- The tile's operation ends without success: its status is staged and the tile scrubs (R116, R165). -/
def Dev.tileAbort (d : Dev) (t status : Nat) : Dev :=
  match d.running t with
  | none => d
  | some (j, _, _) => (d.finishJob j (JobResult.ofStatus status)).scrub t

/-- TIL_LAST_FAULT (R165): status, PC, VSTART, instruction word; its last two bytes are 0. (DEDUCED, assumption log 90) -/
def Dev.lastFault (d : Dev) (t status word : Nat) : Dev :=
  let y := d.tile t
  d.setOct P.tilLastFault t (natLE 2 status ++ natLE 2 y.pc ++ natLE 2 y.vstart ++ natLE 4 word ++ zeros 2)

/-- A pending abort is acted on (R163, R272). -/
def Dev.actAbort (d : Dev) (t : Nat) : Dev :=
  match d.running t with
  | some (j, x, q) => (match x.abort with | some st => d.abortJob j x q st | none => d)
  | none => d

/-- Outputs that the spark generator delivers while an instruction of `cycles` cycles draws `n`: at quench level 1 and above, decoy noise draws in every cycle (R111). -/
def Dev.sparkUse (d : Dev) (t cycles n : Nat) : Nat := if d.level t ≥ 1 then Nat.max cycles n else n

/-- The instruction's end takes effect on the device. -/
def Dev.tileEnd (d : Dev) (t word : Nat) (o : TileOut) : Dev :=
  match o with
  | .ok y cycles n =>
    (d.onTile t (fun _ => { y with cycles := y.cycles + cycles, sinceChkpt := y.sinceChkpt + cycles })).sparkDraw t (d.sparkUse t cycles n)
  | .stop y status =>
    let d := d.onTile t (fun _ => y)
    let d := if status ≥ 0x0800 then d.lastFault t status word else d
    let ab := match d.running t with | some (_, x, _) => x.abort.isSome | none => false
    if ab then d.actAbort t else d.tileAbort t status
  | .ended y status n =>
    let d := d.onTile t (fun _ => y)
    match d.running t with
    | none => d
    | some (j, x, _) =>
      if x.abort.isSome then d.actAbort t
      else d.finishJob j { status := status, output := if status == 0 then fitLen n y.staged else [], mismatch := false, secret := [] }

/-! ### Words with erroneous symbols (R99 to R103) -/

/-- Count corrected words (R100). -/
def Dev.countCorrected (d : Dev) (t n : Nat) : Dev := if n == 0 then d else d.addNum P.tilCeCount t n

/-- An uncorrectable word that no local recovery overcomes moves the operation (R102). -/
def Dev.wordLost (d : Dev) (t : Nat) : Dev := (d.moveOff t).goOn

/-- Local recovery (R102): VSTART records the element; the word is read again, after the vault has reloaded the key where it lies in the key register; where
it is correctable now, the instruction starts again once, which ends as the whole instruction does; a second uncorrectable word moves the operation. -/
def Dev.recoverWord (d : Dev) (t word : Nat) (x : WordRead) (rest : WordCheck) (op : TileOp) : Dev :=
  let d := (d.addNum P.tilUeCount t 1).onTile t (fun y => { y with vstart := x.element })
  if x.again ≤ 2 && rest.all wordGood then
    let d := if x.place == .keyRegister then d.reloadKey t else d
    let d := (d.countCorrected t (bnat (x.again > 0) + correctedWords rest)).onTile t (fun y => { y with vstart := 0 })
    (d.tileEnd t word (op (d.tileCtx t) (d.tile t))).recoveredWord t
  else d.wordLost t

/-- A load or store fails its checks element by element (R166): its fault comes first where it lies no later than element `k`. -/
def faultFirst (word k : Nat) (op : TileOp) (c : TileCtx) (y : TileSt) : Bool :=
  match op c (if word / 2 ^ 27 == 0x10 then { y with vl := Nat.min y.vl (k + 1) } else y) with
  | .stop _ _ => true
  | _ => false

/-- An instruction ends, by the words it has read (R100, R102): corrected words are counted and not seen; the first uncorrectable one is recovered or moves the
operation, where no exception comes before the read (R166). -/
def Dev.tileWords (d : Dev) (t word : Nat) (w : WordCheck) (op : TileOp) : Dev :=
  let c := d.tileCtx t
  let y := d.tile t
  let (_, d) := d.fresh
  let d := d.countCorrected t (correctedWords (w.takeWhile wordGood))
  match w.dropWhile wordGood with
  | [] => d.tileEnd t word (op c y)
  | x :: rest =>
    match x.place with
    | .slot _ => (d.addNum P.tilUeCount t 1).wordLost t
    | .registerFile => (d.addNum P.tilUeCount t 1).wordLost t
    | _ => if faultFirst word x.element op c y then d.tileEnd t word (op c y) else d.recoverWord t word x rest op

/-- The instruction draws spark randomness. -/
def TileOut.draws : TileOut → Bool
  | .ok _ _ n => n > 0
  | _ => false

/-- Run one instruction of a tile, which reads these words. One that needs spark randomness where there is none waits for the seed (R111). (DESIGN CHOICE, assumption log 84) -/
def Dev.tileRun (d : Dev) (t word : Nat) (w : WordCheck) (op : TileOp) : Dev :=
  if !d.issues t then d
  else if d.sparkOut t && (op (d.tileCtx t) (d.tile t)).draws then (d.onTile t (fun y => { y with sparkWaiting := some (word, w) })).stallOn t
  else d.tileWords t word w op

/-! ### Instruction words (R137, R139) -/

def vWord (major func : Nat) (f : VFields) : Nat :=
  major * 2 ^ 26 + f.d.toNat * 2 ^ 21 + f.a.toNat * 2 ^ 16 + f.b.toNat * 2 ^ 11 + func * 32 + bnat f.pb * 16
def iWord (major : Nat) (f : IFields) : Nat := major * 2 ^ 26 + f.d.toNat * 2 ^ 21 + f.a.toNat * 2 ^ 16 + f.imm.toNat
def bWord (major : Nat) (f : BFields) : Nat := major * 2 ^ 26 + f.a.toNat * 2 ^ 21 + f.b.toNat * 2 ^ 16 + f.off.toNat
def tWord (gs : Bool) (f : TFields) : Nat :=
  0x1C * 2 ^ 26 + f.d.toNat * 2 ^ 21 + f.a.toNat * 2 ^ 16 + f.b.toNat * 2 ^ 11 + f.rep.toNat * 128 + bnat gs * 64
def mWord (major sub : Nat) (f : MFields) : Nat :=
  major * 2 ^ 26 + f.d.toNat * 2 ^ 21 + f.a.toNat * 2 ^ 16 + f.b.toNat * 2 ^ 11 + sub * 256 + bnat f.sp * 128
def lWord (op : Nat) (f : LFields) : Nat :=
  0x22 * 2 ^ 26 + f.d.toNat * 2 ^ 21 + f.a.toNat * 2 ^ 16 + f.b.toNat * 2 ^ 11 + bnat f.pb * 1024 + op * 32

end Sys2Proof.Machine
end

