-- ==== Sys2Proof/Machine/TileVector.lean ====
section
/-! DEFINITION. Short-vector instructions of the tile: integer, modular, butterfly, permutation, carry-less and GF(2^m), loads and stores
(R142 to R150). -/

namespace Sys2Proof.Machine

/-! ### Operand B and public operands (R136) -/

/-- Element `i` of operand B in plane `p`: of v[B], or s[B] truncated and broadcast. -/
def TileSt.opB (y : TileSt) (vs : Bool) (f : VFields) (p i : Nat) : Nat := if vs then y.trunc (y.sget f.b) else y.elem p f.b.toNat i

/-- How an operation takes a public or masked operand B with SHR 0 (R136). -/
inductive BUse where
  /-- Public B in plane 0 only; masked B plane by plane. -/
  | linear
  /-- Public B in every plane; masked B illegal. -/
  | every
  /-- Illegal in masked mode. -/
  | never
  /-- No operand B: plane by plane, B 0. -/
  | unary
  deriving DecidableEq, Repr

/-- The combination is illegal (R136, R142, R143). -/
def BUse.illegal (u : BUse) (masked pub bNonzero : Bool) : Bool :=
  match u with
  | .linear => false
  | .every => masked && !pub
  | .never => masked
  | .unary => bNonzero

/-- Element `i` of plane `p` of the result of an operation of a kind. -/
def TileSt.combine (y : TileSt) (u : BUse) (vs : Bool) (f : VFields) (g : Nat → Nat → Nat) (p i : Nat) : Nat :=
  let a := y.elem p f.a.toNat i
  match u with
  | .linear => if !y.shr && (vs || f.pb) then (if p == 0 then g a (y.opB vs f 0 i) else a) else g a (y.opB vs f p i)
  | _ => g a (y.opB vs f 0 i)

/-! ### Integer (R142) -/

/-- An integer operation of a kind. -/
def vintOp (u : BUse) (vs : Bool) (f : VFields) (g : TileSt → Nat → Nat → Nat) : TileOp := fun c y =>
  vchecked ((u.illegal (!y.shr) (vs || f.pb) (f.b != 0), stIllegal) :: needShort y) y
    ((y.vput c f.d.toNat (fun p i => y.trunc (y.combine u vs f (g y) p i))).next 1 0)

def opVadd (vs : Bool) (f : VFields) : TileOp := vintOp .linear vs f (fun _ a b => a + b)
def opVsub (vs : Bool) (f : VFields) : TileOp := vintOp .linear vs f (fun y a b => a + (2 ^ y.ew - b))
def opVand (vs : Bool) (f : VFields) : TileOp := vintOp .every vs f (fun _ a b => a &&& b)
/-- VOR with a public B: plane k receives A_k AND NOT B, plane 0 also XOR B (R136). -/
def opVor (vs : Bool) (f : VFields) : TileOp := fun c y =>
  vchecked ((!y.shr && !(vs || f.pb), stIllegal) :: needShort y) y
    ((y.vput c f.d.toNat (fun p i =>
      let a := y.elem p f.a.toNat i
      let b := y.opB vs f 0 i
      if y.shr then a ||| b else (a &&& (2 ^ y.ew - 1 - b)) ^^^ (if p == 0 then b else 0))).next 1 0)
def opVxor (vs : Bool) (f : VFields) : TileOp := vintOp .linear vs f (fun _ a b => a ^^^ b)
/-- VNOT inverts plane 0 only (R136). -/
def opVnot (_ : Bool) (f : VFields) : TileOp := fun c y =>
  vchecked ((f.b != 0, stIllegal) :: needShort y) y
    ((y.vput c f.d.toNat (fun p i => if p == 0 then 2 ^ y.ew - 1 - y.elem 0 f.a.toNat i else y.elem p f.a.toNat i)).next 1 0)
def opVsll (vs : Bool) (f : VFields) : TileOp := vintOp .every vs f (fun y a b => a * 2 ^ (b % y.ew))
def opVsrl (vs : Bool) (f : VFields) : TileOp := vintOp .every vs f (fun y a b => a / 2 ^ (b % y.ew))
def opVsra (vs : Bool) (f : VFields) : TileOp := vintOp .every vs f (fun y a b =>
  let n := b % y.ew
  if a.testBit (y.ew - 1) then a / 2 ^ n + (2 ^ y.ew - 2 ^ (y.ew - n)) else a / 2 ^ n)
def opVmul (vs : Bool) (f : VFields) : TileOp := vintOp .every vs f (fun _ a b => a * b)
def opVseq (vs : Bool) (f : VFields) : TileOp := vintOp .never vs f (fun y a b => if a == b then 2 ^ y.ew - 1 else 0)
def opVsltu (vs : Bool) (f : VFields) : TileOp := vintOp .never vs f (fun y a b => if a < b then 2 ^ y.ew - 1 else 0)

/-! ### Modular (R134, R143) -/

/-- The modulus that a parameter is held against: 0 where m[MSEL] is no usable prime-field modulus, so that only the parameter's own range counts (R166). -/
def TileSt.paramq (y : TileSt) : Nat := if y.msel.kind == 0 then y.modq else 0
/-- A parameter 2γ2: even, not 0, and a divisor of q − 1 (R143). -/
def badGamma (q g : Nat) : Bool := g == 0 || g % 2 == 1 || (q != 0 && (q - 1) % g != 0)

/-- A modular operation of a kind: `bad` says that an element's parameter is out of range; cycles are issue cycles. -/
def vmodOp (u : BUse) (vs : Bool) (f : VFields) (bad : Nat → Nat → Bool) (g : Nat → Nat → Nat → Nat) : TileOp := fun c y =>
  let q := y.modq
  vchecked ([(u.illegal (!y.shr) (vs || f.pb) (f.b != 0), stIllegal)] ++ needShort y ++ needEw y ++
      [(y.indices.any (fun i => bad y.paramq (y.opB vs f 0 i)), stVtype)] ++ needPrime y) y
    ((y.vput c f.d.toNat (fun p i => y.trunc (y.combine u vs f (g q) p i))).next 1 0)

/-- No parameter to check. -/
def anyParam (_ _ : Nat) : Bool := false

def opVmadd (vs : Bool) (f : VFields) : TileOp := vmodOp .linear vs f anyParam (fun q a b => (a + b) % q)
def opVmsub (vs : Bool) (f : VFields) : TileOp := vmodOp .linear vs f anyParam subMod
def opVmneg (vs : Bool) (f : VFields) : TileOp := vmodOp .unary vs f anyParam (fun q a _ => subMod q 0 a)
def opVmmul (vs : Bool) (f : VFields) : TileOp := vmodOp .every vs f anyParam (fun q a b => a * b % q)
/-- VMMAC adds to the destination, plane by plane. -/
def opVmmac (vs : Bool) (f : VFields) : TileOp := fun c y =>
  vchecked ([(BUse.every.illegal (!y.shr) (vs || f.pb) false, stIllegal)] ++ needShort y ++ needEw y ++ needPrime y) y
    ((y.vput c f.d.toNat (fun p i => (y.elem p f.d.toNat i + y.elem p f.a.toNat i * y.opB vs f 0 i) % y.modq)).next 1 0)
def opVmred (vs : Bool) (f : VFields) : TileOp := vmodOp .unary vs f anyParam (fun q a _ => a % q)
/-- r − q in two's complement where r exceeds (q − 1)/2. -/
def centred (ew q r : Nat) : Nat := if r > (q - 1) / 2 then 2 ^ ew + r - q else r
def opVmcent (_ : Bool) (f : VFields) : TileOp := fun c y =>
  vchecked ([(!y.shr, stIllegal)] ++ needShort y ++ needEw y ++ needPrime y) y
    ((y.vput c f.d.toNat (fun p i => centred y.ew y.modq (y.elem p f.a.toNat i % y.modq))).next 1 0)
def opVmp2r (vs : Bool) (f : VFields) : TileOp :=
  vmodOp .never vs f (fun _ t => t < 1 || t > 22) (fun q a t => (a % q + 2 ^ (t - 1) - 1) / 2 ^ t)
def opVmhigh (vs : Bool) (f : VFields) : TileOp :=
  vmodOp .never vs f badGamma (fun q a g => highBits q g (a % q))

/-! ### Butterflies (R144) -/

/-- One butterfly of residues: Cooley–Tukey or Gentleman–Sande. -/
def butterfly (gs : Bool) (q w a b : Nat) : Nat × Nat :=
  if gs then ((a + b) % q, w % q * subMod q a b % q)
  else let t := w % q * (b % q) % q
       ((a + t) % q, subMod q a t)

def opBfly (gs : Bool) (f : TFields) : TileOp := fun c y =>
  let a := f.a.toNat
  let idx := fun i => y.sget f.b + i / 2 ^ f.rep.toNat
  let r := fun p i => butterfly gs y.modq (y.twiddle c (idx i)) (y.elem p a i) (y.elem p (a + 1) i)
  vchecked ([(f.d.toNat % 2 == 1 || a % 2 == 1, stIllegal)] ++ needShort y ++ needEw y ++ needPrime y ++
      [(y.indices.any (fun i => idx i ≥ c.twLen), stTwiddle)]) y
    (((y.vput c f.d.toNat (fun p i => (r p i).1)).vput c (f.d.toNat + 1) (fun p i => (r p i).2)).next 1 0)

/-! ### Moves and permutations (R145) -/

/-- A move, plane by plane, with a check of shape. -/
def vpermOp (f : VFields) (bad : TileSt → Bool) (g : TileSt → Nat → Nat → Nat) : TileOp := fun c y =>
  vchecked (needShort y ++ [(bad y, stVtype)]) y ((y.vput c f.d.toNat (g y)).next 1 0)

/-- Any shape. -/
def anyShape (_ : TileSt) : Bool := false
def oddVl (y : TileSt) : Bool := y.vl % 2 == 1

def opVmv (f : VFields) : TileOp := vpermOp f anyShape (fun y p i => y.elem p f.a.toNat i)
def opVslideup (f : VFields) : TileOp := vpermOp f anyShape (fun y p i =>
  if i ≥ y.sget f.b then y.elem p f.a.toNat (i - y.sget f.b) else y.elem p f.d.toNat i)
def opVslidedn (f : VFields) : TileOp := vpermOp f anyShape (fun y p i =>
  if i + y.sget f.b < y.vl then y.elem p f.a.toNat (i + y.sget f.b) else 0)
def opVziplo (f : VFields) : TileOp := vpermOp f oddVl (fun y p i => y.elem p (if i % 2 == 0 then f.a.toNat else f.b.toNat) (i / 2))
def opVziphi (f : VFields) : TileOp := vpermOp f oddVl (fun y p i => y.elem p (if i % 2 == 0 then f.a.toNat else f.b.toNat) (y.vl / 2 + i / 2))
def opVunzipe (f : VFields) : TileOp := vpermOp f oddVl (fun y p i =>
  if i < y.vl / 2 then y.elem p f.a.toNat (2 * i) else y.elem p f.b.toNat (2 * (i - y.vl / 2)))
def opVunzipo (f : VFields) : TileOp := vpermOp f oddVl (fun y p i =>
  if i < y.vl / 2 then y.elem p f.a.toNat (2 * i + 1) else y.elem p f.b.toNat (2 * (i - y.vl / 2) + 1))
def opVrevb (f : VFields) : TileOp := fun c y =>
  let k := Nat.log2 y.vl
  vchecked ((!y.shr, stIllegal) :: needShort y ++ [(y.vl < 2 || 2 ^ k != y.vl, stVtype)]) y
    ((y.vput c f.d.toNat (fun p i => y.elem p f.a.toNat (bitrev k i))).next 1 0)
/-- An index at or beyond VLMAX. -/
def badIndex (f : VFields) (y : TileSt) : Bool := y.sget f.b ≥ y.vlmax
def opVbcast (f : VFields) : TileOp := vpermOp f (badIndex f) (fun y p _ => y.elem p f.a.toNat (y.sget f.b))
def opVmvsx (f : VFields) : TileOp := fun _ y =>
  vchecked ((!y.shr, stIllegal) :: needShort y ++ [(badIndex f y, stVtype)]) y
    ((y.sset f.d (y.elem 0 f.a.toNat (y.sget f.b))).next 1 0)
/-- VMVXS writes d[s[B]] for every s[B] below VLMAX, at VL or above too: its own index rule stands beside R130. (DESIGN CHOICE, assumption log 125) -/
def opVmvxs (f : VFields) : TileOp := fun c y =>
  let k := y.sget f.b
  let z := { y with vstart := k, vl := k + 1 }.vput c f.d.toNat (fun _ _ => y.trunc (y.sget f.a))
  vchecked ((!y.shr, stIllegal) :: needShort y ++ [(badIndex f y, stVtype)]) y
    ({ z with vl := y.vl }.next 1 0)
/-- Into element 0 alone. -/
def TileSt.vfirst (y : TileSt) (c : TileCtx) (r : Nat) (g : Nat → Nat) : TileSt :=
  { ({ y with vstart := 0, vl := 1 }.vput c r (fun p _ => g p)) with vl := y.vl }
def opVredadd (f : VFields) : TileOp := fun c y =>
  vchecked (needShort y) y ((y.vfirst c f.d.toNat (fun p => y.trunc ((List.range y.vl).foldl (fun a i => a + y.elem p f.a.toNat i) 0))).next 1 0)

/-! ### Carry-less and GF(2^m) (R146) -/

/-- A carry-less product: low or high half. -/
def opVclmull (f : VFields) : TileOp := vintOp .every false f (fun y a b => clmul b y.ew a)
def opVclmulh (f : VFields) : TileOp := vintOp .every false f (fun y a b => clmul b y.ew a / 2 ^ y.ew)
/-- A GF(2^m) operation of a kind. -/
def vgfOp (u : BUse) (cyc : Nat) (f : VFields) (g : TileSt → Nat → Nat → Nat) : TileOp := fun c y =>
  vchecked ([(u.illegal (!y.shr) f.pb (f.b != 0), stIllegal)] ++ needShort y ++ needEw y ++ needGf y) y ((y.vput c f.d.toNat (g y)).next cyc 0)
def opVgfmul (f : VFields) : TileOp := vgfOp .every 1 f (fun y p i => gfMul y.msel (y.elem p f.a.toNat i) (y.elem 0 f.b.toNat i))
def opVgfsq (f : VFields) : TileOp := vgfOp .unary 1 f (fun y p i => gfMul y.msel (y.elem p f.a.toNat i) (y.elem p f.a.toNat i))
def opVgfinv (f : VFields) : TileOp := vgfOp .never 4 f (fun y p i => gfInv y.msel (y.elem p f.a.toNat i))
def opVgfmac (f : VFields) : TileOp := vgfOp .every 1 f (fun y p i =>
  (y.elem p f.d.toNat i % 2 ^ bits 20 16 y.msel.value) ^^^ gfMul y.msel (y.elem p f.a.toNat i) (y.elem 0 f.b.toNat i))
def opVpopc (f : VFields) : TileOp := fun c y =>
  vchecked ((!y.shr, stIllegal) :: needShort y) y ((y.vput c f.d.toNat (fun p i => popcount y.ew (y.elem p f.a.toNat i))).next 1 0)

/-! ### Loads and stores (R147 to R150) -/

/-- Fields of a form: 2 to 4 for a structure form, else 1. -/
def subFields (sub : Nat) : Nat := if 1 ≤ sub && sub ≤ 3 then sub + 1 else 1

/-- The address of element `i`, field `j` in plane 0 (R148). -/
def TileSt.vaddr (y : TileSt) (sub : Nat) (f : MFields) (i j : Nat) : Nat :=
  let a := y.sget f.a
  let e := y.ebytes
  (if sub == 4 then a + i * y.sget f.b
   else if sub == 5 then a + y.elem 0 f.b.toNat i * e
   else a + (subFields sub * i + j) * e) % 2 ^ 64

/-- The planes an access forms by LVSS: one where SP places shares as fields (R147, R149). -/
def TileSt.vplanes (y : TileSt) (c : TileCtx) (f : MFields) : List Nat := if f.sp then [0] else y.planes c

/-- Is the element misaligned, or out of bounds, in some field or plane? -/
def TileSt.vmisaligned (y : TileSt) (sub : Nat) (f : MFields) (i : Nat) : Bool :=
  (List.range (subFields sub)).any (fun j => y.vaddr sub f i j % y.ebytes != 0)
def TileSt.voutside (y : TileSt) (c : TileCtx) (sub : Nat) (f : MFields) (i : Nat) : Bool :=
  (List.range (subFields sub)).any (fun j => (y.vplanes c f).any (fun p => y.vaddr sub f i j + p * y.lvss + y.ebytes > tileBytes))

/-- The checks before any element (R138, R147 to R149). (DEDUCED, assumption log 87) -/
def vmemChecks (c : TileCtx) (sub : Nat) (f : MFields) (y : TileSt) : List (Bool × Nat) :=
  [(sub == 0 && f.b != 0, stIllegal),
   (f.sp && (sub == 0 || sub > 3 || y.shr || subFields sub != c.order + 1), stIllegal),
   (!f.sp && f.d.toNat + subFields sub - 1 > 31, stIllegal)] ++ needShort y ++ [(y.lvssBad c, stVtype)]

/-- The first element that fails alignment or bounds, with its status (R166). -/
def TileSt.vfirstBad (y : TileSt) (c : TileCtx) (sub : Nat) (f : MFields) : Option (Nat × Nat) :=
  y.indices.findSome? (fun i => if y.vmisaligned sub f i then some (i, stAlign) else if y.voutside c sub f i then some (i, stBounds) else none)

/-- Issue cycles of a load or store (R171). -/
def TileSt.vmemCycles (y : TileSt) (c : TileCtx) (sub : Nat) : Nat :=
  let p := y.active c
  if sub == 5 then 2 + y.vl * p else Nat.max 1 (ceilDiv (subFields sub * y.vl * y.ebytes * p) 256)

/-- Load the elements below VL. -/
def TileSt.vload (y : TileSt) (c : TileCtx) (sub : Nat) (f : MFields) : TileSt :=
  if f.sp then
    (List.range (c.order + 1)).foldl (fun x j => x.vplane j f.d.toNat (fun i => leNat (y.mem.read (y.vaddr sub f i j) y.ebytes))) y
  else
    (List.range (subFields sub)).foldl (fun x j =>
      x.vput c (f.d.toNat + j) (fun p i => leNat (y.mread p (y.vaddr sub f i j) y.ebytes))) y

/-- Store the elements below VL, in ascending order (R150). -/
def TileSt.vstore (y : TileSt) (c : TileCtx) (sub : Nat) (f : MFields) : TileSt :=
  y.indices.foldl (fun x i =>
    (List.range (subFields sub)).foldl (fun x j =>
      if f.sp then x.mwrite (y.vaddr sub f i j) (natLE y.ebytes (y.elem j f.d.toNat i))
      else (y.vplanes c f).foldl (fun x p => x.mwrite (y.vaddr sub f i j + p * y.lvss) (natLE y.ebytes (y.elem p (f.d.toNat + j) i))) x) x) y

/-- A load or store: the elements below the first failing one are committed (R165). -/
def vmemOp (act : TileSt → TileCtx → Nat → MFields → TileSt) (sub : Nat) (f : MFields) : TileOp := fun c y =>
  vchecked (vmemChecks c sub f y) y
    (match y.vfirstBad c sub f with
     | none => (act y c sub f).next (y.vmemCycles c sub) 0
     | some (i, st) => .stop { (act { y with vl := i } c sub f) with vl := y.vl } st)

def opVload (sub : Nat) (f : MFields) : TileOp := vmemOp TileSt.vload sub f
def opVstore (sub : Nat) (f : MFields) : TileOp := vmemOp TileSt.vstore sub f

/-! ### The commands -/

def execVadd (t : Nat) (vs : Bool) (o : Met VFields) (s : State) := s.runPart t nTiles fun d => d.tileRun t (vWord (if vs then 0x19 else 0x18) 0x00 o.fields) o.words (opVadd vs o.fields)
def execVsub (t : Nat) (vs : Bool) (o : Met VFields) (s : State) := s.runPart t nTiles fun d => d.tileRun t (vWord (if vs then 0x19 else 0x18) 0x01 o.fields) o.words (opVsub vs o.fields)
def execVand (t : Nat) (vs : Bool) (o : Met VFields) (s : State) := s.runPart t nTiles fun d => d.tileRun t (vWord (if vs then 0x19 else 0x18) 0x02 o.fields) o.words (opVand vs o.fields)
def execVor (t : Nat) (vs : Bool) (o : Met VFields) (s : State) := s.runPart t nTiles fun d => d.tileRun t (vWord (if vs then 0x19 else 0x18) 0x03 o.fields) o.words (opVor vs o.fields)
def execVxor (t : Nat) (vs : Bool) (o : Met VFields) (s : State) := s.runPart t nTiles fun d => d.tileRun t (vWord (if vs then 0x19 else 0x18) 0x04 o.fields) o.words (opVxor vs o.fields)
def execVnot (t : Nat) (vs : Bool) (o : Met VFields) (s : State) := s.runPart t nTiles fun d => d.tileRun t (vWord (if vs then 0x19 else 0x18) 0x05 o.fields) o.words (opVnot vs o.fields)
def execVsll (t : Nat) (vs : Bool) (o : Met VFields) (s : State) := s.runPart t nTiles fun d => d.tileRun t (vWord (if vs then 0x19 else 0x18) 0x06 o.fields) o.words (opVsll vs o.fields)
def execVsrl (t : Nat) (vs : Bool) (o : Met VFields) (s : State) := s.runPart t nTiles fun d => d.tileRun t (vWord (if vs then 0x19 else 0x18) 0x07 o.fields) o.words (opVsrl vs o.fields)
def execVsra (t : Nat) (vs : Bool) (o : Met VFields) (s : State) := s.runPart t nTiles fun d => d.tileRun t (vWord (if vs then 0x19 else 0x18) 0x08 o.fields) o.words (opVsra vs o.fields)
def execVmul (t : Nat) (vs : Bool) (o : Met VFields) (s : State) := s.runPart t nTiles fun d => d.tileRun t (vWord (if vs then 0x19 else 0x18) 0x09 o.fields) o.words (opVmul vs o.fields)
def execVseq (t : Nat) (vs : Bool) (o : Met VFields) (s : State) := s.runPart t nTiles fun d => d.tileRun t (vWord (if vs then 0x19 else 0x18) 0x0A o.fields) o.words (opVseq vs o.fields)
def execVsltu (t : Nat) (vs : Bool) (o : Met VFields) (s : State) := s.runPart t nTiles fun d => d.tileRun t (vWord (if vs then 0x19 else 0x18) 0x0B o.fields) o.words (opVsltu vs o.fields)
def execVmadd (t : Nat) (vs : Bool) (o : Met VFields) (s : State) := s.runPart t nTiles fun d => d.tileRun t (vWord (if vs then 0x1B else 0x1A) 0x00 o.fields) o.words (opVmadd vs o.fields)
def execVmsub (t : Nat) (vs : Bool) (o : Met VFields) (s : State) := s.runPart t nTiles fun d => d.tileRun t (vWord (if vs then 0x1B else 0x1A) 0x01 o.fields) o.words (opVmsub vs o.fields)
def execVmneg (t : Nat) (vs : Bool) (o : Met VFields) (s : State) := s.runPart t nTiles fun d => d.tileRun t (vWord (if vs then 0x1B else 0x1A) 0x02 o.fields) o.words (opVmneg vs o.fields)
def execVmmul (t : Nat) (vs : Bool) (o : Met VFields) (s : State) := s.runPart t nTiles fun d => d.tileRun t (vWord (if vs then 0x1B else 0x1A) 0x03 o.fields) o.words (opVmmul vs o.fields)
def execVmmac (t : Nat) (vs : Bool) (o : Met VFields) (s : State) := s.runPart t nTiles fun d => d.tileRun t (vWord (if vs then 0x1B else 0x1A) 0x04 o.fields) o.words (opVmmac vs o.fields)
def execVmred (t : Nat) (vs : Bool) (o : Met VFields) (s : State) := s.runPart t nTiles fun d => d.tileRun t (vWord (if vs then 0x1B else 0x1A) 0x05 o.fields) o.words (opVmred vs o.fields)
def execVmcent (t : Nat) (vs : Bool) (o : Met VFields) (s : State) := s.runPart t nTiles fun d => d.tileRun t (vWord (if vs then 0x1B else 0x1A) 0x06 o.fields) o.words (opVmcent vs o.fields)
def execVmp2r (t : Nat) (vs : Bool) (o : Met VFields) (s : State) := s.runPart t nTiles fun d => d.tileRun t (vWord (if vs then 0x1B else 0x1A) 0x07 o.fields) o.words (opVmp2r vs o.fields)
def execVmhigh (t : Nat) (vs : Bool) (o : Met VFields) (s : State) := s.runPart t nTiles fun d => d.tileRun t (vWord (if vs then 0x1B else 0x1A) 0x08 o.fields) o.words (opVmhigh vs o.fields)
def execBflyCt (t : Nat) (o : Met TFields) (s : State) := s.runPart t nTiles fun d => d.tileRun t (tWord false o.fields) o.words (opBfly false o.fields)
def execBflyGs (t : Nat) (o : Met TFields) (s : State) := s.runPart t nTiles fun d => d.tileRun t (tWord true o.fields) o.words (opBfly true o.fields)
def execVmv (t : Nat) (o : Met VFields) (s : State) := s.runPart t nTiles fun d => d.tileRun t (vWord 0x1D 0x00 o.fields) o.words (opVmv o.fields)
def execVslideup (t : Nat) (o : Met VFields) (s : State) := s.runPart t nTiles fun d => d.tileRun t (vWord 0x1D 0x01 o.fields) o.words (opVslideup o.fields)
def execVslidedn (t : Nat) (o : Met VFields) (s : State) := s.runPart t nTiles fun d => d.tileRun t (vWord 0x1D 0x02 o.fields) o.words (opVslidedn o.fields)
def execVziplo (t : Nat) (o : Met VFields) (s : State) := s.runPart t nTiles fun d => d.tileRun t (vWord 0x1D 0x03 o.fields) o.words (opVziplo o.fields)
def execVziphi (t : Nat) (o : Met VFields) (s : State) := s.runPart t nTiles fun d => d.tileRun t (vWord 0x1D 0x04 o.fields) o.words (opVziphi o.fields)
def execVunzipe (t : Nat) (o : Met VFields) (s : State) := s.runPart t nTiles fun d => d.tileRun t (vWord 0x1D 0x05 o.fields) o.words (opVunzipe o.fields)
def execVunzipo (t : Nat) (o : Met VFields) (s : State) := s.runPart t nTiles fun d => d.tileRun t (vWord 0x1D 0x06 o.fields) o.words (opVunzipo o.fields)
def execVrevb (t : Nat) (o : Met VFields) (s : State) := s.runPart t nTiles fun d => d.tileRun t (vWord 0x1D 0x07 o.fields) o.words (opVrevb o.fields)
def execVbcast (t : Nat) (o : Met VFields) (s : State) := s.runPart t nTiles fun d => d.tileRun t (vWord 0x1D 0x08 o.fields) o.words (opVbcast o.fields)
def execVmvsx (t : Nat) (o : Met VFields) (s : State) := s.runPart t nTiles fun d => d.tileRun t (vWord 0x1D 0x09 o.fields) o.words (opVmvsx o.fields)
def execVmvxs (t : Nat) (o : Met VFields) (s : State) := s.runPart t nTiles fun d => d.tileRun t (vWord 0x1D 0x0A o.fields) o.words (opVmvxs o.fields)
def execVredadd (t : Nat) (o : Met VFields) (s : State) := s.runPart t nTiles fun d => d.tileRun t (vWord 0x1D 0x0B o.fields) o.words (opVredadd o.fields)
def execVclmull (t : Nat) (o : Met VFields) (s : State) := s.runPart t nTiles fun d => d.tileRun t (vWord 0x1E 0x00 o.fields) o.words (opVclmull o.fields)
def execVclmulh (t : Nat) (o : Met VFields) (s : State) := s.runPart t nTiles fun d => d.tileRun t (vWord 0x1E 0x01 o.fields) o.words (opVclmulh o.fields)
def execVgfmul (t : Nat) (o : Met VFields) (s : State) := s.runPart t nTiles fun d => d.tileRun t (vWord 0x1E 0x02 o.fields) o.words (opVgfmul o.fields)
def execVgfsq (t : Nat) (o : Met VFields) (s : State) := s.runPart t nTiles fun d => d.tileRun t (vWord 0x1E 0x03 o.fields) o.words (opVgfsq o.fields)
def execVgfinv (t : Nat) (o : Met VFields) (s : State) := s.runPart t nTiles fun d => d.tileRun t (vWord 0x1E 0x04 o.fields) o.words (opVgfinv o.fields)
def execVgfmac (t : Nat) (o : Met VFields) (s : State) := s.runPart t nTiles fun d => d.tileRun t (vWord 0x1E 0x05 o.fields) o.words (opVgfmac o.fields)
def execVpopc (t : Nat) (o : Met VFields) (s : State) := s.runPart t nTiles fun d => d.tileRun t (vWord 0x1E 0x06 o.fields) o.words (opVpopc o.fields)
def execVld (t : Nat) (f : MFields) (w : WordCheck) (s : State) := s.runPart t nTiles fun d => d.tileRun t (mWord 0x20 0 f) w (opVload 0 f)
def execVlds2 (t : Nat) (f : MFields) (w : WordCheck) (s : State) := s.runPart t nTiles fun d => d.tileRun t (mWord 0x20 1 f) w (opVload 1 f)
def execVlds3 (t : Nat) (f : MFields) (w : WordCheck) (s : State) := s.runPart t nTiles fun d => d.tileRun t (mWord 0x20 2 f) w (opVload 2 f)
def execVlds4 (t : Nat) (f : MFields) (w : WordCheck) (s : State) := s.runPart t nTiles fun d => d.tileRun t (mWord 0x20 3 f) w (opVload 3 f)
def execVldst (t : Nat) (f : MFields) (w : WordCheck) (s : State) := s.runPart t nTiles fun d => d.tileRun t (mWord 0x20 4 f) w (opVload 4 f)
def execVldx (t : Nat) (f : MFields) (w : WordCheck) (s : State) := s.runPart t nTiles fun d => d.tileRun t (mWord 0x20 5 f) w (opVload 5 f)
def execVst (t : Nat) (o : Met MFields) (s : State) := s.runPart t nTiles fun d => d.tileRun t (mWord 0x21 0 o.fields) o.words (opVstore 0 o.fields)
def execVsts2 (t : Nat) (o : Met MFields) (s : State) := s.runPart t nTiles fun d => d.tileRun t (mWord 0x21 1 o.fields) o.words (opVstore 1 o.fields)
def execVsts3 (t : Nat) (o : Met MFields) (s : State) := s.runPart t nTiles fun d => d.tileRun t (mWord 0x21 2 o.fields) o.words (opVstore 2 o.fields)
def execVsts4 (t : Nat) (o : Met MFields) (s : State) := s.runPart t nTiles fun d => d.tileRun t (mWord 0x21 3 o.fields) o.words (opVstore 3 o.fields)
def execVstst (t : Nat) (o : Met MFields) (s : State) := s.runPart t nTiles fun d => d.tileRun t (mWord 0x21 4 o.fields) o.words (opVstore 4 o.fields)
def execVstx (t : Nat) (o : Met MFields) (s : State) := s.runPart t nTiles fun d => d.tileRun t (mWord 0x21 5 o.fields) o.words (opVstore 5 o.fields)

end Sys2Proof.Machine
end

