-- ==== Sys2Proof/Machine/TileGadget.lean ====
section
/-! DEFINITION. Masked gadgets of the tile (R158 to R160). At ORDER 0 each computes the plain function; above it the output is a fresh sharing,
whose shares are free values. -/

namespace Sys2Proof.Machine

/-- Issue cycles per 16 elements of 32 bits (R171): orders 0 to 3. (DESIGN CHOICE, assumption log 86) -/
def gadgetCycles (y : TileSt) (c : TileCtx) (l : List Nat) : Nat := l.getD c.order 0 * ceilDiv y.vl (512 / y.ew)

/-- A gadget: SHR 0 and PB 0 (R158), its own checks, the write of its result, and its issue cycles. It draws spark output above ORDER 0. -/
def gadget (f : VFields) (checks : TileCtx → TileSt → List (Bool × Nat)) (cyc : List Nat) (act : TileCtx → TileSt → TileSt) : TileOp := fun c y =>
  let n := gadgetCycles y c cyc
  vchecked ((y.shr || f.pb, stIllegal) :: needShort y ++ checks c y) y ((act c y).next n (if c.order == 0 then 0 else n))

def noChecks (_ : TileCtx) (_ : TileSt) : List (Bool × Nat) := []
def primeChecks (_ : TileCtx) (y : TileSt) : List (Bool × Nat) := needEw y ++ needPrime y
def gfChecks (_ : TileCtx) (y : TileSt) : List (Bool × Nat) := needEw y ++ needGf y
/-- A prime-field gadget with a parameter from s[B]: out of range it is a VTYPE fault (R165). -/
def paramChecks (f : VFields) (bad : Nat → Nat → Bool) (_ : TileCtx) (y : TileSt) : List (Bool × Nat) :=
  needEw y ++ [(bad y.paramq (y.sget f.b), stVtype)] ++ needPrime y

/-- All ones where the condition holds. -/
def TileSt.ones (y : TileSt) (b : Bool) : Nat := if b then 2 ^ y.ew - 1 else 0

def opGA2b (f : VFields) : TileOp := gadget f primeChecks [1, 10, 16, 26] fun c y => y.putBool c f.d.toNat (fun i => y.unarith c y.modq f.a.toNat i)
/-- G.B2A is defined for values below q; past it the value is free. (DESIGN CHOICE, assumption log 85) -/
def opGB2a (f : VFields) : TileOp := gadget f primeChecks [1, 8, 14, 22] fun c y => y.putArith c y.modq f.d.toNat (fun i =>
  let v := y.unbool c f.a.toNat i
  if v < y.modq then v else Config.freeNat (c.rnd + i) % y.modq)
def opGAnd (f : VFields) : TileOp := gadget f noChecks [1, 4, 12, 24] fun c y =>
  y.putBool c f.d.toNat (fun i => y.unbool c f.a.toNat i &&& y.unbool c f.b.toNat i)
def opGMul (f : VFields) : TileOp := gadget f primeChecks [1, 6, 14, 26] fun c y =>
  y.putArith c y.modq f.d.toNat (fun i => y.unarith c y.modq f.a.toNat i * y.unarith c y.modq f.b.toNat i % y.modq)
def opGGfmul (f : VFields) : TileOp := gadget f gfChecks [1, 4, 12, 24] fun c y =>
  y.putBool c f.d.toNat (fun i => gfMul y.msel (y.unbool c f.a.toNat i) (y.unbool c f.b.toNat i))
/-- The modulus of arithmetic shares: q, or 2^EW where m[MSEL] is no prime-field modulus. -/
def TileSt.shareq (y : TileSt) (form : Nat) : Nat := if form == 1 && y.paramq != 0 then y.paramq else 2 ^ y.ew
/-- G.REFRESH: a fresh sharing of the value (R158), in the form in which the microprogram keeps its shares there: the tile does not tag it (R136). (DESIGN CHOICE, assumption log 85) -/
def opGRefresh (f : VFields) : TileOp := gadget f noChecks [1, 4, 8, 12] fun c y =>
  let k := Config.shareForm c.opcode y.pc
  if c.order == 0 then y.vput c f.d.toNat (fun p i => y.elem p f.a.toNat i)
  else if k == 0 then y.putBool c f.d.toNat (fun i => y.unbool c f.a.toNat i)
  else y.putArith c (y.shareq k) f.d.toNat (fun i => y.unarith c (y.shareq k) f.a.toNat i)
/-- G.CMPEQ compares the values of a and b (R158), in the form in which the microprogram keeps their shares. (DESIGN CHOICE, assumption log 85) -/
def opGCmpeq (f : VFields) : TileOp := gadget f noChecks [1, 12, 20, 30] fun c y => y.putBool c f.d.toNat (fun i =>
  let k := Config.shareForm c.opcode y.pc
  y.ones (if c.order == 0 || k == 0 then y.unbool c f.a.toNat i == y.unbool c f.b.toNat i
          else y.unarith c (y.shareq k) f.a.toNat i == y.unarith c (y.shareq k) f.b.toNat i))
def opGRandr (f : VFields) : TileOp := fun c y =>
  let v := (List.range y.vl).foldl (fun a i => a &&& y.unbool c f.a.toNat i) (2 ^ y.ew - 1)
  let k := ceilLog2 y.vl
  let cyc := [2, 4 * k, 8 * k, 12 * k].getD c.order 0
  vchecked ((y.shr || f.pb, stIllegal) :: needShort y) y
    ({ ({ y with vstart := 0, vl := 1 }.putBool c f.d.toNat (fun _ => v)) with vl := y.vl }.next cyc (if c.order == 0 then 0 else cyc))
where
  ceilLog2 (n : Nat) : Nat := if n ≤ 1 then 0 else Nat.log2 (n - 1) + 1
/-- Compress of FIPS 203, rounding half up. -/
def opGCompress (f : VFields) : TileOp := gadget f (paramChecks f (fun _ t => t < 1 || t > 11)) [1, 14, 22, 34] fun c y =>
  y.putBool c f.d.toNat (fun i => (2 * 2 ^ y.sget f.b * y.unarith c y.modq f.a.toNat i + y.modq) / (2 * y.modq) % 2 ^ y.sget f.b)
def opGDecomp (f : VFields) : TileOp :=
  gadget f (paramChecks f badGamma) [2, 16, 26, 40] fun c y =>
    y.putBool c f.d.toNat (fun i => highBits y.modq (y.sget f.b) (y.unarith c y.modq f.a.toNat i))
def opGInrange (f : VFields) : TileOp := gadget f primeChecks [1, 14, 22, 34] fun c y => y.putBool c f.d.toNat (fun i =>
  let r := y.unarith c y.modq f.a.toNat i
  y.ones ((if r > (y.modq - 1) / 2 then y.modq - r else r) < y.sget f.b))
def opGSel (f : VFields) : TileOp := gadget f noChecks [1, 4, 12, 24] fun c y => y.putBool c f.d.toNat (fun i =>
  let m := y.unbool c f.d.toNat i
  (m &&& y.unbool c f.a.toNat i) ^^^ ((2 ^ y.ew - 1 - m) &&& y.unbool c f.b.toNat i))
/-- G.UNMASK (R158, R159): B selects the sum mod q, the XOR or the sum mod 2^EW. -/
def opGUnmask (f : VFields) : TileOp := fun c y =>
  let k := f.b.toNat
  let n := gadgetCycles y c [1, 2, 2, 2]
  vchecked ((y.shr || f.pb || k > 2, stIllegal) :: needShort y ++ (if k == 0 then needEw y ++ needPrime y else [])) y
    ((y.vpublic c f.d.toNat (fun i =>
      if k == 0 then y.unarith c y.modq f.a.toNat i else if k == 1 then y.unbool c f.a.toNat i else y.unarith c (2 ^ y.ew) f.a.toNat i)).next n
      (if c.order == 0 then 0 else n))

/-! ### The commands -/

def execGA2b (t : Nat) (o : Met VFields) (s : State) := s.runPart t nTiles fun d => d.tileRun t (vWord 0x2C 0x00 o.fields) o.words (opGA2b o.fields)
def execGB2a (t : Nat) (o : Met VFields) (s : State) := s.runPart t nTiles fun d => d.tileRun t (vWord 0x2C 0x01 o.fields) o.words (opGB2a o.fields)
def execGAnd (t : Nat) (o : Met VFields) (s : State) := s.runPart t nTiles fun d => d.tileRun t (vWord 0x2C 0x02 o.fields) o.words (opGAnd o.fields)
def execGMul (t : Nat) (o : Met VFields) (s : State) := s.runPart t nTiles fun d => d.tileRun t (vWord 0x2C 0x03 o.fields) o.words (opGMul o.fields)
def execGGfmul (t : Nat) (o : Met VFields) (s : State) := s.runPart t nTiles fun d => d.tileRun t (vWord 0x2C 0x04 o.fields) o.words (opGGfmul o.fields)
def execGRefresh (t : Nat) (o : Met VFields) (s : State) := s.runPart t nTiles fun d => d.tileRun t (vWord 0x2C 0x05 o.fields) o.words (opGRefresh o.fields)
def execGCmpeq (t : Nat) (o : Met VFields) (s : State) := s.runPart t nTiles fun d => d.tileRun t (vWord 0x2C 0x06 o.fields) o.words (opGCmpeq o.fields)
def execGRandr (t : Nat) (o : Met VFields) (s : State) := s.runPart t nTiles fun d => d.tileRun t (vWord 0x2C 0x07 o.fields) o.words (opGRandr o.fields)
def execGCompress (t : Nat) (o : Met VFields) (s : State) := s.runPart t nTiles fun d => d.tileRun t (vWord 0x2C 0x08 o.fields) o.words (opGCompress o.fields)
def execGDecomp (t : Nat) (o : Met VFields) (s : State) := s.runPart t nTiles fun d => d.tileRun t (vWord 0x2C 0x09 o.fields) o.words (opGDecomp o.fields)
def execGInrange (t : Nat) (o : Met VFields) (s : State) := s.runPart t nTiles fun d => d.tileRun t (vWord 0x2C 0x0A o.fields) o.words (opGInrange o.fields)
def execGSel (t : Nat) (o : Met VFields) (s : State) := s.runPart t nTiles fun d => d.tileRun t (vWord 0x2C 0x0B o.fields) o.words (opGSel o.fields)
def execGUnmask (t : Nat) (o : Met VFields) (s : State) := s.runPart t nTiles fun d => d.tileRun t (vWord 0x2C 0x0C o.fields) o.words (opGUnmask o.fields)

end Sys2Proof.Machine
end

