-- ==== Sys2Proof/Machine/TileHash.lean ====
section
/-! DEFINITION. Key operands, hash cores and samplers of the tile (R154 to R157). -/

namespace Sys2Proof.Machine

/-! ### Keccak cores (R155) -/

/-- A tile's Keccak core, if initialised. -/
def TileSt.core? (y : TileSt) (k : Nat) : Option KeccakCore := tabGet? k y.keccak
def TileSt.setCore (y : TileSt) (k : Nat) (x : KeccakCore) : TileSt := { y with keccak := tabSet k x y.keccak }

/-- Permute: of a masked core the unmasked state is permuted and shared afresh (R124); `salt` keeps the shares of one instruction apart. -/
def KeccakCore.permute (x : KeccakCore) (c : TileCtx) (salt : Nat) : KeccakCore :=
  let plain := x.planes.foldl (fun a l => if a.isEmpty then l else List.zipWith (· ^^^ ·) a l) []
  let out := Keccak.f1600 plain
  let rest := (List.range (x.planes.length - 1)).map (fun p => (List.range 25).map (fun i => (Config.sparkWord c.rnd (salt * 1024 + p * 32 + i)).toNat))
  { x with planes := (rest.foldl (fun a l => List.zipWith (· ^^^ ·) a l) out) :: rest }

/-- XOR a byte into a state plane at a byte position. -/
def xorByte (l : List Nat) (pos : Nat) (b : Byte) : List Nat := l.set (pos / 8) (l.getD (pos / 8) 0 ^^^ b.toNat * 2 ^ (8 * (pos % 8)))

/-- Absorb one byte per plane; the core permutes when its rate fills. The count is of permutations. -/
def KeccakCore.absorbByte (x : KeccakCore) (c : TileCtx) (n : Nat) (bs : List Byte) : KeccakCore × Nat :=
  let x := { x with planes := (x.planes.zip (List.range x.planes.length)).map (fun e => xorByte e.1 (x.pos / 8) (bs.getD e.2 0)), pos := x.pos + 8 }
  if x.pos ≥ 8 * x.rate then ({ (x.permute c n) with pos := 0 }, n + 1) else (x, n)

/-- Absorb bytes given per plane; planes not given absorb nothing. -/
def KeccakCore.absorb (x : KeccakCore) (c : TileCtx) (src : List Bytes) (n : Nat) : KeccakCore × Nat :=
  (List.range n).foldl (fun s i => s.1.absorbByte c s.2 (src.map (fun b => b.getD i 0))) (x, 0)

/-- Squeeze one bit group of `k` bits per plane: the core permutes when its rate is exhausted. -/
def KeccakCore.squeezeBit (x : KeccakCore) (c : TileCtx) (n : Nat) : List Bool × KeccakCore × Nat :=
  let (x, n) := if x.pos ≥ 8 * x.rate then ({ (x.permute c n) with pos := 0 }, n + 1) else (x, n)
  (x.planes.map (fun l => (l.getD (x.pos / 64) 0).testBit (x.pos % 64)), { x with pos := x.pos + 1 }, n)

/-- Squeeze `k` bits: one number per plane, least significant bit first. -/
def KeccakCore.squeeze (c : TileCtx) : Nat → KeccakCore → Nat → List Nat × KeccakCore × Nat
  | 0, x, n => (x.planes.map (fun _ => 0), x, n)
  | k + 1, x, n =>
    let (b, x, n) := x.squeezeBit c n
    let (v, x, n) := KeccakCore.squeeze c k x n
    (List.zipWith (fun b v => bnat b + 2 * v) b v, x, n)

/-- Squeeze a run of groups of `k` bits. -/
def KeccakCore.groups (c : TileCtx) (k : Nat) : Nat → KeccakCore → Nat → List (List Nat) × KeccakCore × Nat
  | 0, x, n => ([], x, n)
  | m + 1, x, n =>
    let (g, x, n) := KeccakCore.squeeze c k x n
    let (r, x, n) := KeccakCore.groups c k m x n
    (g :: r, x, n)

/-- Spark outputs of `n` permutations: one for each round cycle of a masked core above ORDER 0 (R111, R160). -/
def KeccakCore.draws (x : KeccakCore) (n : Nat) : Nat := if x.masked && x.planes.length > 1 then 24 * n else 0

/-- An initialised core in the wanted phase, else a hash-core fault. -/
def withCore (k : Nat) (squeezing : Bool) (y : TileSt) (f : KeccakCore → TileOut) : TileOut :=
  match y.core? k with
  | none => .stop y stHash
  | some x => if x.squeezing != squeezing then .stop y stHash else f x

/-- Absorb what an operand gives, plane by plane: a public core refuses masked data (R155). -/
def absorbOp (k : Nat) (src : List Bytes) (n : Nat) (masked : Bool) (c : TileCtx) (y : TileSt) : TileOut :=
  withCore k false y fun x =>
    if masked && !x.masked then .stop y stHash
    else let (x', p) := x.absorb c src n
         (y.setCore k x').next (2 + 24 * p) (x.draws p)

/-- D selects core 0 or 1. -/
def badCore (f : VFields) : Bool := f.d.toNat > 1

def opKcInit (f : VFields) : TileOp := fun c y =>
  let r := y.sget f.a
  checked [(badCore f, stIllegal), (!([72, 104, 136, 144, 168] : List Nat).contains r, stHash)] y
    ((y.setCore f.d.toNat { rate := r, masked := !y.shr, squeezing := false, pos := 0,
                            planes := List.replicate (if y.shr then 1 else c.order + 1) (List.replicate 25 0) }).next 1 0)
/-- The bytes of a register's elements below VL, per plane. -/
def TileSt.vdata (y : TileSt) (c : TileCtx) (r : Nat) : List Bytes := (y.planes c).map (fun p => (y.vbytes p r).take (y.vl * y.ebytes))
/-- The bytes of tile memory, per plane. -/
def TileSt.mdata (y : TileSt) (c : TileCtx) (a n : Nat) : List Bytes := (y.planes c).map (fun p => y.mread p a n)
/-- The checks of a memory operand of the hash cores. -/
def hashMem (c : TileCtx) (y : TileSt) (a n : Nat) : List (Bool × Nat) := [(y.lvssBad c, stVtype), (y.outOf c a n, stBounds)]

def opKcAbs (f : VFields) : TileOp := fun c y =>
  checked ((badCore f, stIllegal) :: needShort y) y (absorbOp f.d.toNat (y.vdata c f.a.toNat) (y.vl * y.ebytes) (!y.shr) c y)
def opKcAbsm (f : VFields) : TileOp := fun c y =>
  checked ((badCore f, stIllegal) :: hashMem c y (y.sget f.a) (y.sget f.b)) y
    (absorbOp f.d.toNat (y.mdata c (y.sget f.a) (y.sget f.b)) (y.sget f.b) (!y.shr) c y)
/-- KC.FIN: the suffix at the position, the last padding bit at the end of the rate, in plane 0. A suffix whose first padding bit is the last bit of the block
takes one block more for the last one (FIPS 202). -/
def opKcFin (f : VFields) : TileOp := fun c y =>
  checked [(badCore f, stIllegal)] y (withCore f.d.toNat false y fun x =>
    let suffix := y.sget f.a % 256
    let put := fun (x : KeccakCore) pos v => { x with planes := xorByte (x.planes.headD []) pos (BitVec.ofNat 8 v) :: x.planes.drop 1 }
    let full := x.pos / 8 == x.rate - 1 && suffix ≥ 0x80
    let z := put x (x.pos / 8) suffix
    let z := if full then z.permute c 0 else z
    let x' := { ((put z (x.rate - 1) 0x80).permute c 1) with squeezing := true, pos := 0 }
    let n := if full then 2 else 1
    (y.setCore f.d.toNat x').next (2 + 24 * n) (x.draws n))
/-- Squeeze `n` bytes; a masked core refuses SHR 1. -/
def squeezeOp (k n : Nat) (y : TileSt) (c : TileCtx) (g : List Bytes → TileSt → TileSt) : TileOut :=
  withCore k true y fun x =>
    if x.masked && y.shr then .stop y stHash
    else
      let (l, x', p) := KeccakCore.groups c 8 n x 0
      let data := (List.range x.planes.length).map (fun q => l.map (fun v => BitVec.ofNat 8 (v.getD q 0)))
      (g data (y.setCore k x')).next (2 + 24 * p) (x.draws p)
def opKcSqz (f : VFields) : TileOp := fun c y =>
  checked ((badCore f, stIllegal) :: needShort y) y (squeezeOp f.d.toNat (y.vl * y.ebytes) y c
    (fun data z => z.vput c f.a.toNat (fun p i => leAt (i * y.ebytes) y.ebytes (data.getD p []))))
def opKcSqzm (f : VFields) : TileOp := fun c y =>
  checked ((badCore f, stIllegal) :: hashMem c y (y.sget f.a) (y.sget f.b)) y (squeezeOp f.d.toNat (y.sget f.b) y c
    (fun data z => (y.planes c).foldl (fun w p => w.mwrite (y.sget f.a + p * y.lvss) (fitLen (y.sget f.b) (data.getD p []))) z))
def opKcPerm (f : VFields) : TileOp := fun c y =>
  checked [(badCore f, stIllegal)] y (match y.core? f.d.toNat with
    | none => .stop y stHash
    | some x => (y.setCore f.d.toNat (x.permute c 0)).next 24 (x.draws 1))

/-! ### SHA-2 core (R156) -/

/-- Parameters, initial state and digest bytes of the variants 0 to 4. -/
def shaVariant (v : Nat) : Sha2.Params × List Nat × Nat :=
  match v with
  | 0 => (Sha2.p256, Sha2.iv256, 32)
  | 1 => (Sha2.p256, Sha2.iv224, 28)
  | 2 => (Sha2.p512, Sha2.iv512, 64)
  | 3 => (Sha2.p512, Sha2.iv384, 48)
  | _ => (Sha2.p512, Sha2.iv512t 256, 32)

/-- One block of the core: the unmasked state and block are compressed, and the state shared afresh. -/
def ShaCore.block (x : ShaCore) (c : TileCtx) (salt : Nat) : ShaCore :=
  let pr := (shaVariant x.variant).1
  let n := 2 * pr.w
  let st := x.planes.foldl (fun a l => if a.isEmpty then l else List.zipWith (· ^^^ ·) a l) []
  let blk := x.pend.foldl (fun a l => if a.isEmpty then l.take n else xorBytes a (l.take n)) []
  let out := Sha2.compress pr st (Sha2.words (pr.w / 8) 16 blk)
  let rest := (List.range (x.planes.length - 1)).map (fun p => (List.range 8).map (fun i =>
    (Config.sparkWord c.rnd (salt * 1024 + p * 32 + i)).toNat % 2 ^ pr.w))
  { x with planes := (rest.foldl (fun a l => List.zipWith (· ^^^ ·) a l) out) :: rest, pend := x.pend.map (fun l => l.drop n) }

/-- Absorb whole blocks while they are there. -/
def ShaCore.drain (c : TileCtx) : Nat → ShaCore → Nat → ShaCore × Nat
  | 0, x, n => (x, n)
  | k + 1, x, n =>
    if (x.pend.headD []).length ≥ 2 * (shaVariant x.variant).1.w then ShaCore.drain c k (x.block c n) (n + 1) else (x, n)

/-- Take bytes per plane. -/
def ShaCore.absorb (x : ShaCore) (c : TileCtx) (src : List Bytes) (n : Nat) : ShaCore × Nat :=
  let x := { x with pend := (x.pend.zip (List.range x.pend.length)).map (fun e => e.1 ++ fitLen n (src.getD e.2 [])), len := x.len + n }
  ShaCore.drain c (n / 64 + 2) x 0

/-- Issue cycles of `n` blocks (R171). -/
def ShaCore.cycles (x : ShaCore) (n : Nat) : Nat := n * (if x.variant ≤ 1 then 64 else 80) * (if x.masked then 2 else 1)
def ShaCore.draws (x : ShaCore) (n : Nat) : Nat := if x.masked && x.planes.length > 1 then x.cycles n else 0

/-- Absorb what an operand gives; the misuse rules of the Keccak cores hold (R156). -/
def shaAbsorb (src : List Bytes) (n : Nat) (masked : Bool) (c : TileCtx) (y : TileSt) : TileOut :=
  match y.sha2 with
  | none => .stop y stHash
  | some x =>
    if x.finished || (masked && !x.masked) then .stop y stHash
    else let (x', k) := x.absorb c src n
         { y with sha2 := some x' }.next (Nat.max 1 (x.cycles k)) (x.draws k)

def opSh2Init (f : VFields) : TileOp := fun c y =>
  let v := y.sget f.a
  let p := if y.shr then 0 else c.order
  checked [(f.d != 0, stIllegal), (v > 4, stHash)] y
    ({ y with sha2 := some { variant := v, masked := !y.shr, finished := false, planes := (shaVariant v).2.1 :: List.replicate p (List.replicate 8 0),
                             pend := List.replicate (p + 1) [], len := 0 } }.next 1 0)
def opSh2Absm (f : VFields) : TileOp := fun c y =>
  checked ((f.d != 0, stIllegal) :: hashMem c y (y.sget f.a) (y.sget f.b)) y (shaAbsorb (y.mdata c (y.sget f.a) (y.sget f.b)) (y.sget f.b) (!y.shr) c y)
/-- SH2.FIN: FIPS 180-4 padding in plane 0. -/
def opSh2Fin (f : VFields) : TileOp := fun c y =>
  checked [(f.d != 0, stIllegal)] y (match y.sha2 with
    | none => .stop y stHash
    | some x =>
      if x.finished then .stop y stHash
      else
        let w := (shaVariant x.variant).1.w
        let z := (2 * w - (x.len + 1 + w / 4) % (2 * w)) % (2 * w)
        let tail : Bytes := 0x80 :: zeros z ++ natBE (w / 4) (8 * x.len)
        let (x', k) := x.absorb c [tail] tail.length
        { y with sha2 := some { x' with finished := true } }.next (Nat.max 1 (x.cycles k)) (x.draws k))
def opSh2Out (f : VFields) : TileOp := fun c y =>
  let n := match y.sha2 with | some x => (shaVariant x.variant).2.2 | none => 0
  checked ((f.d != 0, stIllegal) :: hashMem c y (y.sget f.a) n) y (match y.sha2 with
    | none => .stop y stHash
    | some x =>
      if !x.finished || (x.masked && y.shr) then .stop y stHash
      else
        let w := (shaVariant x.variant).1.w / 8
        ((y.planes c).foldl (fun z p => z.mwrite (y.sget f.a + p * y.lvss) (fitLen n ((x.planes.getD p []).flatMap (natBE w)))) y).next 1 0)

/-! ### Key operands (R154) -/

/-- A byte of the recombined key: it is formed nowhere in the tile (R109). -/
def TileCtx.keyByte (c : TileCtx) (i : Nat) : Byte := c.keySeeds.foldl (fun a s => a ^^^ Config.seedStream s i) (c.keyArr i)

/-- Share `p` of `n` key bytes from an offset, in the form the key was loaded (R106, R154): Boolean, the array or the stream of a seed; or arithmetic modulo the value of
m[k], element by element of VTYPE's width. (DESIGN CHOICE, assumption log 118) -/
def TileCtx.keyShare (c : TileCtx) (y : TileSt) (p o n : Nat) : Bytes :=
  let stream := fun k => Config.seedStream (c.keySeeds.getD k [])
  if c.keyForm ≥ 8 then (List.range n).map (fun i => if p == 0 then c.keyArr (o + i) else stream (p - 1) (o + i))
  else
    let q := (tabGet { kind := 0, value := 0, aux := 0 } c.keyForm y.m).value
    let e := y.ebytes
    let elem := fun (f : Nat → Byte) k => leNat ((List.range e).map (fun i => f (o + e * k + i))) % q
    fitLen n ((List.range (ceilDiv n e)).flatMap (fun k => natLE e (
      if p > 0 then elem (stream (p - 1)) k
      else subMod q (elem c.keyByte k) ((List.range c.order).foldl (fun a s => a + elem (stream s) k) 0))))

/-- A key in arithmetic form needs a prime-field modulus in its register (R106, R165). (DEDUCED, assumption log 119) -/
def keyModulus (c : TileCtx) (y : TileSt) : List (Bool × Nat) :=
  let m := tabGet { kind := 0, value := 0, aux := 0 } c.keyForm y.m
  [(c.keyForm < 8 && (m.kind != 0 || m.value == 0), stModulus)]
/-- The key range lies within KLEN. -/
def keyChecks (c : TileCtx) (o n : Nat) : List (Bool × Nat) := [(o + n > c.keyLen, stKeyRange)]
/-- The shares of a range, one for each plane. -/
def TileCtx.keyData (c : TileCtx) (y : TileSt) (o n : Nat) : List Bytes := (List.range (c.order + 1)).map (fun p => c.keyShare y p o n)

def opKld (f : VFields) : TileOp := fun c y =>
  let n := y.vl * y.ebytes
  let data := c.keyData y (y.sget f.a) n
  vchecked ((y.shr || f.b != 0, stIllegal) :: needShort y ++ keyModulus c y ++ keyChecks c (y.sget f.a) n) y
    ((y.vput c f.d.toNat (fun p i => leAt (i * y.ebytes) y.ebytes (data.getD p []))).next 2 0)
def opKabs (f : VFields) : TileOp := fun c y =>
  let n := y.sget f.b
  checked ((y.shr || f.d.toNat > 1, stIllegal) :: keyModulus c y ++ keyChecks c (y.sget f.a) n) y (absorbOp f.d.toNat (c.keyData y (y.sget f.a) n) n true c y)
def opKsh2 (f : VFields) : TileOp := fun c y =>
  let n := y.sget f.b
  checked ((y.shr || f.d != 0, stIllegal) :: keyModulus c y ++ keyChecks c (y.sget f.a) n) y (shaAbsorb (c.keyData y (y.sget f.a) n) n true c y)
def opKlv (f : VFields) : TileOp := fun c y =>
  let n := y.sget f.b
  let data := c.keyData y (y.sget f.a) n
  checked ([(y.shr, stIllegal), (y.lvssBad c, stVtype)] ++ keyModulus c y ++ [(y.outOf c (y.sget f.d) n, stBounds)] ++ keyChecks c (y.sget f.a) n) y
    (((y.planes c).foldl (fun z p => z.mwrite (y.sget f.d + p * y.lvss) (data.getD p [])) y).next (8 + ceilDiv (n * y.active c) 256) 0)

/-! ### Samplers (R157) -/

/-- The core a sampler reads, C of its word: the public samplers need a public core, and a masked core refuses to be squeezed with SHR 1 (R155, R157). -/
def sampleCore (f : VFields) (publicOnly : Bool) (y : TileSt) (g : KeccakCore → TileOut) : TileOut :=
  withCore (bnat f.pb) true y fun x => if x.masked && (publicOnly || y.shr) then .stop y stHash else g x

/-- The value that the planes of a group share. -/
def unshare (l : List Nat) : Nat := l.foldl (fun a v => a ^^^ v) 0

/-- Up to `k` candidates of `w` bits, while the progress is below VL: accepted values in order, progress, core, permutations. -/
def candidates (c : TileCtx) (vl w : Nat) (acc : Nat → Option Nat) : Nat → Nat → KeccakCore → Nat → List Nat × Nat × KeccakCore × Nat
  | 0, p, x, n => ([], p, x, n)
  | k + 1, p, x, n =>
    if p ≥ vl then ([], p, x, n)
    else
      let (g, x, n) := KeccakCore.squeeze c w x n
      match acc (unshare g) with
      | some v =>
        let (l, p', x, n) := candidates c vl w acc k (p + 1) x n
        (v :: l, p', x, n)
      | none => candidates c vl w acc k p x n

/-- A rejection sampler over the progress counter s[A]. -/
def rejectOp (f : VFields) (publicOnly : Bool) (w : Nat) (bad : Nat → Bool) (acc : Nat → Nat → Nat → Option Nat) : TileOp := fun c y =>
  let q := y.modq
  let p := y.sget f.a
  checked (needShort y ++ needEw y ++ [(bad (y.sget f.b), stVtype)] ++ needPrime y ++ [(decide (p > y.vl), stSampler)]) y
    (sampleCore f publicOnly y fun x =>
      let (l, p', x', n) := candidates c y.vl w (acc q (y.sget f.b)) 16 p x 0
      let z := { y with vstart := p, vl := p' }
      let z := if x.masked then z.putArith c q f.d.toNat (fun i => l.getD (i - p) 0) else z.vpublic c f.d.toNat (fun i => l.getD (i - p) 0)
      let z := { z with vstart := 0, vl := y.vl }
      ((z.setCore (bnat f.pb) x').sset f.a p').next (2 + 24 * n) (x.draws n))

def opSmpUni12 (f : VFields) : TileOp := rejectOp f true 12 (fun _ => false) (fun q _ v => if v < q then some v else none)
def opSmpUni23 (f : VFields) : TileOp := rejectOp f true 24 (fun _ => false) (fun q _ v => let v := v % 2 ^ 23
                                                                                       if v < q then some v else none)
def opSmpEta (f : VFields) : TileOp := rejectOp f false 4 (fun e => e != 2 && e != 4) (fun q e v =>
  if e == 2 then (if v < 15 then some (subMod q 2 (v % 5)) else none) else if v < 9 then some (subMod q 4 v) else none)

/-- SMP.CBD: VL coefficients of CBD_η as arithmetic shares (R157). An s[A] that is not 0, as the rule asks, is a parameter out of range. (DESIGN CHOICE, assumption log 125) -/
def opSmpCbd (f : VFields) : TileOp := fun c y =>
  let q := y.modq
  let e := y.sget f.b
  checked (needShort y ++ needEw y ++ [((e != 2 && e != 3) || y.sget f.a != 0, stVtype)] ++ needPrime y) y
    (sampleCore f false y fun x =>
      let (l, x', n) := KeccakCore.groups c (2 * e) y.vl x 0
      let v := fun i => let g := unshare (l.getD i [])
                        subMod q (popcount e g) (popcount e (g / 2 ^ e))
      let z := if x.masked then y.putArith c q f.d.toNat v else y.vpublic c f.d.toNat v
      (z.setCore (bnat f.pb) x').next ([2, 8, 14, 22].getD c.order 2) (x.draws n))

/-- One candidate byte of SampleInBall: position, sign bits, and the array in memory. (DEDUCED, assumption log 88) -/
def ballStep (c : TileCtx) (a q : Nat) : Nat → Nat → Nat → KeccakCore → Nat → TileSt → Nat × Nat × KeccakCore × Nat × TileSt
  | 0, i, s, x, n, y => (i, s, x, n, y)
  | k + 1, i, s, x, n, y =>
    if i ≥ 256 then (i, s, x, n, y)
    else
      let (g, x, n) := KeccakCore.squeeze c 8 x n
      let j := unshare g
      if j > i then ballStep c a q k i s x n y
      else
        let cj := y.mem.read (a + 4 * j) 4
        let y := (y.mwrite (a + 4 * i) cj).mwrite (a + 4 * j) (natLE 4 (if s % 2 == 1 then q - 1 else 1))
        ballStep c a q k (i + 1) (s / 2) x n y

/-- SMP.BALL (R157): s[A] holds the position and the sign bits not yet used; at 0 the first 8 stream bytes are the sign bits. The first position is
256 − τ, so τ 0 asks for one above 255, a sampler-state fault (R165). (DEDUCED, assumption log 88) The position past the last element, 256, does not fit bits 63 to 56 and
is kept as 0. (DESIGN CHOICE, assumption log 125) -/
def opSmpBall (f : VFields) : TileOp := fun c y =>
  let q := y.modq
  let a := y.sget f.d
  let tau := y.sget f.b % 256
  checked (needPrime y ++ [(a % 4 != 0, stAlign), (a + 1024 > tileBytes, stBounds), (y.sget f.a == 0 && tau == 0, stSampler)]) y
    (sampleCore f true y fun x =>
      let st := y.sget f.a
      let (sg, x1, n1) := if st == 0 then KeccakCore.squeeze c 64 x 0 else ([st % 2 ^ 56], x, 0)
      let (i, s, x2, n2, z) := ballStep c a q 8 (if st == 0 then 256 - tau else st / 2 ^ 56) (unshare sg) x1 n1 y
      ((z.setCore (bnat f.pb) x2).sset f.a (i % 256 * 2 ^ 56 + s % 2 ^ 56)).next (2 + 24 * n2) 0)

/-- The base table of the FN-DSA sampler (the RCDT of the scheme). (PRESUMED, assumption log 89) -/
def gaussTable : List Nat :=
  [3024686241123004913666, 1564742784480091954050, 636254429462080897535, 199560484645026482916, 47667343854657281903, 8595902006365044063,
   1163297957344668388, 117656387352093658, 8867391802663976, 496969357462633, 20680885154299, 638331848991, 14602316184, 247426747, 3104126,
   28824, 198, 1]

/-- SMP.GAUSS: each value consumes 72 bits and counts the table entries above them (R157). (PRESUMED, assumption log 89) -/
def opSmpGauss (f : VFields) : TileOp := fun c y =>
  checked (needShort y) y (sampleCore f true y fun x =>
    let (l, x', _) := KeccakCore.groups c 72 y.vl x 0
    ((y.vpublic c f.d.toNat (fun i => (gaussTable.filter (fun t => unshare (l.getD i []) < t)).length)).setCore (bnat f.pb) x').next y.vl 0)

/-! ### The commands -/

def execKld (t : Nat) (f : VFields) (w : WordCheck) (s : State) := s.runPart t nTiles fun d => d.tileRun t (vWord 0x24 0 f) w (opKld f)
def execKabs (t : Nat) (o : Met VFields) (s : State) := s.runPart t nTiles fun d => d.tileRun t (vWord 0x24 0x01 o.fields) o.words (opKabs o.fields)
def execKsh2 (t : Nat) (o : Met VFields) (s : State) := s.runPart t nTiles fun d => d.tileRun t (vWord 0x24 0x02 o.fields) o.words (opKsh2 o.fields)
def execKlv (t : Nat) (f : VFields) (w : WordCheck) (s : State) := s.runPart t nTiles fun d => d.tileRun t (vWord 0x24 3 f) w (opKlv f)
def execKcInit (t : Nat) (o : Met VFields) (s : State) := s.runPart t nTiles fun d => d.tileRun t (vWord 0x28 0x00 o.fields) o.words (opKcInit o.fields)
def execKcAbs (t : Nat) (o : Met VFields) (s : State) := s.runPart t nTiles fun d => d.tileRun t (vWord 0x28 0x01 o.fields) o.words (opKcAbs o.fields)
def execKcAbsm (t : Nat) (o : Met VFields) (s : State) := s.runPart t nTiles fun d => d.tileRun t (vWord 0x28 0x02 o.fields) o.words (opKcAbsm o.fields)
def execKcFin (t : Nat) (o : Met VFields) (s : State) := s.runPart t nTiles fun d => d.tileRun t (vWord 0x28 0x03 o.fields) o.words (opKcFin o.fields)
def execKcSqz (t : Nat) (o : Met VFields) (s : State) := s.runPart t nTiles fun d => d.tileRun t (vWord 0x28 0x04 o.fields) o.words (opKcSqz o.fields)
def execKcSqzm (t : Nat) (o : Met VFields) (s : State) := s.runPart t nTiles fun d => d.tileRun t (vWord 0x28 0x05 o.fields) o.words (opKcSqzm o.fields)
def execKcPerm (t : Nat) (o : Met VFields) (s : State) := s.runPart t nTiles fun d => d.tileRun t (vWord 0x28 0x06 o.fields) o.words (opKcPerm o.fields)
def execSh2Init (t : Nat) (o : Met VFields) (s : State) := s.runPart t nTiles fun d => d.tileRun t (vWord 0x29 0x00 o.fields) o.words (opSh2Init o.fields)
def execSh2Absm (t : Nat) (o : Met VFields) (s : State) := s.runPart t nTiles fun d => d.tileRun t (vWord 0x29 0x01 o.fields) o.words (opSh2Absm o.fields)
def execSh2Fin (t : Nat) (o : Met VFields) (s : State) := s.runPart t nTiles fun d => d.tileRun t (vWord 0x29 0x02 o.fields) o.words (opSh2Fin o.fields)
def execSh2Out (t : Nat) (o : Met VFields) (s : State) := s.runPart t nTiles fun d => d.tileRun t (vWord 0x29 0x03 o.fields) o.words (opSh2Out o.fields)
def execSmpUni12 (t : Nat) (o : Met VFields) (s : State) := s.runPart t nTiles fun d => d.tileRun t (vWord 0x2A 0x00 o.fields) o.words (opSmpUni12 o.fields)
def execSmpUni23 (t : Nat) (o : Met VFields) (s : State) := s.runPart t nTiles fun d => d.tileRun t (vWord 0x2A 0x01 o.fields) o.words (opSmpUni23 o.fields)
def execSmpCbd (t : Nat) (o : Met VFields) (s : State) := s.runPart t nTiles fun d => d.tileRun t (vWord 0x2A 0x02 o.fields) o.words (opSmpCbd o.fields)
def execSmpEta (t : Nat) (o : Met VFields) (s : State) := s.runPart t nTiles fun d => d.tileRun t (vWord 0x2A 0x03 o.fields) o.words (opSmpEta o.fields)
def execSmpBall (t : Nat) (o : Met VFields) (s : State) := s.runPart t nTiles fun d => d.tileRun t (vWord 0x2A 0x04 o.fields) o.words (opSmpBall o.fields)
def execSmpGauss (t : Nat) (o : Met VFields) (s : State) := s.runPart t nTiles fun d => d.tileRun t (vWord 0x2A 0x05 o.fields) o.words (opSmpGauss o.fields)

end Sys2Proof.Machine
end

