-- ==== Sys2Proof/Machine/TileLong.lean ====
section
/-! DEFINITION. Long-vector instructions of the tile and the power of the long-vector unit (R151 to R153, R167 to R169). -/

namespace Sys2Proof.Machine

/-! ### Arrays in tile memory -/

/-- Element `i` of plane `p` of the array at `a`. -/
def TileSt.larr (y : TileSt) (p a i : Nat) : Nat := leNat (y.mread p (a + i * y.ebytes) y.ebytes)

/-- Write the elements of the array at `a` in one plane. -/
def TileSt.lput (y : TileSt) (p a : Nat) (l : List Nat) : TileSt := y.mwrite (a + p * y.lvss) (l.flatMap (natLE y.ebytes))

/-- Two byte ranges are the same, or apart (R152). -/
def sameOrApart (exact : Bool) (a n b m : Nat) : Bool := (exact && a == b && n == m) || a + n ≤ b || b + m ≤ a

/-- Operands of a long-vector instruction: destination bytes, and the sources with their bytes. -/
structure LArrays where
  dst : Nat
  dstLen : Nat
  /-- Address, bytes, and whether the operand is public (plane 0 only). -/
  srcs : List (Nat × Nat × Bool)
  /-- The destination may equal a source. -/
  inPlace : Bool

/-- A partial overlap, over every plane region (R152). -/
def TileSt.overlaps (y : TileSt) (c : TileCtx) (l : LArrays) : Bool :=
  (y.planes c).any (fun p => l.srcs.any (fun s => (if s.2.2 then [0] else y.planes c).any (fun k =>
    !sameOrApart l.inPlace (l.dst + p * y.lvss) l.dstLen (s.1 + k * y.lvss) s.2.1)))

/-- The checks of R151, R152, R166 after the illegal combinations: LONG, width, shape, LVSS, declaration, modulus, alignment, bounds, overlap,
twiddles. (DEDUCED, assumption log 90) -/
def longChecks (c : TileCtx) (y : TileSt) (modular shape : Bool) (l : LArrays) (tw : List Nat) : List (Bool × Nat) :=
  [(!y.long, stVtype)] ++ (if modular then needEw y else []) ++ [(shape, stVtype), (y.lvssBad c, stVtype), (!c.longVector, stLvDecl)] ++
  (if modular then needPrime y else []) ++
  [(l.dst % y.ebytes != 0 || l.srcs.any (fun s => s.1 % y.ebytes != 0), stAlign),
   (y.outOf c l.dst l.dstLen || l.srcs.any (fun s => if s.2.2 then s.1 + s.2.1 > tileBytes && s.2.1 > 0 else y.outOf c s.1 s.2.1), stBounds),
   (y.overlaps c l, stOverlap), (tw.any (fun i => i ≥ c.twLen), stTwiddle)]

/-- Issue and unit cycles (R171): C, bytes read and bytes written per plane, bytes of a public operand. -/
def TileSt.longCycles (y : TileSt) (c : TileCtx) (n rd pub wr : Nat) : Nat :=
  let p := y.active c
  8 + Nat.max n (Nat.max (ceilDiv (rd * p + pub) 256) (ceilDiv (wr * p) 256))

/-! ### Elementwise operations -/

/-- An elementwise operation on arrays. -/
def lvOp (u : BUse) (f : LFields) (modular acc : Bool) (g : TileSt → Nat → Nat → Nat → Nat) : TileOp := fun c y =>
  let n := y.vl * y.ebytes
  let pub := !y.shr && f.pb
  let one := u == .unary
  let arr : LArrays :=
    { dst := y.sget f.d, dstLen := n, srcs := (y.sget f.a, n, false) :: (if one then [] else [(y.sget f.b, n, pub)]), inPlace := true }
  let val := fun p i =>
    let a := y.larr p (y.sget f.a) i
    let d := y.larr p arr.dst i
    let b := y.larr (if y.shr || pub then 0 else p) (y.sget f.b) i
    if one then a
    else if u == .linear && pub && p > 0 then a
    else g y d a b
  vchecked ((u.illegal (!y.shr) f.pb (f.b != 0), stIllegal) :: longChecks c y modular false arr []) y
    (((y.planes c).foldl (fun x p => x.lput p arr.dst ((List.range y.vl).map (val p))) y).next
      (y.longCycles c (ceilDiv y.vl 16) (n * ((if one then 1 else if pub then 1 else 2) + bnat acc)) (if pub then n else 0) n) 0)

/-- Truncated to the element width. -/
def tr (g : TileSt → Nat → Nat → Nat) (y : TileSt) (_ a b : Nat) : Nat := y.trunc (g y a b)

/-! ### Butterfly layers -/

/-- An in-place layer over the array at s[D], twiddles from TW[s[A]], distance 2^L (R151). -/
def lvBfly (gs : Bool) (f : LFields) : TileOp := fun c y =>
  let l := y.sget f.b
  let dist := 2 ^ (l % 16)
  let base := y.sget f.d
  let n := y.vl * y.ebytes
  let at' := fun p i =>
    let pos := i % (2 * dist)
    let blk := i / (2 * dist)
    let ia := blk * 2 * dist + pos % dist
    let r := butterfly gs y.modq (y.twiddle c (y.sget f.a + blk)) (y.larr p base ia) (y.larr p base (ia + dist))
    if pos < dist then r.1 else r.2
  let arr : LArrays := { dst := base, dstLen := n, srcs := [(base, n, false)], inPlace := true }
  vchecked (longChecks c y true (l ≥ 16 || y.vl % (2 * dist) != 0) arr ((List.range (y.vl / (2 * dist))).map (fun b => y.sget f.a + b))) y
    (((y.planes c).foldl (fun x p => x.lput p base ((List.range y.vl).map (at' p))) y).next (y.longCycles c (ceilDiv y.vl 32) n 0 n) 0)

/-! ### Base-case multiplication -/

/-- LV.BCM and LV.BCMAC (R151): products in Z_q[X]/(X^2 − γ), pair by pair. -/
def lvBcm (acc : Bool) (f : LFields) : TileOp := fun c y =>
  let n := y.vl * y.ebytes
  let q := y.modq
  let pub := !y.shr && f.pb
  let arr : LArrays := { dst := y.sget f.d, dstLen := n, srcs := [(y.sget f.a, n, false), (y.sget f.b, n, pub)], inPlace := true }
  let val := fun p i =>
    let k := i / 2
    let a0 := y.larr p (y.sget f.a) (2 * k) % q
    let a1 := y.larr p (y.sget f.a) (2 * k + 1) % q
    let b0 := y.larr 0 (y.sget f.b) (2 * k) % q
    let b1 := y.larr 0 (y.sget f.b) (2 * k + 1) % q
    let v := if i % 2 == 0 then a0 * b0 + a1 * b1 % q * (y.twiddle c (y.twb + k) % q) else a0 * b1 + a1 * b0
    ((if acc then y.larr p (y.sget f.d) i else 0) + v) % q
  vchecked ((!y.shr && !f.pb, stIllegal) :: longChecks c y true (y.vl % 2 == 1) arr ((List.range (y.vl / 2)).map (fun k => y.twb + k))) y
    (((y.planes c).foldl (fun x p => x.lput p arr.dst ((List.range y.vl).map (val p))) y).next
      (y.longCycles c (ceilDiv y.vl 8) (n * ((if pub then 1 else 2) + bnat acc)) (if pub then n else 0) n) 0)

/-! ### Carry-less product of bit strings -/

/-- LV.CLMUL (R151): 2 × VL × EW bits. -/
def lvClmul (f : LFields) : TileOp := fun c y =>
  let n := y.vl * y.ebytes
  let pub := !y.shr && f.pb
  let arr : LArrays := { dst := y.sget f.d, dstLen := 2 * n, srcs := [(y.sget f.a, n, false), (y.sget f.b, n, pub)], inPlace := false }
  let b := leNat (y.mread 0 (y.sget f.b) n)
  vchecked ((!y.shr && !f.pb, stIllegal) :: longChecks c y false false arr []) y
    (((y.planes c).foldl (fun x p => x.mwrite (arr.dst + p * y.lvss) (natLE (2 * n) (clmul b (8 * n) (leNat (y.mread p (y.sget f.a) n))))) y).next
      (y.longCycles c (ceilDiv (y.vl * y.ew * (y.vl * y.ew)) 16384) (n * (if pub then 1 else 2)) (if pub then n else 0) (2 * n)) 0)

/-- The long-vector instructions by OP (R151); other OP values are illegal (R138). -/
def opLong (op : Nat) (f : LFields) : TileOp :=
  match op with
  | 0x00 => lvOp .linear f false false (tr (fun _ a b => a + b))
  | 0x01 => lvOp .linear f false false (tr (fun y a b => a + (2 ^ y.ew - b)))
  | 0x02 => lvOp .linear f false false (tr (fun _ a b => a ^^^ b))
  | 0x03 => lvOp .every f false false (tr (fun _ a b => a &&& b))
  | 0x04 => lvOp .linear f true false (fun y _ a b => (a + b) % y.modq)
  | 0x05 => lvOp .linear f true false (fun y _ a b => subMod y.modq a b)
  | 0x06 => lvOp .every f true false (fun y _ a b => a * b % y.modq)
  | 0x07 => lvOp .every f true true (fun y d a b => (d + a * b) % y.modq)
  | 0x08 => lvOp .unary f false false (fun _ _ a _ => a)
  | 0x09 => lvBfly false f
  | 0x0A => lvBfly true f
  | 0x0B => lvBcm false f
  | 0x0C => lvBcm true f
  | 0x0D => lvClmul f
  | _ => fun _ y => .stop y stIllegal

/-! ### Power of the unit -/

/-- The stall of a wake, in tile cycles: from clock gating, or from the power of the domain (R167). -/
def TileSt.wakeStall (y : TileSt) : Nat := if y.lv == 1 then 64 else if y.lv == 2 then 3200 else 0

/-- Issue a long-vector instruction: a gated or powered-off unit wakes first, while the instruction stalls (R167). -/
def longIssue (t op : Nat) (f : LFields) (w : WordCheck) (d : Dev) : Dev :=
  let y := d.tile t
  if !d.issues t then d
  else if y.lv == 0 then (d.tileRun t (lWord op f) w (opLong op f)).onTile t (fun y => { y with lvSince := d.now })
  else (d.addNum P.tilLvWakeCount t 1).onTile t (fun y => { y with lv := 3, lvWaiting := some (op, f, w), sinceChkpt := y.sinceChkpt + y.wakeStall })

/-- A VEC domain that armed automatic gating switched off comes back on: its units have power again, their clocks still gated (R167, R168). (DEDUCED, assumption log 127) -/
def Dev.wakeDomain (d : Dev) (t : Nat) : Dev :=
  let q := 12 + quadOf t
  if d.domain q == .autoOff then
    (quadTiles (quadOf t)).foldl (fun d u => if (d.tile u).lv == 2 then d.onTile u (fun y => { y with lv := 1, lvSince := d.now }) else d)
      (d.onPower (fun p => { p with domains := tabSet q .on p.domains }))
  else d

/-- LV_WAKE_DONE: the unit is awake and the stalled instruction proceeds (R167, R168). -/
def lvWakeDone (t : Nat) (d : Dev) : Dev :=
  let y := d.tile t
  if y.lv == 0 then d
  else
    let d := (d.wakeDomain t).onTile t (fun y => { y with lv := 0, lvSince := d.now, lvWaiting := none })
    match y.lvWaiting with
    | some (op, f, w) => d.tileRun t (lWord op f) w (opLong op f)
    | none => d

/-- VEC_IDLE_CYCLES tile cycles, 16 to a tick, have passed since the unit's last instruction, or since it was gated (R168). -/
def Dev.lvIdle (d : Dev) (t : Nat) : Bool := decide (d.num P.vecIdleCycles 0 ≤ 16 * (d.now - (d.tile t).lvSince))

/-- VEC_AUTOGATE_IDLE (R168): under CLOCK and POWER an idle unit is gated; under POWER, once every unit of the quadrant has been gated for as long
again, the quadrant's VEC domain goes off. -/
def vecAutogateIdle (t : Nat) (d : Dev) : Dev :=
  let g := d.num P.vecAutogate 0
  let q := 12 + quadOf t
  let mine := quadTiles (quadOf t)
  if g == 0 || (d.tile t).lvWaiting.isSome || !d.lvIdle t then d
  else if (d.tile t).lv == 0 then d.onTile t (fun y => { y with lv := 1, lvSince := d.now })
  else if g == 2 && d.domain q == .on && mine.all (fun u => (d.tile u).lv == 1 && d.lvIdle u) then
    mine.foldl (fun x u => x.onTile u (fun y => { y with lv := 2, lvSince := d.now })) (d.onPower (fun p => { p with domains := tabSet q .autoOff p.domains }))
  else d

/-! ### The commands -/

def execLvAdd (t : Nat) (o : Met LFields) (s : State) := s.runPart t nTiles (longIssue t 0 o.fields o.words)
def execLvSub (t : Nat) (o : Met LFields) (s : State) := s.runPart t nTiles (longIssue t 1 o.fields o.words)
def execLvXor (t : Nat) (o : Met LFields) (s : State) := s.runPart t nTiles (longIssue t 2 o.fields o.words)
def execLvAnd (t : Nat) (o : Met LFields) (s : State) := s.runPart t nTiles (longIssue t 3 o.fields o.words)
def execLvMadd (t : Nat) (o : Met LFields) (s : State) := s.runPart t nTiles (longIssue t 4 o.fields o.words)
def execLvMsub (t : Nat) (o : Met LFields) (s : State) := s.runPart t nTiles (longIssue t 5 o.fields o.words)
def execLvMmul (t : Nat) (o : Met LFields) (s : State) := s.runPart t nTiles (longIssue t 6 o.fields o.words)
def execLvMmac (t : Nat) (o : Met LFields) (s : State) := s.runPart t nTiles (longIssue t 7 o.fields o.words)
def execLvCopy (t : Nat) (o : Met LFields) (s : State) := s.runPart t nTiles (longIssue t 8 o.fields o.words)
def execLvBflyCt (t : Nat) (o : Met LFields) (s : State) := s.runPart t nTiles (longIssue t 9 o.fields o.words)
def execLvBflyGs (t : Nat) (o : Met LFields) (s : State) := s.runPart t nTiles (longIssue t 10 o.fields o.words)
def execLvBcm (t : Nat) (o : Met LFields) (s : State) := s.runPart t nTiles (longIssue t 11 o.fields o.words)
def execLvBcmac (t : Nat) (o : Met LFields) (s : State) := s.runPart t nTiles (longIssue t 12 o.fields o.words)
def execLvClmul (t : Nat) (o : Met LFields) (s : State) := s.runPart t nTiles (longIssue t 13 o.fields o.words)
def execLvWakeDone (t : Nat) (s : State) := s.runPart t nTiles (lvWakeDone t)
def execVecAutogateIdle (t : Nat) (s : State) := s.runPart t nTiles (vecAutogateIdle t)

end Sys2Proof.Machine
end

