-- ==== Sys2Proof/Machine/TileScalar.lean ====
section
/-! DEFINITION. Scalar, control, staging and system instructions of the tile (R140, R141, R161, R162). -/

namespace Sys2Proof.Machine

/-! ### Scalar arithmetic (R140) -/

/-- s[D] = g(s[A], s[B]). -/
def saluOp (f : VFields) (g : Nat → Nat → Nat) : TileOp := fun _ y => (y.sset f.d (g (y.sget f.a) (y.sget f.b))).next 1 0
/-- s[D] = g(s[A], IMM), sign-extended. -/
def simmOp (f : IFields) (g : Nat → Nat → Nat) : TileOp := fun _ y => (y.sset f.d (g (y.sget f.a) (simm f.imm))).next 1 0
/-- A shift by an immediate below 64. -/
def sshiftOp (f : IFields) (g : Nat → Nat → Nat) : TileOp := fun _ y =>
  checked [(f.imm.toNat ≥ 64, stIllegal)] y ((y.sset f.d (g (y.sget f.a) f.imm.toNat)).next 1 0)

def opSadd (f : VFields) : TileOp := saluOp f (· + ·)
def opSsub (f : VFields) : TileOp := saluOp f (fun a b => a + (2 ^ 64 - b))
def opSand (f : VFields) : TileOp := saluOp f (· &&& ·)
def opSor (f : VFields) : TileOp := saluOp f (· ||| ·)
def opSxor (f : VFields) : TileOp := saluOp f (· ^^^ ·)
def opSsll (f : VFields) : TileOp := saluOp f (fun a b => a * 2 ^ (b % 64))
def opSsrl (f : VFields) : TileOp := saluOp f (fun a b => a / 2 ^ (b % 64))
def opSsra (f : VFields) : TileOp := saluOp f (fun a b => int64 (signed64 a / (2 : Int) ^ (b % 64)))
def opSmul (f : VFields) : TileOp := saluOp f (· * ·)
def opSsltu (f : VFields) : TileOp := saluOp f (fun a b => bnat (a < b))
def opSaddi (f : IFields) : TileOp := simmOp f (· + ·)
def opSandi (f : IFields) : TileOp := simmOp f (· &&& ·)
def opSslli (f : IFields) : TileOp := sshiftOp f (fun a n => a * 2 ^ n)
def opSsrli (f : IFields) : TileOp := sshiftOp f (fun a n => a / 2 ^ n)

/-- SLIH: a 16-bit lane of s[D]. -/
def opSlih (f : IFields) : TileOp := fun _ y =>
  let k := f.a.toNat % 4
  let old := y.sget f.d
  let new := old - bits (16 * k + 15) (16 * k) old * 2 ^ (16 * k) + f.imm.toNat * 2 ^ (16 * k)
  checked [(f.a.toNat ≥ 4, stIllegal)] y ((y.sset f.d new).next 1 0)

/-- The address of SLD and SST, and its checks (R140, R165). -/
def saddr (f : IFields) (y : TileSt) : Nat := (y.sget f.a + simm f.imm) % 2 ^ 64
def saddrChecks (f : IFields) (y : TileSt) : List (Bool × Nat) := [(saddr f y % 8 != 0, stAlign), (saddr f y + 8 > tileBytes, stBounds)]

def opSld (f : IFields) : TileOp := fun _ y => checked (saddrChecks f y) y ((y.sset f.d (leNat (y.mem.read (saddr f y) 8))).next 1 0)
def opSst (f : IFields) : TileOp := fun _ y => checked (saddrChecks f y) y ((y.mwrite (saddr f y) (natLE 8 (y.sget f.d))).next 1 0)

/-! ### Branches and jumps (R141) -/

/-- Go to a byte offset of the code, else a control-target fault. -/
def jumpTo (c : TileCtx) (y z : TileSt) (target : Int) : TileOut :=
  checked [(target < 0 || target ≥ (c.codeLen : Int) || target % 4 != 0, stTarget)] y (.ok { z with pc := target.toNat, vstart := 0 } 2 0)

/-- A conditional branch. -/
def branchOp (f : BFields) (p : Nat → Nat → Bool) : TileOp := fun c y =>
  if p (y.sget f.a) (y.sget f.b) then jumpTo c y y ((y.pc : Int) + 4 * f.off.toInt) else y.next 1 0

def opBeq (f : BFields) : TileOp := branchOp f (fun a b => a == b)
def opBne (f : BFields) : TileOp := branchOp f (fun a b => a != b)
def opBlt (f : BFields) : TileOp := branchOp f (fun a b => signed64 a < signed64 b)
def opBge (f : BFields) : TileOp := branchOp f (fun a b => signed64 a ≥ signed64 b)
def opBltu (f : BFields) : TileOp := branchOp f (fun a b => a < b)
def opBgeu (f : BFields) : TileOp := branchOp f (fun a b => a ≥ b)
def opJal (off : BitVec 26) : TileOp := fun c y => jumpTo c y (y.sset 31 (y.pc + 4)) ((y.pc : Int) + 4 * off.toInt)
def opJr (f : VFields) : TileOp := fun c y => checked [(f.d != 0 || f.b != 0 || f.pb, stIllegal)] y (jumpTo c y y (y.sget f.a))

/-! ### Staging (R161) -/

/-- Copy `n` bytes of a source to tile memory: bounds, then the source's own range. -/
def stageIn (f : VFields) (src : TileCtx → Bytes) : TileOp := fun c y =>
  let n := y.sget f.b
  let o := y.sget f.a
  checked [(n > 0 && y.sget f.d + n > tileBytes, stBounds), (o + n > (src c).length, stStaging)] y
    ((y.mwrite (y.sget f.d) (slice o n (src c))).next (16 + ceilDiv n 64) 0)

def opXin (f : VFields) : TileOp := stageIn f TileCtx.input
def opXpub (f : VFields) : TileOp := stageIn f TileCtx.pub
/-- XOUT copies plane 0, and is illegal with SHR 0 at ORDER above 0; past OUTCAP the operation ends with 0x0104. -/
def opXout (f : VFields) : TileOp := fun c y =>
  let n := y.sget f.b
  checked [(!y.shr && c.order > 0, stIllegal), (n > 0 && y.sget f.a + n > tileBytes, stBounds), (y.sget f.d + n > c.outCap, stCapacity)] y
    ({ y with staged := overlay (y.sget f.d) (y.mem.read (y.sget f.a) n) y.staged }.next (16 + ceilDiv n 64) 0)

/-! ### System (R127 to R133, R162) -/

def opNop (_ : VFields) : TileOp := fun _ y => y.next 1 0
/-- Set VL, report it in s[D]. -/
def setVl (d : BitVec 5) (v : Nat) (y : TileSt) : TileOut :=
  let n := Nat.min v y.vlmax
  ({ y with vl := n }.sset d n).next 1 0
def opVsetvl (f : VFields) : TileOp := fun _ y => setVl f.d (y.sget f.a) y
def opVsetvli (f : IFields) : TileOp := fun _ y => checked [(f.a != 0, stIllegal)] y (setVl f.d f.imm.toNat y)
/-- The reserved bits of VTYPE among the low 16 (R128). -/
def vtypeReserved (v : Nat) : Bool := bits 15 12 v != 0 || bits 7 6 v != 0 || bits 4 2 v != 0
def opVsettype (f : IFields) : TileOp := fun _ y =>
  checked [(f.d != 0 || f.a != 0, stIllegal), (vtypeReserved f.imm.toNat, stVtype)] y ({ y with vtype := f.imm.toNat, vl := 0 }.next 1 0)

/-- Control registers as CSRR reads them (R127). -/
def csrValue (c : TileCtx) (y : TileSt) (n : Nat) : Nat :=
  match n with
  | 0x00 => y.vl | 0x01 => y.vtype | 0x02 => y.vstart | 0x03 => y.lvss | 0x04 => c.order | 0x05 => c.keyLen | 0x06 => c.input.length
  | 0x07 => c.outCap | 0x08 => c.aux | 0x09 => c.param | 0x0A => c.opcode | 0x0B => y.twb | 0x0C => c.pub.length | _ => 0
def opCsrr (f : VFields) : TileOp := fun c y => (y.sset f.d (csrValue c y f.b.toNat)).next 1 0
/-- CSRW: VSTART takes only 0, LVSS 18 bits, TWB 16 bits; every other register is read-only or reserved. (DEDUCED, assumption log 87) -/
def opCsrw (f : VFields) : TileOp := fun _ y =>
  let n := f.b.toNat
  let v := y.sget f.a
  checked [(n != 2 && n != 3 && n != 0x0B, stIllegal), (n == 2 && v != 0, stVtype)] y
    ((if n == 2 then { y with vstart := 0 } else { y with csr := tabSet n (v % 2 ^ (if n == 3 then 18 else 16)) y.csr }).next 1 0)

/-- The derived fields of a prime-field modulus register (R132): MONT_SQ, BARRETT, QNEG_INV, from bit 0 up as they stand from bit 32. -/
def modulusAux (q : Nat) : Nat :=
  (2 ^ 32 - powMod (2 ^ 32) (q % 2 ^ 32) 32 (2 ^ 31 - 1)) % 2 ^ 32 + (2 ^ 62 / q % 2 ^ 32) * 2 ^ 32 + (2 ^ 64 % q) * 2 ^ 64
def opMset (f : VFields) : TileOp := fun _ y =>
  let q := y.sget f.a
  checked [(f.d.toNat ≥ 8, stIllegal), (q % 2 == 0 || q < 3 || q ≥ 2 ^ 31, stModulus)] y
    ({ y with m := tabSet f.d.toNat { kind := 0, value := q, aux := modulusAux q } y.m }.next 8 0)
def opMsetgf (f : VFields) : TileOp := fun _ y =>
  let v := y.sget f.a
  let m := bits 20 16 v
  checked [(f.d.toNat ≥ 8, stIllegal), (v ≥ 2 ^ 21 || m < 2 || m > 16, stModulus)] y
    ({ y with m := tabSet f.d.toNat { kind := 1, value := v, aux := 0 } y.m }.next 8 0)

/-- CHKPT with no abort pending: the 32,000 cycles of R163 start again. -/
def opChkpt (_ : VFields) : TileOp := fun _ y => { y with sinceChkpt := 0 }.next 1 0
def opDone (f : VFields) : TileOp := fun c y =>
  checked [(y.sget f.a > c.outCap, stCapacity)] y (.ended y 0 (y.sget f.a))
def opReject (f : VFields) : TileOp := fun _ y =>
  checked [(y.sget f.a % 256 < 0x10, stIllegal)] y (.ended y (0x0100 + y.sget f.a % 256) 0)
def opFault (_ : VFields) : TileOp := fun _ y => .stop y stDeliberate

/-- CHKPT acts on a pending abort (R163). -/
def chkpt (t : Nat) (f : VFields) (w : WordCheck) (d : Dev) : Dev :=
  match d.running t with
  | some (_, x, _) => if x.abort.isSome && d.issues t then d.actAbort t else d.tileRun t (vWord 0x3E 0x06 f) w (opChkpt f)
  | none => d.tileRun t (vWord 0x3E 0x06 f) w (opChkpt f)

/-! ### The commands -/

def execSadd (t : Nat) (o : Met VFields) (s : State) := s.runPart t nTiles fun d => d.tileRun t (vWord 0x01 0x00 o.fields) o.words (opSadd o.fields)
def execSsub (t : Nat) (o : Met VFields) (s : State) := s.runPart t nTiles fun d => d.tileRun t (vWord 0x01 0x01 o.fields) o.words (opSsub o.fields)
def execSand (t : Nat) (o : Met VFields) (s : State) := s.runPart t nTiles fun d => d.tileRun t (vWord 0x01 0x02 o.fields) o.words (opSand o.fields)
def execSor (t : Nat) (o : Met VFields) (s : State) := s.runPart t nTiles fun d => d.tileRun t (vWord 0x01 0x03 o.fields) o.words (opSor o.fields)
def execSxor (t : Nat) (o : Met VFields) (s : State) := s.runPart t nTiles fun d => d.tileRun t (vWord 0x01 0x04 o.fields) o.words (opSxor o.fields)
def execSsll (t : Nat) (o : Met VFields) (s : State) := s.runPart t nTiles fun d => d.tileRun t (vWord 0x01 0x05 o.fields) o.words (opSsll o.fields)
def execSsrl (t : Nat) (o : Met VFields) (s : State) := s.runPart t nTiles fun d => d.tileRun t (vWord 0x01 0x06 o.fields) o.words (opSsrl o.fields)
def execSsra (t : Nat) (o : Met VFields) (s : State) := s.runPart t nTiles fun d => d.tileRun t (vWord 0x01 0x07 o.fields) o.words (opSsra o.fields)
def execSmul (t : Nat) (o : Met VFields) (s : State) := s.runPart t nTiles fun d => d.tileRun t (vWord 0x01 0x08 o.fields) o.words (opSmul o.fields)
def execSsltu (t : Nat) (o : Met VFields) (s : State) := s.runPart t nTiles fun d => d.tileRun t (vWord 0x01 0x09 o.fields) o.words (opSsltu o.fields)
def execSaddi (t : Nat) (o : Met IFields) (s : State) := s.runPart t nTiles fun d => d.tileRun t (iWord 0x02 o.fields) o.words (opSaddi o.fields)
def execSandi (t : Nat) (o : Met IFields) (s : State) := s.runPart t nTiles fun d => d.tileRun t (iWord 0x03 o.fields) o.words (opSandi o.fields)
def execSslli (t : Nat) (o : Met IFields) (s : State) := s.runPart t nTiles fun d => d.tileRun t (iWord 0x04 o.fields) o.words (opSslli o.fields)
def execSsrli (t : Nat) (o : Met IFields) (s : State) := s.runPart t nTiles fun d => d.tileRun t (iWord 0x05 o.fields) o.words (opSsrli o.fields)
def execSlih (t : Nat) (o : Met IFields) (s : State) := s.runPart t nTiles fun d => d.tileRun t (iWord 0x06 o.fields) o.words (opSlih o.fields)
def execSld (t : Nat) (f : IFields) (w : WordCheck) (s : State) := s.runPart t nTiles fun d => d.tileRun t (iWord 0x0A f) w (opSld f)
def execSst (t : Nat) (o : Met IFields) (s : State) := s.runPart t nTiles fun d => d.tileRun t (iWord 0x0B o.fields) o.words (opSst o.fields)
def execBeq (t : Nat) (o : Met BFields) (s : State) := s.runPart t nTiles fun d => d.tileRun t (bWord 0x10 o.fields) o.words (opBeq o.fields)
def execBne (t : Nat) (o : Met BFields) (s : State) := s.runPart t nTiles fun d => d.tileRun t (bWord 0x11 o.fields) o.words (opBne o.fields)
def execBlt (t : Nat) (o : Met BFields) (s : State) := s.runPart t nTiles fun d => d.tileRun t (bWord 0x12 o.fields) o.words (opBlt o.fields)
def execBge (t : Nat) (o : Met BFields) (s : State) := s.runPart t nTiles fun d => d.tileRun t (bWord 0x13 o.fields) o.words (opBge o.fields)
def execBltu (t : Nat) (o : Met BFields) (s : State) := s.runPart t nTiles fun d => d.tileRun t (bWord 0x14 o.fields) o.words (opBltu o.fields)
def execBgeu (t : Nat) (o : Met BFields) (s : State) := s.runPart t nTiles fun d => d.tileRun t (bWord 0x15 o.fields) o.words (opBgeu o.fields)
def execJal (t : Nat) (o : Met (BitVec 26)) (s : State) := s.runPart t nTiles fun d => d.tileRun t (0x16 * 2 ^ 26 + o.fields.toNat) o.words (opJal o.fields)
def execJr (t : Nat) (o : Met VFields) (s : State) := s.runPart t nTiles fun d => d.tileRun t (vWord 0x17 0x00 o.fields) o.words (opJr o.fields)
def execXin (t : Nat) (o : Met VFields) (s : State) := s.runPart t nTiles fun d => d.tileRun t (vWord 0x30 0x00 o.fields) o.words (opXin o.fields)
def execXout (t : Nat) (o : Met VFields) (s : State) := s.runPart t nTiles fun d => d.tileRun t (vWord 0x30 0x01 o.fields) o.words (opXout o.fields)
def execXpub (t : Nat) (o : Met VFields) (s : State) := s.runPart t nTiles fun d => d.tileRun t (vWord 0x30 0x02 o.fields) o.words (opXpub o.fields)
def execNop (t : Nat) (o : Met VFields) (s : State) := s.runPart t nTiles fun d => d.tileRun t (vWord 0x3E 0x00 o.fields) o.words (opNop o.fields)
def execVsetvl (t : Nat) (o : Met VFields) (s : State) := s.runPart t nTiles fun d => d.tileRun t (vWord 0x3E 0x01 o.fields) o.words (opVsetvl o.fields)
def execVsetvli (t : Nat) (o : Met IFields) (s : State) := s.runPart t nTiles fun d => d.tileRun t (iWord 0x3C o.fields) o.words (opVsetvli o.fields)
def execVsettype (t : Nat) (o : Met IFields) (s : State) := s.runPart t nTiles fun d => d.tileRun t (iWord 0x3D o.fields) o.words (opVsettype o.fields)
def execCsrr (t : Nat) (o : Met VFields) (s : State) := s.runPart t nTiles fun d => d.tileRun t (vWord 0x3E 0x02 o.fields) o.words (opCsrr o.fields)
def execCsrw (t : Nat) (o : Met VFields) (s : State) := s.runPart t nTiles fun d => d.tileRun t (vWord 0x3E 0x03 o.fields) o.words (opCsrw o.fields)
def execMset (t : Nat) (o : Met VFields) (s : State) := s.runPart t nTiles fun d => d.tileRun t (vWord 0x3E 0x04 o.fields) o.words (opMset o.fields)
def execMsetgf (t : Nat) (o : Met VFields) (s : State) := s.runPart t nTiles fun d => d.tileRun t (vWord 0x3E 0x05 o.fields) o.words (opMsetgf o.fields)
def execChkpt (t : Nat) (o : Met VFields) (s : State) := s.runPart t nTiles (chkpt t o.fields o.words)
def execTileDone (t : Nat) (o : Met VFields) (s : State) := s.runPart t nTiles fun d => d.tileRun t (vWord 0x3E 0x07 o.fields) o.words (opDone o.fields)
def execReject (t : Nat) (o : Met VFields) (s : State) := s.runPart t nTiles fun d => d.tileRun t (vWord 0x3E 0x08 o.fields) o.words (opReject o.fields)
def execFault (t : Nat) (o : Met VFields) (s : State) := s.runPart t nTiles fun d => d.tileRun t (vWord 0x3E 0x09 o.fields) o.words (opFault o.fields)

end Sys2Proof.Machine
end

