-- ==== Sys2Proof/Machine/TileRun.lean ====
section
/-! DEFINITION. Instruction words of the tile, the run of an integrator microprogram, and the events that end an operation from outside
(R126, R137 to R139, R163, R164, R180, R181). -/

namespace Sys2Proof.Machine

/-! ### Words (R137 to R139) -/

def wordV (w : Nat) : VFields :=
  { d := BitVec.ofNat 5 (bits 25 21 w), a := BitVec.ofNat 5 (bits 20 16 w), b := BitVec.ofNat 5 (bits 15 11 w), pb := w.testBit 4 }
def wordI (w : Nat) : IFields := { d := BitVec.ofNat 5 (bits 25 21 w), a := BitVec.ofNat 5 (bits 20 16 w), imm := BitVec.ofNat 16 w }
def wordB (w : Nat) : BFields := { a := BitVec.ofNat 5 (bits 25 21 w), b := BitVec.ofNat 5 (bits 20 16 w), off := BitVec.ofNat 16 w }
def wordT (w : Nat) : TFields :=
  { d := BitVec.ofNat 5 (bits 25 21 w), a := BitVec.ofNat 5 (bits 20 16 w), b := BitVec.ofNat 5 (bits 15 11 w), rep := BitVec.ofNat 4 (bits 10 7 w),
    gs := w.testBit 6 }
def wordM (w : Nat) : MFields :=
  { d := BitVec.ofNat 5 (bits 25 21 w), a := BitVec.ofNat 5 (bits 20 16 w), b := BitVec.ofNat 5 (bits 15 11 w), sp := w.testBit 7 }
def wordL (w : Nat) : LFields :=
  { d := BitVec.ofNat 5 (bits 25 21 w), a := BitVec.ofNat 5 (bits 20 16 w), b := BitVec.ofNat 5 (bits 15 11 w), pb := w.testBit 10 }

/-- The instructions of a format V class, by FUNC. -/
def classV (major : Nat) : List (VFields → TileOp) :=
  match major with
  | 0x01 => [opSadd, opSsub, opSand, opSor, opSxor, opSsll, opSsrl, opSsra, opSmul, opSsltu]
  | 0x17 => [opJr]
  | 0x18 => [opVadd false, opVsub false, opVand false, opVor false, opVxor false, opVnot false, opVsll false, opVsrl false, opVsra false, opVmul false,
             opVseq false, opVsltu false]
  | 0x19 => [opVadd true, opVsub true, opVand true, opVor true, opVxor true, opVnot true, opVsll true, opVsrl true, opVsra true, opVmul true,
             opVseq true, opVsltu true]
  | 0x1A => [opVmadd false, opVmsub false, opVmneg false, opVmmul false, opVmmac false, opVmred false, opVmcent false, opVmp2r false, opVmhigh false]
  | 0x1B => [opVmadd true, opVmsub true, opVmneg true, opVmmul true, opVmmac true, opVmred true, opVmcent true, opVmp2r true, opVmhigh true]
  | 0x1D => [opVmv, opVslideup, opVslidedn, opVziplo, opVziphi, opVunzipe, opVunzipo, opVrevb, opVbcast, opVmvsx, opVmvxs, opVredadd]
  | 0x1E => [opVclmull, opVclmulh, opVgfmul, opVgfsq, opVgfinv, opVgfmac, opVpopc]
  | 0x24 => [opKld, opKabs, opKsh2, opKlv]
  | 0x28 => [opKcInit, opKcAbs, opKcAbsm, opKcFin, opKcSqz, opKcSqzm, opKcPerm]
  | 0x29 => [opSh2Init, opSh2Absm, opSh2Fin, opSh2Out]
  | 0x2A => [opSmpUni12, opSmpUni23, opSmpCbd, opSmpEta, opSmpBall, opSmpGauss]
  | 0x2C => [opGA2b, opGB2a, opGAnd, opGMul, opGGfmul, opGRefresh, opGCmpeq, opGRandr, opGCompress, opGDecomp, opGInrange, opGSel, opGUnmask]
  | 0x30 => [opXin, opXout, opXpub]
  | 0x3E => [opNop, opVsetvl, opCsrr, opCsrw, opMset, opMsetgf, opChkpt, opDone, opReject, opFault]
  | _ => []

/-- The instruction a word spells; `none` for an illegal word (R138). -/
def tileWord (w : Nat) : Option TileOp :=
  let major := w / 2 ^ 26 % 64
  match major with
  | 0x02 => some (opSaddi (wordI w)) | 0x03 => some (opSandi (wordI w)) | 0x04 => some (opSslli (wordI w)) | 0x05 => some (opSsrli (wordI w))
  | 0x06 => some (opSlih (wordI w)) | 0x0A => some (opSld (wordI w)) | 0x0B => some (opSst (wordI w))
  | 0x10 => some (opBeq (wordB w)) | 0x11 => some (opBne (wordB w)) | 0x12 => some (opBlt (wordB w)) | 0x13 => some (opBge (wordB w))
  | 0x14 => some (opBltu (wordB w)) | 0x15 => some (opBgeu (wordB w)) | 0x16 => some (opJal (BitVec.ofNat 26 w))
  | 0x1C => if bits 5 0 w == 0 then some (opBfly (w.testBit 6) (wordT w)) else none
  | 0x20 => if bits 6 0 w == 0 && bits 10 8 w ≤ 5 then some (opVload (bits 10 8 w) (wordM w)) else none
  | 0x21 => if bits 6 0 w == 0 && bits 10 8 w ≤ 5 then some (opVstore (bits 10 8 w) (wordM w)) else none
  | 0x22 => if bits 4 0 w == 0 && bits 9 5 w ≤ 0x0D then some (opLong (bits 9 5 w) (wordL w)) else none
  | 0x3C => some (opVsetvli (wordI w)) | 0x3D => some (opVsettype (wordI w))
  | _ => if bits 3 0 w == 0 then ((classV major)[bits 10 5 w]?).map (fun op => op (wordV w)) else none

/-! ### Start and run -/

/-- Fetch, decode and run until the operation ends, at most `fuel` instructions; `salt` keeps each instruction's free values apart. A word outside the
code is a control-target fault. Past the ceiling it is 0x080A (R164). A long-vector instruction wakes a gated unit first: its stall counts toward the 32,000 cycles of R163
and not toward the ceiling (R167). -/
def runCode (c : TileCtx) (code : Bytes) (ceil : Nat) : Nat → Nat → Nat → TileSt → TileOut × Nat × Nat
  | 0, _, sp, y => (.stop y stCeiling, 0, sp)
  | k + 1, salt, sp, y =>
    let w := leAt y.pc 4 code
    if y.pc + 4 > code.length then (.stop y stTarget, w, sp)
    else match tileWord w with
      | none => (.stop y stIllegal, w, sp)
      | some op =>
        let y := if w / 2 ^ 26 % 64 == 0x22 then { y with lv := 0, sinceChkpt := y.sinceChkpt + y.wakeStall } else y
        match op { c with rnd := c.rnd + salt } y with
        | .ok z cyc n =>
          let z := { z with cycles := z.cycles + cyc, sinceChkpt := z.sinceChkpt + cyc }
          if z.cycles > ceil then (.stop z stCeiling, w, sp + n) else runCode c code ceil k (salt + 1) (sp + n) z
        | o => (o, w, sp)

/-- The tile state at an end. -/
def TileOut.state : TileOut → TileSt
  | .ok y _ _ => y
  | .stop y _ => y
  | .ended y _ _ => y

/-- The words that a whole run reads (R100, R102): `none` where one of them moves the operation. -/
def Dev.runWords (d : Dev) (t : Nat) (w : WordCheck) : Option Dev :=
  w.foldl (fun d x => d.bind (fun d =>
    if wordGood x then some (d.countCorrected t (correctedWords [x]))
    else if (x.place == .tileMemory || x.place == .keyRegister) && x.again ≤ 2 then
      some (((d.addNum P.tilUeCount t 1).countCorrected t (bnat (x.again > 0))).recoveredWord t)
    else none)) (some d)

/-- INTEGRATOR_MICROPROGRAM (R181): run the microprogram bound to the opcode from its entry to its end. Where it draws spark randomness and there is none, it waits (R111);
a word that cannot be recovered moves it (R102). (DESIGN CHOICE, assumption log 84) -/
def integratorMicroprogram (j : Nat) (w : WordCheck) (d : Dev) : Dev :=
  match d.job? j with
  | none => d
  | some x =>
    match d.jobReq x with
    | none => d
    | some q =>
      if x.unit ≥ nTiles || x.begun.isNone || x.finished || x.abort.isSome || q.desc.opcode / 256 != 0x70 || !d.issues x.unit then d
      else match d.bound? x.unit q.desc.opcode with
        | none => d
        | some (m, e) =>
          let t := x.unit
          let s := d.startTile t q.desc.opcode
          let ceil := e.ceil.getD x.order 0
          let (o, word, sp) := runCode (s.tileCtx t) m.code ceil ((ceil + 2) * (m.code.length / 4 + 2)) 0 0 (s.tile t)
          if d.sparkOut t && sp > 0 then d.stallOn t
          else match s.runWords t w with
            | none => ((s.addNum P.tilUeCount t 1).wordLost t)
            | some d =>
              let woke := (d.tile t).lv != 0 && o.state.lv == 0
              let d := { d with freeCtr := d.freeCtr + (ceil + 2) * (m.code.length / 4 + 2) }
              let d := if woke then (d.addNum P.tilLvWakeCount t 1).wakeDomain t else d
              (d.sparkDraw t (d.sparkUse t o.state.cycles sp)).tileEnd t word o

/-! ### Events -/

/-- ABORT_CHECKPOINT_TIMEOUT (R163): 32,000 tile cycles, 20 µs, have passed with an abort pending and no CHKPT, stall cycles among them; the tile acts on it now. Of
a vendor operation, whose instructions the model does not run one by one, and of a tile that stands in a spark stall, device time since the start counts. (DEDUCED, assumption log 91) -/
def abortCheckpointTimeout (t : Nat) (d : Dev) : Dev :=
  let y := d.tile t
  match d.running t with
  | none => d
  | some (_, x, _) =>
    if y.sinceChkpt ≥ 32000 || ((y.cycles == 0 || y.sparkWaiting.isSome) && (match x.begun with | some b => decide (b + 2000 ≤ d.now) | none => false)) then d.actAbort t else d

/-- CYCLE_CEILING_EXCEEDED (R164): an operation that has run longer than its ceiling ends with 0x080A. An abort on the same instruction decides instead (R163). -/
def cycleCeilingExceeded (t : Nat) (d : Dev) : Dev :=
  let word := match d.runningMp t with | some m => leAt (d.tile t).pc 4 m.code | none => 0
  if d.pastCeiling t then d.tileEnd t word (.stop (d.tile t) stCeiling) else d

/-- ILLEGAL_INSTRUCTION (R138, R165): the tile meets a word that is one. (DEDUCED, assumption log 91) -/
def illegalInstruction (t : Nat) (w : BitVec 32) (d : Dev) : Dev :=
  if !d.issues t then d
  else match tileWord w.toNat with
    | none => d.tileEnd t w.toNat (.stop (d.tile t) stIllegal)
    | some op => (match op (d.tileCtx t) (d.tile t) with
      | .stop y st => if st == stIllegal then d.tileEnd t w.toNat (.stop y st) else d
      | _ => d)

/-- SPARK_SEED_ARRIVE (R111, R250): a tile's instruction that waited for spark randomness runs on. -/
def sparkSeedArrives (u : Nat) (d : Dev) : Dev :=
  let d := sparkSeedArrive u d
  match (d.tile u).sparkWaiting with
  | none => d
  | some (word, w) =>
    if u ≥ nTiles || d.sparkOut u then d
    else
      let d := d.onTile u (fun y => { y with sparkWaiting := none })
      match tileWord word with
      | some op => d.tileRun u word w op
      | none => d

/-! ### The commands -/

def execAbortCheckpointTimeout (t : Nat) (s : State) := s.runPart t nTiles (abortCheckpointTimeout t)
def execCycleCeilingExceeded (t : Nat) (s : State) := s.runPart t nTiles (cycleCeilingExceeded t)
def execIllegalInstruction (t : Nat) (w : BitVec 32) (s : State) := s.runPart t nTiles (illegalInstruction t w)
def execIntegratorMicroprogram (o : Met Nat) (s : State) := s.run (integratorMicroprogram o.fields o.words)
def execSparkSeedArrive (u : Nat) (s : State) := s.runPart u nUnits (sparkSeedArrives u)

end Sys2Proof.Machine
end

