-- ==== Sys2Proof/Machine/Units.lean ====
section
/-! DEFINITION. Units out of service and back: commands to tiles and engines, the steps of RETURNING, probation, scrubs, refreshes, the patrol
scrubber and uncorrectable words (R81, R100 to R104, R109, R116, R120 to R123, R272, R273, R276, R277, R281). -/

namespace Sys2Proof.Machine

/-! ### Returning (R122, R277) -/

/-- A tile starts to calibrate from the host floor (R376); under FIXED there is nothing to calibrate (R378). -/
def Dev.startCalibration (d : Dev) (t : Nat) : Dev :=
  if d.num P.qncMode 0 == 1 then d
  else (d.onQ t (fun q => { q with calibrating := true, passes := 0, cleanCount := 0, probes := 0, fixedCount := 0, randomCount := 0, acc := [], base := [],
                                   windowEnded := false })).wantLevel t (d.num P.qncFloor 0)

/-- Enter RETURNING at a step: 1 where the unit's power was off, and for engines; a tile whose domain stayed on has no slots to reload. -/
def Dev.startReturn (d : Dev) (u : Nat) (wasOff : Bool) : Dev :=
  (d.setPool u .returning .host).onUnit u (fun x => { x with returnStep := if u < nTiles && !wasOff then 2 else 1, matched := 0 })

/-- A step of RETURNING or a probation has failed: the unit goes OUT, and its failure is counted. -/
def Dev.returnFail (d : Dev) (u : Nat) : Dev :=
  let d := if u < nTiles then d.addNum P.tilReturnFailCount u 1 else if u < 160 then d.addNum P.hamReturnFailCount (u - nTiles) 1 else d
  (d.onQ u (fun q => if u < nTiles then { q with calibrating := false, passes := 0 } else q)).setPool u .out .alarm

/-- Enter PROBATION (R123). -/
def Dev.enterProbation (d : Dev) (u : Nat) : Dev := (d.setPool u .probation .host).onUnit u (fun x => { x with probationStart := d.now, matched := 0 })

/-- The last step has ended well: PROBATION, or in BOOT the pool. -/
def Dev.endReturn (d : Dev) (u : Nat) : Dev :=
  if d.modes.mode == .boot then (d.setPool u .joining .host).poolChange { unit := u, target := .inPool, edge := .host } else d.enterProbation u

/-- The last step of RETURNING: 4, the calibration, for a tile; 2, the scrub, for an engine. -/
def lastStep (u : Nat) : Nat := if u < nTiles then 4 else 2

/-- The step that scrubs with ECC checking: 3 for a tile, the last for an engine (R122, R277). -/
def checkStep (u : Nat) : Nat := if u < nTiles then 3 else 2

/-- The words that the checking scrub finds: on a tile they are counted (R100, R103). -/
def Dev.countWords (d : Dev) (u : Nat) (found : WordCheck) : Dev :=
  if u < nTiles then
    let bad := (found.filter (fun x => !wordGood x)).length
    let d := d.countCorrected u (correctedWords found)
    if bad == 0 then d else d.addNum P.tilUeCount u bad
  else d

/-- Any uncorrectable word, or more than 4 correctable ones, fails it. -/
def scrubFails (found : WordCheck) : Bool := found.any (fun x => !wordGood x) || correctedWords found > 4

/-- RETURN_STEP_DONE: the step the unit is at ends well or fails (R122, R277). The checking scrub writes patterns through memory, key register and register files, so
that a key held there is lost; it ends with scrub output in memory. A tile's step 4 ends well once its calibration has (R376). In BOOT the units take the same
steps from step 8 of R471 on, and one that has passed them joins at the next epoch boundary, without probation, and runs what BOOT runs (R12). (DEDUCED, assumption log 53) -/
def returnStepDone (u : Nat) (ok : Bool) (found : WordCheck) (d : Dev) : Dev :=
  let x := d.unit u
  if x.pool != .returning || (d.modes.mode == .boot && (d.boot.step != 8 || d.boot.halted)) || !d.unitPowered u then d
  else
    let check := x.returnStep == checkStep u
    let d := if check then ((d.countWords u found).wipe u).onUnit u (fun y => { y with scrubbing := false }) else d
    if !ok || (check && scrubFails found) then (d.returnFail u).rolloutStep
    else if x.returnStep ≥ lastStep u then if u < nTiles && (d.q u).calibrating then d else (d.endReturn u).rolloutStep
    else
      let d := d.onUnit u (fun y => { y with returnStep := y.returnStep + 1 })
      if u < nTiles && check then d.startCalibration u else d

/-- 50 ms, the least time in PROBATION (R81). (DEDUCED, assumption log 36) -/
def probationTicks : Nat := 5000000

/-- PROBATION_COMPLETE: 4,096 results have matched, and 50 ms have passed (R81, R123): the unit waits for the next epoch boundary. Known-answer vectors run
while the unit is free, and the matching ones count: how many there were is a free number; short of 4,096 the unit stays (assumption log 36). (DEDUCED,
assumption log 5) -/
def probationComplete (u : Nat) (d : Dev) : Dev :=
  let x := d.unit u
  if x.pool != .probation || d.now < x.probationStart + probationTicks then d
  else
    let (n, d) := d.fresh
    let total := if x.matched ≥ 4096 then x.matched else x.matched + Config.freeNat n
    if total < 4096 then d
    else ((((d.dropShadows u).setPool u .joining .host).onUnit u (fun y => { y with matched := total })).poolChange { unit := u, target := .inPool, edge := .host }).rolloutStep

/-! ### Scrub and refresh -/

/-- SCRUB_DONE (R116, R271): the unit may take an operation again. -/
def scrubDone (u : Nat) (d : Dev) : Dev :=
  if (d.unit u).scrubbing then (d.onUnit u (fun x => { x with scrubbing := false })).startReady else d

/-- KEY_REGISTER_REFRESH_DONE (R109): the register holds the key in new shares; an assignment that arrived during the refresh starts. -/
def keyRegisterRefreshDone (u : Nat) (d : Dev) : Dev :=
  if (d.unit u).refreshing then ((d.refreshKey u).onUnit u (fun x => { x with refreshing := false })).startReady else d

/-! ### Word errors -/

/-- Count a recovered word of a big-number engine: the window of R103 is 2^32 engine cycles, 357,913,941 ticks at 1.2 GHz (R273). -/
def Dev.recoveredEngineWord (d : Dev) (u : Nat) : Dev :=
  let d := d.raiseUnit 0x801 u 0
  let keep := ((d.unit u).ueTimes.filter (fun t => d.now < t + 357913941)) ++ [d.now]
  let d := d.onUnit u (fun x => { x with ueTimes := if keep.length ≥ 3 then [] else keep })
  if keep.length ≥ 3 then (d.raiseUnit 0x806 u 0).drainUnit u .alarm else d

/-- An uncorrectable word that an engine meets in operand memory or its key register (R273): re-read, or the key reloaded, and one restart with fresh blinding;
else the operation moves. -/
def Dev.engineWord (d : Dev) (u : Nat) (inKey ok : Bool) : Dev :=
  let d := if inKey then d.reloadKey u else d
  if ok then d.recoveredEngineWord u else d.moveOff u

/-- ENGINE_UNCORRECTABLE_WORD (R273). -/
def engineUncorrectableWord (u : Nat) (inKeyRegister rereadOk : Bool) (d : Dev) : Dev :=
  if u < nTiles || u ≥ 160 || !d.unitPowered u then d
  else if rereadOk then d.engineWord u inKeyRegister true else (d.engineWord u inKeyRegister false).goOn

/-- One finding of the patrol scrubber (R101): a corrected word is counted on a tile; an uncorrectable one in memory is treated as R102 or R273 has it. The rule
says nothing of the key register, and the model treats it alike; a microprogram-store word comes again from the library, and the model counts it among the recovered words of
R103. (DESIGN CHOICE, assumption log 118) -/
def patrolOne (u : Nat) (d : Dev) (w : WordRead) : Dev :=
  if u ≥ nTiles then (if wordGood w then d else d.engineWord u (w.place == .keyRegister) (w.again ≤ 2))
  else if wordGood w then d.countCorrected u (correctedWords [w])
  else
    let d := d.addNum P.tilUeCount u 1
    match w.place with
    | .slot _ => d.recoveredWord u
    | _ =>
      let d := if w.place == .keyRegister then d.reloadKey u else d
      if w.again ≤ 2 then (d.countCorrected u (bnat (w.again > 0))).recoveredWord u else d.moveOff u

/-- PATROL_SCRUB (R101, R249): a pass over a tile's memory, key register and microprogram store, or over an engine's operand memory and key register. -/
def patrolScrub (u : Nat) (found : WordCheck) (d : Dev) : Dev :=
  if u < 160 && d.modes.mode.powered && d.unitPowered u then (found.foldl (patrolOne u) d).goOn else d

/-- ENGINE_CHECKPOINT (R272): after a modular multiplication, or at the end of a block, an engine acts on a pending abort. -/
def engineCheckpoint (u : Nat) (d : Dev) : Dev := if u < nTiles then d else d.actAbort u

/-! ### Commands to units (R120, R121, R276, R281) -/

/-- TIL_CMD_OUT, HAM_CMD_OUT, FUL_CMD_OUT: the host takes a unit in the pool to DRAINING. -/
def effUnitOut (base count : Nat) : Effect := withArg 0 fun d m =>
  let u := base + m.row.toNat
  if m.row.toNat ≥ count then deny d (Reply.err resUnknown)
  else if (d.unit u).pool == .inPool then accept (d.drainUnit u .host).rolloutStep else deny d (Reply.err resState)

/-- TIL_CMD_RETURN, HAM_CMD_RETURN, FUL_CMD_RETURN: a unit that is OUT enters RETURNING. -/
def effUnitReturn (base count : Nat) : Effect := withArg 0 fun d m =>
  let u := base + m.row.toNat
  if m.row.toNat ≥ count then deny d (Reply.err resUnknown)
  else if (d.unit u).pool == .out then accept (d.startReturn u false) else deny d (Reply.err resState)

/-- Drop the class V rows that stand in a unit's own domain (R497). -/
def Dev.clearUnitRows (d : Dev) (u : Nat) : Dev :=
  let own : Param → Nat → Bool := fun p r => u < nTiles && r == u && (match catFind p with | some c => c.persist == .v && c.domain == .tile | none => false)
  d.onDict (fun c => { nums := c.nums.filter (fun e => !own e.1.1 e.1.2), octs := c.octs.filter (fun e => !own e.1.1 e.1.2) })

/-- What a reset of one unit, or the return of its power, takes to its defaults (R121, R276, R379, R497, R498). The long-vector unit holds no architectural state, and its
power is its domain's (R167). -/
def Dev.unitDefaults (d : Dev) (u : Nat) : Dev :=
  let d := (d.clearKey u).clearUnitRows u
  let d := d.onUnit u (fun x => { x with curves := [], lastSlice := none, spark := Spark.reset, refreshing := false, ueTimes := [], glitchTimes := [], windows := [] })
  let d := d.monitorWritten (1152 + u)
  if u < nTiles then
    ((d.onTile u (fun y => { TileSt.reset with lv := y.lv })).onQ u (fun _ => QuenchSt.reset)).monitorWritten (1024 + u)
  else d

/-- TIL_CMD_RESET, HAM_CMD_RESET, FUL_CMD_RESET: in every pool state but OFF. Operations in service are withheld and computed again elsewhere; a
stateful signature takes a new index. A reset of the main domains that is in progress absorbs it (R496). -/
def effUnitReset (base count : Nat) : Effect := withArg 0 fun d m =>
  let u := base + m.row.toNat
  if m.row.toNat ≥ count then deny d (Reply.err resUnknown)
  else if d.modes.inReset.isSome then accept (d.absorbed 5)
  else if (d.unit u).pool == .off then deny d (Reply.err resState)
  else accept ((((d.unitOut u .host).unitDefaults u).scrubMemory u).goOn).rolloutStep

/-! ### The commands -/

def execReturnStepDone (u : Nat) (o : Met Bool) (s : State) := s.runPart u nUnits (returnStepDone u o.fields o.words)
def execProbationComplete (u : Nat) (s : State) := s.runPart u nUnits (probationComplete u)
def execScrubDone (u : Nat) (s : State) := s.runPart u nUnits (scrubDone u)
def execKeyRegisterRefreshDone (u : Nat) (s : State) := s.runPart u nUnits (keyRegisterRefreshDone u)
def execPatrolScrub (u : Nat) (found : WordCheck) (s : State) := s.runPart u nUnits (patrolScrub u found)
def execEngineCheckpoint (u : Nat) (s : State) := s.runPart u nUnits (engineCheckpoint u)
def execEngineUncorrectableWord (u : Nat) (key ok : Bool) (s : State) := s.runPart u nUnits (engineUncorrectableWord u key ok)
def execTilCmdOut (m : Msg) (s : State) := s.run fun d => d.serve d.lc P.tilCmdOut 0 m false (effUnitOut 0 nTiles)
def execTilCmdReturn (m : Msg) (s : State) := s.run fun d => d.serve d.lc P.tilCmdReturn 0 m false (effUnitReturn 0 nTiles)
def execTilCmdReset (m : Msg) (s : State) := s.run fun d => d.serve d.lc P.tilCmdReset 0 m false (effUnitReset 0 nTiles)
def execHamCmdOut (m : Msg) (s : State) := s.run fun d => d.serve d.lc P.hamCmdOut 0 m false (effUnitOut 128 nHammers)
def execHamCmdReturn (m : Msg) (s : State) := s.run fun d => d.serve d.lc P.hamCmdReturn 0 m false (effUnitReturn 128 nHammers)
def execHamCmdReset (m : Msg) (s : State) := s.run fun d => d.serve d.lc P.hamCmdReset 0 m false (effUnitReset 128 nHammers)
def execFulCmdOut (m : Msg) (s : State) := s.run fun d => d.serve d.lc P.fulCmdOut 0 m false (effUnitOut 160 nFullers)
def execFulCmdReturn (m : Msg) (s : State) := s.run fun d => d.serve d.lc P.fulCmdReturn 0 m false (effUnitReturn 160 nFullers)
def execFulCmdReset (m : Msg) (s : State) := s.run fun d => d.serve d.lc P.fulCmdReset 0 m false (effUnitReset 160 nFullers)

end Sys2Proof.Machine
end

