-- ==== Sys2Proof/Machine/Queues.lean ====
section
/-! DEFINITION. Queue pairs, doorbells, credit, admission, completion records and host-memory translations (R21 to R62, R395, R561). -/

namespace Sys2Proof.Machine

/-! ### Counts and configuration -/

/-- The slice of a queue pair, and that slice's PASID (R21, R394). -/
def Dev.qpOwner (d : Dev) (q : Nat) : Nat := d.num P.qpSlice q
def Dev.qpPasid (d : Dev) (q : Nat) : Nat := d.pasid (d.qpOwner q)

/-- Credit C = R + N (R31). (DESIGN CHOICE, assumption log 82) -/
def Dev.credit (d : Dev) (q : Nat) : Nat := (d.qp q).r + d.num P.qpSqEntries q

/-- Bytes of published and unreleased records (R49). -/
def Qp.held (p : Qp) : Nat := 16 * p.unreleased.foldl (· + ·) 0
/-- Reserved bytes (R49). -/
def Dev.reservedBytes (d : Dev) (q : Nat) : Nat :=
  (d.qp q).held + d.disp.reqs.foldl (fun a e => if e.2.qp == q then a + e.2.reserved else a) 0

/-- Does anything reach the host: main power, and the PCIe controller out of reset? -/
def Dev.hostUp (d : Dev) : Bool := d.modes.mode.powered && !d.host.linkReset

/-- The attributes of the accesses that R21 and R58 name: No Snoop, Relaxed Ordering and ID-Based Ordering clear. -/
def BusAttr.plain : BusAttr := { noSnoop := false, relaxed := false, idBased := false }

/-- Write host memory for a queue pair, and read it (R21, R58). -/
def Dev.hostWrite (d : Dev) (q a : Nat) (b : Bytes) : Dev := d.emit (.hostWrite (some (d.qpPasid q)) BusAttr.plain a b)
def Dev.hostRead (d : Dev) (q a n : Nat) : Dev := d.emit (.hostRead (some (d.qpPasid q)) BusAttr.plain a n)

/-- Ask for the translations that a write of a queue pair needs and lacks (R43, R45, R60). -/
def Dev.askPages (d : Dev) (q : Nat) (l : List Nat) : Dev := l.foldl (fun d p => d.emit (.priRequest (d.qpPasid q) (4096 * p))) d

/-- The credit word: one 8-byte write of C (R33), once its page translates (R60). (DESIGN CHOICE, assumption log 82) -/
def Dev.writeCredit (d : Dev) (q : Nat) : Dev :=
  let c := d.credit q
  let miss := d.missingPages (d.qpOwner q) (d.num P.qpCreditAddr q) 8
  if miss.isEmpty then (d.hostWrite q (d.num P.qpCreditAddr q) (natLE 8 c)).onQp q (fun p => { p with lastCredit := c, creditOwed := false })
  else (d.onQp q (fun p => { p with creditOwed := true })).askPages q miss

/-- Retire `k` numbers; the credit word is written when C has advanced by QP_CREDIT_STEP (R33). -/
def Dev.retire (d : Dev) (q k : Nat) : Dev :=
  let d := d.onQp q (fun p => { p with r := p.r + k, stamps := p.stamps.drop k, parked := false })
  if d.credit q ≥ (d.qp q).lastCredit + d.num P.qpCreditStep q then d.writeCredit q else d

/-- Void numbers at the front are retired without a read (R35). (DESIGN CHOICE, assumption log 82) -/
def Dev.retireVoids (d : Dev) (q : Nat) : Dev :=
  let n := ((d.qp q).stamps.takeWhile Stamp.void).length
  if n == 0 then d else d.retire q n

/-- A request's record is published, lost or dropped: its entry and its reservation are free; a shadow copy still at work keeps what it needs of it. -/
def Dev.freeReq (d : Dev) (r : Nat) : Dev :=
  match d.req? r with
  | none => d
  | some q =>
    let d := (d.onDisp (fun x => { x with reqs := tabErase r x.reqs,
                                          jobs := x.jobs.map (fun e => if e.2.req == r then (e.1, { e.2 with copy := some q }) else e) })).onQp q.qp (fun p => p.unstage r)
    (d.qpSettled q.qp).freezeSettled q.slice

/-! ### Doorbells (R26 to R29, R34, R35) -/

/-- The queue pair bound to a doorbell slot. -/
def Dev.boundTo (d : Dev) (page slot : Nat) : Option Nat := (d.host.qps.find? (fun e => e.2.binding == some (page, slot))).map Prod.fst

/-- Count a stray write against a queue pair, or against row 65,536 where none is named (R26, R524). (DESIGN CHOICE, assumption log 77) -/
def Dev.stray (d : Dev) (q : Option Nat) : Dev := d.addNum P.qpStrayWriteCount (q.getD 65536) 1

/-- Stamp the numbers b to b + n − 1: within credit with the time now and the next sequence numbers, beyond it void (R34). In FAULTED nothing is stamped. (DEDUCED, assumption log 78) -/
def Dev.stampNumbers (d : Dev) (q : Nat) (active : Bool) : Nat → Dev
  | 0 => d
  | n + 1 =>
    let p := d.qp q
    let good := active && p.b < d.credit q
    let s : Stamp := if good then { void := false, time := d.now, seq := d.host.nextSeq } else { void := true, time := 0, seq := 0 }
    let d := d.onQp q (fun p => { p with b := p.b + 1, stamps := p.stamps ++ [s] })
    (if good then d.onHost (fun h => { h with nextSeq := h.nextSeq + 1 }) else d).stampNumbers q active n

/-- A doorbell value reaches a queue pair (R34). (DEDUCED, assumption log 78) -/
def Dev.doorbell (d : Dev) (q v : Nat) : Dev :=
  let p := d.qp q
  let active := p.state == .active
  let d := if active then d else d.stray (some q)
  if !active && p.state != .faulted then d
  else
    let delta := (v + 2 ^ 32 - p.b % 2 ^ 32) % 2 ^ 32
    if delta == 0 then d
    else if delta ≥ 2 ^ 31 then d.addNum P.qpDbStaleCount q 1
    else
      let first := Nat.max p.b (d.credit q)
      let voids := p.b + delta - first
      let d := d.stampNumbers q active delta
      let d := if voids > 0 then d.addNum P.qpCreditViolCount q voids else d
      if voids > 0 && active then d.event (d.qpOwner q) 1 q first voids else d

/-- SQ_DOORBELL: a 4-byte write to a slot. (DEDUCED, assumption log 78) -/
def sqDoorbell (page slot : Nat) (v : BitVec 32) (d : Dev) : Dev :=
  if !d.hostUp then d
  else match d.boundTo page slot with
    | none => d.stray none
    | some q => d.doorbell q v.toNat

/-- The fill level of a ring: published records that the host has not released (R55). -/
def Qp.fill (p : Qp) : Nat := (p.pubRecords % 2 ^ 32 + 2 ^ 32 - p.relRecords) % 2 ^ 32

/-- Sample the fill level of a ring (R382). -/
def Dev.sampleFill (d : Dev) (q : Nat) : Dev := d.sampleChannels 3 (fun f => bits 63 48 f == q) ((d.qp q).fill : Int)

/-- The number of leading records whose units sum to `n`; none where `n` is on no record boundary (R54). -/
def boundaryAt : Nat → List Nat → Option Nat
  | 0, _ => some 0
  | _ + 1, [] => none
  | n + 1, x :: r => if x > n + 1 then none else (boundaryAt (n + 1 - x) r).map (· + 1)

/-- A release (R54, R55): both counts advance within what is published, and the units end on a record boundary. The rule does not ask that the two counts
name the same boundary. (DESIGN CHOICE, assumption log 83) -/
def Dev.releaseRing (d : Dev) (q v : Nat) : Dev :=
  let p := d.qp q
  let dr := (v / 2 ^ 32 + 2 ^ 32 - p.relRecords) % 2 ^ 32
  let du := (v % 2 ^ 32 + 2 ^ 32 - p.relUnits) % 2 ^ 32
  match boundaryAt du p.unreleased with
  | some k =>
    if dr ≤ p.fill then
      let d := d.onQp q (fun p => { p with relRecords := v / 2 ^ 32, relUnits := v % 2 ^ 32, unreleased := p.unreleased.drop k,
                                           armed := p.armed || decide (p.fill - dr < d.num P.qpIrqLevel q) })
      d.sampleFill q
    else (d.addNum P.qpReleaseInvalidCount q 1).event (d.qpOwner q) 3 q v 0
  | none => (d.addNum P.qpReleaseInvalidCount q 1).event (d.qpOwner q) 3 q v 0

/-! ### BAR map (R25, R26, R28, R30) -/

/-- What stands at an offset of a BAR (R25). -/
inductive BarPlace where
  /-- A byte of a doorbell slot. -/
  | doorbell (page slot byte : Nat)
  | deviceMailbox (byte : Nat)
  | sliceMailbox (i byte : Nat)
  /-- A byte of an MSI-X table entry. -/
  | msixEntry (vector byte : Nat)
  /-- A byte of the MSI-X pending bit array. -/
  | msixPending (byte : Nat)
  | reserved
  deriving DecidableEq, Repr

/-- The place that a byte offset of BAR0, BAR2 or BAR4 names (R25). -/
def barPlace (bar off : Nat) : BarPlace :=
  if bar == 0 && off < 0x1000000 then .doorbell (off / 0x1000) (off % 0x1000 / 64) (off % 64)
  else if bar == 2 && off < 0x1000 then .deviceMailbox off
  else if bar == 2 && off < 0x1001000 then .sliceMailbox (off / 0x1000 - 1) (off % 0x1000)
  else if bar == 4 && off < 0x20000 then .msixEntry (off / 16) (off % 16)
  else if bar == 4 && off < 0x20400 then .msixPending (off - 0x20000)
  else .reserved

/-- Byte `k` of a doorbell slot as a read returns it (R28): b mod 2^32, the release counts, zeros. -/
def Qp.slotByte (p : Qp) (k : Nat) : Nat :=
  if k < 4 then p.b % 2 ^ 32 / 256 ^ k % 256
  else if 8 ≤ k && k < 16 then (p.relRecords % 2 ^ 32 * 2 ^ 32 + p.relUnits % 2 ^ 32) / 256 ^ (k - 8) % 256 else 0

/-- Byte `k` of a mailbox page (R30). -/
def Mailbox.byte (m : Mailbox) (k : Nat) : Nat :=
  if 4 ≤ k && k < 8 then (2 * bnat m.done + bnat m.busy) / 256 ^ (k - 4) % 256
  else if 8 ≤ k && k < 12 then m.reqLen / 256 ^ (k - 8) % 256
  else if 12 ≤ k && k < 16 then m.rspLen / 256 ^ (k - 12) % 256
  else if 0x100 ≤ k && k < 0x800 then leAt (k - 0x100) 1 m.request
  else if 0x800 ≤ k && k < 0x1000 then leAt (k - 0x800) 1 m.response else 0

/-- Byte `k` of an MSI-X table entry: address, data, vector control with the mask in bit 0 (R25, R57). (PRESUMED, assumption log 116) -/
def MsixEntry.byte (e : MsixEntry) (k : Nat) : Nat :=
  if k < 8 then e.address / 256 ^ k % 256 else if k < 12 then e.data / 256 ^ (k - 8) % 256 else if k == 12 then bnat e.masked else 0

/-- A read of one byte of BAR space (R26, R28, R30): reserved space, an unbound slot and an unassigned page return 0. -/
def Dev.barByte (d : Dev) (bar off : Nat) : Nat :=
  match barPlace bar off with
  | .doorbell page slot k => (match d.boundTo page slot with | some q => (d.qp q).slotByte k | none => 0)
  | .deviceMailbox k => (tabGet Mailbox.reset 0 d.host.mailboxes).byte k
  | .sliceMailbox i k => if d.sliceExists i then (tabGet Mailbox.reset (i + 1) d.host.mailboxes).byte k else 0
  | .msixEntry v k => (tabGet MsixEntry.reset v d.host.msix).byte k
  | .msixPending k => (List.range 8).foldl (fun a i => a + 2 ^ i * bnat (tabGet MsixEntry.reset (8 * k + i) d.host.msix).pending) 0
  | .reserved => 0

/-- BAR_STRAY_WRITE (R26, R29): ignored and counted, where it falls on reserved space, an unassigned mailbox page, or a slot in no form the slot takes. -/
def barStrayWrite (w : StrayWrite) (d : Dev) : Dev :=
  if !d.hostUp then d
  else match w with
    | .doorbellSlot page slot => d.stray (d.boundTo page slot)
    | .mailboxPage i => if i < 4096 && d.sliceExists i then d else d.stray none
    | .reservedSpace bar off => if barPlace bar off == .reserved then d.stray none else d

/-- MSIX_UNMASK (R57): a vector, or the function, is unmasked; each pending message it frees is sent once. -/
def msixUnmask (v : Option Nat) (d : Dev) : Dev :=
  let send := fun (d : Dev) (n : Nat) =>
    let e := tabGet MsixEntry.reset n d.host.msix
    if e.pending && !e.masked && !d.host.functionMask then (d.onHost (fun h => { h with msix := tabSet n { e with pending := false } h.msix })).emit (.msix n) else d
  if !d.hostUp then d
  else match v with
    | some n => send (d.onHost (fun h => { h with msix := tabMod MsixEntry.reset n (fun e => { e with masked := false }) h.msix })) n
    | none => let d := d.onHost (fun h => { h with functionMask := false })
              (d.host.msix.map Prod.fst).foldl send d

/-! ### Configuration and commands (R22, R24, R27, R56) -/

/-- Bind a queue pair that has none to a free slot of its slice's doorbell pages (R27). The lowest free one is taken (DESIGN CHOICE, assumption log 21). (DESIGN CHOICE, assumption log 37) -/
def Dev.bindQp (d : Dev) (q : Nat) : Dev :=
  let i := d.qpOwner q
  let mine := d.host.qps.filter (fun e => e.2.binding.isSome && e.1 != q && d.qpOwner e.1 == i)
  if !d.sliceExists i || mine.length ≥ d.num P.slcQpCount i then d
  else
    let taken := d.host.qps.filterMap (fun e => if e.1 == q then none else e.2.binding)
    match ((d.sliceSt i).pages.flatMap (fun p => (List.range 64).map (fun s => (p, s)))).find? (fun b => !taken.contains b) with
    | some b => ((d.onQp q (fun p => { p with binding := some b })).setNum P.qpDbPage q b.1).setNum P.qpDbSlot q b.2
    | none => d

/-- Release the binding of a queue pair. -/
def Dev.unbindQp (d : Dev) (q : Nat) : Dev :=
  ((d.onQp q (fun p => { p with binding := none })).setNum P.qpDbPage q (catDefault P.qpDbPage)).setNum P.qpDbSlot q (catDefault P.qpDbSlot)

/-- A power of two in a range. -/
def powerIn (v lo hi : Nat) : Bool := lo ≤ v && v ≤ hi && v == 2 ^ Nat.log2 v

/-- The first constraint of R22 that fails, in the order of its table. -/
def Dev.qpBad (d : Dev) (q : Nat) : Option Param :=
  let n := d.num P.qpSqEntries q
  let s := d.num P.qpCqBytes q
  let il := d.num P.qpInlineLimit q
  let v := d.num P.qpMsixVector q
  let i := d.qpOwner q
  let lo := d.num P.slcMsixBase i
  let bad := [(!d.sliceExists i || (d.qp q).binding.isNone, P.qpSlice), (d.num P.qpSqBase q % 4096 != 0, P.qpSqBase), (!powerIn n 16 65536, P.qpSqEntries),
              (d.num P.qpCqBase q % 4096 != 0, P.qpCqBase), (!powerIn s 4096 16777216 || decide (s < 2 * (16 + il)), P.qpCqBytes),
              (d.num P.qpCreditAddr q % 8 != 0, P.qpCreditAddr), (decide (il > 4096) || il % 16 != 0, P.qpInlineLimit),
              (decide (d.num P.qpCreditStep q < 1) || decide (d.num P.qpCreditStep q > n), P.qpCreditStep),
              (v != 0xFFFF && !(decide (lo ≤ v) && decide (v < lo + d.num P.slcMsixCount i)), P.qpMsixVector), (decide (d.num P.qpIrqLevel q > s / 16), P.qpIrqLevel)]
  (bad.find? Prod.fst).map Prod.snd

/-- QP_ENABLE: every count 0, the credit N, the credit word written. It answers STATE also while the owning slice is not ACTIVE or the link is in reset, and
a binding that was not possible when QP_SLICE was written is tried again here. (DESIGN CHOICE, assumption log 37) -/
def effQpEnable : Effect := withArg 0 fun d m =>
  let q := m.row.toNat
  if q ≥ 65536 then deny d (Reply.err resUnknown)
  else if (d.qp q).state != .disabled || d.host.linkReset || (d.sliceExists (d.qpOwner q) && (d.sliceSt (d.qpOwner q)).state != .active) then deny d (Reply.err resState)
  else
    let e := if (d.qp q).binding.isNone then d.bindQp q else d
    match e.qpBad q with
    | some p => deny d (Reply.range p)
    | none =>
      let d := [P.qpCreditViolCount, P.qpDbStaleCount, P.qpStrayWriteCount, P.qpReleaseInvalidCount, P.qpCqSpaceWaitCount, P.qpLostRecordCount].foldl (fun d p => d.setNum p q 0) e
      let d := d.onQp q (fun p => { Qp.reset with state := .active, binding := p.binding, armed := decide (0 < d.num P.qpIrqLevel q) })
      accept (d.writeCredit q)

/-- QP_DISABLE: admission stops; DISABLED once every admitted request is done. (DESIGN CHOICE, assumption log 37) -/
def effQpDisable : Effect := withArg 0 fun d m =>
  let q := m.row.toNat
  if q ≥ 65536 then deny d (Reply.err resUnknown)
  else if (d.qp q).state != .active && (d.qp q).state != .faulted then deny d (Reply.err resState)
  else accept ((d.onQp q (fun p => { p with disabling := true, parked := false })).qpSettled q)

/-- The configuration rows of a queue pair. -/
def qpConfig : List Param :=
  [P.qpSlice, P.qpSqBase, P.qpCqBase, P.qpCreditAddr, P.qpSqEntries, P.qpCqBytes, P.qpInlineLimit, P.qpCreditStep, P.qpMsixVector, P.qpIrqLevel]

/-- UNCONFIGURED: no configuration, no counts, no binding. (DEDUCED, assumption log 65) -/
def Dev.unconfigure (d : Dev) (q : Nat) : Dev :=
  let d := (d.unbindQp q).onQp q (fun _ => Qp.reset)
  qpConfig.foldl (fun d p => d.setNum p q (catDefault p)) d

/-- QP_DESTROY: in DISABLED only. (DEDUCED, assumption log 65) -/
def effQpDestroy : Effect := withArg 0 fun d m =>
  let q := m.row.toNat
  if q ≥ 65536 then deny d (Reply.err resUnknown)
  else if (d.qp q).state != .disabled then deny d (Reply.err resState)
  else accept (d.unconfigure q)

/-- A write to a configuration row: it makes an UNCONFIGURED queue pair DISABLED, and QP_SLICE binds it. A binding lasts until QP_DESTROY, a reset or a
restore (R27): a queue pair bound for one slice takes no other slice, and an ACTIVE or FAULTED one keeps its configuration (DESIGN CHOICE, assumption
log 37). -/
def Dev.writeQp (d : Dev) (p : Param) (q v : Nat) : Option Reply × Dev :=
  if q ≥ 65536 then deny d (Reply.err resUnknown)
  else if (d.qp q).state == .active || (d.qp q).state == .faulted then deny d (Reply.err resState)
  else if p == P.qpSlice && (d.qp q).binding.isSome && v != d.qpOwner q then deny d (Reply.err resState)
  else
    let d := (d.setNum p q v).onQp q (fun x => { x with state := .disabled })
    accept (if p == P.qpSlice && (d.qp q).binding.isNone then d.bindQp q else d)

/-- QP_IRQ_LEVEL (R56): on an enabled queue pair the ring is armed or disarmed at once. -/
def effQpIrqLevel : Effect := withArg 4 fun d m =>
  let q := m.row.toNat
  let v := leNat m.body
  if q < 65536 && ((d.qp q).state == .active || (d.qp q).state == .faulted) then
    if v > d.num P.qpCqBytes q / 16 then deny d (Reply.range P.qpIrqLevel)
    else accept ((d.setNum P.qpIrqLevel q v).onQp q (fun p => { p with armed := decide (p.fill < v) }))
  else d.writeQp P.qpIrqLevel q v

/-! ### Admission (R36, R43, R561) -/

/-- The fields of 64 descriptor bytes (R38). -/
def parseDesc (b : Bytes) : Descriptor :=
  { opcode := leAt 0 2 b, flags := leAt 2 1 b, profile := leAt 3 1 b, tag := leAt 4 4 b, deadlineUs := leAt 8 4 b, flow := leAt 12 3 b, byte15 := leAt 15 1 b,
    keyA := leAt 16 8 b, keyB := leAt 24 8 b, inPtr := leAt 32 8 b, inLen := leAt 40 4 b, outCap := leAt 44 4 b, outPtr := leAt 48 8 b, aux := leAt 56 8 b }

/-- The fields of a descriptor read; of one that could not be read, none is set. -/
def DescRead.fields (rd : DescRead) : Descriptor := parseDesc (if rd.readable then rd.desc else [])

/-- A descriptor's FLAGS. -/
def Descriptor.inList (q : Descriptor) : Bool := q.flags.testBit 0
def Descriptor.outHost (q : Descriptor) : Bool := q.flags.testBit 1
def Descriptor.noDeadline (q : Descriptor) : Bool := q.flags.testBit 3

/-- Walk an input list (R41), at most 16 entries: the sum at the last entry read, and whether every reserved field is 0. -/
def listWalk (need : Nat) : Nat → Bytes → Nat → Bool → Nat × Bool
  | 0, _, a, ok => (a, ok)
  | n + 1, b, a, ok => if a ≥ need then (a, ok) else listWalk need n (b.drop 16) (a + leAt 8 4 b) (ok && allZero (slice 12 4 b))

/-- The entries that `listWalk` reads: address and length (R41). -/
def listEntries (need : Nat) : Nat → Bytes → Nat → List (Nat × Nat)
  | 0, _, _ => []
  | n + 1, b, a => if a ≥ need then [] else (leAt 0 8 b, leAt 8 4 b) :: listEntries need n (b.drop 16) (a + leAt 8 4 b)

/-- Descriptor number n stands in slot n mod N (R31). -/
def Dev.slotAddress (d : Dev) (q n : Nat) : Nat := d.num P.qpSqBase q + 64 * (n % d.num P.qpSqEntries q)

/-- The reads of host memory behind a descriptor read (R21, R36, R41): the slot, the input list, the input. -/
def Dev.readHost (d : Dev) (qp : Nat) (rd : DescRead) : Dev :=
  let q := rd.fields
  let d := d.hostRead qp (d.slotAddress qp (d.qp qp).r) 64
  if !rd.readable || q.inLen == 0 then d
  else if q.flags.testBit 0 then
    let l := listEntries q.inLen 16 rd.list 0
    (l.filter (fun e => e.2 != 0)).foldl (fun d e => d.hostRead qp e.1 e.2) (d.hostRead qp q.inPtr (16 * l.length))
  else d.hostRead qp q.inPtr q.inLen

/-- The values of the slice's policy at admission (R390). -/
def Dev.policyNow (d : Dev) (i : Nat) : Policy :=
  { maskDefault := d.num P.slcMaskDefault i, strikeSign := d.num P.slcStrikeSign i, strikeKem := d.num P.slcStrikeKem i,
    strikeHammer := d.num P.slcStrikeHammer i,
    childExport := d.flag P.slcChildExport i, statefulBlock := d.num P.slcStatefulBlock i, statefulLow := d.num P.slcStatefulLow i }

/-- An integrator microprogram's request (R180, R181). -/
def integratorPlan (e : MpEntry) (q : Descriptor) : Plan :=
  { Plan.plain with lenBad := decide (q.inLen > e.maxIn), outLen := none, handleBad := e.keyUse == 0 && q.keyA != 0 }

/-- The family chapter's plan for a descriptor; where a slot binds the opcode, an input beyond MAX_IN fails check 4 (R173). (DEDUCED, assumption log 39) -/
def Dev.planOf (d : Dev) (i : Nat) (q : Descriptor) (input : Bytes) : Plan :=
  let f := q.opcode / 256
  let p := if f == 0x50 || q.opcode == 0x310E then mgmtPlan d i q input
  else if f == 0x58 then portPlan q
  else if f == 0x40 then symPlan d i q input
  else if f == 0x48 then payPlan d i q input
  else if f == 0x30 || f == 0x31 || f == 0x32 || f == 0x33 then hamPlan d i q input
  else schemePlan d i q input
  match (if f == 0x70 || (opInfo q.opcode).any (fun o => o.cls == 1 || o.cls == 6) then d.entryFor i q.opcode else none) with
  | some e => if f == 0x70 then integratorPlan e.2 q else { p with lenBad := p.lenBad || decide (q.inLen > e.2.maxIn) }
  | none => if f == 0x70 then Plan.plain else p

/-- OPCODE names a defined operation; an operation that runs on tiles is bound by some tile of the slice (R43 check 3, R180). -/
def Dev.opcodeKnown (d : Dev) (i op : Nat) : Bool :=
  match d.opOf i op with
  | none => false
  | some x => (x.cls != 1 && x.cls != 6) || (d.entryFor i op).isSome

/-- The requested masking order is not one of the microprogram's (R181, R561 check 1). -/
def Dev.orderBad (d : Dev) (i : Nat) (q : Descriptor) : Bool :=
  match (if (d.opOf i q.opcode).any (fun o => o.cls == 1 || o.cls == 6) then d.entryFor i q.opcode else none) with
  | some e => e.2.eflags.testBit 1 && !e.1.orders.testBit (if q.profile % 4 == 0 then d.num P.slcMaskDefault i else q.profile % 4)
  | none => false

/-- Under the test root: the request names a persistent object, or is a persistent update (R324). (DESIGN CHOICE, assumption log 81) -/
def Dev.testRootBars (d : Dev) (i : Nat) (q : Descriptor) (input : Bytes) : Bool :=
  let x := (d.opOf i q.opcode).getD (OpInfo.plain 0)
  d.vault.testRoot &&
  ((d.keyNeeds i q input).any (fun n => (d.named i n.handle).any (fun e => !isVol e.1)) || (x.makes && q.aux? 1) ||
   (x.acts && !isVol (handleObj (if q.opcode == 0x310E then q.keyB else q.keyA))))

/-- Bytes that output may take (R43 check 8). -/
def Dev.capacityFor (d : Dev) (qp : Nat) (q : Descriptor) : Nat := if q.outHost then q.outCap else Nat.min q.outCap (d.num P.qpInlineLimit qp)

/-- Checks 1 to 6 of R43, with those of R561, then the input that cannot be read (check 7), of which the plan's checks see nothing: the status of the
first that fails, 0 where all pass. (DEDUCED, assumption log 39) (DEDUCED, assumption log 79) (DEDUCED, assumption log 80) (DESIGN CHOICE, assumption log 81) -/
def Dev.admissionStatus (d : Dev) (i : Nat) (rd : DescRead) (q : Descriptor) : Nat :=
  let walk := listWalk q.inLen 16 rd.list 0 true
  let lists := q.inList && q.inLen > 0
  let plan := d.planOf i q (if q.inLen > 0 && !rd.inputReadable then [] else rd.input.take q.inLen)
  let known := d.opcodeKnown i q.opcode
  let unread := q.inLen > 0 && !rd.inputReadable
  if !rd.readable then 0x0106
  else if q.byte15 != 0 || q.flags / 16 != 0 || q.profile / 4 != 0 || (q.noDeadline && q.deadlineUs != 0) || (lists && !unread && !walk.2) || (known && plan.auxBad) then 0x0102
  else if !known then 0x0101
  else if (lists && (q.inPtr % 16 != 0 || (!unread && walk.1 != q.inLen))) || plan.lenBad then 0x0103
  else if d.modes.mode == .sealed then 0x0F01
  else if d.testRootBars i q rd.input then 0x0F02
  else if d.orderBad i q then 0x0107
  else if !unread && plan.reservedBad then 0x0102
  else if plan.handleBad then 0x0116
  else match plan.checks.find? Prod.fst with
    | some c => c.2
    | none => if unread then 0x0105 else 0

/-- What the tile would find in an input key comes first (R216). Check 8 of R43 and the key prefetch (R76, R309), once every page translates: the request fails or waits for its keys. -/
def Dev.afterTranslation (d : Dev) (r : Nat) : Dev :=
  match d.req? r with
  | none => d
  | some q =>
    let plan := d.planOf q.slice q.desc q.input
    let d := d.onReq r (fun q => { q with phase := .waiting })
    if (match plan.outLen with | some n => decide (n > d.capacityFor q.qp q.desc) | none => false) then
      d.complete r (Completion.ofStatus (if inputKeyStatus q.desc q.input != 0 then inputKeyStatus q.desc q.input else 0x0104))
    else
      let st := d.prefetchStatus q.slice (d.keyNeeds q.slice q.desc q.input)
      if st != 0 then d.complete r (Completion.ofStatus st) else d.prefetch

/-- Note translations (R45). -/
def Dev.translated (d : Dev) (pasid : Nat) (pages : List Nat) : Dev :=
  d.onHost (fun h => { h with translations := h.translations ++ ((pages.map (fun p => (pasid, p))).filter (fun x => !h.translations.contains x)) })

/-- The pages of the output that a request is known to write. -/
def Dev.outPages (d : Dev) (i : Nat) (q : Descriptor) (input : Bytes) : List Nat :=
  if q.outHost then pagesOf q.outPtr (Nat.min q.outCap (((d.planOf i q input).outLen).getD q.outCap)) else []

/-- An admitted request goes through check 7 of R43. (DEDUCED, assumption log 80) -/
def Dev.translateFor (d : Dev) (r : Nat) (translates : Bool) : Dev :=
  match d.req? r with
  | none => d
  | some q =>
    let pasid := d.pasid q.slice
    if translates then (d.translated pasid (d.outPages q.slice q.desc q.input)).afterTranslation r
    else (d.onReq r (fun q => { q with phase := .waitTranslation })).emit (.priRequest pasid (if q.desc.inLen > 0 then q.desc.inPtr else q.desc.outPtr))

/-- The space reservation of a descriptor (R49); one that could not be read has no output. -/
def Dev.reservation (d : Dev) (qp : Nat) (readable : Bool) (q : Descriptor) : Nat :=
  if !readable || q.outHost then 16 else 16 + 16 * ceilDiv (Nat.min q.outCap (d.num P.qpInlineLimit qp)) 16

/-- Enter a request among the admitted (R36, R400): its deadline, generation and policy are those of now. (DEDUCED, assumption log 79) -/
def Dev.enter (d : Dev) (qp i number seq : Nat) (accept : Int) (deadline : Option Int) (rd : DescRead) (res : Nat) (again : Bool) : Nat × Dev :=
  let n := d.disp.nextReq
  let q := rd.fields
  let x : Request :=
    { slice := i, qp := qp, number := number, seq := seq, accept := accept, deadline := deadline, gen := d.num P.slcGeneration i, desc := q, input := rd.input.take q.inLen, read := rd,
      policy := d.policyNow i, reserved := res, phase := .waiting, asked := false, keysReady := false, draw := none, retried := false, shadowed := false, stretched := false,
      mismatches := 0, unitFaults := 0, excluded := [], keyGens := [], index := none, halfFail := none, halves := [], released := false, reissued := again,
      completion := none }
  (n, d.onDisp (fun y => { y with reqs := tabSet n x y.reqs, nextReq := n + 1 }))

/-- A slice's in-flight allotment and a ring's completion space leave room for one more request (R36, R49). -/
def Dev.roomFor (d : Dev) (qp i res : Nat) : Bool :=
  (d.disp.reqs.filter (fun e => e.2.slice == i)).length < d.num P.slcInflight i &&
  d.reservedBytes qp + res + 16 + d.num P.qpInlineLimit qp ≤ d.num P.qpCqBytes qp

/-- A re-issued request enters again where there is room for it (R62, R406, R410). -/
def Dev.replay (d : Dev) (i : Nat) (e : Reissue) : Dev :=
  let q := e.read.fields
  let (r, d) := (d.readHost e.qp e.read).enter e.qp i e.number e.seq e.accept e.deadline e.read (d.reservation e.qp e.read.readable q) true
  let st := d.admissionStatus i e.read q
  if st != 0 then d.complete r (Completion.ofStatus st) else d.translateFor r e.read.pagesTranslate

/-- Replay what stands on an ACTIVE slice's re-issue list, in order (R410): an entry without room under R49 waits, and the later ones of its queue pair with
it; one whose queue pair takes no more goes. -/
def Dev.replayWaiting (d : Dev) (i : Nat) : Dev :=
  let s := d.sliceSt i
  if s.state != .active then d
  else s.reissue.foldl (fun d e =>
    if (d.qp e.qp).state != .active && (d.qp e.qp).state != .faulted then d
    else if (d.sliceSt i).reissue.any (fun x => x.qp == e.qp) || !d.roomFor e.qp i (d.reservation e.qp e.read.readable e.read.fields) then
      d.onSlice i (fun s => { s with reissue := s.reissue ++ [e] })
    else d.replay i e) (d.onSlice i (fun s => { s with reissue := [] }))

/-- The entries of a re-issue list take the next sequence numbers, ahead of every restored stamp (R410). -/
def Dev.numberReissues (d : Dev) (i : Nat) : Dev :=
  let n := d.host.nextSeq
  let l := (d.sliceSt i).reissue
  (d.onHost (fun h => { h with nextSeq := n + l.length })).onSlice i (fun s => { s with reissue := (s.reissue.zip (List.range l.length)).map (fun e => { e.1 with seq := n + e.2 }) })

/-- DESCRIPTOR_READ_COMPLETE: the device has read the slot of the next number. It admits the descriptor where an in-flight entry and completion space
are free, else the descriptor stays parked (R36), as it does behind what the slice's re-issue list still holds for its queue pair (R410). (DEDUCED, assumption log 79) (DESIGN CHOICE, assumption log 110) -/
def descriptorReadComplete (qp : Nat) (rd : DescRead) (d : Dev) : Dev :=
  let i := d.qpOwner qp
  let p := d.qp qp
  if !d.hostUp || p.state != .active || p.disabling || (d.sliceSt i).state != .active then d
  else
    let d := (d.replayWaiting i).retireVoids qp
    match (d.qp qp).stamps with
    | [] => d
    | s :: _ =>
      let d := d.readHost qp rd
      let q := rd.fields
      let res := d.reservation qp rd.readable q
      if (d.sliceSt i).reissue.any (fun e => e.qp == qp) || !d.roomFor qp i res then
        d.onQp qp (fun p => { p with parked := true })
      else
        let deadline : Option Int := if !rd.readable || q.noDeadline then none else some (s.time + (q.deadlineUs * ticksPerUs : Nat))
        let (r, e) := d.enter qp i (d.qp qp).r s.seq s.time deadline rd res false
        let e := (e.retire qp 1).retireVoids qp
        let st := d.admissionStatus i rd q
        if st != 0 then e.complete r (Completion.ofStatus st) else e.translateFor r rd.pagesTranslate

/-- ATS_INVALIDATION (R395): every access that used the translation has been issued, and no cached one covers the range any more. -/
def atsInvalidation (pasid : Nat) (a : BitVec 64) (n : Nat) (d : Dev) : Dev :=
  if !d.hostUp then d
  else
    let lo := a.toNat / 4096
    let hi := (a.toNat + Nat.max n 1 - 1) / 4096
    (d.onHost (fun h => { h with translations := h.translations.filter (fun t => !(t.1 == pasid && lo ≤ t.2 && t.2 ≤ hi)) })).emit (.invalidationDone pasid)

/-- CQ_RELEASE: an 8-byte write to a slot. (DESIGN CHOICE, assumption log 77) -/
def cqRelease (page slot : Nat) (v : BitVec 64) (d : Dev) : Dev :=
  if !d.hostUp then d
  else match d.boundTo page slot with
    | none => d.stray none
    | some q => if (d.qp q).state == .active || (d.qp q).state == .faulted then (d.releaseRing q v.toNat).replayWaiting (d.qpOwner q) else d.stray (some q)

/-! ### Publication (R46 to R55, R58, R60) -/

/-- A completion's FLAGS byte as its LENGTH word is written now (R47): a request of DEADLINE_US 0 always completes with LATE (R64). -/
def Dev.recordFlags (d : Dev) (q : Request) : Nat :=
  bnat (match q.deadline with | some t => q.desc.deadlineUs == 0 || decide ((d.now : Int) > t) | none => false) + 2 * bnat q.retried + 4 * bnat q.shadowed + 8 * bnat q.stretched

/-- The bytes of a record from TAG on, its body included (R46, R48). -/
def recordBody (tag status flags cls qa qb outLen : Nat) (inline' : Bytes) : Bytes :=
  natLE 4 tag ++ natLE 2 status ++ natLE 1 flags ++ natLE 1 (16 * cls + 4 * (qb % 4) + qa % 4) ++ natLE 4 outLen ++
  fitLen (16 * ceilDiv inline'.length 16) inline'

/-- Write a record or pad of `size` bytes at the write position: its bytes from TAG on, then the LENGTH word (R51 to R53). -/
def Dev.putRecord (d : Dev) (q size : Nat) (tail : Bytes) : Dev :=
  let p := d.qp q
  let a := d.num P.qpCqBase q + p.wpos
  let d := (d.hostWrite q (a + 4) tail).hostWrite q a (natLE 4 (bnat p.phase * 2 ^ 31 + size))
  let wraps := p.wpos + size ≥ d.num P.qpCqBytes q
  let d := d.onQp q (fun p => { p with
    wpos := if wraps then 0 else p.wpos + size, phase := if wraps then !p.phase else p.phase, pubRecords := p.pubRecords + 1, pubUnits := p.pubUnits + size / 16,
    unreleased := p.unreleased ++ [size / 16] })
  d.sampleFill q

/-- What a publication does after its LENGTH word: the credit word (R33, R58), then the interrupt of a crossing (R55). -/
def Dev.afterRecord (d : Dev) (q : Nat) : Dev :=
  let d := if d.credit q != (d.qp q).lastCredit then d.writeCredit q else d
  let p := d.qp q
  if p.armed && p.fill ≥ d.num P.qpIrqLevel q && d.num P.qpIrqLevel q > 0 then
    let d := d.onQp q (fun p => { p with armed := false })
    let v := d.num P.qpMsixVector q
    if v == 0xFFFF then d else d.interrupt v
  else d

/-- The channels sample a published record, and LATE records are counted (R95, R382). -/
def Dev.recordSampled (d : Dev) (q : Request) (flags : Nat) : Dev :=
  let d := if bit 0 flags then d.addNum P.dspLateCount q.slice 1 else d
  let d := d.sampleChannels 1 (filterTakes q.slice (q.desc.opcode / 256)) ((d.now : Int) - q.accept)
  match q.deadline with
  | some t => d.sampleChannels 2 (filterTakes q.slice (q.desc.opcode / 256)) (t - (d.now : Int))
  | none => d

/-- The record that a staged request needs (R48 to R51): its pad, its size and its inline output. -/
def Dev.recordShape (d : Dev) (qp : Nat) (q : Request) (c : Completion) : Nat × Nat × Bytes :=
  let inline' := if q.outHost then [] else c.output
  let size := 16 + 16 * ceilDiv inline'.length 16
  let left := d.num P.qpCqBytes qp - (d.qp qp).wpos
  (if left < size then left else 0, size, inline')

/-- The pages that lack a translation: of the OUT_HOST output, and of the pad and record (R45, R60). -/
def Dev.recordMisses (d : Dev) (qp : Nat) (q : Request) (c : Completion) : List Nat × List Nat :=
  let (pad, size, _) := d.recordShape qp q c
  let base := d.num P.qpCqBase qp
  let pos := base + (d.qp qp).wpos
  (if q.outHost then d.missingPages q.slice q.desc.outPtr c.output.length else [],
   if pad == 0 then d.missingPages q.slice pos size else d.missingPages q.slice pos pad ++ d.missingPages q.slice base size)

/-- RECORD_PUBLISH: the first staged record of a ring. One of an old generation goes to the slag counter (R93); a FAULTED ring loses it, its output with it
(R60: what becomes of OUT_HOST output there is left open; DESIGN CHOICE, assumption log 117); one without space waits (R50); one whose pages do not
translate asks for them first (R45, R60). -/
def recordPublish (qp : Nat) (d : Dev) : Dev :=
  let p := d.qp qp
  match p.staged with
  | [] => d
  | r :: _ =>
    match d.req? r with
    | none => d.onQp qp (fun p => { p with staged := p.staged.drop 1 })
    | some q =>
      if !d.hostUp then d
      else if q.gen != d.num P.slcGeneration q.slice then
        ((d.addNum P.slcSlagCount q.slice 1).onSlice q.slice (fun s => { s with resetDrops := s.resetDrops + 1 })).freeReq r
      else if p.state == .faulted then (d.addNum P.qpLostRecordCount qp 1).freeReq r
      else if p.state != .active then d.freeReq r
      else
        let c := q.completion.getD (Completion.ofStatus 0)
        let n := c.output.length
        let (pad, size, inline') := d.recordShape qp q c
        let (missOut, missRing) := d.recordMisses qp q c
        if pad + size + p.held > d.num P.qpCqBytes qp then
          if p.waitCounted then d else (d.addNum P.qpCqSpaceWaitCount qp 1).onQp qp (fun p => { p with waitCounted := true })
        else if !(missOut ++ missRing).isEmpty then d.askPages qp (missOut ++ missRing)
        else
          let d := if pad == 0 then d
            else
              let (f, d) := d.fresh
              (d.putRecord qp pad (natLE 4 0 ++ natLE 2 0xFFFF ++ zeros 6 ++ (List.range (pad - 16)).map (Config.freeByte f))).afterRecord qp
          let d := if q.outHost && n > 0 then d.hostWrite qp q.desc.outPtr c.output else d
          let flags := d.recordFlags q
          let d := d.putRecord qp size (recordBody q.desc.tag c.status flags c.engineClass c.quadA c.quadB n inline')
          (((d.recordSampled q flags).afterRecord qp).freeReq r).replayWaiting q.slice

/-- A queue pair becomes FAULTED (R60): nothing more is written for it, and what is staged is lost. -/
def Dev.faultQp (d : Dev) (qp a : Nat) : Dev :=
  if (d.qp qp).state != .active then d
  else
    let d := (d.onQp qp (fun p => { p with state := .faulted, parked := false, creditOwed := false })).event (d.qpOwner qp) 2 qp a 0
    (d.qp qp).staged.foldl (fun d r => (d.addNum P.qpLostRecordCount qp 1).freeReq r) d

/-- QUEUE_FAULT (R60): a write to the ring or the credit word has failed. -/
def queueFault (qp : Nat) (a : BitVec 64) (_atCredit : Bool) (d : Dev) : Dev := if d.hostUp then d.faultQp qp a.toNat else d

/-! ### Translations arrive (R43, R45, R60, R90) -/

/-- Translations have come: credit words that wait for one are written, and results that wait go on. -/
def Dev.pagesCame (d : Dev) (pasid : Nat) (pages : List Nat) : Dev :=
  let d := d.translated pasid pages
  let owed := (d.host.qps.filter (fun e => e.2.creditOwed && e.2.state == .active)).map Prod.fst
  (owed.foldl (fun d q => if (d.missingPages (d.qpOwner q) (d.num P.qpCreditAddr q) 8).isEmpty then d.writeCredit q else d) d).goOn

/-- The answer to the page requests of a staged record (R45, R60): with its output's pages refused it completes with 0x0105 and no output; with its own
refused its queue pair is FAULTED. -/
def Dev.recordPages (d : Dev) (r : Nat) (q : Request) (ok : Bool) : Dev :=
  let c := q.completion.getD (Completion.ofStatus 0)
  match d.recordMisses q.qp q c with
  | ([], []) => d
  | (o, l) =>
    if ok then d.pagesCame (d.pasid q.slice) (o ++ l)
    else if !o.isEmpty then d.onReq r (fun q => { q with completion := some (Completion.ofStatus 0x0105) })
    else d.faultQp q.qp (4096 * l.headD 0)

/-- PRI_RESPONSE (R43 check 7, R45, R60, R90 check 6): the pages translate now, or the request completes with 0x0105. -/
def priResponse (r : Nat) (ok : Bool) (d : Dev) : Dev :=
  match d.req? r with
  | none => d
  | some q =>
    if !d.hostUp then d
    else if q.phase == .staged then (if (d.qp q.qp).staged.head? == some r then d.recordPages r q ok else d)
    else if q.released then d
    else if q.phase == .waitTranslation then (if ok then d.translateFor r true else (d.complete r (Completion.ofStatus (if inputKeyStatus q.desc q.input != 0 then inputKeyStatus q.desc q.input else 0x0105))).goOn)
    else if q.outHost && ((d.jobsOf r).any (fun e => e.2.reported) || q.halves.length == 2) then
      if ok then d.pagesCame (d.pasid q.slice) (pagesOf q.desc.outPtr q.desc.outCap) else (d.fail r 0x0105).goOn
    else d

/-- ATS_TRANSLATION_COMPLETION: a translation comes; where none is given the device asks for the page (R43). -/
def atsTranslationCompletion (pasid page : Nat) (ok : Bool) (d : Dev) : Dev :=
  if !d.hostUp || !d.slices.any (fun e => e.2.state != .free && d.pasid e.1 == pasid) then d
  else if ok then d.pagesCame pasid [page]
  else d.emit (.priRequest pasid (4096 * page))

/-! ### The commands -/

def execSqDoorbell (page slot : Nat) (v : BitVec 32) (s : State) := s.runPart page 4096 (sqDoorbell page slot v)
def execCqRelease (page slot : Nat) (v : BitVec 64) (s : State) := s.runPart page 4096 (cqRelease page slot v)
def execBarStrayWrite (w : StrayWrite) (s : State) := s.run (barStrayWrite w)
def execMsixUnmask (v : Option Nat) (s : State) := s.runPart (v.getD 0) 8192 (msixUnmask v)
def execQpEnable (m : Msg) (s : State) := s.run fun d => d.serve d.lc P.qpEnable 0 m false effQpEnable
def execQpDisable (m : Msg) (s : State) := s.run fun d => d.serve d.lc P.qpDisable 0 m false effQpDisable
def execQpDestroy (m : Msg) (s : State) := s.run fun d => d.serve d.lc P.qpDestroy 0 m false effQpDestroy
def execQpIrqLevel (m : Msg) (s : State) := s.run fun d => d.serve d.lc P.qpIrqLevel 0 m true effQpIrqLevel
def execDescriptorReadComplete (qp : Nat) (rd : DescRead) (s : State) := s.runPart qp 65536 (descriptorReadComplete qp rd)
def execPriResponse (r : Nat) (ok : Bool) (s : State) := s.run (priResponse r ok)
def execAtsTranslationCompletion (pasid page : Nat) (ok : Bool) (s : State) := s.run (atsTranslationCompletion pasid page ok)
def execAtsInvalidation (pasid : Nat) (a : BitVec 64) (n : Nat) (s : State) := s.run (atsInvalidation pasid a n)
def execRecordPublish (qp : Nat) (s : State) := s.runPart qp 65536 (recordPublish qp)
def execQueueFault (qp : Nat) (a : BitVec 64) (atCredit : Bool) (s : State) := s.runPart qp 65536 (queueFault qp a atCredit)

end Sys2Proof.Machine
end

