-- ==== Sys2Proof/Machine/Slices.lean ====
section
/-! DEFINITION. Slices: creation, reset, removal, freeze, migration and events (R389 to R410), and the commit of journaled updates (R314). -/

namespace Sys2Proof.Machine

/-! ### Parameters and constraints (R389, R392) -/

/-- Values of slice parameters, by parameter. -/
abbrev SliceArgs := List (Nat × Nat)
/-- One of them; the default where none is given. -/
def argOf (p : Param) (l : SliceArgs) : Nat := ((l.find? (fun e => e.1 == p)).map Prod.snd).getD (catDefault p)

/-- The resource parameters that are written, and the policy parameters, of R389. -/
def resourceParams : List Param :=
  [P.slcPasid, P.slcQpCount, P.slcMsixCount, P.slcInflight, P.slcHearthSet, P.slcReserve, P.slcCacheGranules, P.slcKeyQuota, P.slcDrainLimitUs]
def policyParams : List Param :=
  [P.slcMaskDefault, P.slcStrikeSign, P.slcStrikeKem, P.slcStrikeHammer, P.slcDetSignAllow, P.slcPinFmt1Allow, P.slcPinDowngradeAllow, P.slcStatefulBlock,
   P.slcStatefulLow, P.slcChildExport, P.slcEventVector]

/-- The parameters of a slice now. -/
def Dev.argsOf (d : Dev) (i : Nat) : SliceArgs := (resourceParams ++ policyParams).map (fun p => (p, d.num p i))

/-- What the other instances are allotted; a restore that waits counts with its image's parameters. (DEDUCED, assumption log 69) -/
def Dev.claims (d : Dev) (i : Nat) : List SliceArgs :=
  d.slices.filterMap (fun e =>
    if e.1 == i then none
    else if e.2.state != .free then some (d.argsOf e.1)
    else match e.2.restoring with
      | some (im, pasid) => some ((P.slcPasid, pasid) :: im.params)
      | none => none)

/-- The sum of one parameter. -/
def sumOf (p : Param) (l : List SliceArgs) : Nat := l.foldl (fun a x => a + argOf p x) 0
/-- Doorbell pages of a slice with so many queue pairs (R389). -/
def pagesFor (n : Nat) : Nat := ceilDiv n 64

/-- The lowest of some numbers. -/
def lowest : List Nat → Option Nat
  | [] => none
  | a :: l => some (l.foldl Nat.min a)

/-- The table entry from which a range of `n` vectors fits: the present base, else the lowest (assumption log 21). -/
def Dev.msixFit (d : Dev) (i n : Nat) : Option Nat :=
  let used := d.slices.filterMap (fun e => if e.1 == i || e.2.state == .free then none else some (d.num P.slcMsixBase e.1, d.num P.slcMsixBase e.1 + d.num P.slcMsixCount e.1))
  let fits := fun b => b + n ≤ 8192 && used.all (fun r => b + n ≤ r.1 || r.2 ≤ b)
  let here := d.num P.slcMsixBase i
  if n == 0 then some 0
  else if d.sliceExists i && fits here then some here
  else lowest ((0 :: used.map Prod.snd).filter fits)

/-- The first constraint of R389 that values for slice `i` fail, with those of R392, in the order of the table of R389; then the ranges of R525. (DEDUCED, assumption log 69) -/
def Dev.sliceBad (d : Dev) (i : Nat) (a : SliceArgs) : Option Param :=
  let o := d.claims i
  let pasid := argOf P.slcPasid a
  let n := argOf P.slcQpCount a
  let v := argOf P.slcMsixCount a
  let f := argOf P.slcInflight a
  let h := argOf P.slcHearthSet a
  let r := argOf P.slcReserve a
  let g := argOf P.slcCacheGranules a
  let taken := o.foldl (fun m x => if argOf P.slcReserve x == 1 then m ||| argOf P.slcHearthSet x else m) 0
  let bad := [(pasid == 0 || decide (pasid > 0xFFFFF) || o.any (fun x => argOf P.slcPasid x == pasid), P.slcPasid),
              (n == 0 || decide (n + sumOf P.slcQpCount o > 65536), P.slcQpCount),
              (decide (pagesFor n + o.foldl (fun a x => a + pagesFor (argOf P.slcQpCount x)) 0 > 4096), P.slcDbPages),
              (decide (v + sumOf P.slcMsixCount o > 8192) || (d.msixFit i v).isNone, P.slcMsixCount),
              (f == 0 || decide (f + sumOf P.slcInflight o > 32768), P.slcInflight),
              (h == 0 || decide (h > 0xFFFF) || h &&& taken != 0, P.slcHearthSet),
              (decide (r > 1) || (r == 1 && (o.any (fun x => argOf P.slcHearthSet x &&& h != 0) || h ||| taken == 0xFFFF)), P.slcReserve),
              (if r == 1 then g == 0 || decide (g + sumOf P.slcCacheGranules o > 131072) else g != 0, P.slcCacheGranules),
              (decide (argOf P.slcKeyQuota a > 4194304), P.slcKeyQuota),
              (decide (argOf P.slcDrainLimitUs a < 100) || decide (argOf P.slcDrainLimitUs a > 100000), P.slcDrainLimitUs)] ++
    policyParams.map (fun p => (match catFind p with | some c => decide (argOf p a < c.lo) || decide (argOf p a > c.hi) | none => true, p))
  (bad.find? Prod.fst).map Prod.snd

/-! ### Instances -/

/-- Allot doorbell pages and vectors for the counts in force (R389): the lowest free ones, keeping what is held (assumption log 21). -/
def Dev.allot (d : Dev) (i : Nat) : Dev :=
  let n := pagesFor (d.num P.slcQpCount i)
  let mine := (d.sliceSt i).pages
  let taken := d.slices.flatMap (fun e => e.2.pages)
  let pages := mine.take n ++ ((List.range 4096).filter (fun p => !taken.contains p)).take (n - mine.length)
  let b := (d.msixFit i (d.num P.slcMsixCount i)).getD 0
  let d := ((d.onSlice i (fun s => { s with pages := pages })).setNum P.slcDbPages i n).setNum P.slcMsixBase i b
  ((d.host.qps.filter (fun e => d.qpOwner e.1 == i && (match e.2.binding with | some x => !pages.contains x.1 | none => false))).map Prod.fst).foldl Dev.unbindQp d

/-- An instance comes to be, ACTIVE, with its parameters (R389, R396). (DEDUCED, assumption log 68) -/
def Dev.makeInstance (d : Dev) (i : Nat) (a : SliceArgs) : Dev :=
  let d := (resourceParams ++ policyParams).foldl (fun d p => d.setNum p i (argOf p a)) d
  (d.onSlice i (fun s => { SliceSt.reset with state := .active, edge := .host, stored := s.stored })).allot i

/-- The queue pairs of a slice. -/
def Dev.qpsOf (d : Dev) (i : Nat) : List Nat := (d.host.qps.filter (fun e => d.qpOwner e.1 == i)).map Prod.fst

/-- An instance is freed: its queue pairs are destroyed, its pools returned, its PASID unbound (R403, R407). (DEDUCED, assumption log 70) (DESIGN CHOICE, assumption log 75) -/
def Dev.freeInstance (d : Dev) (i : Nat) : Dev :=
  let pasid := d.pasid i
  let d := (d.qpsOf i).foldl Dev.unconfigure d
  let d := d.onHost (fun h => { h with translations := h.translations.filter (fun t => t.1 != pasid) })
  let d := [P.slcPasid, P.slcDbPages, P.slcMsixBase].foldl (fun d p => d.setNum p i (catDefault p)) d
  d.onSlice i (fun s => { SliceSt.reset with stored := s.stored })

/-- The values of an argument of SLC_CMD_CREATE (R519). (DEDUCED, assumption log 99) -/
def createArgs (b : Bytes) : SliceArgs :=
  [(P.slcMsixCount, leAt 2 2 b), (P.slcPasid, leAt 4 4 b), (P.slcQpCount, leAt 8 4 b), (P.slcInflight, leAt 12 2 b), (P.slcEventVector, leAt 14 2 b),
   (P.slcHearthSet, leAt 16 4 b), (P.slcCacheGranules, leAt 20 4 b), (P.slcKeyQuota, leAt 24 4 b), (P.slcDrainLimitUs, leAt 28 4 b), (P.slcStatefulLow, leAt 32 8 b),
   (P.slcStatefulBlock, leAt 40 4 b), (P.slcReserve, leAt 44 1 b), (P.slcMaskDefault, leAt 45 1 b), (P.slcStrikeSign, leAt 46 1 b), (P.slcStrikeKem, leAt 47 1 b),
   (P.slcStrikeHammer, leAt 48 1 b), (P.slcDetSignAllow, leAt 49 1 b), (P.slcPinFmt1Allow, leAt 50 1 b), (P.slcPinDowngradeAllow, leAt 51 1 b),
   (P.slcChildExport, leAt 52 1 b)]

/-- A creation waits for the commit of its slice root. (DEDUCED, assumption log 68) -/
def Dev.creating (d : Dev) : Bool := d.vault.updates.any (fun u => u.kind == .sliceRoot)
/-- A save of the slice waits for its commit. (DEDUCED, assumption log 73) -/
def Dev.saving (d : Dev) (i : Nat) : Bool := d.vault.updates.any (fun u => u.kind == .storeImage && u.slice == i)

/-- An update of a management command on slice `i`: its answer follows the commit. -/
def sliceUpdate (i : Nat) (k : UpdateKind) (data : Bytes) (t : Option (Src × Nat)) : Update :=
  { req := none, slice := i, seq := 0, opcode := 0, parent := 0, kind := k, parentGen := 0, acked := true, status := 0, output := data, ticket := t }

/-- SLC_CMD_CREATE (R389, R391): where no slice root is held, one is drawn and committed first. (DEDUCED, assumption log 68) -/
def effSliceCreate : Effect := withArg 64 fun d m =>
  let i := leAt 0 2 m.body
  let a := createArgs m.body
  if i ≥ 4096 || !allZero (m.body.drop 53) then deny d (Reply.range P.slcCmdCreate)
  else if d.sliceExists i || (d.sliceSt i).restoring.isSome then deny d (Reply.err resState)
  else if d.creating then deny d (Reply.err resBusy)
  else match d.sliceBad i a with
    | some p => deny d (Reply.range p)
    | none =>
      if (d.root i).held then accept (d.makeInstance i a)
      else if !d.modes.storeOpen then deny d (Reply.err resState)
      else
        let (k, d) := d.draw 32
        (none, d.journal (sliceUpdate i .sliceRoot (m.body ++ k) (some (m.src, m.reqId.toNat))))

/-! ### Reset and removal (R400, R401, R403) -/

/-- A request waits for a commit, or its computation has begun: it is in service. -/
def Dev.serving (d : Dev) (r : Nat) (q : Request) : Bool := q.phase == .committing || (d.jobsOf r).any (fun e => e.2.begun.isSome)

/-- A slice reset begins (R401 steps 1 to 3, 6): a new generation, every queue pair DISABLED, what is not in service discarded, what is set to abort.
A save that has not committed is given up. (DEDUCED, assumption log 71) -/
def Dev.beginSliceReset (d : Dev) (i : Nat) (k : EdgeKind) : Dev :=
  let gone := d.vault.updates.filter (fun u => u.kind == .storeImage && u.slice == i)
  let d := d.onVault (fun v => { v with updates := v.updates.filter (fun u => !gone.contains u) })
  let d := gone.foldl (fun d u => match u.ticket with | some (src, id) => d.respondLate src id (Reply.err resState) | none => d) d
  let d := d.setNum P.slcGeneration i ((d.num P.slcGeneration i + 1) % 65536)
  let d := (d.qpsOf i).foldl (fun d q => if (d.qp q).state == .unconfigured then d else d.onQp q (fun p => { p with state := .disabled, disabling := false, parked := false })) d
  let d := d.onSlice i (fun s => { s with state := .resetting, edge := k, resetDrops := 0, reissue := [], restoring := none })
  let d := (d.disp.reqs.filter (fun e => e.2.slice == i)).foldl (fun d e =>
    if e.2.phase == .staged then d.dropReq e.1 true
    else if (d.jobsOf e.1).any (fun j => j.2.runs) then d.abortReq e.1 0x0204
    else if d.serving e.1 e.2 then d
    else d.dropReq e.1 false) d
  let d := d.abandonWindows (fun x => x.slice == i)
  d.dropPlacements (fun _ n => match d.node? n with | some x => x.slice == i | none => false)

/-- No key register or context holds a key of the slice (R401 step 4). (DEDUCED, assumption log 71) -/
def Dev.clearSliceKeys (d : Dev) (i : Nat) : Dev :=
  d.clearKeysWhere (fun k => k.slice == i)

/-- SLC_CMD_RESET: from ACTIVE and FROZEN; one at a time (R396). A reset of the main domains that is in progress absorbs it (R496). (DEDUCED, assumption log 76) -/
def effSliceReset : Effect := withArg 0 fun d m =>
  let i := m.row.toNat
  if i ≥ 4096 then deny d (Reply.err resUnknown)
  else if d.modes.inReset.isSome then accept (d.absorbed 4)
  else match (d.sliceSt i).state with
    | .free => deny d (Reply.err resState)
    | .resetting => deny d (Reply.err resBusy)
    | _ => accept (d.beginSliceReset i .host)

/-- SLC_CMD_REMOVE: LOCAL, or PURGE on the home (R403). (DEDUCED, assumption log 70) -/
def effSliceRemove : Effect := withArg 1 fun d m =>
  let i := m.row.toNat
  let v := leNat m.body
  if i ≥ 4096 then deny d (Reply.err resUnknown)
  else if v > 1 then deny d (Reply.range P.slcCmdRemove)
  else if (d.sliceSt i).state == .resetting then deny d (Reply.err resBusy)
  else if (d.sliceSt i).state != .active || (v == 1 && !d.isHome i) then deny d (Reply.err resState)
  else accept ((d.beginSliceReset i .host).onSlice i (fun s => { s with removal := true, purge := v == 1 }))

/-! ### What commits (R176, R177, R391, R403, R407, R410, R466) -/

/-- M4 again, after an install or removal: each entry's measurement in ascending (MP_ID, VERSION) (R466). -/
def entryBefore (a b : Microprogram) : Bool := a.mpId < b.mpId || (a.mpId == b.mpId && a.version ≤ b.version)
def insertEntry (e : Microprogram) : List Microprogram → List Microprogram
  | [] => [e]
  | x :: r => if entryBefore e x then e :: x :: r else x :: insertEntry e r
def Dev.measureLibrary (d : Dev) : Dev := (d.lib.library.foldl (fun l e => insertEntry e l) []).foldl (fun d e => d.extend 4 0x05 0 e.measurement) d

/-- The 128 header bytes of an image (R408), and the whole image. -/
def SliceImage.header (m : SliceImage) : Bytes :=
  natLE 4 0x4F515349 ++ natLE 2 1 ++ natLE 2 m.slice ++ fitLen 32 m.source ++ fitLen 32 m.dest ++ fitLen 16 m.nonce ++ natLE 2 m.gen ++ natLE 1 (bnat m.home) ++
  zeros 1 ++ natLE 4 m.bodyLen ++ natLE 8 m.replMark ++ zeros 24
/-- The body's ciphertext and tag (R408): AES-256-GCM under the transport key, the IV bytes 72 to 83 of the header, the header the additional data. What the body
spells its contents as is read by OQ7168 devices only. (DESIGN CHOICE, assumption log 17) -/
def imageSeal (key header plain : Bytes) : Bytes :=
  let c := (aes key).gcmData (slice 72 12 header) plain
  c ++ (aes key).gcmTag (slice 72 12 header) header c
/-- The tag behind a body verifies. -/
def imageTagOk (key header rest : Bytes) : Bool := (aes key).gcmTag (slice 72 12 header) header (rest.take (rest.length - 16)) == rest.drop (rest.length - 16)
def SliceImage.bytes (m : SliceImage) : Bytes := m.header ++ m.body
/-- Its length. (DESIGN CHOICE, assumption log 17) -/
def SliceImage.length (m : SliceImage) : Nat := 128 + m.bodyLen + 16

/-- Move a time. -/
def Stamp.shift (k : Int) (s : Stamp) : Stamp := { s with time := s.time + k }
def Reissue.shift (k : Int) (e : Reissue) : Reissue := { e with deadline := e.deadline.map (· + k), accept := e.accept + k }

/-- The image of a frozen slice now, times relative to now (R408). -/
def Dev.buildImage (d : Dev) (i : Nat) (dest nonce : Bytes) (bodyLen : Nat) : SliceImage :=
  let k : Int := -(d.now : Int)
  { slice := i, source := deviceIdentity, dest := dest, nonce := nonce, gen := (d.num P.slcGeneration i + 1) % 65536, home := d.isHome i,
    replMark := tabGet 0 i d.vault.seqs, params := (P.slcMsixBase, d.num P.slcMsixBase i) :: d.argsOf i,
    qps := ((d.qpsOf i).filter (fun q => (d.qp q).state != .unconfigured)).map (fun q =>
      { qp := q, cfg := qpConfig.map (fun p => (p, d.num p q)), saved := { d.qp q with stamps := (d.qp q).stamps.map (Stamp.shift k), staged := [], waitCounted := false, creditOwed := false } }),
    reissue := (d.sliceSt i).reissue.map (Reissue.shift k),
    channels := ((List.range nChannels).filter (fun c => d.num P.monChOwner c == i)).map (fun c => (c, d.num P.monChSource c, d.num P.monChFilter c)),
    stateful := if d.isHome i then d.vault.nodes.filter (fun e => e.2.slice == i && e.2.isStateful && !e.2.destroyed) else [],
    volatiles := (d.vault.nodes.filter (fun e => e.2.slice == i && isVol e.1)).map (fun e => mkHandle i e.1 e.2.tag), bodyLen := bodyLen, body := [] }

/-- The commit of a save (R407 steps 3 and 4): the source invalidates its copy of each stateful key, as R311 has it, before the image is released (R233). -/
def Dev.saveCommit (d : Dev) (i : Nat) (b : Bytes) : Dev :=
  let im := d.buildImage i (slice 0 32 b) (slice 32 16 b) (leAt 56 4 b)
  let im := { im with body := imageSeal (slice 68 32 b) im.header ((List.range im.bodyLen).map (Config.freeByte (leAt 60 8 b))) }
  let d := im.stateful.foldl (fun d e => (d.onNode e.1 (fun x => { x.evicted with destroyed := true, gen := (x.gen + 1) % 2 ^ 32 })).broadcast (d.below e.1)) d
  let d := (d.setNum P.slcGeneration i im.gen).emit (.hostWrite none BusAttr.plain (leAt 48 8 b) im.bytes)
  let d := if im.home then d.setOct P.vltSliceHome i [] else d
  (d.freeInstance i).onSlice i (fun s => { s with stored := some im })

/-- Restored stamps get new sequence numbers, in their order. (DEDUCED, assumption log 74) -/
def Dev.renumber (d : Dev) (q : Nat) : Dev :=
  (d.qp q).stamps.foldl (fun d s =>
    let n := d.host.nextSeq
    let d := if s.void then d else d.onHost (fun h => { h with nextSeq := n + 1 })
    d.onQp q (fun p => { p with stamps := p.stamps.drop 1 ++ [if s.void then s else { s with seq := n }] })) d

/-- One queue pair of an image is restored: configured, its vector at the same offset, bound anew, its counts as at the save (R410 step 2). -/
def Dev.restoreQp (d : Dev) (i oldBase : Nat) (x : ImageQp) : Dev :=
  if x.qp ≥ 65536 then d
  else
    let d := x.cfg.foldl (fun d e => d.setNum e.1 x.qp e.2) d
    let v := d.num P.qpMsixVector x.qp
    let d := if v == 0xFFFF then d else d.setNum P.qpMsixVector x.qp (d.num P.slcMsixBase i + (v - oldBase))
    let d := d.onQp x.qp (fun _ => { x.saved with binding := none, parked := false, stamps := x.saved.stamps.map (Stamp.shift (d.now : Int)) })
    let d := if x.saved.binding.isSome then d.bindQp x.qp else d
    if x.saved.state == .active then d.writeCredit x.qp else d

/-- A monitor channel of an image, where nobody owns it here. -/
def Dev.restoreChannel (d : Dev) (i : Nat) (c : Nat × Nat × Nat) : Dev :=
  if d.num P.monChOwner c.1 != 0xFFFF || c.1 ≥ nChannels then d
  else ((((d.setNum P.monChOwner c.1 i).setNum P.monChSource c.1 c.2.1).setNum P.monChFilter c.1 c.2.2)).monitorWritten c.1

/-- A stateful key as the destination starts it: NEXT is COMMITTED (R233, R410). -/
def Node.received (x : Node) : Node :=
  { x.evicted with pending := false, stateful := x.stateful.map (fun s => { s with next := s.committed, window := false, reserving := false }) }

/-- The commit of a restore, and what follows it (R410). (DEDUCED, assumption log 74) -/
def Dev.restoreCommit (d : Dev) (i : Nat) : Dev :=
  match (d.sliceSt i).restoring with
  | none => d
  | some (im, pasid) =>
    let d := (d.makeInstance i ((P.slcPasid, pasid) :: im.params)).setNum P.slcGeneration i im.gen
    let (b, d) := d.draw (12 * im.stateful.length)
    let d := d.onVault (fun v => { v with
      transport := v.transport.filter (fun t => t.nonce != im.nonce)
      nodes := (im.stateful.zip (List.range im.stateful.length)).foldl (fun l e =>
        tabSet e.1.1 { e.1.2.received with stored := d.seal (slice (12 * e.2) 12 b) e.1.2.received } l) v.nodes })
    let d := d.noteLow ((im.stateful.filter (fun e => e.2.stateful.any (fun s => s.next < s.committed))).map Prod.fst) none
    let d := if im.home then d.setOct P.vltSliceHome i deviceIdentity else d
    let d := im.qps.foldl (fun d x => d.restoreQp i (argOf P.slcMsixBase im.params) x) d
    let d := im.channels.foldl (fun d c => d.restoreChannel i c) d
    let d := ((d.onSlice i (fun s => { s with reissue := im.reissue.map (Reissue.shift (d.now : Int)) })).numberReissues i).replayWaiting i
    let d := (im.qps.map (fun x => x.qp)).foldl Dev.renumber d
    d.emit (.peer 1 i im.source)

/-- What a committed library or slice update does. -/
def Dev.applyOther (d : Dev) (u : Update) : Dev :=
  match u.kind with
  | .sliceRoot =>
    let k := u.output.drop 64
    let d := (d.onRoot u.slice (fun r => { r with held := true, key := k, wrapped := d.wrapRoot k, closed := false })).setOct P.vltSliceHome u.slice deviceIdentity
    d.makeInstance u.slice (createArgs u.output)
  | .purgeRoot => (d.onRoot u.slice (fun r => { r with held := false, gen := (r.gen + 1) % 2 ^ 32, key := [], wrapped := [] })).emit (.peer 2 u.slice [])
  | .storeImage => d.saveCommit u.slice u.output
  | .restoreImage => d.restoreCommit u.slice
  | .library _ => (d.libApply u.kind).measureLibrary
  | .libraryRemove _ _ => (d.libApply u.kind).measureLibrary
  | k => d.libApply k

/-- The signature that waits for a reservation of this key (R229): it is ready but for an index. -/
def Dev.waitsForIndex (d : Dev) (r : Nat) (q : Request) (key : Nat) : Bool :=
  d.signsStateful q && handleObj q.desc.keyA == key && q.index.isNone && d.isReady r q && d.statefulTurn q == some none

/-- JOURNAL_COMMIT_DONE (R314): one commit record ends a group of at most 64 updates; what waited for one goes on. Where the records could not be written, a request
that waits for a reservation of the group completes with 0x0321, and the next one tries again (R229). -/
def journalCommitDone (n : Nat) (written : Bool) (d : Dev) : Dev :=
  if !d.modes.mode.powered then d
  else if written then (d.commitSome Dev.applyOther (Nat.min n 64)).goOn
  else
    let (keys, d) := d.reservationsFail (Nat.min n 64)
    (keys.foldl (fun d k => ((d.disp.reqs.filter (fun e => d.waitsForIndex e.1 e.2 k)).map Prod.fst).foldl (fun d r => d.fail r 0x0321) d) d).goOn

/-- SLICE_RESET_COMPLETE (R401 steps 3 to 7): what still runs is dropped, written updates commit, and the instance is ACTIVE, or FREE where it is
removed. A purge then destroys the slice root by a journaled update. (DEDUCED, assumption log 70) (DEDUCED, assumption log 71) -/
def sliceResetComplete (i : Nat) (d : Dev) : Dev :=
  let s := d.sliceSt i
  if s.state != .resetting then d
  else
    let d := d.commitWritten Dev.applyOther (fun u => u.slice == i && u.kind != .restoreImage && u.kind != .sliceRoot)
    let d := (d.disp.reqs.filter (fun e => e.2.slice == i)).foldl (fun d e =>
      d.dropReq e.1 (e.2.phase == .staged || (d.jobsOf e.1).any (fun j => j.2.finished))) d
    let d := d.clearSliceKeys i
    if s.removal then
      let d := d.freeInstance i
      if s.purge then d.journal (sliceUpdate i .purgeRoot [] none) else d
    else
      let d := d.onSlice i (fun s => { s with state := .active })
      d.event i 6 0xFFFF (d.num P.slcGeneration i) (d.sliceSt i).resetDrops

/-! ### Freeze and thaw (R405, R406) -/

/-- SLC_CMD_FREEZE. (DEDUCED, assumption log 72) -/
def effSliceFreeze : Effect := withArg 0 fun d m =>
  let i := m.row.toNat
  if i ≥ 4096 then deny d (Reply.err resUnknown)
  else if (d.sliceSt i).state != .active then deny d (Reply.err resState)
  else
    let d := d.onSlice i (fun s => { s with state := .frozen, edge := .host, freezeStart := d.now, limitPassed := false, cancelled := 0, drainedCount := 0, frozenDrained := false })
    accept (d.freezeSettled i)

/-- The request uses a stateful key. -/
def Dev.usesStateful (d : Dev) (q : Request) : Bool := (d.reqObjs q).any (fun n => match d.node? n with | some x => x.isStateful | none => false)

/-- The requests of `l` that those in `k` wait on, through a flow or a FENCE, in so many rounds. -/
def Dev.waitedOn (d : Dev) (l : List (Nat × Request)) : Nat → List Nat → List Nat
  | 0, k => k
  | n + 1, k => d.waitedOn l n (k ++ (l.filter (fun a => !k.contains a.1 && l.any (fun b => k.contains b.1 && d.waitsOn b.2 a.2))).map Prod.fst)

/-- A request that was not drained is cancelled: it enters the re-issue list (R405). (DEDUCED, assumption log 72) -/
def Dev.cancel (d : Dev) (i r : Nat) (q : Request) : Dev :=
  let e : Reissue := { read := q.read, qp := q.qp, number := q.number, deadline := q.deadline, accept := q.accept, seq := 0 }
  ((d.dropReq r false).addNum P.slcCancelCount i 1).onSlice i (fun s => { s with reissue := s.reissue ++ [e], cancelled := s.cancelled + 1 })

/-- FREEZE_DRAIN_LIMIT: what is admitted and unpublished is cancelled, or drained. (DEDUCED, assumption log 72) -/
def freezeDrainLimit (i : Nat) (d : Dev) : Dev :=
  let s := d.sliceSt i
  if s.state != .frozen || s.limitPassed || d.now < s.freezeStart + d.num P.slcDrainLimitUs i * ticksPerUs then d
  else
    let l := (latestFirst (d.disp.reqs.filter (fun e => e.2.slice == i))).reverse
    let k := (l.filter (fun e => d.usesStateful e.2)).map Prod.fst
    let k := d.waitedOn l l.length k
    let kept := k ++ (l.filter (fun e => !k.contains e.1 && d.vault.updates.any (fun u => u.req == some e.1))).map Prod.fst
    let d := d.onSlice i (fun s => { s with limitPassed := true, drainedCount := kept.length })
    let d := l.foldl (fun d e => if kept.contains e.1 then d else d.cancel i e.1 e.2) d
    (d.freezeSettled i).goOn

/-- SLC_CMD_THAW: the re-issue list is replayed, then admission goes on from each ring's R (R406). -/
def effSliceThaw : Effect := withArg 0 fun d m =>
  let i := m.row.toNat
  if i ≥ 4096 then deny d (Reply.err resUnknown)
  else if (d.sliceSt i).state != .frozen then deny d (Reply.err resState)
  else if d.saving i then deny d (Reply.err resBusy)
  else
    let d := d.onSlice i (fun s => { s with state := .active, edge := .host })
    let d := (d.numberReissues i).replayWaiting i
    accept ((d.qpsOf i).foldl (fun d q => d.onQp q (fun p => { p with parked := false })) d)

/-! ### Save and restore (R407 to R410) -/

/-- The destination is a member of the group, and a PEER session with it is open. (DEDUCED, assumption log 73) -/
def Dev.reachable (d : Dev) (id : Bytes) : Bool := d.groupMember id && d.mgmt.sessions.any (fun e => e.2.peer && e.2.principal == id)

/-- SLC_CMD_SAVE: destination, buffer address, length. Its answer follows the commit. (DEDUCED, assumption log 73) -/
def effSliceSave : Effect := withArg 48 fun d m =>
  let i := m.row.toNat
  let dest := m.body.take 32
  if i ≥ 4096 then deny d (Reply.err resUnknown)
  else if d.saving i then deny d (Reply.err resBusy)
  else if (d.sliceSt i).state != .frozen || !(d.sliceSt i).frozenDrained || !d.modes.storeOpen then deny d (Reply.err resState)
  else if !d.reachable dest then deny d (Reply.refused "GROUP" 0)
  else
    let (n, d) := d.fresh
    let (b, d) := d.fresh
    let size := 128 + Config.freeNat n + 16
    if leAt 40 8 m.body < size then deny d (Reply.refused "SPACE" (size % 2 ^ 32))
    else if size > 16777216 then deny d (Reply.refused "SIZE" 0)
    else
      let (k, d) := d.draw 48
      let nonce := k.take 16
      let key := k.drop 16
      let d := d.emit (.peer 3 i (dest ++ nonce ++ key))
      (none, d.journal (sliceUpdate i .storeImage (dest ++ nonce ++ slice 32 8 m.body ++ natLE 4 (Config.freeNat n) ++ natLE 8 b ++ key) (some (m.src, m.reqId.toNat))))

/-- The transport key of a nonce, where it has not been used (R409). -/
def Dev.transportKey (d : Dev) (nonce : Bytes) : Option Bytes := (d.vault.transport.find? (fun t => t.nonce == nonce && !t.used)).map TransportKey.key

/-- The reason for which an image is refused (R409). -/
def Dev.imageBar (d : Dev) (im : Machine.ImageRead) (len pasid : Nat) : Option String :=
  let h := im.header
  let i := leAt 6 2 h
  if h.length != 128 || leAt 0 4 h != 0x4F515349 || leAt 4 2 h != 1 || i ≥ 4096 || leAt 90 1 h > 1 || leAt 91 1 h != 0 || !allZero (slice 104 24 h) ||
     im.rest.length != leAt 92 4 h + 16 || 128 + im.rest.length > len then some "FORMAT"
  else if slice 40 32 h != deviceIdentity then some "DESTINATION"
  else if (d.transportKey (slice 72 16 h)).isNone then some "NONCE"
  else if !imageTagOk ((d.transportKey (slice 72 16 h)).getD []) h im.rest then some "TAG"
  else if d.sliceExists i || (d.sliceSt i).restoring.isSome then some "SLICE_BUSY"
  else if (d.sliceBad i ((P.slcPasid, pasid) :: im.content.params)).isSome then some "RESOURCES" else none

/-- SLC_CMD_RESTORE: buffer address, length, PASID; then the wait for REPL_MARK. (DEDUCED, assumption log 74) -/
def effSliceRestore (im : Machine.ImageRead) : Effect := withArg 20 fun d m =>
  let pasid := leAt 16 4 m.body
  match d.imageBar im (leAt 8 8 m.body) pasid with
  | some why => deny d (Reply.refused why 0)
  | none =>
    let h := im.header
    let i := leAt 6 2 h
    let x := { im.content with slice := i, source := slice 8 32 h, dest := slice 40 32 h, nonce := slice 72 16 h, gen := leAt 88 2 h, home := leAt 90 1 h == 1,
                               replMark := leAt 96 8 h, bodyLen := leAt 92 4 h, body := im.rest }
    accept (d.onSlice i (fun s => { s with restoring := some (x, pasid) }))

/-- RESTORE_REPL_MARK_REACHED (R409, R410 step 1): the copy here has applied REPL_MARK; the restore is journaled. -/
def restoreReplMarkReached (i : Nat) (d : Dev) : Dev :=
  match (d.sliceSt i).restoring with
  | none => d
  | some (im, _) =>
    if tabGet 0 i d.vault.seqs < im.replMark || d.vault.updates.any (fun u => u.kind == .restoreImage && u.slice == i) || !d.modes.mode.powered ||
       (d.msixFit i (argOf P.slcMsixCount im.params)).isNone then d
    else d.journal (sliceUpdate i .restoreImage [] none)

/-- SLC_CMD_IMAGE_FETCH: the stored image goes to a host buffer again (R407). -/
def effImageFetch : Effect := withArg 16 fun d m =>
  let i := m.row.toNat
  if i ≥ 4096 then deny d (Reply.err resUnknown)
  else match (d.sliceSt i).stored with
    | none => deny d (Reply.err resState)
    | some im => if leAt 8 8 m.body < im.length then deny d (Reply.refused "SPACE" im.length) else accept (d.emit (.hostWrite none BusAttr.plain (leAt 0 8 m.body) im.bytes))

/-- SLC_CMD_IMAGE_DISCARD: the stored image and its stateful keys are gone (R407). -/
def effImageDiscard : Effect := withArg 0 fun d m =>
  let i := m.row.toNat
  if i ≥ 4096 then deny d (Reply.err resUnknown)
  else if (d.sliceSt i).stored.isNone then deny d (Reply.err resState)
  else accept (d.onSlice i (fun s => { s with stored := none }))

/-! ### Events (R404) -/

/-- The 32 bytes of an event record. -/
def SliceEvent.bytes (e : SliceEvent) : Bytes := natLE 8 e.time ++ natLE 2 e.code ++ natLE 2 e.queue ++ zeros 4 ++ natLE 8 e.detail0 ++ natLE 8 e.detail1

/-- A READ of SLC_EVENTS: OFFSET and MAX; whole records, oldest first, as many as a response carries. They are removed, and events lost while the ring
was full are then told of (R404, R525). (DESIGN CHOICE, assumption log 75) -/
def effEvents : Effect := withArg 8 fun d m =>
  let i := m.row.toNat
  let s := d.sliceSt i
  let skip := ceilDiv (leAt 0 4 m.body) 32
  let n := Nat.min (leAt 4 4 m.body / 32) 63
  let got := (s.events.drop skip).take n
  let d := d.onSlice i (fun s => { s with events := s.events.take skip ++ s.events.drop (skip + n) })
  let d := if s.dropped > 0 && !got.isEmpty then (d.onSlice i (fun s => { s with dropped := 0 })).event i 8 0xFFFF s.dropped 0 else d
  (some (Reply.data' (got.flatMap SliceEvent.bytes)), d)

/-! ### The commands -/

def execJournalCommitDone (g : CommitGroup) (s : State) := s.run (journalCommitDone g.count g.written)
def execSlcCmdCreate (m : Msg) (s : State) := s.run fun d => d.serve d.lc P.slcCmdCreate 0 m false effSliceCreate
def execSlcCmdReset (m : Msg) (s : State) := s.run fun d => d.serve d.lc P.slcCmdReset 0 m false effSliceReset
def execSliceResetComplete (i : Nat) (s : State) := s.runPart i 4096 (sliceResetComplete i)
def execSlcCmdRemove (m : Msg) (s : State) := s.run fun d => d.serve d.lc P.slcCmdRemove 0 m false effSliceRemove
def execSlcCmdFreeze (m : Msg) (s : State) := s.run fun d => d.serve d.lc P.slcCmdFreeze 0 m false effSliceFreeze
def execFreezeDrainLimit (i : Nat) (s : State) := s.runPart i 4096 (freezeDrainLimit i)
def execSlcCmdThaw (m : Msg) (s : State) := s.run fun d => d.serve d.lc P.slcCmdThaw 0 m false effSliceThaw
def execSlcCmdSave (m : Msg) (s : State) := s.run fun d => d.serve d.lc P.slcCmdSave 0 m false effSliceSave
def execSlcCmdRestore (m : Msg) (im : Machine.ImageRead) (s : State) := s.run fun d => d.serve d.lc P.slcCmdRestore 0 m false (effSliceRestore im)
def execRestoreReplMarkReached (i : Nat) (s : State) := s.runPart i 4096 (restoreReplMarkReached i)
def execSlcCmdImageFetch (m : Msg) (s : State) := s.run fun d => d.serve d.lc P.slcCmdImageFetch 0 m false effImageFetch
def execSlcCmdImageDiscard (m : Msg) (s : State) := s.run fun d => d.serve d.lc P.slcCmdImageDiscard 0 m false effImageDiscard
def execSlcEvents (m : Msg) (s : State) := s.run fun d => d.serveRead d.lc P.slcEvents m effEvents

end Sys2Proof.Machine
end

