-- ==== Sys2Proof/Machine/Power.lean ====
section
/-! DEFINITION. Mode commands, power domains and tile switches, resets, supplies that fail, and boot (R12 to R18, R62, R413, R432 to R437, R471,
R481 to R498, R552, R553). -/

namespace Sys2Proof.Machine

/-! ### Domains (R483 to R489) -/

/-- Domain numbers of a quadrant. -/
def tileDomain (q : Nat) : Nat := 4 + q
def hearthDomain (q : Nat) : Nat := 8 + q
def vecDomain (q : Nat) : Nat := 12 + q
/-- The domains of tiles, hearths and long-vector units, in the order in which they are switched on. -/
def quadDomains : List Nat := (List.range 4).map hearthDomain ++ (List.range 4).map tileDomain ++ (List.range 4).map vecDomain
/-- The engines of a quadrant. -/
def quadEngines (q : Nat) : List Nat := (List.range 8).map (fun i => 128 + 8 * q + i) ++ (List.range 4).map (fun i => 160 + 4 * q + i)
/-- The units of the pool that a domain powers. -/
def domainUnits (n : Nat) : List Nat := if 4 ≤ n && n < 8 then quadTiles (n - 4) else if 8 ≤ n && n < 12 then quadEngines (n - 8) else []

/-- Put a domain in a state. -/
def Dev.setDomain (d : Dev) (n : Nat) (x : DomainState) : Dev := d.onPower (fun p => { p with domains := tabSet n x p.domains })
/-- A domain is on by the host's setting, or comes on. -/
def Dev.domainSet (d : Dev) (n : Nat) : Bool := d.domain n == .on || d.domain n == .ramping || d.domain n == .autoOff
/-- Its last switching has not finished (R485). (DESIGN CHOICE, assumption log 43) -/
def Dev.domainBusy (d : Dev) (n : Nat) : Bool := d.domain n == .draining || d.domain n == .ramping
/-- A tile whose switch was opened still drains. (DESIGN CHOICE, assumption log 43) -/
def Dev.tileBusy (d : Dev) (t : Nat) : Bool := d.power.openSwitches.contains t && (d.unit t).pool == .draining

/-- What DEPENDENCY guards (R485), for the domains that would be set on and the switches that would be closed; `vecOn` are the VEC domains the command
switches on. (DEDUCED, assumption log 45) -/
def Dev.dependency (d : Dev) (isOn : Nat → Bool) (closed : Nat → Bool) (vecOn : List Nat) : Bool :=
  (List.range 4).any (fun q =>
    let some' := (quadTiles q).any closed
    (some' && !isOn (hearthDomain q)) || (vecOn.contains (vecDomain q) && !some')) ||
  (!d.power.inS2 && !(List.range 4).any (fun q => isOn (tileDomain q) || isOn (hearthDomain q)))

/-- A tile's switch stands closed, or will once its domain is on. (DEDUCED, assumption log 45) -/
def Dev.switchClosed (d : Dev) (t : Nat) : Bool := d.domainSet (unitDomain t) && !d.power.openSwitches.contains t

/-- A unit without an operation goes OFF, its key register and contexts cleared (R108, R486). -/
def Dev.unitOff (d : Dev) (u : Nat) : Dev := (d.clearKey u).setPool u .off .host

/-- A switch-off begins (R486): the units of the domain no longer count as configured, and drain. -/
def Dev.switchOff (d : Dev) (n : Nat) : Dev :=
  (domainUnits n).foldl (fun d u => (d.dropShadows u).drainUnit u .host) (d.setDomain n .draining)

/-- Switch some domains off or on (R485, R487, R489). OTP has no units and no ramp. -/
def Dev.switchDomains (d : Dev) (l : List Nat) (on : Bool) : Dev :=
  let d := if l.contains 20 then d.setDomain 20 (if on then .on else .off) else d
  let q := (if on then quadDomains else quadDomains.reverse).filter l.contains
  if on then q.foldl (fun d n => d.setDomain n .ramping) d else q.foldl Dev.switchOff d

/-- A unit has power again: everything in its domain is at its default, and it takes the OFF edge to RETURNING (R81, R487 step 5, R498). -/
def Dev.powerUnit (d : Dev) (u : Nat) : Dev := ((d.setPool u .off .host).unitDefaults u).startReturn u true

/-- PWR_DOMAIN_CMD (R485): a mask of domains and 0 or 1. (DESIGN CHOICE, assumption log 18) (DESIGN CHOICE, assumption log 43) (DEDUCED, assumption log 44) -/
def effPwrDomain : Effect := withArg 5 fun d m =>
  let mask := leAt 0 4 m.body
  let on := leAt 4 1 m.body
  let l := ((List.range 32).filter (fun b => mask.testBit b)).map (· + 1)
  let want := l.filter (fun n => if n == 20 then (d.domain n == .on) != (on == 1) else d.domainSet n != (on == 1))
  let isOn := fun n => if want.contains n then on == 1 else d.domainSet n
  let closed := fun t => if want.contains (unitDomain t) then on == 1 else d.switchClosed t
  if on > 1 || l.isEmpty || l.any (fun n => !((4 ≤ n && n ≤ 15) || n == 20)) then deny d (Reply.range P.pwrDomainCmd)
  else if d.power.inS2 && l.any (· != 20) then deny d (Reply.err resState)
  else if l.any d.domainBusy || (List.range nTiles).any (fun t => l.contains (unitDomain t) && d.tileBusy t) || (want.contains 20 && d.lcy.burning.isSome) then
    deny d (Reply.err resBusy)
  else if d.dependency isOn closed (if on == 1 then want.filter (fun n => 12 ≤ n && n ≤ 15) else []) then deny d (Reply.err resDependency)
  else accept (d.switchDomains want (on == 1))

/-- Open a tile's switch: an idle tile goes OFF at once. -/
def Dev.openTile (d : Dev) (t : Nat) : Dev :=
  let d := d.onPower (fun p => { p with openSwitches := t :: p.openSwitches.filter (· != t) })
  let d := (d.dropShadows t).drainUnit t .host
  if (d.unit t).job.isNone then d.unitOff t else d

/-- Close it again. -/
def Dev.closeTile (d : Dev) (t : Nat) : Dev := (d.onPower (fun p => { p with openSwitches := p.openSwitches.filter (· != t) })).powerUnit t

/-- PWR_TILE_CMD (R483, R485): a mask of tiles and 0 or 1. (DEDUCED, assumption log 45) -/
def effPwrTile : Effect := withArg 17 fun d m =>
  let mask := leAt 0 16 m.body
  let close := leAt 16 1 m.body
  let l := (List.range nTiles).filter (fun t => mask.testBit t)
  let want := l.filter (fun t => d.switchClosed t != (close == 1))
  if close > 1 || l.isEmpty then deny d (Reply.range P.pwrTileCmd)
  else if l.any (fun t => d.domainBusy (unitDomain t) || d.tileBusy t) then deny d (Reply.err resBusy)
  else if close == 1 && want.any (fun t => d.domain (unitDomain t) != .on || d.domain (hearthDomain (quadOf t)) != .on) then deny d (Reply.err resDependency)
  else accept (want.foldl (fun d t => if close == 1 then d.closeTile t else d.openTile t) d)

/-- PWR_STATE_CMD (R484, R488): S0, S1 or S2. S1 leaves S2 with the domains that were on before it. (DEDUCED, assumption log 44) -/
def effPwrState : Effect := withArg 1 fun d m =>
  let v := leNat m.body
  if v > 2 then deny d (Reply.range P.pwrStateCmd)
  else if quadDomains.any d.domainBusy || (List.range nTiles).any d.tileBusy then deny d (Reply.err resBusy)
  else if v == 2 then
    if d.modes.mode != .quiesced then deny d (Reply.err resState)
    else if d.power.inS2 then accept d
    else
      let on := quadDomains.filter d.domainSet
      accept ((d.onPower (fun p => { p with inS2 := true, beforeS2 := on })).switchDomains on false)
  else if d.power.inS2 then
    if d.modes.mode != .quiesced then deny d (Reply.err resState)
    else
      let on := if v == 0 then quadDomains else d.power.beforeS2
      accept ((d.onPower (fun p => { p with inS2 := false, beforeS2 := [] })).switchDomains on true)
  else if v == 1 then deny d (Reply.err resState)
  else
    let d := ((List.range nTiles).filter (fun t => d.domainSet (unitDomain t) && d.power.openSwitches.contains t)).foldl Dev.closeTile d
    accept (d.switchDomains (quadDomains.filter (fun n => !d.domainSet n)) true)

/-- No operation runs on a unit, and it has left the pool (R82). -/
def Dev.unitIdle (d : Dev) (u : Nat) : Bool := (d.unit u).pool != .inPool && (d.unit u).job.isNone && d.disp.jobs.all (fun e => e.2.unit != u)

/-- An operation with long vectors is in service in a quadrant (R169). -/
def Dev.longBusy (d : Dev) (q : Nat) : Bool :=
  d.disp.jobs.any (fun e => e.2.unit < nTiles && quadOf e.2.unit == q && (match d.req? e.2.req with | some r => d.longVector e.2.unit r.desc.opcode | none => false))

/-- A drained domain is off: its units go OFF, and a hearth domain loses its memory with the placements in it (R241, R486). -/
def Dev.domainGone (d : Dev) (n : Nat) : Dev :=
  let d := (domainUnits n).foldl Dev.unitOff (d.setDomain n .off)
  let d := if 4 ≤ n && n < 8 then d.onPower (fun p => { p with openSwitches := p.openSwitches.filter (fun t => unitDomain t != n) ++ quadTiles (n - 4) }) else d
  let d := if 8 ≤ n && n < 12 then d.onHearths (fun l => l.filter (fun e => e.1 / 4 != n - 8)) else d
  if 12 ≤ n && n < 16 then (quadTiles (n - 12)).foldl (fun d t => d.onTile t (fun y => { y with lv := 2, lvSince := d.now })) d else d

/-- DOMAIN_DRAINED (R485, R486): the last operation on a draining domain has ended, and the domains before it are off; or a tile's whose switch was
opened has. -/
def domainDrained (n : Nat) (d : Dev) : Dev :=
  let q := n % 4
  if n < 4 || n > 15 then d
  else if d.domain n == .draining then
    if (domainUnits n).all d.unitIdle && !(n ≥ 12 && d.longBusy q) && !(n < 12 && d.domain (vecDomain q) == .draining) &&
       !(8 ≤ n && n < 12 && d.domain (tileDomain q) == .draining) then d.domainGone n else d
  else if n < 8 then (((quadTiles q).filter (fun t => d.power.openSwitches.contains t && (d.unit t).pool != .off && d.unitIdle t)).foldl Dev.unitOff d).rolloutStep
  else d

/-- DOMAIN_RAMP_DONE (R487): the hearth first, then the tiles, whose 32 switches close, then the long-vector units. -/
def domainRampDone (n : Nat) (d : Dev) : Dev :=
  let q := n % 4
  if n < 4 || n > 15 || d.domain n != .ramping then d
  else if (n < 8 || n ≥ 12) && d.domain (hearthDomain q) == .ramping then d
  else if n ≥ 12 && d.domain (tileDomain q) == .ramping then d
  else
    let d := d.setDomain n .on
    let d := if n < 8 then d.onPower (fun p => { p with openSwitches := p.openSwitches.filter (fun t => unitDomain t != n) }) else d
    let d := if n ≥ 12 then (quadTiles q).foldl (fun d t => d.onTile t (fun y => { y with lv := 0, lvSince := d.now })) d else d
    (domainUnits n).foldl Dev.powerUnit d

/-! ### What a reset of the main domains does (R62, R495 to R498) -/

/-- The rows of the dictionary that a reset keeps. (DEDUCED, assumption log 27) -/
def Dev.keepRows (d : Dev) (keep : Param → Bool) : Dev :=
  d.onDict (fun c => { nums := c.nums.filter (fun e => keep e.1.1), octs := c.octs.filter (fun e => keep e.1.1) })
/-- A row's persistence class (R520). (DEDUCED, assumption log 27) -/
def persistOf (p : Param) : Persist := match catFind p with | some r => r.persist | none => .none

/-- What the main domains lose at any reset of theirs: requests and jobs, queue pairs and bindings, the units' own state, quench windows, monitor records,
placements, sessions, a rollout, the volatile rows of the dictionary, the debug nonce and a preparation. -/
def Dev.clearMain (d : Dev) : Dev :=
  let d := d.onDisp (fun x => { x with reqs := [], jobs := [], changes := [], threads := [] })
  let d := d.onHost (fun h => { h with qps := [], nextSeq := 0, translations := [] })
  let d := (d.onTiles (fun _ => [])).onQuench (fun _ => [])
  let d := (d.onMonitors (fun _ => [])).onTime (fun t => { t with monEpoch := t.dev })
  let d := ((d.onHearths (fun _ => [])).onVault (fun v => { v with misses := [], roomless := [] })).abandonWindows (fun _ => true)
  let d := d.onBellows (fun b => { b with retest := none, waiters := b.waiters.filter (fun w => !w.isCall) })
  let d := d.onLib (fun l => { l with rolloutState := 0, rolloutDraining := false, rolloutTiles := [], rolloutCurrent := 0, rolloutStopped := 0, rolloutReason := 0, container := [] })
  let d := d.onMgmt (fun g => { g with sessions := [], shakes := [], helloTimes := [], tickets := [], answering := false, reassemblies := [], spdm := [], awaiting := [] })
  let d := (d.onLcy (fun l => { l with prepared := none, wiping := false })).onDebug (fun g => { g with nonce := none, halted := [] })
  let d := ((d.onTamper (fun t => { t with testing := none })).onModes (fun m => { m with hold := false, bootAlarm := false })).closeStore
  d.keepRows (fun p => persistOf p != .v)

/-- What the main domains lose beyond that without a warm start: uncommitted updates, volatile objects, the debug certificate, class W rows and the
host's power settings, the PCIe function, the bellows, the clocks and what the monitors had seen. -/
def Dev.clearCold (d : Dev) : Dev :=
  let d := d.rollBackAll.loseVolatile
  let d := (d.onVault (fun v => { v with testRoot := false })).onDebug (fun g => { g with certActive := false, notAfter := 0 })
  let d := d.keepRows (fun p => persistOf p != .w)
  let d := d.onPower (fun p => { p with rails := [], domains := [], openSwitches := [], inS2 := false, beforeS2 := [] })
  let d := d.onHost (fun h => { h with msix := [], functionMask := true, mailboxes := [] })
  let d := (d.onBellows (fun _ => BellowsSt.reset)).onTime (fun t => { t with pllLocked := false })
  d.onTamper (fun t => { t with windows := [], a1Hold := false, crossings := [], glitches := [], tempReported := [], clocksBad := [], bistNext := 0,
                                shieldFromDrbg := false })

/-- Every unit that has power starts in RETURNING, the others are OFF (R497). -/
def Dev.unitsBack (d : Dev) : Dev :=
  d.onUnits (fun _ => (List.range nUnits).map (fun u =>
    (u, { Unit.reset with pool := if d.domain (unitDomain u) == .on && !(u < nTiles && d.power.openSwitches.contains u) then .returning else .off })))

/-- The tiles' memories hold what their scrub left (R116, R497). -/
def Dev.tilesScrubbed (d : Dev) : Dev :=
  (List.range nTiles).foldl (fun d t => let (n, d) := d.fresh; d.onTile t (fun y => { y with mem := { scrub := some n, cells := [] } })) d

/-- Every instance has a new generation and is ACTIVE; one that was being removed is gone (R396, R401, R497). (DEDUCED, assumption log 52) -/
def Dev.slicesBack (d : Dev) (k : EdgeKind) : Dev :=
  let l := (d.slices.filter (fun e => e.2.state != .free || e.2.restoring.isSome)).map Prod.fst
  l.foldl (fun d i =>
    let s := d.sliceSt i
    if s.state == .free then d.onSlice i (fun s => { s with restoring := none })
    else if s.removal then
      let d := (d.setNum P.slcGeneration i ((d.num P.slcGeneration i + 1) % 65536)).freeInstance i
      if s.purge then d.journal (sliceUpdate i .purgeRoot [] none) else d
    else (d.setNum P.slcGeneration i ((d.num P.slcGeneration i + 1) % 65536)).onSlice i (fun s =>
      { SliceSt.reset with state := .active, edge := k, pages := s.pages, stored := s.stored })) d

/-- No host write is issued after a reset begins (R62): those sent since `n` sends ago stay, writes apart. -/
def Dev.withoutWrites (d : Dev) (n : Nat) : Dev :=
  { d with out := d.out.take n ++ (d.out.drop n).filter (fun e => match e with | .hostWrite _ _ _ _ => false | .hostRead _ _ _ _ => false | _ => true) }

/-! ### Boot (R437, R471) -/

/-- Every backup-log entry not copied yet is copied to the alarm log (R434). -/
def Dev.copyBackup (d : Dev) : Dev :=
  let l := d.backup.log.filter (fun e => !e.copied)
  let d := l.foldl (fun d e => d.logAlarm { time := d.now, stamp := e.stamp, source := e.source, cls := e.cls, applied := if e.emberErased then 4 else 0, scope := 0, unit := 0,
                                            test := e.test, fromBackup := true, acked := e.acked, detail := e.detail, blogSeq := some e.seq }) d
  d.onBackup (fun b => { b with log := b.log.map (fun e => { e with copied := true }) })

/-- The network parameters that stand in the dictionary come into force (R501). (DEDUCED, assumption log 142) -/
def netParams : List Param := [P.netIpv6Mode, P.netIpv6Addr, P.netIpv6Gw, P.netIpv4Enable, P.netIpv4Addr, P.netVlan, P.netScegaPort]
def Dev.applyNetwork (d : Dev) : Dev :=
  d.onMgmt (fun g => { g with netNums := netParams.map (fun p => (p, d.num p 0)), netOcts := netParams.map (fun p => (p, d.oct p 0)) })

/-- What a device draws for a handshake that it opens: NONCE_C, then d and z of its ML-KEM-1024 key and its X448 key (R504, R509). -/
def peerSecret (draw : Bytes) : Bytes := draw.drop 32
/-- Its HELLO. -/
def peerHello (draw : Bytes) : Bytes :=
  let s := peerSecret draw
  natLE 2 1 ++ natLE 1 5 ++ zeros 1 ++ draw.take 32 ++ (MlKem.keygen 3 (s.take 32) (slice 32 32 s)).ek ++ xdhPublic 0x11 (s.drop 64)

/-- A member of the group that no session joins to this device yet: a handshake is opened with it (R327, R509). Either side may open it; a device
does so when a row of VLT_GROUP_MEMBERS is written and when Scega answers. (DEDUCED, assumption log 60) -/
def Dev.openPeer (d : Dev) (r : Nat) : Dev :=
  let id := (d.oct P.vltGroupMembers r).take 32
  let n := d.mgmt.nextSession
  if d.mgmt.sessions.any (fun e => e.2.peer && e.2.principal == id) || (d.mgmt.shakes.filter (fun e => e.2.initiator)).length ≥ 15 || !d.mgmt.answering then d
  else
    let (b, d) := d.draw 152
    let k : Shake := { role := 5, peer := true, started := d.now, initiator := true, principal := none, hello := peerHello b, secret := peerSecret b, keys := SessionKeys.none }
    (d.onMgmt (fun g => { g with nextSession := n + 1, shakes := tabSet n k g.shakes })).emit (.shake 1 0 (peerHello b))
def Dev.openPeers (d : Dev) : Dev := d.members.foldl Dev.openPeer d

/-- Steps 6 to 9 of R471 as far as they go by themselves: the backup log, the journal and store, M4 and M6, the network and its clock (R516), calibrations. (DEDUCED, assumption log 16) (DEDUCED, assumption log 142) -/
def Dev.bootStages (d : Dev) : Dev :=
  if d.boot.step != 8 then d
  else
    let d := d.copyBackup
    let d := if d.vault.testRoot then d.formTestRoot else d.openStore
    let d := d.measureLibrary
    let d := (d.extend 6 0x08 0 d.policyDigest).applyNetwork
    let d := if d.num P.netPtpEnable 0 == 1 then d.setNum P.netPtpState 0 1 else d
    ((List.range nTiles).filter d.configured).foldl Dev.startCalibration d.openPeers

/-- Boot from step 2, with the main PLL locked. A pending scrap comes before anything is opened (R437). A boot that halts or waits for an image is a
reset in progress no longer. (DEDUCED, assumption log 16) -/
def Dev.bootRun (d : Dev) : Dev :=
  let d := if d.backup.log.any BlogEntry.scrapPending then
      ((d.onBackup (fun b => { b with log := b.log.map (fun e => { e with scrapPending := false }) })).startScrap).onBoot (fun b => { b with halted := true, step := 2 })
    else d.romBoot.bootStages
  if d.boot.halted || d.boot.recoveryWait then d.onModes (fun m => { m with inReset := none }) else d

/-- Boot begins at step 1. (DEDUCED, assumption log 50) -/
def Dev.bootBegin (d : Dev) (kind : Nat) : Dev :=
  (d.onModes (fun m => { m with inReset := some kind })).onBoot (fun b => { b with step := 1, halted := false, recoveryWait := false })

/-- What stands in boot of R471 step 1 may go on: the PLL is locked and neither pin holds it. (DEDUCED, assumption log 50) -/
def Dev.mayBoot (d : Dev) : Bool := d.modes.mode == .boot && d.boot.step == 1 && d.power.porN && d.power.coldRstN

/-- A power-on or cold reset (R494), with the edge's kind: 0 power-on, 1 cold. Boot waits for the main PLL. -/
def Dev.coldReset (d : Dev) (kind source : Nat) (k : EdgeKind) : Dev :=
  let d := d.onModes (fun m => { m with bootEdge := k, lastReset := kind, lastResetSource := source })
  (((d.takeEdge .boot k source).clearMain.clearCold.unitsBack).slicesBack k).bootBegin kind

/-- The host's domains after a reset that keeps them (R495): what was being switched is, and S2 gives way to what was on before it. (DEDUCED, assumption log 47) -/
def Dev.settleDomains (d : Dev) : Dev :=
  let on := fun n => d.domain n == .on || d.domain n == .ramping || d.domain n == .autoOff || (d.power.inS2 && d.power.beforeS2.contains n)
  let fresh := fun n => on n && d.domain n != .on && d.domain n != .autoOff
  d.onPower (fun p => { p with
    domains := quadDomains.foldl (fun l n => tabSet n (if on n then .on else .off) l) p.domains
    openSwitches := p.openSwitches.filter (fun t => !fresh (unitDomain t))
    inS2 := false, beforeS2 := [] })

/-- A warm reset's own work: written updates commit, the rest goes; boot starts at once, the PLL being locked (R495). (DEDUCED, assumption log 47) -/
def Dev.warmWork (d : Dev) (k : EdgeKind) : Dev :=
  let n := d.out.length
  let d := (d.takeEdge .boot k 0).onDisp (fun x => { x with reqs := [], jobs := [] })
  let d := ((d.commitWritten Dev.applyOther (fun _ => true)).onVault (fun v => { v with invalidations := [] })).withoutWrites n
  let d := ((d.clearMain.settleDomains.unitsBack).tilesScrubbed.slicesBack k).bootBegin 2
  if d.time.pllLocked && d.mayBoot then d.bootRun else d

/-- A warm reset (R494, R495). -/
def Dev.warmReset (d : Dev) : Dev := (d.onModes (fun m => { m with bootEdge := .host, lastReset := 2, lastResetSource := 0 })).warmWork .host

/-- A reset of this kind is absorbed by the one in progress (R496): 0 power-on contains 1 cold contains 2 warm. -/
def Dev.contained (d : Dev) (kind : Nat) : Bool := match d.modes.inReset with | some k => decide (k < kind) | none => false

/-! ### Commands for modes and resets -/

/-- MOD_CMD_QUIESCE (R15). -/
def effQuiesce : Effect := withArg 0 fun d _ =>
  if d.ready then accept (d.takeEdge .quiesced .host 0) else deny d (Reply.err resState)

/-- MOD_CMD_RESUME (R15, R17): in DEBUG it lifts the hold. (DEDUCED, assumption log 44) -/
def effResume : Effect := withArg 0 fun d _ =>
  if d.modes.mode == .debug && d.modes.hold then accept (d.onModes (fun m => { m with hold := false }))
  else if d.modes.mode != .quiesced || d.power.inS2 then deny d (Reply.err resState)
  else accept (d.takeEdge d.serviceMode .host 0)

/-- MOD_CMD_ZEROISE (R15, R413): every action of A4 by a host-commanded edge. -/
def effZeroise : Effect := withArg 0 fun d _ =>
  if d.ready || d.modes.mode == .quiesced then accept (((d.joinResponse 4).recordAlarm 0x900 0 4 4 0 false).respondA4 .host 0x900 true) else deny d (Reply.err resState)

/-- MOD_CMD_RECOVERY_DONE (R15, R325): from SEALED to BOOT, after a committed VLT_CMD_INIT or VLT_CMD_RECOVER. (DEDUCED, assumption log 51) -/
def effRecoveryDone : Effect := withArg 0 fun d m =>
  if d.modes.mode != .sealed || !d.vault.recovered || d.lcState == 4 then deny d (Reply.err resState)
  else
    let d := (d.respondTo m.src m.reqId.toNat Reply.ok).onVault (fun v => { v with recovered := false })
    (none, (d.onModes (fun x => { x with bootEdge := .host })).warmWork .host)

/-- RST_CMD_WARM and RST_CMD_COLD (R494): the answer goes first. -/
def effWarm : Effect := withArg 0 fun d m =>
  let d := d.respondTo m.src m.reqId.toNat Reply.ok
  (none, if d.contained 2 then d.absorbed 2 else d.warmReset)
def effCold : Effect := withArg 0 fun d m =>
  let d := d.respondTo m.src m.reqId.toNat Reply.ok
  (none, if d.contained 1 then d.absorbed 1 else d.coldReset 1 0 .host)

/-- FW_RECOVER with its restart (R470). -/
def effFwRecover : Effect := effRecover (fun d => d.coldReset 1 0 .host)

/-! ### Pins and supplies -/

/-- POR_N (R15, R494). -/
def porNAssert (d : Dev) : Dev :=
  let d := d.onPower (fun p => { p with porN := false })
  if d.modes.mode.powered then d.coldReset 0 0 .power else d
def porNRelease (d : Dev) : Dev := d.onPower (fun p => { p with porN := true })

/-- COLD_RST_N (R14, R494): held low, it holds boot. (DEDUCED, assumption log 49) -/
def coldRstN (d : Dev) : Dev :=
  let d := d.onPower (fun p => { p with coldRstN := false })
  if !d.modes.mode.powered then d else if d.contained 1 then d.absorbed 1 else d.coldReset 1 0 .host
def coldRstNRelease (d : Dev) : Dev := d.onPower (fun p => { p with coldRstN := true })

/-- The source that a power-on records: the rail that failed last, where the backup log tells of one not yet copied. (DEDUCED, assumption log 48) -/
def Dev.powerSource (d : Dev) : Nat := (((d.backup.log.filter (fun e => !e.copied && e.cls == 15)).getLast?).map BlogEntry.source).getD 0

/-- MAIN_POWER_APPLIED (R15, R494). (DEDUCED, assumption log 48) -/
def mainPowerApplied (d : Dev) : Dev :=
  if d.modes.mode.powered then d else (d.onPower (fun p => { p with mainPower := true })).coldReset 0 d.powerSource .power

/-- A host link reset (R62, R402, R494): PCIe side and queue state; a slice reset of every slice. -/
def Dev.hostLinkReset (d : Dev) (k : EdgeKind) : Dev :=
  if d.modes.inReset == some 0 || d.modes.inReset == some 1 then d.absorbed 3
  else
    let d := d.absorbed 3
    let d := d.onHost (fun h => { h with msix := [], functionMask := true, mailboxes := [], translations := [] })
    let l := (d.slices.filter (fun e => e.2.state != .free)).map Prod.fst
    let d := l.foldl (fun d i => d.beginSliceReset i k) d
    (d.host.qps.map Prod.fst).foldl Dev.unconfigure d

/-- PERST_N: low, it holds the controller in host link reset (R552). (DEDUCED, assumption log 49) -/
def perstN (lost : Bool) (d : Dev) : Dev :=
  let d := d.onPower (fun p => { p with perstN := false })
  if d.modes.mode.powered then (d.onHost (fun h => { h with linkReset := true })).hostLinkReset (if lost then .power else .host) else d
def perstNRelease (d : Dev) : Dev := (d.onPower (fun p => { p with perstN := true })).onHost (fun h => { h with linkReset := false })
def pcieHotReset (d : Dev) : Dev := if d.modes.mode.powered then d.hostLinkReset .host else d

/-- RAIL_BELOW_RESET (R15, R416, R451): every main domain goes off by the power-forced edge; the backup domain records the event. A bit being burned
is left marginal, and the one above it may be. (DESIGN CHOICE, assumption log 54) -/
def railBelowReset (r mv : Nat) (d : Dev) : Dev :=
  if !d.modes.mode.powered || !d.railWatched r then d
  else
    let d := match d.lcy.burning with
      | none => d
      | some (f, k) =>
        let (n, d) := d.fresh
        let x := d.field f
        let m := x.marginal ||| (if x.firm.testBit k then 0 else 2 ^ k)
        let above := Config.freeBool n && k + 1 < 16
        d.onLcy (fun l => { l with fields := tabSet f { x with marginal := if above then m ||| 2 ^ (k + 1) else m } l.fields, burning := none, burnStop := false, scrapNext := false })
    let d := ((d.clearMain).onUnits (fun _ => (List.range nUnits).map (fun u => (u, { Unit.reset with pool := .off })))).onTime (fun t => { t with pllLocked := false })
    let d := d.onPower (fun p => { p with mainPower := false, rails := tabSet r { RailSt.reset with millivolts := mv } p.rails,
                                          domains := (List.range 20).map (fun n => (n + 1, if n == 1 then .on else .off)) })
    let d := d.onHost (fun h => { h with linkReset := !d.power.perstN })
    (d.takeEdge (if d.power.cell then .backup else .off) .power (0x130 + r)).logBackup (0x130 + r) 15 mv false false false

/-- What a backup reset leaves (R435). (DESIGN CHOICE, assumption log 55) -/
def Dev.backupReset (d : Dev) : Dev :=
  let d := d.onBackup (fun b => { b with emberShares := [], log := [], logSeq := 0, tamperOut := true, reprovisioned := false, switchActive := 0 })
  let d := (d.onTime (fun t => { t with stamp := 0, frac := 0 })).keepRows (fun p => persistOf p != .b && p != P.tmpClass)
  d.logBackup 0x720 (d.sourceClass 0x720) 0 false false false

/-- BACKUP_RESET (R417, R435, R482): the backup domain has no source; the mode is OFF. (DESIGN CHOICE, assumption log 55) -/
def backupReset (d : Dev) : Dev :=
  if d.modes.mode.powered then d
  else
    let d := if d.modes.mode == .backup then d.takeEdge .off .power 0 else d
    d.backupReset

/-- BACKUP_CELL_INSERTED and BACKUP_CELL_REMOVED (R15, R482, R553). -/
def backupCellInserted (d : Dev) : Dev :=
  let d := d.onPower (fun p => { p with cell := true })
  if d.modes.mode == .off then d.takeEdge .backup .power 0 else d
def backupCellRemoved (d : Dev) : Dev :=
  if !d.power.cell then d
  else
    let d := d.onPower (fun p => { p with cell := false })
    if d.modes.mode.powered then d.raise 0x720 0 else backupReset d

/-- PLL_LOCK (R490, R492): device time starts from the backup stamp, and boot goes on with step 2. The ramp and the locking took time: no edge of
before stands in this tick (R16). (DEDUCED, assumption log 16) -/
def pllLock (d : Dev) : Dev :=
  if !d.mayBoot || d.time.pllLocked then d
  else
    let d := d.onModes ModeSt.newTick
    (d.onTime (fun t => { t with pllLocked := true, dev := t.stamp * 100000000 / 32768, monEpoch := t.stamp * 100000000 / 32768 })).bootRun

/-! ### The end of boot -/

/-- The units that have not ended their steps of boot yet end them: passed they are IN_POOL, failed OUT (R15, R122, R277). (DEDUCED, assumption log 53) -/
def Dev.bootUnits (d : Dev) (failed : List Nat) : Dev :=
  let l := (List.range nUnits).filter (fun u => ((d.unit u).pool == .returning || (d.unit u).pool == .joining) && d.unitPowered u)
  let d := d.onDisp (fun x => { x with changes := x.changes.filter (fun c => !l.contains c.unit) })
  let d := l.foldl (fun d u => d.onUnit u (fun x => { x with pool := if failed.contains u && x.pool == .returning then .out else .inPool, scrubbing := false })) d
  (List.range nTiles).foldl (fun d t => if (d.q t).calibrating then d.onQ t (fun q => { q with calibrating := false }) else d) d

/-- Distinct versions in ascending order. -/
def insertVersion (x : Nat × Nat) : List (Nat × Nat) → List (Nat × Nat)
  | [] => [x]
  | y :: r => if x == y then y :: r else if x.1 < y.1 || (x.1 == y.1 && x.2 < y.2) then x :: y :: r else y :: insertVersion x r

/-- The recorded measurement of a version (R174). -/
def Dev.mpMeasure (d : Dev) (s : Nat × Nat) : Bytes := match d.mp? s.1 s.2 with | some m => m.measurement | none => []

/-- M5 at boot (R466): each version that a slot configuration names. -/
def Dev.measureLoaded (d : Dev) : Dev :=
  let l := (List.range nTiles).flatMap d.slots
  (l.foldl (fun a s => insertVersion s a) []).foldl (fun d s => d.extend 5 0x07 0 (d.mpMeasure s)) d

/-- BOOT_COMPLETE (R15, R471 step 10): the exit edge. (DEDUCED, assumption log 53) -/
def bootComplete (b : BootReport) (d : Dev) : Dev :=
  if d.boot.step != 8 || d.boot.halted || !(d.modes.mode == .boot || d.modes.mode == .sealed) then d
  else
    let k := d.modes.bootEdge
    let d := d.onModes (fun m => { m with storeOpen := m.storeOpen && b.storeTagOk })
    let d := (d.bootUnits b.failedUnits).measureLoaded
    let d := (d.extend 7 0x0B 0 (zeros 48)).onBoot (fun x => { x with step := 11, trialDone := true })
    if d.modes.mode == .sealed then d
    else if d.dbg.certActive || d.bothStates (· == 1) then
      (d.formTestRoot.onModes (fun m => { m with hold := m.bootAlarm })).takeEdge .debug k 0
    else if !d.modes.storeOpen then (d.takeEdge .sealed k 0).abortAll 0x0F01
    else if d.modes.bootAlarm then d.takeEdge .quiesced .alarm 0
    else d.takeEdge d.serviceMode k 0

/-! ### The commands -/

def execModCmdQuiesce (m : Msg) (s : State) := s.run fun d => d.serve d.lc P.modCmdQuiesce 0 m false effQuiesce
def execModCmdResume (m : Msg) (s : State) := s.run fun d => d.serve d.lc P.modCmdResume 0 m false effResume
def execModCmdZeroise (m : Msg) (s : State) := s.run fun d => d.serve d.lc P.modCmdZeroise 0 m false effZeroise
def execModCmdRecoveryDone (m : Msg) (s : State) := s.run fun d => d.serve d.lc P.modCmdRecoveryDone 0 m false effRecoveryDone
def execPwrStateCmd (m : Msg) (s : State) := s.run fun d => d.serve d.lc P.pwrStateCmd 0 m false effPwrState
def execPwrDomainCmd (m : Msg) (s : State) := s.run fun d => d.serve d.lc P.pwrDomainCmd 0 m false effPwrDomain
def execPwrTileCmd (m : Msg) (s : State) := s.run fun d => d.serve d.lc P.pwrTileCmd 0 m false effPwrTile
def execDomainDrained (n : Nat) (s : State) := s.runPart n 21 (domainDrained n)
def execDomainRampDone (n : Nat) (s : State) := s.runPart n 21 (domainRampDone n)
def execRstCmdWarm (m : Msg) (s : State) := s.run fun d => d.serve d.lc P.rstCmdWarm 0 m false effWarm
def execRstCmdCold (m : Msg) (s : State) := s.run fun d => d.serve d.lc P.rstCmdCold 0 m false effCold
def execFwRecover (m : Msg) (s : State) := s.run fun d => d.serve d.lc P.fwRecover 0 m false effFwRecover
def execPorNAssert (s : State) := s.run porNAssert
def execPorNRelease (s : State) := s.run porNRelease
def execMainPowerApplied (s : State) := s.run mainPowerApplied
def execColdRstN (s : State) := s.run coldRstN
def execColdRstNRelease (s : State) := s.run coldRstNRelease
def execPerstN (lost : Bool) (s : State) := s.run (perstN lost)
def execPerstNRelease (s : State) := s.run perstNRelease
def execPcieHotReset (s : State) := s.run pcieHotReset
def execPllLock (s : State) := s.run pllLock
def execBootComplete (b : BootReport) (s : State) := s.run (bootComplete b)
def execBackupCellInserted (s : State) := s.run backupCellInserted
def execBackupCellRemoved (s : State) := s.run backupCellRemoved
def execBackupReset (s : State) := s.run backupReset
def execRailBelowReset (r mv : Nat) (s : State) := s.runPart r 7 (railBelowReset r mv)

end Sys2Proof.Machine
end

