-- ==== Sys2Proof/Machine/Dictionary.lean ====
section
/-! DEFINITION. The values of the Scega dictionary and the writes without a meaning of their own (R389, R390, R511, R517 to R536). -/

namespace Sys2Proof.Machine

/-! ### Values -/

/-- Codes of ENUM values, in the order their rules list them (R519). (DESIGN CHOICE, assumption log 19) -/
def DomainState.code : DomainState → Nat
  | .on => 0 | .draining => 1 | .off => 2 | .ramping => 3 | .autoOff => 4
def PoolState.code : PoolState → Nat
  | .inPool => 0 | .draining => 1 | .out => 2 | .returning => 3 | .probation => 4 | .joining => 5 | .off => 6
def SliceState.code : SliceState → Nat
  | .free => 0 | .active => 1 | .resetting => 2 | .frozen => 3
def qpStateCode : QpState → Nat
  | .unconfigured => 0 | .disabled => 1 | .active => 2 | .faulted => 3

/-- PWR_STATE (R484): 0 S0, 1 S1, 2 S2. -/
def Dev.powerState (d : Dev) : Nat :=
  if d.power.inS2 then 2
  else if (List.range 8).all (fun i => d.domain (4 + i) == .on) && (List.range 4).all (fun q => d.domain (vecDomain q) == .on || d.domain (vecDomain q) == .autoOff) &&
    d.power.openSwitches.isEmpty then 0 else 1

/-- A MOD_LOG entry (R522): its 16 bytes. -/
def ModLogEntry.bytes (e : ModLogEntry) : Bytes := natLE 8 e.time ++ natLE 1 e.kind ++ natLE 1 e.old ++ natLE 1 e.new ++ natLE 1 e.edge ++ natLE 4 e.cause

/-- A backup-log entry (R433). -/
def BlogEntry.bytes (e : BlogEntry) : Bytes :=
  natLE 6 e.stamp ++ natLE 2 e.source ++ natLE 1 e.cls ++
  natLE 1 (bnat e.test + 2 * bnat e.onCell + 4 * bnat e.emberErased + 8 * bnat e.scrapPending + 16 * bnat e.acked) ++ natLE 2 e.seq ++ natLE 4 e.detail

/-- One word of the life-cycle fields (R442): two fields of 16 bits. -/
def Dev.lcyWord (d : Dev) (w : Nat) : Nat :=
  let f := if w == 0 then (0, 1) else if w == 1 then (2, 3) else if w < 6 then (4 + 2 * (w - 2), 5 + 2 * (w - 2)) else (12 + 2 * (w - 6), 13 + 2 * (w - 6))
  (d.field f.1).firm + 65536 * (d.field f.2).firm

/-- A library entry's row (R527). -/
def Microprogram.row (m : Microprogram) : Bytes := natLE 4 m.mpId ++ natLE 4 m.version ++ natLE 4 m.svn ++ natLE 4 m.authority ++ fitLen 48 m.measurement

/-- The certificate chains of R473 and R474: the vendor's and the identity's certificates from the unit's own data, then the attestation certificate, which
rests on M0 to M3. 0: ECDSA P-384, 1: ML-DSA. -/
def Dev.attCert (d : Dev) (k : Nat) : Bytes := Config.scheme (if k == 0 then 0x31 else 0x11) 2 11 [d.identitySecret, d.attestSecret]
def Dev.certChain (d : Dev) (k : Nat) : Bytes := unitBytes (30 + k) (Config.unitLength (30 + k)) ++ d.attCert k
/-- ATT_CERTS (R475): the identity record, then both attestation certificates. -/
def Dev.attCerts (d : Dev) : Bytes := unitBytes 32 (Config.unitLength 32) ++ d.attCert 1 ++ d.attCert 0

/-- The principal of a session. -/
def Dev.principalOf (d : Dev) (n : Nat) : Bytes := match tabGet? n d.mgmt.sessions with | some s => s.principal | none => []

/-- A row of MOD_DUAL_PENDING (R522): ticket, originator's principal, request header, device time. -/
def Dev.ticketRow (d : Dev) (t : Ticket) : Bytes :=
  natLE 4 t.number ++ fitLen 32 (d.principalOf t.origin) ++ natLE 2 (match catFind t.param with | some r => if r.kind == .cmd then 3 else 2 | none => 2) ++
  natLE 2 (16 + t.msg.body.length) ++ natLE 4 t.msg.reqId.toNat ++ natLE 3 t.param ++ zeros 1 ++ natLE 4 t.msg.row.toNat ++ natLE 8 t.requested

/-- Bytes of a value that the manual lays out no further: free ones. -/
def Dev.openBytes (d : Dev) (p row n : Nat) : Bytes := (List.range n).map (Config.freeByte (d.freeCtr + 2 ^ 64 + p * 65536 + row))

/-- The value of a parameter that stands in the state proper. (DESIGN CHOICE, assumption log 18) (DESIGN CHOICE, assumption log 63) -/
def Dev.stateValue (d : Dev) (src : Src) (p : Param) (row : Nat) : Option Bytes :=
  if p == P.idPart then some (fitLen 16 (ascii "OQ7168"))
  else if p == P.idDeviceId then some deviceIdentity
  else if p == P.idMac then some macAddress
  else if p == P.idMplibVersion then some (unitBytes 3 3 ++ [0x01])
  else if p == P.modState then some (natLE 1 d.modes.mode.code)
  else if p == P.modLog then some (((d.modes.log)[row]?.map ModLogEntry.bytes).getD (zeros 16))
  else if p == P.modDualPending then some (((d.mgmt.tickets)[row]?.map d.ticketRow).getD (zeros 64))
  else if p == P.pwrState then some (natLE 1 d.powerState)
  else if p == P.pwrDomainState then some (natLE 1 (d.domain (row + 1)).code)
  else if p == P.clkDeviceTime then some (natLE 8 d.now)
  else if p == P.clkBackupStamp then some (natLE 6 d.time.stamp)
  else if p == P.rstLastCause then some (natLE 1 d.modes.lastReset ++ zeros 1 ++ natLE 2 d.modes.lastResetSource)
  else if p == P.qpState then some (natLE 1 (qpStateCode (d.qp row).state))
  else if p == P.slcState then some (natLE 1 (d.sliceSt row).state.code)
  else if p == P.slcMigrationState then
    some (natLE 1 (if d.vault.updates.any (fun u => u.kind == .restoreImage && u.slice == row) then 2 else if (d.sliceSt row).restoring.isSome then 1 else 0))
  else if p == P.tilPoolState then some (natLE 1 (d.unit row).pool.code)
  else if p == P.hamPoolState then some (natLE 1 (d.unit (nTiles + row)).pool.code)
  else if p == P.fulPoolState then some (natLE 1 (d.unit (160 + row)).pool.code)
  else if p == P.mpgLibrary then some (((d.lib.library)[row]?.map Microprogram.row).getD (zeros 64))
  else if p == P.mpgContainer then some d.lib.container
  else if p == P.mpgSlotConfig then some (d.slotBytes row)
  else if p == P.mpgSlotTarget then some (fitLen 128 ((tabGet (d.slots row) row d.lib.target).flatMap (fun s => natLE 4 s.1 ++ natLE 4 s.2)))
  else if p == P.mpgRolloutState then
    some (natLE 1 d.lib.rolloutState ++ natLE 1 d.lib.rolloutCurrent ++ natLE 1 d.lib.rolloutStopped ++ zeros 1 ++
      (if d.lib.rolloutReason == 0 then zeros 16 else d.openBytes p d.lib.rolloutReason 16))
  else if p == P.vltOrphanCount then some (natLE 8 d.orphans.length)
  else if p == P.qncLevel then some (natLE 1 (d.level row))
  else if p == P.qncBaseline then some (d.baseline row)
  else if p == P.monRecord then some (d.monBytes row (if (d.monitor row).armedDone then (d.monitor row).stop else 0))
  else if p == P.tmpExcursionHisto then some (d.monBytes (histoKey row) 0)
  else if p == P.tmpClass then some (natLE 1 (d.sourceClass row))
  else if p == P.tmpBlog then some (((d.backup.log)[row]?.map BlogEntry.bytes).getD (zeros 16))
  else if p == P.tmpAlarmLog then some (((tabGet? row d.tamper.log).map AlarmEntry.bytes).getD (zeros 32))
  else if p == P.lcyState then some (natLE 1 d.lcState)
  else if P.lcyWord0 ≤ p && p ≤ P.lcyWord9 then some (natLE 4 (d.lcyWord (p - P.lcyWord0)))
  else if p == P.lcyTokensLeft then some (natLE 1 d.tokensLeft)
  else if p == P.lcyPrepared then some (natLE 1 (bnat d.lcy.prepared.isSome))
  else if p == P.lcyDbgKeys then let k := tabGet KeySlot.reset row d.lcy.keySlots; some (fitLen 48 k.digest ++ natLE 1 (bnat k.revoked))
  else if p == P.attQuote then some (tabGet [] (srcKey src) d.boot.quotes)
  else if p == P.attLogRead then some (((d.boot.log)[row]?.map LogEntry.bytes).getD [])
  else if p == P.attCerts then some d.attCerts
  else if p == P.attSlots then some ((List.range 8).flatMap d.slot)
  else if p == P.fwMinSvn then some (natLE 1 d.lcy.minSvn)
  else if p == P.scgSessions then
    some ((((d.mgmt.sessions)[row]?).map (fun e => natLE 4 e.1 ++ natLE 1 e.2.role ++ zeros 3 ++ fitLen 32 e.2.principal ++ natLE 8 e.2.started)).getD (zeros 48))
  else if p == P.netPrpStatus then some (d.openBytes p row 32)
  else none

/-- The value of a parameter by its row (R510, R511). (DESIGN CHOICE, assumption log 26) -/
def Dev.value (d : Dev) (src : Src) (p : Param) (row : Nat) : Bytes :=
  match d.stateValue src p row with
  | some b => b
  | none => match catFind p with
    | none => []
    | some r => match r.kind with
      | .uint n => natLE n (d.num p row)
      | .bool => natLE 1 (d.num p row)
      | .enum => natLE 1 (d.num p row)
      | .octets _ => d.oct p row
      | .cmd => []

/-- A READ (R510): OFFSET and MAX; a response carries at most 2,024 bytes of data. (DESIGN CHOICE, assumption log 23) -/
def effRead (p : Param) : Effect := withArg 8 fun d m =>
  match catFind p with
  | none => deny d (Reply.err resUnknown)
  | some r => (some (Reply.data' (((d.value m.src p (r.index m.row.toNat)).drop (leAt 0 4 m.body)).take (Nat.min (leAt 4 4 m.body) 2024))), d)

/-! ### Writes -/

/-- A write to a slice parameter (R389, R390, R392): a resource while the slice has neither an ACTIVE queue pair nor an admitted request, a policy at
any time. What the slice is allotted follows. (DEDUCED, assumption log 65) -/
def Dev.writeSlice (d : Dev) (p : Param) (i v : Nat) : Option Reply × Dev :=
  if p == P.slcDbPages || p == P.slcMsixBase then deny d (Reply.err resAccess)
  else if !d.sliceExists i then deny d (Reply.err resState)
  else if policyParams.contains p then accept (d.setNum p i v)
  else if (d.qpsOf i).any (fun q => (d.qp q).state == .active) || d.disp.reqs.any (fun e => e.2.slice == i) then deny d (Reply.err resState)
  else match d.sliceBad i ((p, v) :: d.argsOf i) with
    | some bad => deny d (Reply.range bad)
    | none =>
      let old := d.pasid i
      let d := if p == P.slcPasid && v != old then d.onHost (fun h => { h with translations := h.translations.filter (fun t => t.1 != old) }) else d
      accept ((d.setNum p i v).allot i)

/-- What a write to a setting changes beside its value; a capture mode that it leaves as it was changes nothing. (DEDUCED, assumption logs 66, 140) -/
def Dev.settingWritten (d : Dev) (p : Param) (row old v : Nat) : Dev :=
  if p == P.monCapture then
    if v == old then d else d.onMonitors (tabSet row { d.monitor row with running := v != 1, window := 0, limit := 0, armedDone := false })
  else if p == P.netPtpEnable then d.setNum P.netPtpState 0 (if v == 1 then (if d.num P.netPtpState 0 == 0 then 1 else d.num P.netPtpState 0) else 0)
  else if p == P.vecAutogate && v == 0 then
    (List.range nTiles).foldl (fun d t =>
      let q := vecDomain (quadOf t)
      let d := if d.domain q == .autoOff then d.setDomain q .on else d
      if d.domain q == .on && (d.tile t).lv != 0 && (d.tile t).lvWaiting.isNone then d.onTile t (fun y => { y with lv := 0, lvSince := d.now }) else d) d
  else d

/-- The constraints of one parameter on another, beyond its range: the failing parameter (R372, R422). -/
def Dev.settingBad (d : Dev) (p : Param) (v : Nat) : Option Param :=
  if p == P.qncTAction && v ≥ d.num P.qncTTarget 0 then some p
  else if p == P.qncTTarget && v ≤ d.num P.qncTAction 0 then some p
  else if p == P.tmpGlitchK && v % 25 != 0 then some p
  else none

/-- A write of a number (R511, R518, R519). -/
def Dev.writeNum (d : Dev) (r : CatRow) (row n offset : Nat) (b : Bytes) : Option Reply × Dev :=
  let v := leNat b
  let p := r.num
  if offset != 0 || b.length != n then deny d (Reply.err resLength)
  else if v < r.lo || v > r.hi then deny d (Reply.range p)
  else if p / 0x100000 == 3 then d.writeQp p row v
  else if p / 0x100000 == 4 then d.writeSlice p row v
  else match d.settingBad p v with
    | some bad => deny d (Reply.range bad)
    | none => accept (((d.setNum p row v).settingWritten p row (d.num p row) v).policyWritten p)

/-- A write of octets (R511): at OFFSET; at OFFSET 0 the rest of the value is cleared first. -/
def Dev.writeOct (d : Dev) (r : CatRow) (row max offset : Nat) (b : Bytes) (m : Msg) : Option Reply × Dev :=
  let p := r.num
  if offset + b.length > max then deny d (Reply.err resLength)
  else
    let old := d.value m.src p row
    let new := if offset == 0 then b else overlay offset b old
    if p == P.mpgContainer then accept (d.onLib (fun l => { l with container := new }))
    else if p == P.mpgSlotTarget then d.writeTarget row (fitLen 128 new)
    else if p == P.vltGroupMembers then accept ((d.setOct p row new).openPeers)
    else accept ((d.setOct p row new).policyWritten p)

/-- A write of a parameter of area F, or of one that is not there (R512, R536): vendor diagnostics answer MAKER, and a session while DBG_RIGHTS grants
SMITH_DEBUG, in a way that lies outside the manual. (DESIGN CHOICE, assumption log 40) -/
def Dev.reachesVendor (d : Dev) (src : Src) : Bool :=
  match src with
  | .session n => (match tabGet? n d.mgmt.sessions with | some s => !s.peer && ((s.role == roleMaker && d.makerStates d.lcState) || bit 1 (d.num P.dbgRights 0)) | none => false)
  | _ => false

/-- PARAMETER_WRITE (R511). -/
def effParameterWrite (p : Param) (offset : Nat) : Effect := fun d m =>
  match catFind p with
  | none => deny d (Reply.err resUnknown)
  | some r =>
    let row := r.index m.row.toNat
    match r.kind with
    | .uint n => d.writeNum r row n offset m.body
    | .bool => d.writeNum r row 1 offset m.body
    | .enum => d.writeNum r row 1 offset m.body
    | .octets n => d.writeOct r row n offset m.body m
    | .cmd => deny d (Reply.err resUnknown)

end Sys2Proof.Machine
end

