-- ==== Sys2Proof/Machine/Scega.lean ====
section
/-! DEFINITION. Sessions, dual control, mailbox pages, peers, SPDM and the management network (R30, R327 to R330, R477, R499 to R517). -/

namespace Sys2Proof.Machine

/-! ### Handshakes (R504 to R509) -/

/-- Scega answers from step 7 of boot, and not in recovery wait (R501). -/
def Dev.scegaUp (d : Dev) : Bool := d.modes.mode.powered && d.mgmt.answering && !d.boot.halted && !d.boot.recoveryWait

/-- Sessions and handshakes in progress of clients, or of peers. -/
def Dev.sessionCount (d : Dev) (peer : Bool) : Nat :=
  (d.mgmt.sessions.filter (fun e => e.2.peer == peer)).length + (d.mgmt.shakes.filter (fun e => e.2.peer == peer && !e.2.initiator)).length

/-- A failed handshake is dropped without reply and counted (R504). (DESIGN CHOICE, assumption log 58) -/
def Dev.shakeFail (d : Dev) (n : Nat) : Dev := (d.onMgmt (fun g => { g with shakes := tabErase n g.shakes })).addNum P.netHsFailCount 0 1

/-- A record that does not verify is discarded and counted (R503). -/
def Dev.replayed (d : Dev) : Dev := d.addNum P.netReplayCount 0 1

/-- The bytes of a HELLO (R504). -/
def helloBytes (h : Handshake) : Bytes := natLE 2 h.version ++ natLE 1 h.role ++ natLE 1 h.reserved ++ h.nonce ++ h.kem

/-- The key agreement of a session (R504, R509): the ML-KEM parameter set, the lengths of its encapsulation key and ciphertext, and the curve. -/
def shakeSet (peer : Bool) : Nat := if peer then 3 else 2
def shakeEk (peer : Bool) : Nat := if peer then 1568 else 1184
def shakeCt (peer : Bool) : Nat := if peer then 1568 else 1088
def shakeCurve (peer : Bool) : Nat := if peer then 0x11 else 0x10

/-- The agreed u-coordinate, as bytes. -/
def xdhAgree (cv : Nat) (k u : Bytes) : Bytes := natLE (xdhBytes cv) (xdhMul cv (xdhScalar cv k) (xdhU cv u))

/-- The answer to a key agreement, and K_ML-KEM ‖ K_X (R504, R505). What is drawn for it: NONCE_D, the message of the encapsulation and the key of the curve. -/
def answerAgreement (kem draw : Bytes) (peer : Bool) : Bytes × Bytes :=
  let cv := shakeCurve peer
  let c := MlKem.encaps (shakeSet peer) (kem.take (shakeEk peer)) (slice 32 32 draw)
  let x := slice 64 (xdhBytes cv) draw
  (c.1 ++ xdhPublic cv x, c.2 ++ xdhAgree cv x (kem.drop (shakeEk peer)))

/-- K_ML-KEM ‖ K_X on the side that opened the handshake (R505, R509). -/
def closeAgreement (secret kem : Bytes) : Bytes :=
  (MlKem.decaps 3 (MlKem.keygen 3 (secret.take 32) (slice 32 32 secret)).dk (kem.take 1568)).secret ++ xdhAgree 0x11 (secret.drop 64) (kem.drop 1568)

/-- The session keys (R505, R509): HKDF-SHA-384 of the agreed material, NONCE_C ‖ NONCE_D, and the string of the session's kind with H over HELLO and REPLY. -/
def sessionKeys (peer : Bool) (ikm nonces transcript : Bytes) : SessionKeys :=
  let o := hkdf 2 nonces ikm (ascii (if peer then "SCEGA-PEER-1" else "SCEGA-1") ++ Sha2.sha384 transcript) 72
  { clientKey := o.take 32, deviceKey := slice 32 32 o, clientSalt := slice 64 4 o, deviceSalt := slice 68 4 o }

/-- The header of a record in one piece (R502): the additional data of its protection. -/
def recordHeader (kind session seq : Nat) : Bytes := natLE 2 0x5347 ++ natLE 1 kind ++ zeros 1 ++ natLE 4 session ++ natLE 8 seq
/-- The tag of a record's ciphertext, and the body of a protected record: ciphertext and tag (R502). -/
def recordTag (key salt : Bytes) (kind session seq : Nat) (ct : Bytes) : Bytes := (aes key).gcmTag (salt ++ natLE 8 seq) (recordHeader kind session seq) ct
def sealRecord (key salt : Bytes) (kind session seq : Nat) (p : Bytes) : Bytes :=
  let ct := (aes key).gcmData (salt ++ natLE 8 seq) p
  ct ++ recordTag key salt kind session seq ct
/-- A protected handshake record verifies (R502, R503, R505). -/
def recordVerifies (h : Handshake) (key salt : Bytes) (kind : Nat) : Bool := decide (h.seq < 2 ^ 32) && h.tag == recordTag key salt kind h.session h.seq h.sealed

/-- The first parts of a REPLY (R504, R509): NONCE_D and the answer to the key agreement. -/
def replyHead (h : Handshake) (draw : Bytes) (peer : Bool) : Bytes := draw.take 32 ++ (answerAgreement h.kem draw peer).1
/-- A chain with its length before it. -/
def prefixed (b : Bytes) : Bytes := natLE 4 b.length ++ b

/-- The whole REPLY. A client gets both chains and the attestation key's signatures; a peer the identity certificate and the identity key's. -/
def Dev.replyBody (d : Dev) (h : Handshake) (draw : Bytes) (peer : Bool) : Bytes :=
  let head := replyHead h draw peer
  if peer then
    let body := head ++ prefixed (unitBytes 33 (Config.unitLength 33))
    body ++ mlDsaSignBy 3 (d.identitySecret.take 32) (pureMessage [] (Sha2.sha384 (helloBytes h ++ body))) (slice 120 32 draw)
  else
    let body := head ++ prefixed (d.certChain 1) ++ prefixed (d.certChain 0)
    let hash := Sha2.sha384 (helloBytes h ++ body)
    body ++ d.signPq hash (ascii "SCEGA-HS") (slice 120 32 draw) ++ d.signEc hash

/-- HELLO (R504, R508): at most 16 in a second, and none beyond the limits. R504 does not say what a nonzero reserved byte or an encapsulation key with a
coefficient out of range does: the model takes either as a failed handshake and counts it. (DESIGN CHOICE, assumption log 58) -/
def hello (h : Handshake) (d : Dev) : Dev :=
  let peer := h.role == 5
  let recent := d.mgmt.helloTimes.filter (fun t => d.now < t + ticksPerS)
  if !d.scegaUp || recent.length ≥ 16 then d
  else
    let d := d.onMgmt (fun g => { g with helloTimes := recent ++ [d.now] })
    if d.sessionCount peer ≥ (if peer then 15 else 32) then d
    else if h.version != 1 || h.reserved != 0 || h.role == 0 || h.role > 5 || h.nonce.length != 32 || h.kem.length != (if peer then 1624 else 1216) ||
            !MlKem.ekOk (shakeSet peer) (h.kem.take (shakeEk peer)) then
      d.addNum P.netHsFailCount 0 1
    else
      let n := d.mgmt.nextSession
      let (b, d) := d.draw 152
      let body := d.replyBody h b peer
      let k : Shake := { role := h.role, peer := peer, started := d.now, initiator := false, principal := none, hello := [], secret := [],
                         keys := sessionKeys peer (answerAgreement h.kem b peer).2 (h.nonce ++ b.take 32) (helloBytes h ++ body) }
      (d.onMgmt (fun g => { g with nextSession := n + 1, shakes := tabSet n k g.shakes })).emit (.shake 2 n body)

/-- The row of SCG_ANCHORS under which a client may have a role (R506). (DEDUCED, assumption log 59) -/
def Dev.anchorFor (d : Dev) (h : Handshake) (role : Nat) : Option Nat :=
  (List.range 16).find? (fun i =>
    let a := d.oct P.scgAnchors i
    !a.isEmpty && a.take 48 == Sha2.sha384 h.rootMlDsa && slice 48 48 a == Sha2.sha384 h.rootP384 && leAt 96 1 a ≥ role)

/-- The row a granted role rests on; 16 where it rests on none. `none`: not granted (R506, R507). (DEDUCED, assumption log 59) -/
def Dev.grant (d : Dev) (h : Handshake) (role : Nat) : Option Nat :=
  let lc := d.lcState
  if role == roleMaker then
    if d.makerStates lc && Sha2.sha384 h.rootMlDsa == vendorHash 5 && Sha2.sha384 h.rootP384 == vendorHash 6 then some 16 else none
  else if d.noAnchors then
    if lc == 2 && role == roleOfficer && !d.mgmt.sessions.any (fun e => !e.2.peer) then some 16 else none
  else d.anchorFor h role

/-- The peer's identity and certificate hash stand in one row of VLT_GROUP_MEMBERS (R509). The handshake of a peer carries its ML-DSA-87 identity key as leaf
key, and its identity certificate in place of a root. (DEDUCED, assumption log 60) -/
def Dev.peerListed (d : Dev) (h : Handshake) : Bool :=
  (List.range 16).any (fun r => let x := d.oct P.vltGroupMembers r
                                !x.isEmpty && x.take 32 == Sha2.sha256 h.leafKey && slice 32 48 x == Sha2.sha384 h.rootMlDsa)

/-- What the checks of a handshake message found. Dates count only while PTP is locked (R506). -/
def Dev.shakeSound (d : Dev) (h : Handshake) : Bool := h.chainsWellFormed && h.signaturesOk && (d.num P.netPtpState 0 != 3 || h.datesValid)

/-- A session begins. -/
def Dev.openSession (d : Dev) (n : Nat) (role row : Nat) (peer : Bool) (principal : Bytes) (keys : SessionKeys) : Dev :=
  let s : Session := { role := role, peer := peer, principal := principal, anchorRow := row, started := d.now, lastRecord := d.now, nseq := 0, recent := [], sendSeq := 1, keys := keys }
  d.onMgmt (fun g => { g with shakes := tabErase n g.shakes, sessions := tabSet n s g.sessions })
/-- The home sends its slice roots over a session with a member, once it stands (R328). -/
def Dev.greet (d : Dev) (n : Nat) : Dev := match tabGet? n d.mgmt.sessions with | some s => d.sendRoots s | none => d

/-- 5 s, within which a handshake must reach ACCEPT (R504). -/
def shakeTicks : Nat := 5 * ticksPerS

/-- FINISH, under the client key; ACCEPT answers under the device key (R504 to R509). (DESIGN CHOICE, assumption log 58) -/
def finish (h : Handshake) (d : Dev) : Dev :=
  match tabGet? h.session d.mgmt.shakes with
  | none => d
  | some k =>
    if k.initiator || !d.scegaUp || d.now ≥ k.started + shakeTicks then d
    else if !recordVerifies h k.keys.clientKey k.keys.clientSalt 3 then d.replayed
    else if !d.shakeSound h then d.shakeFail h.session
    else
      let row := if k.peer then (if d.peerListed h then some 16 else none) else d.grant h k.role
      match row with
      | none => d.shakeFail h.session
      | some r =>
        ((d.openSession h.session k.role r k.peer (Sha2.sha256 h.leafKey) k.keys).emit
          (.shake 4 h.session (sealRecord k.keys.deviceKey k.keys.deviceSalt 4 h.session 0 (natLE 1 k.role ++ zeros 3 ++ natLE 4 (d.num P.scgIdleS 0))))).greet h.session

/-- The FINISH of a device: its identity certificate, and its identity key's signature over H (R509). -/
def Dev.finishBody (d : Dev) (transcript rnd : Bytes) : Bytes :=
  prefixed (unitBytes 33 (Config.unitLength 33)) ++ mlDsaSignBy 3 (d.identitySecret.take 32) (pureMessage [] (Sha2.sha384 transcript)) rnd

/-- REPLY to a session this device opened (R509): it verifies the peer, forms the keys and sends FINISH under the client key. -/
def reply (h : Handshake) (d : Dev) : Dev :=
  match tabGet? h.session d.mgmt.shakes with
  | none => d
  | some k =>
    if !k.initiator || k.principal.isSome || !d.scegaUp || d.now ≥ k.started + shakeTicks then d
    else if !d.shakeSound h || !d.peerListed h || h.kem.length != 1624 || h.nonce.length != 32 then d.shakeFail h.session
    else
      let transcript := k.hello ++ h.nonce ++ h.kem ++ h.sealed
      let keys := sessionKeys true (closeAgreement k.secret h.kem) (slice 4 32 k.hello ++ h.nonce) transcript
      let (b, d) := d.draw 32
      (d.onMgmt (fun g => { g with shakes := tabSet h.session { k with principal := some (Sha2.sha256 h.leafKey), keys := keys } g.shakes })).emit
        (.shake 3 h.session (sealRecord keys.clientKey keys.clientSalt 3 h.session 0 (d.finishBody transcript b)))

/-- ACCEPT for a session this device opened, under the device key (R504, R505): it stands. (DEDUCED, assumption log 60) -/
def acceptShake (h : Handshake) (d : Dev) : Dev :=
  match tabGet? h.session d.mgmt.shakes with
  | none => d
  | some k =>
    match k.principal with
    | none => d
    | some id =>
      if !k.initiator || !d.scegaUp || d.now ≥ k.started + shakeTicks then d
      else if !recordVerifies h k.keys.deviceKey k.keys.deviceSalt 4 then d.replayed
      else (d.openSession h.session 5 16 true id k.keys).greet h.session

/-- HANDSHAKE_TIMEOUT (R504). -/
def handshakeTimeout (n : Nat) (d : Dev) : Dev :=
  match tabGet? n d.mgmt.shakes with
  | some k => if d.now ≥ k.started + shakeTicks then d.shakeFail n else d
  | none => d

/-- CLOSE (R508). -/
def closeSession (n : Nat) (d : Dev) : Dev := if (tabGet? n d.mgmt.sessions).isSome then d.endSession n else d

/-- SESSION_IDLE_TIMEOUT (R508): SCG_IDLE_S without a record. -/
def sessionIdle (n : Nat) (d : Dev) : Dev :=
  match tabGet? n d.mgmt.sessions with
  | some s => if d.now ≥ s.lastRecord + d.num P.scgIdleS 0 * ticksPerS then d.endSession n else d
  | none => d

/-- SCG_CMD_CLOSE (R508). (DESIGN CHOICE, assumption log 40) -/
def effScgClose : Effect := withArg 4 fun d m =>
  let n := leNat m.body
  if (tabGet? n d.mgmt.sessions).isSome then accept (d.endSession n) else deny d (Reply.range P.scgCmdClose)

/-- SCG_ANCHORS (R506 to R508): the sessions that rest on the row end. A value longer than 97 bytes is refused. -/
def effScgAnchors : Effect := fun d m =>
  let r := m.row.toNat
  if m.body.length > 97 then deny d (Reply.err resLength)
  else
    let d := d.setOct P.scgAnchors r m.body
    accept ((d.mgmt.sessions.filter (fun e => e.2.anchorRow == r)).foldl (fun d e => d.endSession e.1) d)

/-- NET_CMD_APPLY (R501): the response first, then the parameters in force, and every session ends. -/
def effNetApply : Effect := withArg 0 fun d m =>
  let d := (d.respondTo m.src m.reqId.toNat Reply.ok).applyNetwork
  (none, ((d.mgmt.sessions.map Prod.fst) ++ (d.mgmt.shakes.map Prod.fst)).foldl Dev.endSession d)

/-- ECHO (R510): the bytes come back. -/
def echo (m : Msg) (d : Dev) : Dev :=
  if !d.heard m.src then d
  else match d.repeated m.src m.reqId.toNat with
    | some b => d.resend m.src m.reqId.toNat b
    | none => d.respondTo m.src m.reqId.toNat (if d.alone d.lc m.src then Reply.err resState else Reply.data' m.body)

/-! ### Peers (R326 to R330, R407, R409, R410) -/

/-- A copy of this device's records on a member stands at a sequence number: the lag follows, and a home that moves is free at lag 0 (R328, R330). (DESIGN CHOICE, assumption log 61) -/
def Dev.copyAt (d : Dev) (i k seq : Nat) : Dev :=
  let d := d.setNum P.vltReplLag (16 * i + k) ((tabGet 0 i d.vault.seqs - seq) % 2 ^ 32)
  if d.replLag i == 0 then d.onVault (fun v => { v with homeMoves := v.homeMoves.filter (· != i) }) else d

/-- A device takes a slice's records and root from a peer: a member that is not the home, or, under recovery, one whose slice is closed (R325, R326, R328). -/
def Dev.takesFrom (d : Dev) (i : Nat) : Bool := i < 4096 && (!d.isHome i || (d.vault.recovering && (d.root i).closed))

/-- A slice root received from a peer (R325, R326, R328): unwrapped under the session's transport key and wrapped under the vault master; a closed slice opens
once the records before the root have been applied. (DEDUCED, assumption log 62) -/
def Dev.rootReceived (d : Dev) (i upTo : Nat) (s : Session) (b : Bytes) : Dev :=
  match unwrapKey s.transportKey b with
  | none => d
  | some k => if d.takesFrom i && upTo ≤ tabGet 0 i d.vault.seqs then d.onRoot i (fun r => { r with held := true, closed := false, key := k, wrapped := d.wrapRoot k }) else d

/-- A replicated change of one node (R328, R329): its state as the home has it, kept resident where it was; an invalidation is processed under R311. -/
def Dev.applyChange (d : Dev) (i : Nat) (e : Nat × NodeChange) : Dev :=
  let old := d.node? e.1
  if isVol e.1 || !objValid e.1 || old.any (fun y => y.slice != i) then d
  else match e.2 with
  | .freed => (d.freeNode e.1).onVault (fun v => { v with reserved := v.reserved.filter (· != e.1) })
  | .reserved => d.onVault (fun v => { v with reserved := v.reserved.filter (· != e.1) ++ [e.1] })
  | .state x =>
    let affected := if old.any (fun y => y.gen != x.gen) then (d.below e.1).filter (fun n => x.destroyed || n != e.1) else []
    let new := { x with slice := i, pending := false, stateful := none, resident := old.any Node.resident, shares := (old.map Node.shares).getD [], used := (old.map Node.used).getD 0 }
    let d := d.onVault (fun v => { v with nodes := tabSet e.1 new v.nodes, tags := tabSet e.1 x.tag v.tags })
    if affected.isEmpty then d
    else (d.broadcast affected).onVault (fun v => { v with invalidations := v.invalidations ++ [{ node := some e.1, slice := i, affected := affected, req := none }] })

/-- A replicated record: its nodes, and a new generation of the slice root, which orphans every object below it (R310, R328). -/
def Dev.applyRecord (d : Dev) (i : Nat) (r : ReplRecord) : Dev :=
  let d := r.changes.foldl (fun d e => d.applyChange i e) d
  if (d.root i).gen == r.rootGen then d
  else
    let all := d.ofSlice i
    ((d.onRoot i (fun x => { x with gen := r.rootGen })).broadcast all).onVault (fun v => { v with invalidations := v.invalidations ++ [{ node := none, slice := i, affected := all, req := none }] })

/-- PEER: traffic between members, over a session with one. (DESIGN CHOICE, assumption log 61) (DESIGN CHOICE, assumption log 112) -/
def peer (n : Nat) (p : PeerMsg) (d : Dev) : Dev :=
  match tabGet? n d.mgmt.sessions with
  | none => d
  | some s =>
    if !s.peer || !d.scegaUp then d
    else
      let d := d.onMgmt (fun g => { g with sessions := tabSet n { s with lastRecord := d.now } g.sessions })
      match p with
      | .records i f l =>
        if d.takesFrom i && f == tabGet 0 i d.vault.seqs + 1 then
          let d := l.foldl (fun d r => d.applyRecord i r) d
          (d.onVault (fun v => { v with seqs := tabSet i (tabGet 0 i v.seqs + l.length) v.seqs })).emit (.peer 4 i (natLE 8 (f + l.length - 1)))
        else d
      | .applied i k seq => if i < 4096 && k < 16 && d.isHome i then d.copyAt i k seq else d
      | .ackRecords i k upTo => if i < 4096 && k < 16 && d.isHome i then d.copyAt i k upTo else d
      | .setHome i id => if i < 4096 && d.groupMember id then d.setOct P.vltSliceHome i id else d
      | .transportKey nonce key => d.onVault (fun v => { v with
          transport := if v.transport.any (fun t => t.nonce == nonce) then v.transport else v.transport ++ [{ nonce := nonce, key := key, used := false }] })
      | .restored i => if i < 4096 then d.onSlice i (fun s => { s with stored := none }) else d
      | .slicePurged i =>
        if i < 4096 && !d.isHome i then
          (d.broadcast (d.ofSlice i)).onRoot i (fun r => { r with held := false, gen := (r.gen + 1) % 2 ^ 32, key := [], wrapped := [] }) else d
      | .sliceRoot i upTo b => d.rootReceived i upTo s b

/-! ### SPDM (R472, R477); the layouts of its messages are DSP0274's (PRESUMED, assumption log 41) -/

/-- The connection of a source. -/
def Dev.spdmOf (d : Dev) (s : SpdmSrc) : SpdmSt := tabGet { stage := 0, vca := [], trans := [], meas := [] } s d.mgmt.spdm
/-- A request from this source can arrive. -/
def Dev.spdmHeard (d : Dev) (s : SpdmSrc) : Bool :=
  match s with
  | .scega n => d.scegaUp && (match tabGet? n d.mgmt.sessions with | some x => !x.peer | none => false)
  | _ => d.hostUp && !d.boot.halted && !d.boot.recoveryWait

/-- A message goes out; over a session it is a record like any other, and the request was one of the client's (R503, R508). -/
def Dev.spdmSend (d : Dev) (s : SpdmSrc) (b : Bytes) : Dev :=
  match s with
  | .scega n => (match d.countRecord n with
    | (false, d) => d
    | (true, d) => (d.emit (.spdm s b)).hears (.session n))
  | _ => d.emit (.spdm s b)
/-- An answer goes out, and its exchange enters the transcripts it belongs to. -/
def Dev.spdmAnswer (d : Dev) (s : SpdmSrc) (f : SpdmSt → SpdmSt) (b : Bytes) : Dev :=
  (d.onMgmt (fun g => { g with spdm := tabSet s (f (d.spdmOf s)) g.spdm })).spdmSend s b
/-- ERROR (0x7F): a code and its data. -/
def spdmError (ver code data : Nat) : Bytes := natLE 1 ver ++ [0x7F] ++ natLE 1 code ++ natLE 1 data

/-- Serve a request that needs the connection at a stage. Earlier ones get UnexpectedRequest (4), one before the end of step 6 of boot ResponseNotReady
(0x42), and one of another version VersionMismatch (0x41). (PRESUMED, assumption log 41) -/
def Dev.spdmServe (d : Dev) (s : SpdmSrc) (b : Bytes) (stage : Nat) (f : Dev → SpdmSt → Dev) : Dev :=
  let v := leAt 0 1 b
  let x := d.spdmOf s
  if !d.spdmHeard s then d
  else if d.boot.step < 8 then d.spdmSend s (spdmError v 0x42 0)
  else if stage > 0 && v != 0x12 && v != 0x13 then d.spdmSend s (spdmError 0x12 0x41 0)
  else if x.stage < stage then d.spdmSend s (spdmError v 0x04 0)
  else f d x

/-- GET_VERSION: 1.2 and 1.3; the connection starts again. (PRESUMED, assumption log 41) -/
def getVersion (s : SpdmSrc) (b : Bytes) (d : Dev) : Dev :=
  d.spdmServe s b 0 fun d _ =>
    let r := [0x10, 0x04, 0, 0, 0, 2] ++ natLE 2 0x1200 ++ natLE 2 0x1300
    d.spdmAnswer s (fun _ => { stage := 1, vca := b ++ r, trans := b ++ r, meas := [] }) r

/-- An exchange of version, capabilities and algorithms. -/
def SpdmSt.advance (stage : Nat) (b : Bytes) (x : SpdmSt) : SpdmSt := { stage := Nat.max stage x.stage, vca := x.vca ++ b, trans := x.trans ++ b, meas := x.meas }

/-- GET_CAPABILITIES: what the manual does not state of the answer is free. (PRESUMED, assumption log 41) -/
def getCapabilities (s : SpdmSrc) (b : Bytes) (d : Dev) : Dev :=
  d.spdmServe s b 1 fun d _ =>
    let (i, d) := d.fresh
    let r := b.take 1 ++ [0x61, 0, 0] ++ (List.range 16).map (Config.freeByte i)
    d.spdmAnswer s (SpdmSt.advance 2 (b ++ r)) r

/-- NEGOTIATE_ALGORITHMS: P-384 for signatures, SHA-384 for both hashes. -/
def negotiateAlgorithms (s : SpdmSrc) (b : Bytes) (d : Dev) : Dev :=
  d.spdmServe s b 2 fun d _ =>
    let r := b.take 1 ++ [0x63, 0, 0] ++ natLE 2 36 ++ [1, 0] ++ natLE 4 4 ++ natLE 4 0x80 ++ natLE 4 2 ++ zeros 16
    d.spdmAnswer s (SpdmSt.advance 3 (b ++ r)) r

/-- An exchange of certificates enters the challenge transcript. -/
def SpdmSt.heard (b : Bytes) (x : SpdmSt) : SpdmSt := { x with trans := x.trans ++ b }

/-- GET_DIGESTS: slots 0 and 1. -/
def getDigests (s : SpdmSrc) (b : Bytes) (d : Dev) : Dev :=
  d.spdmServe s b 3 fun d _ =>
    let r := b.take 1 ++ [0x01, 0, 3] ++ Sha2.sha384 (d.certChain 0) ++ Sha2.sha384 (d.certChain 1)
    d.spdmAnswer s (SpdmSt.heard (b ++ r)) r

/-- GET_CERTIFICATE: slot 0 the P-384 chain, slot 1 the ML-DSA chain, by offset and length. -/
def getCertificate (s : SpdmSrc) (b : Bytes) (d : Dev) : Dev :=
  d.spdmServe s b 3 fun d _ =>
    let k := leAt 2 1 b % 16
    let off := leAt 4 2 b
    if k > 1 || b.length < 8 || off ≥ (d.certChain k).length then d.spdmSend s (spdmError (leAt 0 1 b) 0x01 0)
    else
      let part := ((d.certChain k).drop off).take (leAt 6 2 b)
      let r := b.take 1 ++ [0x02] ++ natLE 1 k ++ [0] ++ natLE 2 part.length ++ natLE 2 ((d.certChain k).length - off - part.length) ++ part
      d.spdmAnswer s (SpdmSt.heard (b ++ r)) r

/-- Measurement index k + 1 is Mk, index 9 LOG_DIGEST. -/
def Dev.spdmBlock (d : Dev) (i : Nat) : Bytes :=
  natLE 1 i ++ [1] ++ natLE 2 51 ++ [0] ++ natLE 2 48 ++ (if i == 9 then d.logDigest else d.slot (i - 1))

/-- A signature by the P-384 half of the attestation key over a transcript, with the context of its message. -/
def Dev.spdmSign (d : Dev) (ctx : String) (t : Bytes) : Bytes := d.signEc (ascii ctx ++ Sha2.sha384 t)

/-- CHALLENGE: slot 0 signs. -/
def challenge (s : SpdmSrc) (b : Bytes) (d : Dev) : Dev :=
  d.spdmServe s b 3 fun d x =>
    if leAt 2 1 b != 0 || b.length < 36 then d.spdmSend s (spdmError (leAt 0 1 b) 0x01 0)
    else
      let (nonce, d) := d.draw 32
      let sum := if leAt 3 1 b == 0 then [] else Sha2.sha384 ((List.range 9).flatMap (fun k => d.spdmBlock (k + 1)))
      let r := b.take 1 ++ [0x03, 0, 1] ++ Sha2.sha384 (d.certChain 0) ++ nonce ++ sum ++ natLE 2 0 ++ slice 36 8 b
      let sig := d.spdmSign "responder-challenge_auth signing" (x.trans ++ b ++ r)
      d.spdmAnswer s (fun x => { x with trans := x.vca }) (r ++ sig)

/-- GET_MEASUREMENTS: one index, all of them, or their number. -/
def getMeasurements (s : SpdmSrc) (b : Bytes) (d : Dev) : Dev :=
  d.spdmServe s b 3 fun d x =>
    let signed := bit 0 (leAt 2 1 b)
    let k := leAt 3 1 b
    let l := if k == 0 then [] else if k == 255 then (List.range 9).map (· + 1) else [k]
    if (k > 9 && k != 255) || (signed && (b.length < 37 || leAt 36 1 b % 16 != 0)) then d.spdmSend s (spdmError (leAt 0 1 b) 0x01 0)
    else
      let (nonce, d) := d.draw 32
      let rec' := l.flatMap d.spdmBlock
      let r := b.take 1 ++ [0x60] ++ natLE 1 (if k == 0 then 9 else 0) ++ [0] ++ natLE 1 l.length ++ natLE 3 rec'.length ++ rec' ++ nonce ++ natLE 2 0 ++
        (if leAt 0 1 b == 0x13 then slice (if signed then 37 else 4) 8 b else [])
      if signed then
        let sig := d.spdmSign "responder-measurements signing" (x.vca ++ x.meas ++ b ++ r)
        d.spdmAnswer s (fun x => { x with meas := [] }) (r ++ sig)
      else d.spdmAnswer s (fun x => { x with meas := x.meas ++ b ++ r }) r

/-- Any other request: UnsupportedRequest (7). -/
def spdmUnsupported (s : SpdmSrc) (b : Bytes) (d : Dev) : Dev :=
  if d.spdmHeard s then d.spdmSend s (spdmError (leAt 0 1 b) 0x07 (leAt 1 1 b)) else d

/-! ### The management network (R499, R500, R516) -/

/-- PRP_SUPERVISION_TICK (R499). (DESIGN CHOICE, assumption log 63) -/
def prpTick (d : Dev) : Dev :=
  if d.modes.mode.powered && d.mgmt.answering then (d.onMgmt (fun g => { g with prpSent := g.prpSent + 1 })).emit (.frame 1 macAddress) else d

/-- REASSEMBLY_TIMEOUT (R500): a reassembly incomplete after 1 s is dropped. (DESIGN CHOICE, assumption log 63) -/
def reassemblyTimeout (k : Nat) (d : Dev) : Dev :=
  match tabGet? k d.mgmt.reassemblies with
  | some t => if d.now ≥ t + ticksPerS then d.onMgmt (fun g => { g with reassemblies := tabErase k g.reassemblies }) else d
  | none => d

/-- PTP_SYNC (R516): in the domain that NET_PTP_DOMAIN names. (DEDUCED, assumption log 142) -/
def ptpSync (p : PtpSync) (d : Dev) : Dev :=
  if !d.scegaUp || d.num P.netPtpEnable 0 != 1 || p.domain != d.num P.netPtpDomain 0 then d
  else
    let map := natLE 8 d.now ++ natLE 6 p.seconds ++ zeros 2 ++ natLE 4 p.nanoseconds ++ natLE 4 (int64 p.ratioPpb % 2 ^ 32) ++ natLE 1 p.port ++ zeros 7
    ((d.setOct P.netPtpMap 0 map).setNum P.netPtpState 0 3).setNum P.netPtpErrorNs 0 (p.errorNs % 2 ^ 32)

/-- Settings in force. -/
def Dev.netNum (d : Dev) (p : Param) : Nat := tabGet (catDefault p) p d.mgmt.netNums
def Dev.netOct (d : Dev) (p : Param) : Bytes := tabGet [] p d.mgmt.netOcts
/-- IPv4 answers (R500). -/
def Dev.ipv4 (d : Dev) : Bool := d.netNum P.netIpv4Enable == 1

/-- The interface identifier that follows from the MAC address, and the link-local address (R500; PRESUMED, assumption log 42). -/
def interfaceId : Bytes := ((macAddress.take 1).map (fun b => b ^^^ 2)) ++ slice 1 2 macAddress ++ [0xFF, 0xFE] ++ slice 3 3 macAddress
def linkLocal : Bytes := [0xFE, 0x80] ++ zeros 6 ++ interfaceId

/-- The device's own addresses. -/
def Dev.addresses (d : Dev) : List Bytes :=
  let glob := if d.netNum P.netIpv6Mode == 0 then (d.netOct P.netIpv6Addr).take 16 else d.mgmt.slaac
  [linkLocal] ++ (if glob.length == 16 && !allZero glob then [glob] else []) ++ (if d.ipv4 then [(d.netOct P.netIpv4Addr).take 4] else [])

/-- An echo request to one of its addresses is answered with the payload (R500). -/
def icmpEcho (f : Frame) (d : Dev) : Dev :=
  if d.scegaUp && d.addresses.contains f.destination then d.emit (.frame 2 (f.source ++ f.destination ++ f.payload)) else d

/-- The prefix that a router advertisement's options announce for address configuration: option 3, with the A flag and 64 bits. (PRESUMED, assumption log 42) -/
def slaacPrefix : Nat → Bytes → Option Bytes
  | 0, _ => none
  | n + 1, b =>
    let len := 8 * leAt 1 1 b
    if b.length < 8 || len == 0 then none
    else if leAt 0 1 b == 3 && len == 32 && leAt 2 1 b == 64 && bit 6 (leAt 3 1 b) then some (slice 16 8 b) else slaacPrefix n (b.drop len)

/-- NEIGHBOR_DISCOVERY (R500): a solicitation for one of its addresses is answered; under SLAAC a router advertisement gives the global address. -/
def neighbor (f : Frame) (d : Dev) : Dev :=
  let t := leAt 0 1 f.payload
  if !d.scegaUp then d
  else if t == 135 then
    let target := slice 8 16 f.payload
    if d.addresses.contains target then d.emit (.frame 3 (f.source ++ target ++ macAddress)) else d
  else if t == 134 && d.netNum P.netIpv6Mode == 1 then
    match slaacPrefix f.payload.length (f.payload.drop 16) with
    | some p => d.onMgmt (fun g => { g with slaac := p ++ interfaceId })
    | none => d
  else d

/-- ARP_REQUEST (R500). -/
def arp (f : Frame) (d : Dev) : Dev :=
  if d.scegaUp && d.ipv4 && f.destination == (d.netOct P.netIpv4Addr).take 4 then d.emit (.frame 4 (f.source ++ f.destination ++ macAddress)) else d

/-- DATAGRAM_DISCARD (R500): a datagram that nothing listens for is counted. -/
def datagram (f : Frame) (d : Dev) : Dev :=
  let listens := (f.udpPort == d.netNum P.netScegaPort || ((f.udpPort == 319 || f.udpPort == 320) && d.num P.netPtpEnable 0 == 1)) && (f.source.length != 4 || d.ipv4)
  if d.scegaUp && !listens then d.addNum P.netDiscardCount 0 1 else d

/-! ### Effects by parameter, for mailbox pages and confirmed actions -/

/-- Commands and writes with a meaning of their own. SLC_CMD_RESTORE and SLC_EVENTS are not among them: no page and no ticket carries the first, and the
second is read. -/
def commandEffects : List (Param × Effect) :=
  [(P.blwCmdSourceRetest, effRetest), (P.blwRawCapture, effRawCapture), (P.attCmdQuote, effAttQuote), (P.fwCmdStageBegin, effStageBegin),
   (P.fwCmdStageEnd, effStageEnd), (P.fwCmdActivate, effActivate), (P.fwCmdConfirm, effConfirm), (P.fwCmdCancel, effCancel),
   (P.fwCmdCommitSvn, effCommitSvn), (P.dbgCmdApply, effDbgApplyM7), (P.vltCmdInit, effVltInit), (P.vltCmdRecover, effVltRecover),
   (P.vltCmdSetHome, effVltSetHome), (P.lcyCmdPrepare, effLcyPrepare), (P.lcyCmdBurn, effLcyBurn), (P.lcyCmdDbgKeyBurn, effDbgKeyBurn),
   (P.lcyCmdDbgKeyRevoke, effDbgKeyRevoke), (P.dbgCmdNonce, effDbgNonce), (P.dbgCmdEnd, effDbgEnd), (P.mpgInstall, effMpgInstall),
   (P.mpgRemove, effMpgRemove), (P.mpgCmdRollout, effRollout), (P.monCmdArm, effMonArm), (P.monCmdSnap, effMonSnap),
   (P.monCmdSnapRange, effMonSnapRange), (P.modCmdQuiesce, effQuiesce), (P.modCmdResume, effResume), (P.modCmdZeroise, effZeroise),
   (P.modCmdRecoveryDone, effRecoveryDone), (P.pwrStateCmd, effPwrState), (P.pwrDomainCmd, effPwrDomain), (P.pwrTileCmd, effPwrTile),
   (P.rstCmdWarm, effWarm), (P.rstCmdCold, effCold), (P.fwRecover, effFwRecover), (P.qpEnable, effQpEnable), (P.qpDisable, effQpDisable),
   (P.qpDestroy, effQpDestroy), (P.scgCmdClose, effScgClose), (P.netCmdApply, effNetApply), (P.slcCmdCreate, effSliceCreate),
   (P.slcCmdReset, effSliceReset), (P.slcCmdRemove, effSliceRemove), (P.slcCmdFreeze, effSliceFreeze), (P.slcCmdThaw, effSliceThaw),
   (P.slcCmdSave, effSliceSave), (P.slcCmdImageFetch, effImageFetch), (P.slcCmdImageDiscard, effImageDiscard), (P.tmpCmdBist, effBist),
   (P.tmpCmdAck, effAck), (P.tmpCmdTamperClear, effTamperClear), (P.tilCmdOut, effUnitOut 0 nTiles), (P.tilCmdReturn, effUnitReturn 0 nTiles),
   (P.tilCmdReset, effUnitReset 0 nTiles), (P.hamCmdOut, effUnitOut 128 nHammers), (P.hamCmdReturn, effUnitReturn 128 nHammers),
   (P.hamCmdReset, effUnitReset 128 nHammers), (P.fulCmdOut, effUnitOut 160 nFullers), (P.fulCmdReturn, effUnitReturn 160 nFullers),
   (P.fulCmdReset, effUnitReset 160 nFullers)]
def writeEffects : List (Param × Effect) :=
  [(P.mpgMinSvn, effMpgMinSvn), (P.monBase, effMonBase), (P.monWidthExp, effMonWidth), (P.monBinmode, effMonBinmode),
   (P.monChSource, effMonChSource), (P.monChFilter, effMonChFilter), (P.monChOwner, effMonChOwner), (P.qncFloor, effQncFloor),
   (P.qncCeiling, effQncCeiling), (P.qncDutyExp, effQncDutyExp), (P.qncMode, effQncMode), (P.qpIrqLevel, effQpIrqLevel),
   (P.scgAnchors, effScgAnchors), (P.tmpClass, effTmpClass), (P.tmpMeshEnable, effEnableMask P.tmpMeshEnable 0xFF),
   (P.tmpSwitchEnable, effEnableMask P.tmpSwitchEnable 0x0F), (P.tmpA4Scrap, effA4Scrap)]

/-- What a WRITE does: a meaning of its own at OFFSET 0, FW_STAGE_DATA with its OFFSET, or the plain write. -/
def effWrite (p : Param) (offset : Nat) : Effect := fun d m =>
  if p == P.fwStageData then stageData d offset m.body
  else match writeEffects.find? (fun e => e.1 == p) with
    | some e => if offset != 0 then deny d (Reply.err resLength) else e.2 d m
    | none => if commandEffects.any (fun e => e.1 == p) then deny d (Reply.err resAccess) else effParameterWrite p offset d m

/-- The effect of a request on a parameter: a command's, or a write's. (DESIGN CHOICE, assumption log 23) -/
def effectOf (p : Param) (offset : Nat) : Effect :=
  match commandEffects.find? (fun e => e.1 == p) with
  | some e => e.2
  | none => effWrite p offset

/-- PARAMETER_WRITE (R511). A parameter of area F answers in a way that lies outside the manual, or with ACCESS (R536). -/
def parameterWrite (m : Msg) (p offset : Nat) (d : Dev) : Dev :=
  if p / 0x100000 == 15 && d.heard m.src && (d.repeated m.src m.reqId.toNat).isNone && !d.alone d.lc m.src then
    if d.reachesVendor m.src then let (n, d) := d.fresh; d.respondTo m.src m.reqId.toNat (Reply.err (Config.freeNat n % 65536)) else d.respondTo m.src m.reqId.toNat (Reply.err resAccess)
  else d.serve d.lc p offset m true (effWrite p offset)

/-! ### CONFIRM (R514) -/

/-- 60 s, the life of a ticket. (DESIGN CHOICE, assumption log 57) -/
def ticketTicks : Nat := 60 * ticksPerS

/-- Answer a CONFIRM: the ticket goes, the action runs on the state as it is now, and its outcome goes to both officers. (DESIGN CHOICE, assumption log 57) -/
def Dev.runTicket (d : Dev) (t : Ticket) (m : Msg) : Dev :=
  let a : Awaited := { src := m.src, reqId := m.reqId.toNat, origin := t.origin, ticket := t.number }
  let d := d.onMgmt (fun g => { g with tickets := g.tickets.filter (fun x => x.number != t.number), awaiting := g.awaiting ++ [a] })
  match effectOf t.param t.offset d { t.msg with src := m.src, reqId := m.reqId } with
  | (some r, d) => d.respondTo m.src m.reqId.toNat r
  | (none, d) => d.hears m.src

/-- CONFIRM: a second officer with another principal, within 60 s, and the digest of the first request. A digest that does not match is answered with
RANGE and the ticket stays. (DESIGN CHOICE, assumption log 57) -/
def confirm (m : Msg) (d : Dev) : Dev :=
  let id := m.reqId.toNat
  let n := leAt 0 4 m.body
  if !d.heard m.src then d
  else match d.repeated m.src id with
    | some b => d.resend m.src id b
    | none =>
      match m.src with
      | .session k =>
        match tabGet? k d.mgmt.sessions with
        | none => d
        | some s =>
          if d.alone d.lc m.src then d.respondTo m.src id (Reply.err resState)
          else if s.peer || s.role != roleOfficer then d.respondTo m.src id (Reply.err resAccess)
          else if m.body.length != 52 then d.respondTo m.src id (Reply.err resLength)
          else match d.mgmt.tickets.find? (fun t => t.number == n && d.now ≤ t.requested + ticketTicks) with
            | none => d.respondTo m.src id (Reply.err resDualExpired)
            | some t =>
              if d.principalOf t.origin == s.principal then d.respondTo m.src id (Reply.err resDualSame)
              else if m.body.drop 4 != t.digest then d.respondTo m.src id (Reply.err resRange)
              else d.runTicket t m
      | _ => d.respondTo m.src id (Reply.err resAccess)

/-- DUAL_TICKET_LAPSE: 60 s have passed. -/
def ticketLapse (n : Nat) (d : Dev) : Dev :=
  d.onMgmt (fun g => { g with tickets := g.tickets.filter (fun t => !(t.number == n && d.now ≥ t.requested + ticketTicks)) })

/-! ### Mailbox pages (R30, R517) -/

/-- The number of a page, and who writes there. -/
def pageNumber : MbPage → Nat
  | .device => 0 | .slice i => i + 1
def pageSrc : MbPage → Src
  | .device => .devicePage | .slice i => .slicePage i

/-- A request message of a page (R510). Neither R510 nor R512 says what a nonzero reserved byte 11 does: the model does not look at it and serves the request.
(DESIGN CHOICE, assumption log 22) -/
def Dev.pageRequest (d : Dev) (src : Src) (b : Bytes) : Dev :=
  let op := leAt 0 2 b
  let p := leAt 8 3 b
  let m : Msg := { src := src, reqId := BitVec.ofNat 32 (leAt 4 4 b), row := BitVec.ofNat 32 (leAt 12 4 b), body := b.drop 16 }
  let id := leAt 4 4 b
  if b.length < 16 || leAt 2 2 b != b.length || b.length > 1792 then d.respondTo src id (Reply.err resLength)
  else if op == 1 then d.serveRead d.lc p m (if p == P.slcEvents then effEvents else effRead p)
  else if op == 2 then
    if m.body.length < 4 then d.respondTo src id (Reply.err resLength)
    else d.serve d.lc p (leAt 0 4 m.body) { m with body := m.body.drop 4 } true (if p == P.fwRecover then fun d x => effFwRecover d { x with body := m.body } else effWrite p (leAt 0 4 m.body))
  else if op == 3 then
    match commandEffects.find? (fun e => e.1 == p) with
    | some e => d.serve d.lc p 0 m false e.2
    | none => d.respondTo src id (Reply.err (if (catFind p).isSome then resAccess else resUnknown))
  else if op == 5 then d.respondTo src id (Reply.err resAccess)
  else if op == 6 then d.respondTo src id (Reply.data' m.body)
  else d.respondTo src id (Reply.err resUnknown)

/-- MB_CONTROL_GO: a GO on a page that is not BUSY. A page of a slice that does not exist takes no write (R26). (DESIGN CHOICE, assumption log 22) (DESIGN CHOICE, assumption log 23) -/
def mbControlGo (pg : MbPage) (v : BitVec 32) (b : Bytes) (d : Dev) : Dev :=
  let n := pageNumber pg
  let there := match pg with | .device => true | .slice i => i < 4096 && d.sliceExists i
  if !d.hostUp || d.boot.step < 8 && !d.boot.recoveryWait || d.boot.halted then d
  else if !there then d.stray none
  else if !v.getLsbD 0 || (tabGet Mailbox.reset n d.host.mailboxes).busy || (d.boot.recoveryWait && n != 0) then d
  else (d.onMailbox n (fun x => { x with busy := true, done := false, reqLen := b.length, request := b })).pageRequest (pageSrc pg) b

/-! ### The commands -/

def execHello (h : Handshake) (s : State) := s.run (hello h)
def execFinish (h : Handshake) (s : State) := s.run (finish h)
def execReply (h : Handshake) (s : State) := s.run (reply h)
def execAccept (h : Handshake) (s : State) := s.run (acceptShake h)
def execClose (n : Nat) (s : State) := s.run (closeSession n)
def execHandshakeTimeout (n : Nat) (s : State) := s.run (handshakeTimeout n)
def execSessionIdleTimeout (n : Nat) (s : State) := s.run (sessionIdle n)
def execConfirm (m : Msg) (s : State) := s.run (confirm m)
def execDualTicketLapse (n : Nat) (s : State) := s.run (ticketLapse n)
def execEcho (m : Msg) (s : State) := s.run (echo m)
def execPeer (n : Nat) (p : PeerMsg) (s : State) := s.run (peer n p)
def execGetVersion (x : SpdmSrc) (b : Bytes) (s : State) := s.run (getVersion x b)
def execGetCapabilities (x : SpdmSrc) (b : Bytes) (s : State) := s.run (getCapabilities x b)
def execNegotiateAlgorithms (x : SpdmSrc) (b : Bytes) (s : State) := s.run (negotiateAlgorithms x b)
def execGetDigests (x : SpdmSrc) (b : Bytes) (s : State) := s.run (getDigests x b)
def execGetCertificate (x : SpdmSrc) (b : Bytes) (s : State) := s.run (getCertificate x b)
def execChallenge (x : SpdmSrc) (b : Bytes) (s : State) := s.run (challenge x b)
def execGetMeasurements (x : SpdmSrc) (b : Bytes) (s : State) := s.run (getMeasurements x b)
def execSpdmUnsupportedRequest (x : SpdmSrc) (b : Bytes) (s : State) := s.run (spdmUnsupported x b)
def execScgCmdClose (m : Msg) (s : State) := s.run fun d => d.serve d.lc P.scgCmdClose 0 m false effScgClose
def execScgAnchors (m : Msg) (s : State) := s.run fun d => d.serve d.lc P.scgAnchors 0 m true effScgAnchors
def execNetCmdApply (m : Msg) (s : State) := s.run fun d => d.serve d.lc P.netCmdApply 0 m false effNetApply
def execPrpSupervisionTick (s : State) := s.run prpTick
def execReassemblyTimeout (k : Nat) (s : State) := s.run (reassemblyTimeout k)
def execPtpSync (p : PtpSync) (s : State) := s.run (ptpSync p)
def execIcmpEchoRequest (f : Frame) (s : State) := s.run (icmpEcho f)
def execNeighborDiscovery (f : Frame) (s : State) := s.run (neighbor f)
def execArpRequest (f : Frame) (s : State) := s.run (arp f)
def execDatagramDiscard (f : Frame) (s : State) := s.run (datagram f)
def execParameterWrite (m : Msg) (p offset : Nat) (s : State) := s.run (parameterWrite m p offset)
def execMbControlGo (pg : MbPage) (v : BitVec 32) (b : Bytes) (s : State) := s.run (mbControlGo pg v b)

end Sys2Proof.Machine
end

