-- ==== Sys2Proof/Machine/Dispatch.lean ====
section
/-! DEFINITION. One arm per command: the call of its meaning. -/

namespace Sys2Proof.Machine

/-- The effect of a command on everything but the queue. (DESIGN CHOICE, assumption log 1) -/
def exec (i : Instr) (s : State) : Host.Outcome State Fault Refusal :=
  match i with
  | .sqDoorbell page slot value => Sys2Proof.Machine.execSqDoorbell page slot value s
  | .cqRelease page slot value => Sys2Proof.Machine.execCqRelease page slot value s
  | .mbControlGo page value request => Sys2Proof.Machine.execMbControlGo page value request s
  | .barStrayWrite w => Sys2Proof.Machine.execBarStrayWrite w s
  | .msixUnmask vector => Sys2Proof.Machine.execMsixUnmask vector s
  | .qpEnable m => Sys2Proof.Machine.execQpEnable m s
  | .qpDisable m => Sys2Proof.Machine.execQpDisable m s
  | .qpDestroy m => Sys2Proof.Machine.execQpDestroy m s
  | .qpIrqLevel m => Sys2Proof.Machine.execQpIrqLevel m s
  | .parameterWrite m param offset => Sys2Proof.Machine.execParameterWrite m param offset s
  | .recordPublish qp => Sys2Proof.Machine.execRecordPublish qp s
  | .queueFault qp address atCredit => Sys2Proof.Machine.execQueueFault qp address atCredit s
  | .priResponse req ok => Sys2Proof.Machine.execPriResponse req ok s
  | .atsInvalidation pasid address bytes => Sys2Proof.Machine.execAtsInvalidation pasid address bytes s
  | .assignmentPass => Sys2Proof.Machine.execAssignmentPass s
  | .epochBoundary => Sys2Proof.Machine.execEpochBoundary s
  | .cacheMissDone object tagOk => Sys2Proof.Machine.execCacheMissDone object tagOk s
  | .keyLoadDone unit => Sys2Proof.Machine.execKeyLoadDone unit s
  | .resultFinished job => Sys2Proof.Machine.execResultFinished job s
  | .releaseHoldExpire job => Sys2Proof.Machine.execReleaseHoldExpire job s
  | .probationComplete unit => Sys2Proof.Machine.execProbationComplete unit s
  | .returnStepDone unit ok => Sys2Proof.Machine.execReturnStepDone unit ok s
  | .scrubDone unit => Sys2Proof.Machine.execScrubDone unit s
  | .patrolScrub unit found => Sys2Proof.Machine.execPatrolScrub unit found s
  | .sparkSeedRequest unit => Sys2Proof.Machine.execSparkSeedRequest unit s
  | .sparkSeedArrive unit => Sys2Proof.Machine.execSparkSeedArrive unit s
  | .sparkSeedSwitch unit => Sys2Proof.Machine.execSparkSeedSwitch unit s
  | .abortCheckpointTimeout tile => Sys2Proof.Machine.execAbortCheckpointTimeout tile s
  | .cycleCeilingExceeded tile => Sys2Proof.Machine.execCycleCeilingExceeded tile s
  | .lvWakeDone tile => Sys2Proof.Machine.execLvWakeDone tile s
  | .vecAutogateIdle tile => Sys2Proof.Machine.execVecAutogateIdle tile s
  | .illegalInstruction tile word => Sys2Proof.Machine.execIllegalInstruction tile word s
  | .sadd t f => Sys2Proof.Machine.execSadd t f s
  | .ssub t f => Sys2Proof.Machine.execSsub t f s
  | .sand t f => Sys2Proof.Machine.execSand t f s
  | .sor t f => Sys2Proof.Machine.execSor t f s
  | .sxor t f => Sys2Proof.Machine.execSxor t f s
  | .ssll t f => Sys2Proof.Machine.execSsll t f s
  | .ssrl t f => Sys2Proof.Machine.execSsrl t f s
  | .ssra t f => Sys2Proof.Machine.execSsra t f s
  | .smul t f => Sys2Proof.Machine.execSmul t f s
  | .ssltu t f => Sys2Proof.Machine.execSsltu t f s
  | .saddi t f => Sys2Proof.Machine.execSaddi t f s
  | .sandi t f => Sys2Proof.Machine.execSandi t f s
  | .sslli t f => Sys2Proof.Machine.execSslli t f s
  | .ssrli t f => Sys2Proof.Machine.execSsrli t f s
  | .slih t f => Sys2Proof.Machine.execSlih t f s
  | .sld t f w => Sys2Proof.Machine.execSld t f w s
  | .sst t f => Sys2Proof.Machine.execSst t f s
  | .beq t f => Sys2Proof.Machine.execBeq t f s
  | .bne t f => Sys2Proof.Machine.execBne t f s
  | .blt t f => Sys2Proof.Machine.execBlt t f s
  | .bge t f => Sys2Proof.Machine.execBge t f s
  | .bltu t f => Sys2Proof.Machine.execBltu t f s
  | .bgeu t f => Sys2Proof.Machine.execBgeu t f s
  | .jal t off => Sys2Proof.Machine.execJal t off s
  | .jr t f => Sys2Proof.Machine.execJr t f s
  | .vadd t vs f => Sys2Proof.Machine.execVadd t vs f s
  | .vsub t vs f => Sys2Proof.Machine.execVsub t vs f s
  | .vand t vs f => Sys2Proof.Machine.execVand t vs f s
  | .vor t vs f => Sys2Proof.Machine.execVor t vs f s
  | .vxor t vs f => Sys2Proof.Machine.execVxor t vs f s
  | .vnot t vs f => Sys2Proof.Machine.execVnot t vs f s
  | .vsll t vs f => Sys2Proof.Machine.execVsll t vs f s
  | .vsrl t vs f => Sys2Proof.Machine.execVsrl t vs f s
  | .vsra t vs f => Sys2Proof.Machine.execVsra t vs f s
  | .vmul t vs f => Sys2Proof.Machine.execVmul t vs f s
  | .vseq t vs f => Sys2Proof.Machine.execVseq t vs f s
  | .vsltu t vs f => Sys2Proof.Machine.execVsltu t vs f s
  | .vmadd t vs f => Sys2Proof.Machine.execVmadd t vs f s
  | .vmsub t vs f => Sys2Proof.Machine.execVmsub t vs f s
  | .vmneg t vs f => Sys2Proof.Machine.execVmneg t vs f s
  | .vmmul t vs f => Sys2Proof.Machine.execVmmul t vs f s
  | .vmmac t vs f => Sys2Proof.Machine.execVmmac t vs f s
  | .vmred t vs f => Sys2Proof.Machine.execVmred t vs f s
  | .vmcent t vs f => Sys2Proof.Machine.execVmcent t vs f s
  | .vmp2r t vs f => Sys2Proof.Machine.execVmp2r t vs f s
  | .vmhigh t vs f => Sys2Proof.Machine.execVmhigh t vs f s
  | .bflyCt t f => Sys2Proof.Machine.execBflyCt t f s
  | .bflyGs t f => Sys2Proof.Machine.execBflyGs t f s
  | .vmv t f => Sys2Proof.Machine.execVmv t f s
  | .vslideup t f => Sys2Proof.Machine.execVslideup t f s
  | .vslidedn t f => Sys2Proof.Machine.execVslidedn t f s
  | .vziplo t f => Sys2Proof.Machine.execVziplo t f s
  | .vziphi t f => Sys2Proof.Machine.execVziphi t f s
  | .vunzipe t f => Sys2Proof.Machine.execVunzipe t f s
  | .vunzipo t f => Sys2Proof.Machine.execVunzipo t f s
  | .vrevb t f => Sys2Proof.Machine.execVrevb t f s
  | .vbcast t f => Sys2Proof.Machine.execVbcast t f s
  | .vmvsx t f => Sys2Proof.Machine.execVmvsx t f s
  | .vmvxs t f => Sys2Proof.Machine.execVmvxs t f s
  | .vredadd t f => Sys2Proof.Machine.execVredadd t f s
  | .vclmull t f => Sys2Proof.Machine.execVclmull t f s
  | .vclmulh t f => Sys2Proof.Machine.execVclmulh t f s
  | .vgfmul t f => Sys2Proof.Machine.execVgfmul t f s
  | .vgfsq t f => Sys2Proof.Machine.execVgfsq t f s
  | .vgfinv t f => Sys2Proof.Machine.execVgfinv t f s
  | .vgfmac t f => Sys2Proof.Machine.execVgfmac t f s
  | .vpopc t f => Sys2Proof.Machine.execVpopc t f s
  | .vld t f w => Sys2Proof.Machine.execVld t f w s
  | .vlds2 t f w => Sys2Proof.Machine.execVlds2 t f w s
  | .vlds3 t f w => Sys2Proof.Machine.execVlds3 t f w s
  | .vlds4 t f w => Sys2Proof.Machine.execVlds4 t f w s
  | .vldst t f w => Sys2Proof.Machine.execVldst t f w s
  | .vldx t f w => Sys2Proof.Machine.execVldx t f w s
  | .vst t f => Sys2Proof.Machine.execVst t f s
  | .vsts2 t f => Sys2Proof.Machine.execVsts2 t f s
  | .vsts3 t f => Sys2Proof.Machine.execVsts3 t f s
  | .vsts4 t f => Sys2Proof.Machine.execVsts4 t f s
  | .vstst t f => Sys2Proof.Machine.execVstst t f s
  | .vstx t f => Sys2Proof.Machine.execVstx t f s
  | .lvAdd t f => Sys2Proof.Machine.execLvAdd t f s
  | .lvSub t f => Sys2Proof.Machine.execLvSub t f s
  | .lvXor t f => Sys2Proof.Machine.execLvXor t f s
  | .lvAnd t f => Sys2Proof.Machine.execLvAnd t f s
  | .lvMadd t f => Sys2Proof.Machine.execLvMadd t f s
  | .lvMsub t f => Sys2Proof.Machine.execLvMsub t f s
  | .lvMmul t f => Sys2Proof.Machine.execLvMmul t f s
  | .lvMmac t f => Sys2Proof.Machine.execLvMmac t f s
  | .lvCopy t f => Sys2Proof.Machine.execLvCopy t f s
  | .lvBflyCt t f => Sys2Proof.Machine.execLvBflyCt t f s
  | .lvBflyGs t f => Sys2Proof.Machine.execLvBflyGs t f s
  | .lvBcm t f => Sys2Proof.Machine.execLvBcm t f s
  | .lvBcmac t f => Sys2Proof.Machine.execLvBcmac t f s
  | .lvClmul t f => Sys2Proof.Machine.execLvClmul t f s
  | .kld t f w => Sys2Proof.Machine.execKld t f w s
  | .kabs t f => Sys2Proof.Machine.execKabs t f s
  | .ksh2 t f => Sys2Proof.Machine.execKsh2 t f s
  | .klv t f w => Sys2Proof.Machine.execKlv t f w s
  | .kcInit t f => Sys2Proof.Machine.execKcInit t f s
  | .kcAbs t f => Sys2Proof.Machine.execKcAbs t f s
  | .kcAbsm t f => Sys2Proof.Machine.execKcAbsm t f s
  | .kcFin t f => Sys2Proof.Machine.execKcFin t f s
  | .kcSqz t f => Sys2Proof.Machine.execKcSqz t f s
  | .kcSqzm t f => Sys2Proof.Machine.execKcSqzm t f s
  | .kcPerm t f => Sys2Proof.Machine.execKcPerm t f s
  | .sh2Init t f => Sys2Proof.Machine.execSh2Init t f s
  | .sh2Absm t f => Sys2Proof.Machine.execSh2Absm t f s
  | .sh2Fin t f => Sys2Proof.Machine.execSh2Fin t f s
  | .sh2Out t f => Sys2Proof.Machine.execSh2Out t f s
  | .smpUni12 t f => Sys2Proof.Machine.execSmpUni12 t f s
  | .smpUni23 t f => Sys2Proof.Machine.execSmpUni23 t f s
  | .smpCbd t f => Sys2Proof.Machine.execSmpCbd t f s
  | .smpEta t f => Sys2Proof.Machine.execSmpEta t f s
  | .smpBall t f => Sys2Proof.Machine.execSmpBall t f s
  | .smpGauss t f => Sys2Proof.Machine.execSmpGauss t f s
  | .gA2b t f => Sys2Proof.Machine.execGA2b t f s
  | .gB2a t f => Sys2Proof.Machine.execGB2a t f s
  | .gAnd t f => Sys2Proof.Machine.execGAnd t f s
  | .gMul t f => Sys2Proof.Machine.execGMul t f s
  | .gGfmul t f => Sys2Proof.Machine.execGGfmul t f s
  | .gRefresh t f => Sys2Proof.Machine.execGRefresh t f s
  | .gCmpeq t f => Sys2Proof.Machine.execGCmpeq t f s
  | .gRandr t f => Sys2Proof.Machine.execGRandr t f s
  | .gCompress t f => Sys2Proof.Machine.execGCompress t f s
  | .gDecomp t f => Sys2Proof.Machine.execGDecomp t f s
  | .gInrange t f => Sys2Proof.Machine.execGInrange t f s
  | .gSel t f => Sys2Proof.Machine.execGSel t f s
  | .gUnmask t f => Sys2Proof.Machine.execGUnmask t f s
  | .xin t f => Sys2Proof.Machine.execXin t f s
  | .xout t f => Sys2Proof.Machine.execXout t f s
  | .xpub t f => Sys2Proof.Machine.execXpub t f s
  | .nop t f => Sys2Proof.Machine.execNop t f s
  | .vsetvl t f => Sys2Proof.Machine.execVsetvl t f s
  | .vsetvli t f => Sys2Proof.Machine.execVsetvli t f s
  | .vsettype t f => Sys2Proof.Machine.execVsettype t f s
  | .csrr t f => Sys2Proof.Machine.execCsrr t f s
  | .csrw t f => Sys2Proof.Machine.execCsrw t f s
  | .mset t f => Sys2Proof.Machine.execMset t f s
  | .msetgf t f => Sys2Proof.Machine.execMsetgf t f s
  | .chkpt t f => Sys2Proof.Machine.execChkpt t f s
  | .tileDone t f => Sys2Proof.Machine.execTileDone t f s
  | .reject t f => Sys2Proof.Machine.execReject t f s
  | .fault t f => Sys2Proof.Machine.execFault t f s
  | .mlKemKeygen job => Sys2Proof.Machine.execMlKemKeygen job s
  | .mlKemEncaps job => Sys2Proof.Machine.execMlKemEncaps job s
  | .mlKemDecaps job => Sys2Proof.Machine.execMlKemDecaps job s
  | .mlKemCheckEk job => Sys2Proof.Machine.execMlKemCheckEk job s
  | .mlDsaKeygen job => Sys2Proof.Machine.execMlDsaKeygen job s
  | .mlDsaSign job => Sys2Proof.Machine.execMlDsaSign job s
  | .mlDsaVerify job => Sys2Proof.Machine.execMlDsaVerify job s
  | .fnDsaKeygen job => Sys2Proof.Machine.execFnDsaKeygen job s
  | .fnDsaSign job => Sys2Proof.Machine.execFnDsaSign job s
  | .fnDsaVerify job => Sys2Proof.Machine.execFnDsaVerify job s
  | .hybridKemEncaps job => Sys2Proof.Machine.execHybridKemEncaps job s
  | .hybridKemDecaps job => Sys2Proof.Machine.execHybridKemDecaps job s
  | .hybridSign job => Sys2Proof.Machine.execHybridSign job s
  | .hybridVerify job => Sys2Proof.Machine.execHybridVerify job s
  | .slhDsaKeygen job => Sys2Proof.Machine.execSlhDsaKeygen job s
  | .slhDsaSign job => Sys2Proof.Machine.execSlhDsaSign job s
  | .slhDsaVerify job => Sys2Proof.Machine.execSlhDsaVerify job s
  | .lmsHssKeygen job => Sys2Proof.Machine.execLmsHssKeygen job s
  | .lmsHssSign job => Sys2Proof.Machine.execLmsHssSign job s
  | .lmsHssVerify job => Sys2Proof.Machine.execLmsHssVerify job s
  | .lmsHssQuery job => Sys2Proof.Machine.execLmsHssQuery job s
  | .xmssKeygen job => Sys2Proof.Machine.execXmssKeygen job s
  | .xmssSign job => Sys2Proof.Machine.execXmssSign job s
  | .xmssVerify job => Sys2Proof.Machine.execXmssVerify job s
  | .xmssQuery job => Sys2Proof.Machine.execXmssQuery job s
  | .hqcKeygen job => Sys2Proof.Machine.execHqcKeygen job s
  | .hqcEncaps job => Sys2Proof.Machine.execHqcEncaps job s
  | .hqcDecaps job => Sys2Proof.Machine.execHqcDecaps job s
  | .hqcCheckEk job => Sys2Proof.Machine.execHqcCheckEk job s
  | .classicMcelieceKeygen job => Sys2Proof.Machine.execClassicMcelieceKeygen job s
  | .classicMcelieceEncaps job => Sys2Proof.Machine.execClassicMcelieceEncaps job s
  | .classicMcelieceDecaps job => Sys2Proof.Machine.execClassicMcelieceDecaps job s
  | .place job => Sys2Proof.Machine.execPlace job s
  | .evict job => Sys2Proof.Machine.execEvict job s
  | .rsaKeygen job => Sys2Proof.Machine.execRsaKeygen job s
  | .rsaPrivate job => Sys2Proof.Machine.execRsaPrivate job s
  | .rsaPublic job => Sys2Proof.Machine.execRsaPublic job s
  | .rsassaPssSign job => Sys2Proof.Machine.execRsassaPssSign job s
  | .rsassaPssVerify job => Sys2Proof.Machine.execRsassaPssVerify job s
  | .rsassaPkcs1V15Sign job => Sys2Proof.Machine.execRsassaPkcs1V15Sign job s
  | .rsassaPkcs1V15Verify job => Sys2Proof.Machine.execRsassaPkcs1V15Verify job s
  | .rsaesOaepDecrypt job => Sys2Proof.Machine.execRsaesOaepDecrypt job s
  | .rsaesOaepEncrypt job => Sys2Proof.Machine.execRsaesOaepEncrypt job s
  | .ecdsaKeygen job => Sys2Proof.Machine.execEcdsaKeygen job s
  | .ecdsaSign job => Sys2Proof.Machine.execEcdsaSign job s
  | .ecdsaVerify job => Sys2Proof.Machine.execEcdsaVerify job s
  | .ecdsaCheckPk job => Sys2Proof.Machine.execEcdsaCheckPk job s
  | .loadCurve job => Sys2Proof.Machine.execLoadCurve job s
  | .unloadCurve job => Sys2Proof.Machine.execUnloadCurve job s
  | .eddsaKeygen job => Sys2Proof.Machine.execEddsaKeygen job s
  | .eddsaSign job => Sys2Proof.Machine.execEddsaSign job s
  | .eddsaVerify job => Sys2Proof.Machine.execEddsaVerify job s
  | .ecdhXdhKeygen job => Sys2Proof.Machine.execEcdhXdhKeygen job s
  | .derive job => Sys2Proof.Machine.execDerive job s
  | .ephemeral job => Sys2Proof.Machine.execEphemeral job s
  | .ecdhXdhCheckPk job => Sys2Proof.Machine.execEcdhXdhCheckPk job s
  | .aesEcbEncrypt job => Sys2Proof.Machine.execAesEcbEncrypt job s
  | .aesEcbDecrypt job => Sys2Proof.Machine.execAesEcbDecrypt job s
  | .aesCbcEncrypt job => Sys2Proof.Machine.execAesCbcEncrypt job s
  | .aesCbcDecrypt job => Sys2Proof.Machine.execAesCbcDecrypt job s
  | .aesCtrEncrypt job => Sys2Proof.Machine.execAesCtrEncrypt job s
  | .aesCtrDecrypt job => Sys2Proof.Machine.execAesCtrDecrypt job s
  | .aesGcmEncrypt job => Sys2Proof.Machine.execAesGcmEncrypt job s
  | .aesGcmDecrypt job => Sys2Proof.Machine.execAesGcmDecrypt job s
  | .aesCcmEncrypt job => Sys2Proof.Machine.execAesCcmEncrypt job s
  | .aesCcmDecrypt job => Sys2Proof.Machine.execAesCcmDecrypt job s
  | .aesXtsEncrypt job => Sys2Proof.Machine.execAesXtsEncrypt job s
  | .aesXtsDecrypt job => Sys2Proof.Machine.execAesXtsDecrypt job s
  | .aesKwWrap job => Sys2Proof.Machine.execAesKwWrap job s
  | .aesKwUnwrap job => Sys2Proof.Machine.execAesKwUnwrap job s
  | .aesKwpWrap job => Sys2Proof.Machine.execAesKwpWrap job s
  | .aesKwpUnwrap job => Sys2Proof.Machine.execAesKwpUnwrap job s
  | .aesCmacGenerate job => Sys2Proof.Machine.execAesCmacGenerate job s
  | .aesCmacVerify job => Sys2Proof.Machine.execAesCmacVerify job s
  | .tdesEcbEncrypt job => Sys2Proof.Machine.execTdesEcbEncrypt job s
  | .tdesEcbDecrypt job => Sys2Proof.Machine.execTdesEcbDecrypt job s
  | .tdesCbcEncrypt job => Sys2Proof.Machine.execTdesCbcEncrypt job s
  | .tdesCbcDecrypt job => Sys2Proof.Machine.execTdesCbcDecrypt job s
  | .macAlgorithm3Generate job => Sys2Proof.Machine.execMacAlgorithm3Generate job s
  | .macAlgorithm3Verify job => Sys2Proof.Machine.execMacAlgorithm3Verify job s
  | .hash job => Sys2Proof.Machine.execHash job s
  | .hmacGenerate job => Sys2Proof.Machine.execHmacGenerate job s
  | .hmacVerify job => Sys2Proof.Machine.execHmacVerify job s
  | .kmacGenerate job => Sys2Proof.Machine.execKmacGenerate job s
  | .kmacVerify job => Sys2Proof.Machine.execKmacVerify job s
  | .hkdf job => Sys2Proof.Machine.execHkdf job s
  | .sp800108Kdf job => Sys2Proof.Machine.execSp800108Kdf job s
  | .pinTranslate job => Sys2Proof.Machine.execPinTranslate job s
  | .dukptDerive job => Sys2Proof.Machine.execDukptDerive job s
  | .kbExport job => Sys2Proof.Machine.execKbExport job s
  | .kbImport job => Sys2Proof.Machine.execKbImport job s
  | .generate job => Sys2Proof.Machine.execGenerate job s
  | .wrapExport job => Sys2Proof.Machine.execWrapExport job s
  | .unwrapImport job => Sys2Proof.Machine.execUnwrapImport job s
  | .destroy job => Sys2Proof.Machine.execDestroy job s
  | .revokeChildren job => Sys2Proof.Machine.execRevokeChildren job s
  | .restrict job => Sys2Proof.Machine.execRestrict job s
  | .query job => Sys2Proof.Machine.execQuery job s
  | .seqQuery job => Sys2Proof.Machine.execSeqQuery job s
  | .softwarePortGenerate job => Sys2Proof.Machine.execSoftwarePortGenerate job s
  | .integratorMicroprogram job => Sys2Proof.Machine.execIntegratorMicroprogram job s
  | .invalidationAck node => Sys2Proof.Machine.execInvalidationAck node s
  | .journalCommitDone group => Sys2Proof.Machine.execJournalCommitDone group s
  | .reclaimTask => Sys2Proof.Machine.execReclaimTask s
  | .journalCompaction => Sys2Proof.Machine.execJournalCompaction s
  | .temperPassStart => Sys2Proof.Machine.execTemperPassStart s
  | .sourceStartupTestEnd source bits => Sys2Proof.Machine.execSourceStartupTestEnd source bits s
  | .bellowsKatDone failed => Sys2Proof.Machine.execBellowsKatDone failed s
  | .conditioningWindowEnd source first second => Sys2Proof.Machine.execConditioningWindowEnd source first second s
  | .adaptiveProportionWindowEnd source bits => Sys2Proof.Machine.execAdaptiveProportionWindowEnd source bits s
  | .drbgBlockRequest instance_ => Sys2Proof.Machine.execDrbgBlockRequest instance_ s
  | .drbgReseedDue instance_ => Sys2Proof.Machine.execDrbgReseedDue instance_ s
  | .drbgAgeLimit instance_ => Sys2Proof.Machine.execDrbgAgeLimit instance_ s
  | .drbgDrawDone job => Sys2Proof.Machine.execDrbgDrawDone job s
  | .shortageDeadlineExpiry req => Sys2Proof.Machine.execShortageDeadlineExpiry req s
  | .blwCmdSourceRetest m => Sys2Proof.Machine.execBlwCmdSourceRetest m s
  | .retestDone passed katOk => Sys2Proof.Machine.execRetestDone passed katOk s
  | .blwRawCapture m => Sys2Proof.Machine.execBlwRawCapture m s
  | .probeRun tile => Sys2Proof.Machine.execProbeRun tile s
  | .idleProbeStart tile => Sys2Proof.Machine.execIdleProbeStart tile s
  | .probeSampleCommit tile p => Sys2Proof.Machine.execProbeSampleCommit tile p s
  | .quenchWindowEnd tile => Sys2Proof.Machine.execQuenchWindowEnd tile s
  | .welchStatisticDone tile r => Sys2Proof.Machine.execWelchStatisticDone tile r s
  | .qncFloor m => Sys2Proof.Machine.execQncFloor m s
  | .qncCeiling m => Sys2Proof.Machine.execQncCeiling m s
  | .qncDutyExp m => Sys2Proof.Machine.execQncDutyExp m s
  | .qncMode m => Sys2Proof.Machine.execQncMode m s
  | .railSampleTick rail millivolts => Sys2Proof.Machine.execRailSampleTick rail millivolts s
  | .reseedAgeSample => Sys2Proof.Machine.execReseedAgeSample s
  | .monWindowExpire monitor => Sys2Proof.Machine.execMonWindowExpire monitor s
  | .monCmdArm m => Sys2Proof.Machine.execMonCmdArm m s
  | .monCmdSnap m => Sys2Proof.Machine.execMonCmdSnap m s
  | .monCmdSnapRange m => Sys2Proof.Machine.execMonCmdSnapRange m s
  | .monBase m => Sys2Proof.Machine.execMonBase m s
  | .monWidthExp m => Sys2Proof.Machine.execMonWidthExp m s
  | .monBinmode m => Sys2Proof.Machine.execMonBinmode m s
  | .monChSource m => Sys2Proof.Machine.execMonChSource m s
  | .monChFilter m => Sys2Proof.Machine.execMonChFilter m s
  | .monChOwner m => Sys2Proof.Machine.execMonChOwner m s
  | .slcCmdCreate m => Sys2Proof.Machine.execSlcCmdCreate m s
  | .slcCmdReset m => Sys2Proof.Machine.execSlcCmdReset m s
  | .sliceResetComplete slice => Sys2Proof.Machine.execSliceResetComplete slice s
  | .slcCmdRemove m => Sys2Proof.Machine.execSlcCmdRemove m s
  | .slcCmdFreeze m => Sys2Proof.Machine.execSlcCmdFreeze m s
  | .freezeDrainLimit slice => Sys2Proof.Machine.execFreezeDrainLimit slice s
  | .slcCmdThaw m => Sys2Proof.Machine.execSlcCmdThaw m s
  | .slcCmdSave m => Sys2Proof.Machine.execSlcCmdSave m s
  | .slcCmdRestore m image => Sys2Proof.Machine.execSlcCmdRestore m image s
  | .restoreReplMarkReached slice => Sys2Proof.Machine.execRestoreReplMarkReached slice s
  | .slcCmdImageFetch m => Sys2Proof.Machine.execSlcCmdImageFetch m s
  | .slcCmdImageDiscard m => Sys2Proof.Machine.execSlcCmdImageDiscard m s
  | .slcEvents m => Sys2Proof.Machine.execSlcEvents m s
  | .tilCmdOut m => Sys2Proof.Machine.execTilCmdOut m s
  | .tilCmdReturn m => Sys2Proof.Machine.execTilCmdReturn m s
  | .tilCmdReset m => Sys2Proof.Machine.execTilCmdReset m s
  | .hamCmdOut m => Sys2Proof.Machine.execHamCmdOut m s
  | .hamCmdReturn m => Sys2Proof.Machine.execHamCmdReturn m s
  | .hamCmdReset m => Sys2Proof.Machine.execHamCmdReset m s
  | .fulCmdOut m => Sys2Proof.Machine.execFulCmdOut m s
  | .fulCmdReturn m => Sys2Proof.Machine.execFulCmdReturn m s
  | .fulCmdReset m => Sys2Proof.Machine.execFulCmdReset m s
  | .mpgInstall m => Sys2Proof.Machine.execMpgInstall m s
  | .mpgRemove m => Sys2Proof.Machine.execMpgRemove m s
  | .mpgMinSvn m => Sys2Proof.Machine.execMpgMinSvn m s
  | .mpgCmdRollout m => Sys2Proof.Machine.execMpgCmdRollout m s
  | .vltCmdInit m => Sys2Proof.Machine.execVltCmdInit m s
  | .vltCmdRecover m => Sys2Proof.Machine.execVltCmdRecover m s
  | .vltCmdSetHome m => Sys2Proof.Machine.execVltCmdSetHome m s
  | .modCmdQuiesce m => Sys2Proof.Machine.execModCmdQuiesce m s
  | .modCmdResume m => Sys2Proof.Machine.execModCmdResume m s
  | .modCmdZeroise m => Sys2Proof.Machine.execModCmdZeroise m s
  | .modCmdRecoveryDone m => Sys2Proof.Machine.execModCmdRecoveryDone m s
  | .pwrStateCmd m => Sys2Proof.Machine.execPwrStateCmd m s
  | .pwrDomainCmd m => Sys2Proof.Machine.execPwrDomainCmd m s
  | .pwrTileCmd m => Sys2Proof.Machine.execPwrTileCmd m s
  | .domainDrained domain => Sys2Proof.Machine.execDomainDrained domain s
  | .rstCmdWarm m => Sys2Proof.Machine.execRstCmdWarm m s
  | .rstCmdCold m => Sys2Proof.Machine.execRstCmdCold m s
  | .porNAssert => Sys2Proof.Machine.execPorNAssert s
  | .porNRelease => Sys2Proof.Machine.execPorNRelease s
  | .mainPowerApplied => Sys2Proof.Machine.execMainPowerApplied s
  | .coldRstN => Sys2Proof.Machine.execColdRstN s
  | .perstN hostPowerLost => Sys2Proof.Machine.execPerstN hostPowerLost s
  | .pcieHotReset => Sys2Proof.Machine.execPcieHotReset s
  | .pllLock => Sys2Proof.Machine.execPllLock s
  | .bootComplete b => Sys2Proof.Machine.execBootComplete b s
  | .backupCellInserted => Sys2Proof.Machine.execBackupCellInserted s
  | .backupCellRemoved => Sys2Proof.Machine.execBackupCellRemoved s
  | .backupReset => Sys2Proof.Machine.execBackupReset s
  | .railBelowWarning rail millivolts => Sys2Proof.Machine.execRailBelowWarning rail millivolts s
  | .railWarning1ms rail millivolts => Sys2Proof.Machine.execRailWarning1ms rail millivolts s
  | .railRecover rail millivolts => Sys2Proof.Machine.execRailRecover rail millivolts s
  | .excursionWindowEnd => Sys2Proof.Machine.execExcursionWindowEnd s
  | .railOverVoltage rail millivolts => Sys2Proof.Machine.execRailOverVoltage rail millivolts s
  | .railBelowReset rail millivolts => Sys2Proof.Machine.execRailBelowReset rail millivolts s
  | .clockMonitorWindow clock countPermille => Sys2Proof.Machine.execClockMonitorWindow clock countPermille s
  | .clockShortCycle clock => Sys2Proof.Machine.execClockShortCycle clock s
  | .rcCrystalCheck countPermille => Sys2Proof.Machine.execRcCrystalCheck countPermille s
  | .temperatureSample sensor eighths => Sys2Proof.Machine.execTemperatureSample sensor eighths s
  | .tileGlitch tile sensor code => Sys2Proof.Machine.execTileGlitch tile sensor code s
  | .shieldPatternChange mismatch => Sys2Proof.Machine.execShieldPatternChange mismatch s
  | .enclosureSample meshMismatch switchLevels => Sys2Proof.Machine.execEnclosureSample meshMismatch switchLevels s
  | .vbatLowWarning millivolts => Sys2Proof.Machine.execVbatLowWarning millivolts s
  | .vbatOverVoltage millivolts => Sys2Proof.Machine.execVbatOverVoltage millivolts s
  | .backupCrystalStopped => Sys2Proof.Machine.execBackupCrystalStopped s
  | .backupTemperatureLow eighths => Sys2Proof.Machine.execBackupTemperatureLow eighths s
  | .monitorBistTick backupDomain => Sys2Proof.Machine.execMonitorBistTick backupDomain s
  | .monitorTestWindowEnd pathBTripped => Sys2Proof.Machine.execMonitorTestWindowEnd pathBTripped s
  | .pathDisagreement source => Sys2Proof.Machine.execPathDisagreement source s
  | .tmpCmdBist m => Sys2Proof.Machine.execTmpCmdBist m s
  | .tmpCmdAck m => Sys2Proof.Machine.execTmpCmdAck m s
  | .tmpCmdTamperClear m => Sys2Proof.Machine.execTmpCmdTamperClear m s
  | .tmpClass m => Sys2Proof.Machine.execTmpClass m s
  | .tmpMeshEnable m => Sys2Proof.Machine.execTmpMeshEnable m s
  | .tmpSwitchEnable m => Sys2Proof.Machine.execTmpSwitchEnable m s
  | .tmpA4Scrap m => Sys2Proof.Machine.execTmpA4Scrap m s
  | .lcyCmdPrepare m => Sys2Proof.Machine.execLcyCmdPrepare m s
  | .lcyWipesDone => Sys2Proof.Machine.execLcyWipesDone s
  | .lcyPrepareExpire => Sys2Proof.Machine.execLcyPrepareExpire s
  | .lcyCmdBurn m => Sys2Proof.Machine.execLcyCmdBurn m s
  | .otpBitDone marginal => Sys2Proof.Machine.execOtpBitDone marginal s
  | .lcyCmdDbgKeyBurn m => Sys2Proof.Machine.execLcyCmdDbgKeyBurn m s
  | .lcyCmdDbgKeyRevoke m => Sys2Proof.Machine.execLcyCmdDbgKeyRevoke m s
  | .dbgCmdNonce m => Sys2Proof.Machine.execDbgCmdNonce m s
  | .dbgCmdApply m => Sys2Proof.Machine.execDbgCmdApply m s
  | .dbgCmdEnd m => Sys2Proof.Machine.execDbgCmdEnd m s
  | .debugRightsExpiry => Sys2Proof.Machine.execDebugRightsExpiry s
  | .jtagIdcode tdi => Sys2Proof.Machine.execJtagIdcode tdi s
  | .jtagBypass tdi => Sys2Proof.Machine.execJtagBypass tdi s
  | .jtagLcStatus tdi => Sys2Proof.Machine.execJtagLcStatus tdi s
  | .attCmdQuote m => Sys2Proof.Machine.execAttCmdQuote m s
  | .fwCmdStageBegin m => Sys2Proof.Machine.execFwCmdStageBegin m s
  | .fwStageData m => Sys2Proof.Machine.execFwStageData m s
  | .fwCmdStageEnd m => Sys2Proof.Machine.execFwCmdStageEnd m s
  | .fwCmdActivate m => Sys2Proof.Machine.execFwCmdActivate m s
  | .fwCmdConfirm m => Sys2Proof.Machine.execFwCmdConfirm m s
  | .fwCmdCancel m => Sys2Proof.Machine.execFwCmdCancel m s
  | .fwCmdCommitSvn m => Sys2Proof.Machine.execFwCmdCommitSvn m s
  | .fwRecover m => Sys2Proof.Machine.execFwRecover m s
  | .hello h => Sys2Proof.Machine.execHello h s
  | .finish h => Sys2Proof.Machine.execFinish h s
  | .close session => Sys2Proof.Machine.execClose session s
  | .handshakeTimeout session => Sys2Proof.Machine.execHandshakeTimeout session s
  | .sessionIdleTimeout session => Sys2Proof.Machine.execSessionIdleTimeout session s
  | .confirm m => Sys2Proof.Machine.execConfirm m s
  | .dualTicketLapse ticket => Sys2Proof.Machine.execDualTicketLapse ticket s
  | .echo m => Sys2Proof.Machine.execEcho m s
  | .peer session p => Sys2Proof.Machine.execPeer session p s
  | .getVersion src body => Sys2Proof.Machine.execGetVersion src body s
  | .getCapabilities src body => Sys2Proof.Machine.execGetCapabilities src body s
  | .negotiateAlgorithms src body => Sys2Proof.Machine.execNegotiateAlgorithms src body s
  | .getDigests src body => Sys2Proof.Machine.execGetDigests src body s
  | .getCertificate src body => Sys2Proof.Machine.execGetCertificate src body s
  | .challenge src body => Sys2Proof.Machine.execChallenge src body s
  | .getMeasurements src body => Sys2Proof.Machine.execGetMeasurements src body s
  | .spdmUnsupportedRequest src body => Sys2Proof.Machine.execSpdmUnsupportedRequest src body s
  | .scgCmdClose m => Sys2Proof.Machine.execScgCmdClose m s
  | .scgAnchors m => Sys2Proof.Machine.execScgAnchors m s
  | .netCmdApply m => Sys2Proof.Machine.execNetCmdApply m s
  | .prpSupervisionTick => Sys2Proof.Machine.execPrpSupervisionTick s
  | .reassemblyTimeout key => Sys2Proof.Machine.execReassemblyTimeout key s
  | .ptpSync p => Sys2Proof.Machine.execPtpSync p s
  | .descriptorReadComplete qp rd => Sys2Proof.Machine.execDescriptorReadComplete qp rd s
  | .atsTranslationCompletion pasid page ok => Sys2Proof.Machine.execAtsTranslationCompletion pasid page ok s
  | .coldRstNRelease => Sys2Proof.Machine.execColdRstNRelease s
  | .perstNRelease => Sys2Proof.Machine.execPerstNRelease s
  | .keyRegisterRefreshDone unit => Sys2Proof.Machine.execKeyRegisterRefreshDone unit s
  | .probeEnd tile => Sys2Proof.Machine.execProbeEnd tile s
  | .engineCheckpoint unit => Sys2Proof.Machine.execEngineCheckpoint unit s
  | .engineUncorrectableWord unit inKeyRegister rereadOk => Sys2Proof.Machine.execEngineUncorrectableWord unit inKeyRegister rereadOk s
  | .domainRampDone domain => Sys2Proof.Machine.execDomainRampDone domain s
  | .jtagDebugAccess a => Sys2Proof.Machine.execJtagDebugAccess a s
  | .reply h => Sys2Proof.Machine.execReply h s
  | .accept h => Sys2Proof.Machine.execAccept h s
  | .icmpEchoRequest fr => Sys2Proof.Machine.execIcmpEchoRequest fr s
  | .neighborDiscovery fr => Sys2Proof.Machine.execNeighborDiscovery fr s
  | .arpRequest fr => Sys2Proof.Machine.execArpRequest fr s
  | .datagramDiscard fr => Sys2Proof.Machine.execDatagramDiscard fr s

end Sys2Proof.Machine
end

