-- ==== Sys2Proof/Machine/Idle.lean ====
section
/-! DEFINITION. What passes when no command waits (assumption log 2): one tick of device time while the main PLL is locked (R492),
and with it 128 of the 390,625 parts of a backup stamp tick (R436). -/

namespace Sys2Proof.Machine

/-- Advance the stamp by its fraction: it holds at its largest value (R436). (DESIGN CHOICE, assumption log 2) -/
def TimeSt.addFrac (t : TimeSt) (n : Nat) : TimeSt :=
  let f := t.frac + n
  if !t.crystalRuns then t
  else { t with frac := f % 390625, stamp := Nat.min (t.stamp + f / 390625) (2 ^ 48 - 1) }

/-- One tick: device time runs from the main PLL (R492); the stamp runs from the crystal (R436). (DESIGN CHOICE, assumption log 2) (DESIGN CHOICE, assumption log 111) -/
def idle (s : State) : State :=
  { s with dev := s.dev.onTime (fun t => (if t.pllLocked then { t with dev := (t.dev + 1) % 2 ^ 64 } else t).addFrac 128) |>.onModes ModeSt.newTick }

end Sys2Proof.Machine
end

