-- ==== Sys2Proof/Machine/Pins.lean ====
section
/-! DEFINITION. The levels of the output pins in each condition of the device (R12, R439, R440, R557). -/

namespace Sys2Proof.Machine

/-- What the device does with an output ball (R557): drives it low or high, or leaves it to the board resistor of R544. -/
inductive PinLevel where
  | low | high | released
  deriving DecidableEq, Repr

/-- Main power is present, POR_N is high and boot has reached step 6 without halting: the pins other than READY and TAMPER_OUT are live (R557). -/
def Dev.pinsLive (d : Dev) : Bool :=
  d.power.mainPower && d.power.porN && !d.boot.halted && (d.modes.mode != .boot || d.boot.recoveryWait || decide (d.boot.step ≥ 6))

/-- READY (R12, R557, R558): driven whenever main power is present, high in SERVICE and PARTIAL alone. -/
def Dev.readyPin (d : Dev) : PinLevel :=
  if !d.power.mainPower then .released else if d.power.porN && d.ready then .high else .low

/-- ALARM_N (R439, R557): open drain. -/
def Dev.alarmPin (d : Dev) : PinLevel := if d.pinsLive && d.alarmN then .low else .released

/-- TAMPER_OUT (R440, R557): driven from the backup domain, so only OFF leaves it released. (DESIGN CHOICE, assumption log 56) -/
def Dev.tamperPin (d : Dev) : PinLevel :=
  if !d.power.mainPower && !d.power.cell then .released else if d.backup.tamperOut then .high else .low

/-- The PCIe port trains or has its link (R547, R552, R557): the device is live and PERST_N is high. -/
def Dev.pcieLive (d : Dev) : Bool := d.pinsLive && d.power.perstN

/-- The management ports show a link: from step 7 of boot, and not in recovery wait as far as Scega goes (R557). -/
def Dev.portsLive (d : Dev) : Bool := d.pinsLive && (d.modes.mode != .boot || decide (d.boot.step ≥ 7))

end Sys2Proof.Machine
end

