-- ==== Sys2Proof/WellFormed.lean ====
section
/-! DEFINITION. Which commands are well formed: the part they name is one the device has. -/

namespace Sys2Proof

/-- The kinds of part that a command may name by number. -/
inductive Part where
  | tile | unit | doorbellPage | vector | queuePair | slice | noiseSource | drbg | monitor | domain | rail | supply | clock | sensor
  deriving DecidableEq, Repr

/-- How many of a kind there are (R9, R26, R57, R21, R389, R332, R340, R381, R483, R415, R419, R421). Domains count from 1, and 0 names none. -/
def Part.count : Part → Nat
  | .tile => 128 | .unit => 176 | .doorbellPage => 4096 | .vector => 8192 | .queuePair => 65536 | .slice => 4096 | .noiseSource => 8 | .drbg => 17
  | .monitor => 1373 | .domain => 21 | .rail => 7 | .supply => 8 | .clock => 6 | .sensor => 20

/-- The part a command names, and its number. -/
def Instr.part (c : Instr) : Option (Part × Nat) :=
  match c with
  | .sqDoorbell n _ _ => some (.doorbellPage, n)
  | .cqRelease n _ _ => some (.doorbellPage, n)
  | .mbControlGo _ _ _ => none
  | .barStrayWrite _ => none
  | .msixUnmask v => some (.vector, v.getD 0)
  | .qpEnable _ => none
  | .qpDisable _ => none
  | .qpDestroy _ => none
  | .qpIrqLevel _ => none
  | .parameterWrite _ _ _ => none
  | .recordPublish n => some (.queuePair, n)
  | .queueFault n _ _ => some (.queuePair, n)
  | .priResponse _ _ => none
  | .atsInvalidation _ _ _ => none
  | .assignmentPass => none
  | .epochBoundary => none
  | .cacheMissDone _ _ => none
  | .keyLoadDone n => some (.unit, n)
  | .resultFinished _ => none
  | .releaseHoldExpire _ => none
  | .probationComplete n => some (.unit, n)
  | .returnStepDone n _ => some (.unit, n)
  | .scrubDone n => some (.unit, n)
  | .patrolScrub n _ => some (.unit, n)
  | .sparkSeedRequest n => some (.unit, n)
  | .sparkSeedArrive n => some (.unit, n)
  | .sparkSeedSwitch n => some (.unit, n)
  | .abortCheckpointTimeout n => some (.tile, n)
  | .cycleCeilingExceeded n => some (.tile, n)
  | .lvWakeDone n => some (.tile, n)
  | .vecAutogateIdle n => some (.tile, n)
  | .illegalInstruction n _ => some (.tile, n)
  | .sadd n _ => some (.tile, n)
  | .ssub n _ => some (.tile, n)
  | .sand n _ => some (.tile, n)
  | .sor n _ => some (.tile, n)
  | .sxor n _ => some (.tile, n)
  | .ssll n _ => some (.tile, n)
  | .ssrl n _ => some (.tile, n)
  | .ssra n _ => some (.tile, n)
  | .smul n _ => some (.tile, n)
  | .ssltu n _ => some (.tile, n)
  | .saddi n _ => some (.tile, n)
  | .sandi n _ => some (.tile, n)
  | .sslli n _ => some (.tile, n)
  | .ssrli n _ => some (.tile, n)
  | .slih n _ => some (.tile, n)
  | .sld n _ _ => some (.tile, n)
  | .sst n _ => some (.tile, n)
  | .beq n _ => some (.tile, n)
  | .bne n _ => some (.tile, n)
  | .blt n _ => some (.tile, n)
  | .bge n _ => some (.tile, n)
  | .bltu n _ => some (.tile, n)
  | .bgeu n _ => some (.tile, n)
  | .jal n _ => some (.tile, n)
  | .jr n _ => some (.tile, n)
  | .vadd n _ _ => some (.tile, n)
  | .vsub n _ _ => some (.tile, n)
  | .vand n _ _ => some (.tile, n)
  | .vor n _ _ => some (.tile, n)
  | .vxor n _ _ => some (.tile, n)
  | .vnot n _ _ => some (.tile, n)
  | .vsll n _ _ => some (.tile, n)
  | .vsrl n _ _ => some (.tile, n)
  | .vsra n _ _ => some (.tile, n)
  | .vmul n _ _ => some (.tile, n)
  | .vseq n _ _ => some (.tile, n)
  | .vsltu n _ _ => some (.tile, n)
  | .vmadd n _ _ => some (.tile, n)
  | .vmsub n _ _ => some (.tile, n)
  | .vmneg n _ _ => some (.tile, n)
  | .vmmul n _ _ => some (.tile, n)
  | .vmmac n _ _ => some (.tile, n)
  | .vmred n _ _ => some (.tile, n)
  | .vmcent n _ _ => some (.tile, n)
  | .vmp2r n _ _ => some (.tile, n)
  | .vmhigh n _ _ => some (.tile, n)
  | .bflyCt n _ => some (.tile, n)
  | .bflyGs n _ => some (.tile, n)
  | .vmv n _ => some (.tile, n)
  | .vslideup n _ => some (.tile, n)
  | .vslidedn n _ => some (.tile, n)
  | .vziplo n _ => some (.tile, n)
  | .vziphi n _ => some (.tile, n)
  | .vunzipe n _ => some (.tile, n)
  | .vunzipo n _ => some (.tile, n)
  | .vrevb n _ => some (.tile, n)
  | .vbcast n _ => some (.tile, n)
  | .vmvsx n _ => some (.tile, n)
  | .vmvxs n _ => some (.tile, n)
  | .vredadd n _ => some (.tile, n)
  | .vclmull n _ => some (.tile, n)
  | .vclmulh n _ => some (.tile, n)
  | .vgfmul n _ => some (.tile, n)
  | .vgfsq n _ => some (.tile, n)
  | .vgfinv n _ => some (.tile, n)
  | .vgfmac n _ => some (.tile, n)
  | .vpopc n _ => some (.tile, n)
  | .vld n _ _ => some (.tile, n)
  | .vlds2 n _ _ => some (.tile, n)
  | .vlds3 n _ _ => some (.tile, n)
  | .vlds4 n _ _ => some (.tile, n)
  | .vldst n _ _ => some (.tile, n)
  | .vldx n _ _ => some (.tile, n)
  | .vst n _ => some (.tile, n)
  | .vsts2 n _ => some (.tile, n)
  | .vsts3 n _ => some (.tile, n)
  | .vsts4 n _ => some (.tile, n)
  | .vstst n _ => some (.tile, n)
  | .vstx n _ => some (.tile, n)
  | .lvAdd n _ => some (.tile, n)
  | .lvSub n _ => some (.tile, n)
  | .lvXor n _ => some (.tile, n)
  | .lvAnd n _ => some (.tile, n)
  | .lvMadd n _ => some (.tile, n)
  | .lvMsub n _ => some (.tile, n)
  | .lvMmul n _ => some (.tile, n)
  | .lvMmac n _ => some (.tile, n)
  | .lvCopy n _ => some (.tile, n)
  | .lvBflyCt n _ => some (.tile, n)
  | .lvBflyGs n _ => some (.tile, n)
  | .lvBcm n _ => some (.tile, n)
  | .lvBcmac n _ => some (.tile, n)
  | .lvClmul n _ => some (.tile, n)
  | .kld n _ _ => some (.tile, n)
  | .kabs n _ => some (.tile, n)
  | .ksh2 n _ => some (.tile, n)
  | .klv n _ _ => some (.tile, n)
  | .kcInit n _ => some (.tile, n)
  | .kcAbs n _ => some (.tile, n)
  | .kcAbsm n _ => some (.tile, n)
  | .kcFin n _ => some (.tile, n)
  | .kcSqz n _ => some (.tile, n)
  | .kcSqzm n _ => some (.tile, n)
  | .kcPerm n _ => some (.tile, n)
  | .sh2Init n _ => some (.tile, n)
  | .sh2Absm n _ => some (.tile, n)
  | .sh2Fin n _ => some (.tile, n)
  | .sh2Out n _ => some (.tile, n)
  | .smpUni12 n _ => some (.tile, n)
  | .smpUni23 n _ => some (.tile, n)
  | .smpCbd n _ => some (.tile, n)
  | .smpEta n _ => some (.tile, n)
  | .smpBall n _ => some (.tile, n)
  | .smpGauss n _ => some (.tile, n)
  | .gA2b n _ => some (.tile, n)
  | .gB2a n _ => some (.tile, n)
  | .gAnd n _ => some (.tile, n)
  | .gMul n _ => some (.tile, n)
  | .gGfmul n _ => some (.tile, n)
  | .gRefresh n _ => some (.tile, n)
  | .gCmpeq n _ => some (.tile, n)
  | .gRandr n _ => some (.tile, n)
  | .gCompress n _ => some (.tile, n)
  | .gDecomp n _ => some (.tile, n)
  | .gInrange n _ => some (.tile, n)
  | .gSel n _ => some (.tile, n)
  | .gUnmask n _ => some (.tile, n)
  | .xin n _ => some (.tile, n)
  | .xout n _ => some (.tile, n)
  | .xpub n _ => some (.tile, n)
  | .nop n _ => some (.tile, n)
  | .vsetvl n _ => some (.tile, n)
  | .vsetvli n _ => some (.tile, n)
  | .vsettype n _ => some (.tile, n)
  | .csrr n _ => some (.tile, n)
  | .csrw n _ => some (.tile, n)
  | .mset n _ => some (.tile, n)
  | .msetgf n _ => some (.tile, n)
  | .chkpt n _ => some (.tile, n)
  | .tileDone n _ => some (.tile, n)
  | .reject n _ => some (.tile, n)
  | .fault n _ => some (.tile, n)
  | .mlKemKeygen _ => none
  | .mlKemEncaps _ => none
  | .mlKemDecaps _ => none
  | .mlKemCheckEk _ => none
  | .mlDsaKeygen _ => none
  | .mlDsaSign _ => none
  | .mlDsaVerify _ => none
  | .fnDsaKeygen _ => none
  | .fnDsaSign _ => none
  | .fnDsaVerify _ => none
  | .hybridKemEncaps _ => none
  | .hybridKemDecaps _ => none
  | .hybridSign _ => none
  | .hybridVerify _ => none
  | .slhDsaKeygen _ => none
  | .slhDsaSign _ => none
  | .slhDsaVerify _ => none
  | .lmsHssKeygen _ => none
  | .lmsHssSign _ => none
  | .lmsHssVerify _ => none
  | .lmsHssQuery _ => none
  | .xmssKeygen _ => none
  | .xmssSign _ => none
  | .xmssVerify _ => none
  | .xmssQuery _ => none
  | .hqcKeygen _ => none
  | .hqcEncaps _ => none
  | .hqcDecaps _ => none
  | .hqcCheckEk _ => none
  | .classicMcelieceKeygen _ => none
  | .classicMcelieceEncaps _ => none
  | .classicMcelieceDecaps _ => none
  | .place _ => none
  | .evict _ => none
  | .rsaKeygen _ => none
  | .rsaPrivate _ => none
  | .rsaPublic _ => none
  | .rsassaPssSign _ => none
  | .rsassaPssVerify _ => none
  | .rsassaPkcs1V15Sign _ => none
  | .rsassaPkcs1V15Verify _ => none
  | .rsaesOaepDecrypt _ => none
  | .rsaesOaepEncrypt _ => none
  | .ecdsaKeygen _ => none
  | .ecdsaSign _ => none
  | .ecdsaVerify _ => none
  | .ecdsaCheckPk _ => none
  | .loadCurve _ => none
  | .unloadCurve _ => none
  | .eddsaKeygen _ => none
  | .eddsaSign _ => none
  | .eddsaVerify _ => none
  | .ecdhXdhKeygen _ => none
  | .derive _ => none
  | .ephemeral _ => none
  | .ecdhXdhCheckPk _ => none
  | .aesEcbEncrypt _ => none
  | .aesEcbDecrypt _ => none
  | .aesCbcEncrypt _ => none
  | .aesCbcDecrypt _ => none
  | .aesCtrEncrypt _ => none
  | .aesCtrDecrypt _ => none
  | .aesGcmEncrypt _ => none
  | .aesGcmDecrypt _ => none
  | .aesCcmEncrypt _ => none
  | .aesCcmDecrypt _ => none
  | .aesXtsEncrypt _ => none
  | .aesXtsDecrypt _ => none
  | .aesKwWrap _ => none
  | .aesKwUnwrap _ => none
  | .aesKwpWrap _ => none
  | .aesKwpUnwrap _ => none
  | .aesCmacGenerate _ => none
  | .aesCmacVerify _ => none
  | .tdesEcbEncrypt _ => none
  | .tdesEcbDecrypt _ => none
  | .tdesCbcEncrypt _ => none
  | .tdesCbcDecrypt _ => none
  | .macAlgorithm3Generate _ => none
  | .macAlgorithm3Verify _ => none
  | .hash _ => none
  | .hmacGenerate _ => none
  | .hmacVerify _ => none
  | .kmacGenerate _ => none
  | .kmacVerify _ => none
  | .hkdf _ => none
  | .sp800108Kdf _ => none
  | .pinTranslate _ => none
  | .dukptDerive _ => none
  | .kbExport _ => none
  | .kbImport _ => none
  | .generate _ => none
  | .wrapExport _ => none
  | .unwrapImport _ => none
  | .destroy _ => none
  | .revokeChildren _ => none
  | .restrict _ => none
  | .query _ => none
  | .seqQuery _ => none
  | .softwarePortGenerate _ => none
  | .integratorMicroprogram _ => none
  | .invalidationAck _ => none
  | .journalCommitDone _ => none
  | .reclaimTask => none
  | .journalCompaction => none
  | .temperPassStart => none
  | .sourceStartupTestEnd n _ => some (.noiseSource, n)
  | .bellowsKatDone _ => none
  | .conditioningWindowEnd n _ _ => some (.noiseSource, n)
  | .adaptiveProportionWindowEnd n _ => some (.noiseSource, n)
  | .drbgBlockRequest n => some (.drbg, n)
  | .drbgReseedDue n => some (.drbg, n)
  | .drbgAgeLimit n => some (.drbg, n)
  | .drbgDrawDone _ => none
  | .shortageDeadlineExpiry _ => none
  | .blwCmdSourceRetest _ => none
  | .retestDone _ _ => none
  | .blwRawCapture _ => none
  | .probeRun n => some (.tile, n)
  | .idleProbeStart n => some (.tile, n)
  | .probeSampleCommit n _ => some (.tile, n)
  | .quenchWindowEnd n => some (.tile, n)
  | .welchStatisticDone n _ => some (.tile, n)
  | .qncFloor _ => none
  | .qncCeiling _ => none
  | .qncDutyExp _ => none
  | .qncMode _ => none
  | .railSampleTick n _ => some (.supply, n)
  | .reseedAgeSample => none
  | .monWindowExpire n => some (.monitor, n)
  | .monCmdArm _ => none
  | .monCmdSnap _ => none
  | .monCmdSnapRange _ => none
  | .monBase _ => none
  | .monWidthExp _ => none
  | .monBinmode _ => none
  | .monChSource _ => none
  | .monChFilter _ => none
  | .monChOwner _ => none
  | .slcCmdCreate _ => none
  | .slcCmdReset _ => none
  | .sliceResetComplete n => some (.slice, n)
  | .slcCmdRemove _ => none
  | .slcCmdFreeze _ => none
  | .freezeDrainLimit n => some (.slice, n)
  | .slcCmdThaw _ => none
  | .slcCmdSave _ => none
  | .slcCmdRestore _ _ => none
  | .restoreReplMarkReached n => some (.slice, n)
  | .slcCmdImageFetch _ => none
  | .slcCmdImageDiscard _ => none
  | .slcEvents _ => none
  | .tilCmdOut _ => none
  | .tilCmdReturn _ => none
  | .tilCmdReset _ => none
  | .hamCmdOut _ => none
  | .hamCmdReturn _ => none
  | .hamCmdReset _ => none
  | .fulCmdOut _ => none
  | .fulCmdReturn _ => none
  | .fulCmdReset _ => none
  | .mpgInstall _ => none
  | .mpgRemove _ => none
  | .mpgMinSvn _ => none
  | .mpgCmdRollout _ => none
  | .vltCmdInit _ => none
  | .vltCmdRecover _ => none
  | .vltCmdSetHome _ => none
  | .modCmdQuiesce _ => none
  | .modCmdResume _ => none
  | .modCmdZeroise _ => none
  | .modCmdRecoveryDone _ => none
  | .pwrStateCmd _ => none
  | .pwrDomainCmd _ => none
  | .pwrTileCmd _ => none
  | .domainDrained n => some (.domain, n)
  | .rstCmdWarm _ => none
  | .rstCmdCold _ => none
  | .porNAssert => none
  | .porNRelease => none
  | .mainPowerApplied => none
  | .coldRstN => none
  | .perstN _ => none
  | .pcieHotReset => none
  | .pllLock => none
  | .bootComplete _ => none
  | .backupCellInserted => none
  | .backupCellRemoved => none
  | .backupReset => none
  | .railBelowWarning n _ => some (.rail, n)
  | .railWarning1ms n _ => some (.rail, n)
  | .railRecover n _ => some (.rail, n)
  | .excursionWindowEnd => none
  | .railOverVoltage n _ => some (.rail, n)
  | .railBelowReset n _ => some (.rail, n)
  | .clockMonitorWindow n _ => some (.clock, n)
  | .clockShortCycle n => some (.clock, n)
  | .rcCrystalCheck _ => none
  | .temperatureSample n _ => some (.sensor, n)
  | .tileGlitch n _ _ => some (.tile, n)
  | .shieldPatternChange _ => none
  | .enclosureSample _ _ => none
  | .vbatLowWarning _ => none
  | .vbatOverVoltage _ => none
  | .backupCrystalStopped => none
  | .backupTemperatureLow _ => none
  | .monitorBistTick _ => none
  | .monitorTestWindowEnd _ => none
  | .pathDisagreement _ => none
  | .tmpCmdBist _ => none
  | .tmpCmdAck _ => none
  | .tmpCmdTamperClear _ => none
  | .tmpClass _ => none
  | .tmpMeshEnable _ => none
  | .tmpSwitchEnable _ => none
  | .tmpA4Scrap _ => none
  | .lcyCmdPrepare _ => none
  | .lcyWipesDone => none
  | .lcyPrepareExpire => none
  | .lcyCmdBurn _ => none
  | .otpBitDone _ => none
  | .lcyCmdDbgKeyBurn _ => none
  | .lcyCmdDbgKeyRevoke _ => none
  | .dbgCmdNonce _ => none
  | .dbgCmdApply _ => none
  | .dbgCmdEnd _ => none
  | .debugRightsExpiry => none
  | .jtagIdcode _ => none
  | .jtagBypass _ => none
  | .jtagLcStatus _ => none
  | .attCmdQuote _ => none
  | .fwCmdStageBegin _ => none
  | .fwStageData _ => none
  | .fwCmdStageEnd _ => none
  | .fwCmdActivate _ => none
  | .fwCmdConfirm _ => none
  | .fwCmdCancel _ => none
  | .fwCmdCommitSvn _ => none
  | .fwRecover _ => none
  | .hello _ => none
  | .finish _ => none
  | .close _ => none
  | .handshakeTimeout _ => none
  | .sessionIdleTimeout _ => none
  | .confirm _ => none
  | .dualTicketLapse _ => none
  | .echo _ => none
  | .peer _ _ => none
  | .getVersion _ _ => none
  | .getCapabilities _ _ => none
  | .negotiateAlgorithms _ _ => none
  | .getDigests _ _ => none
  | .getCertificate _ _ => none
  | .challenge _ _ => none
  | .getMeasurements _ _ => none
  | .spdmUnsupportedRequest _ _ => none
  | .scgCmdClose _ => none
  | .scgAnchors _ => none
  | .netCmdApply _ => none
  | .prpSupervisionTick => none
  | .reassemblyTimeout _ => none
  | .ptpSync _ => none
  | .descriptorReadComplete n _ => some (.queuePair, n)
  | .atsTranslationCompletion _ _ _ => none
  | .coldRstNRelease => none
  | .perstNRelease => none
  | .keyRegisterRefreshDone n => some (.unit, n)
  | .probeEnd n => some (.tile, n)
  | .engineCheckpoint n => some (.unit, n)
  | .engineUncorrectableWord n _ _ => some (.unit, n)
  | .domainRampDone n => some (.domain, n)
  | .jtagDebugAccess _ => none
  | .reply _ => none
  | .accept _ => none
  | .icmpEchoRequest _ => none
  | .neighborDiscovery _ => none
  | .arpRequest _ => none
  | .datagramDiscard _ => none

/-- The command names no part, or one that the device has. -/
def Instr.wellFormed (c : Instr) : Bool := match c.part with | none => true | some (p, n) => decide (n < p.count)

end Sys2Proof
end

