-- ==== Sys2Proof/Safety.lean ====
section
/-! DEFINITION. What the statements speak of: how a tile instruction retires or faults, when a management request reaches its effect, and what
counts as a safe state. -/

namespace Sys2Proof.Machine

/-- The state with another device, the queue kept. -/
def State.withDev (s : State) (d : Dev) : State := { s with dev := d }

/-! ### Tiles -/

/-- The tile exists and issues its next instruction: none waits in line for the long-vector unit or for spark randomness, the tile does not scrub, and its operation has not
passed its ceiling (R110, R111, R164, R167, R170). (DESIGN CHOICE, assumption log 84) -/
def State.tileReady (s : State) (t : Nat) : Prop := t < nTiles ∧ s.dev.issues t = true

/-- The next instruction in line: PC has 16 bits (R125, R126). -/
def TileSt.done (y : TileSt) : TileSt := { y with pc := (y.pc + 4) % 65536, vstart := 0 }

/-- The words that an instruction reads are good, or the check corrects them: TIL_CE_COUNT counts those (R99, R100). -/
def State.reads (s : State) (t : Nat) (w : WordCheck) : State := { s with dev := s.dev.countCorrected t (correctedWords w) }

/-- An instruction of a tile has completed (R111, R171): the tile holds `y`, its cycle counts and the outputs of its spark generator have grown,
and one index of free values is used. At quench level 1 and above decoy noise draws in every cycle. (DESIGN CHOICE, assumption log 86) -/
def State.retire (s : State) (t : Nat) (y : TileSt) (cycles spark : Nat) : State :=
  let d := s.dev.fresh.2.onTile t (fun _ => { y with cycles := y.cycles + cycles, sinceChkpt := y.sinceChkpt + cycles })
  let n := if s.dev.level t ≥ 1 then Nat.max cycles spark else spark
  { s with dev := d.onUnit t (fun u => { u with spark := { u.spark with count := u.spark.count + n } }) }

/-- An instruction has ended its operation (R163, R165): with a status of class 0x08, or 0x0104. -/
def State.programFault (s : State) (t word : Nat) (y : TileSt) (status : Nat) : State :=
  { s with dev := (s.dev.fresh.2).tileEnd t word (.stop y status) }

/-- An instruction that draws from a spark generator without a seed waits for it, and the stall is counted once (R111). -/
def State.sparkStall (s : State) (t word : Nat) (w : WordCheck) : State :=
  { s with dev := (s.dev.onTile t (fun y => { y with sparkWaiting := some (word, w) })).stallOn t }

/-- The status of the first check that fails, in the order of R166. (DEDUCED, assumption log 90) -/
def firstFault (checks : List (Bool × Nat)) : Option Nat := (checks.find? (fun c => c.1)).map Prod.snd

/-- The outcome of an instruction under its checks in the order of R166: the first that holds decides; past them it completes, unless it draws spark randomness where there
is none. -/
def State.tileOutcome (s : State) (t word : Nat) (w : WordCheck) (checks : List (Bool × Nat)) (y : TileSt) (cycles spark : Nat) : State :=
  match firstFault checks with
  | some st => (s.reads t w).programFault t word (s.dev.tile t) st
  | none => if 0 < spark ∧ s.dev.sparkOut t = true then s.sparkStall t word w else (s.reads t w).retire t y.done cycles spark

/-- An instruction ends its operation with this status, whatever else holds. -/
def State.fails (s : State) (t word : Nat) (w : WordCheck) (status : Nat) : State := (s.reads t w).programFault t word (s.dev.tile t) status

/-- An instruction completes, unless it draws spark randomness where there is none. -/
def State.completes (s : State) (t word : Nat) (w : WordCheck) (y : TileSt) (cycles spark : Nat) : State := s.tileOutcome t word w [] y cycles spark

/-- The same of an instruction on elements VSTART to VL − 1: where there are none, it changes nothing and takes one cycle (R130). -/
def State.vectorOutcome (s : State) (t word : Nat) (w : WordCheck) (checks : List (Bool × Nat)) (y : TileSt) (cycles spark : Nat) : State :=
  let o := s.dev.tile t
  if o.vstart < o.vl then s.tileOutcome t word w checks y cycles spark else s.tileOutcome t word w checks o 1 0

/-- The long-vector unit of the tile has just been used (R168). -/
def State.lvUsed (s : State) (t : Nat) : State := { s with dev := s.dev.onTile t (fun y => { y with lvSince := s.dev.now }) }

/-! ### Management -/

/-- A request reaches the effect of its command (R507, R513, R514, R517, R518): it is heard, not a repetition, on a row of the parameter, by a sender
that may, and without dual control. -/
def Dev.granted (d : Dev) (p : Param) (m : Msg) : Bool :=
  d.heard m.src && (d.repeated m.src m.reqId.toNat).isNone && (!d.alone d.lc m.src || p == P.scgAnchors) &&
  match catFind p with
  | none => false
  | some r => (r.rowOk m.row.toNat || r.kind == .cmd) &&
    match d.mayDo d.lc m.src p (r.index m.row.toNat) true m.body with
    | none => false
    | some dual => !dual || d.alone d.lc m.src

/-- The device holds `d` and has answered the request. -/
def State.answered (s : State) (d : Dev) (m : Msg) (r : Reply) : Host.Outcome State Fault Refusal := .next (s.withDev (d.respondTo m.src m.reqId.toNat r))

/-- The parameters to which dual control may apply (R514, R518). -/
def dualControlled (p : Param) : Bool := dualByValue p || (match catFind p with | some r => r.officer == .dual | none => false)

/-- CONFIRM `k` brings the second officer's consent to the ticket `t` (R507, R514). -/
def Dev.confirms (d : Dev) (k : Msg) (t : Ticket) : Bool :=
  d.heard k.src && (d.repeated k.src k.reqId.toNat).isNone && !d.alone d.lc k.src && k.body.length == 52 && k.body.drop 4 == t.digest &&
  decide (d.mgmt.tickets.find? (fun x => x.number == leAt 0 4 k.body && d.now ≤ x.requested + 60 * ticksPerS) = some t) &&
  match k.src with
  | .session n => (match tabGet? n d.mgmt.sessions with
    | some x => !x.peer && x.role == roleOfficer && d.principalOf t.origin != x.principal
    | none => false)
  | _ => false

/-- The device that the action of a confirmed ticket meets: the ticket is gone, and the outcome will go to its originator too. -/
def Dev.confirmed (d : Dev) (k : Msg) (t : Ticket) : Dev :=
  d.onMgmt (fun g => { g with tickets := g.tickets.filter (fun x => x.number != t.number)
                              awaiting := g.awaiting ++ [{ src := k.src, reqId := k.reqId.toNat, origin := t.origin, ticket := t.number }] })

/-- Granted, and under `pre`, the command ends as `post` says; and so does the CONFIRM of its ticket, where dual control applies to it (R514): the
action runs on the state as it then is. -/
def Runs (c : Msg → Instr) (p : Param) (pre : Dev → Msg → Prop) (post : State → Dev → Msg → Host.Outcome State Fault Refusal) : Prop :=
  (∀ (s : State) (m : Msg), s.dev.granted p m = true → pre s.dev m → exec (c m) s = post s s.dev m) ∧
  (∀ (s : State) (k : Msg) (t : Ticket), dualControlled p = true → s.dev.confirms k t = true → t.param = p → t.offset = 0 →
    let d := s.dev.confirmed k t
    let m := { t.msg with src := k.src, reqId := k.reqId }
    pre d m → exec (.confirm k) s = post s d m)

/-- The command leaves the device as `post` has it and answers OK. -/
def Accepts (c : Msg → Instr) (p : Param) (pre : Dev → Msg → Prop) (post : Dev → Msg → Dev) : Prop :=
  Runs c p pre (fun s d m => s.answered (post d m) m Reply.ok)

/-- The command answers with data, and leaves the device as `post` has it. -/
def Returns (c : Msg → Instr) (p : Param) (pre : Dev → Msg → Prop) (data : Dev → Msg → Bytes) (post : Dev → Msg → Dev) : Prop :=
  Runs c p pre (fun s d m => s.answered (post d m) m (Reply.data' (data d m)))

/-- The command is taken without an answer of its own yet; its record has come over the session (R508). -/
def Defers (c : Msg → Instr) (p : Param) (pre : Dev → Msg → Prop) (post : Dev → Msg → Dev) : Prop :=
  Runs c p pre (fun s d m => .next (s.withDev ((post d m).hears m.src)))

/-- The command is refused with this result and changes nothing else. -/
def Refuses (c : Msg → Instr) (p : Param) (pre : Dev → Msg → Prop) (r : Reply) : Prop :=
  Runs c p pre (fun s d m => s.answered d m r)

/-- A row that is a WRITE of one parameter at OFFSET 0, with its parameter; PARAMETER_WRITE apart. -/
def WriteRow (p : Param) (c : Msg → Instr) : Prop :=
  (p, c) ∈
  [(P.mpgMinSvn, .mpgMinSvn), (P.monBase, .monBase), (P.monWidthExp, .monWidthExp), (P.monBinmode, .monBinmode), (P.monChSource, .monChSource),
   (P.monChFilter, .monChFilter), (P.monChOwner, .monChOwner), (P.qncFloor, .qncFloor), (P.qncCeiling, .qncCeiling),
   (P.qncDutyExp, .qncDutyExp), (P.qncMode, .qncMode), (P.qpIrqLevel, .qpIrqLevel), (P.scgAnchors, .scgAnchors), (P.tmpClass, .tmpClass),
   (P.tmpMeshEnable, .tmpMeshEnable), (P.tmpSwitchEnable, .tmpSwitchEnable), (P.tmpA4Scrap, .tmpA4Scrap)]

/-- A row that is a command on one parameter, or brings its OFFSET in its message, with its parameter; SLC_CMD_RESTORE apart. -/
def CommandRow (p : Param) (c : Msg → Instr) : Prop :=
  (p, c) ∈
  [(P.blwCmdSourceRetest, .blwCmdSourceRetest), (P.blwRawCapture, .blwRawCapture), (P.attCmdQuote, .attCmdQuote),
   (P.fwCmdStageBegin, .fwCmdStageBegin), (P.fwStageData, .fwStageData), (P.fwCmdStageEnd, .fwCmdStageEnd), (P.fwCmdActivate, .fwCmdActivate),
   (P.fwCmdConfirm, .fwCmdConfirm), (P.fwCmdCancel, .fwCmdCancel), (P.fwCmdCommitSvn, .fwCmdCommitSvn), (P.dbgCmdApply, .dbgCmdApply),
   (P.vltCmdInit, .vltCmdInit), (P.vltCmdRecover, .vltCmdRecover), (P.vltCmdSetHome, .vltCmdSetHome), (P.lcyCmdPrepare, .lcyCmdPrepare),
   (P.lcyCmdBurn, .lcyCmdBurn), (P.lcyCmdDbgKeyBurn, .lcyCmdDbgKeyBurn), (P.lcyCmdDbgKeyRevoke, .lcyCmdDbgKeyRevoke),
   (P.dbgCmdNonce, .dbgCmdNonce), (P.dbgCmdEnd, .dbgCmdEnd), (P.mpgInstall, .mpgInstall), (P.mpgRemove, .mpgRemove),
   (P.mpgCmdRollout, .mpgCmdRollout), (P.monCmdArm, .monCmdArm), (P.monCmdSnap, .monCmdSnap), (P.monCmdSnapRange, .monCmdSnapRange),
   (P.modCmdQuiesce, .modCmdQuiesce), (P.modCmdResume, .modCmdResume), (P.modCmdZeroise, .modCmdZeroise),
   (P.modCmdRecoveryDone, .modCmdRecoveryDone), (P.pwrStateCmd, .pwrStateCmd), (P.pwrDomainCmd, .pwrDomainCmd), (P.pwrTileCmd, .pwrTileCmd),
   (P.rstCmdWarm, .rstCmdWarm), (P.rstCmdCold, .rstCmdCold), (P.fwRecover, .fwRecover), (P.qpEnable, .qpEnable), (P.qpDisable, .qpDisable),
   (P.qpDestroy, .qpDestroy), (P.scgCmdClose, .scgCmdClose), (P.netCmdApply, .netCmdApply), (P.slcCmdCreate, .slcCmdCreate),
   (P.slcCmdReset, .slcCmdReset), (P.slcCmdRemove, .slcCmdRemove), (P.slcCmdFreeze, .slcCmdFreeze), (P.slcCmdThaw, .slcCmdThaw),
   (P.slcCmdSave, .slcCmdSave), (P.slcCmdImageFetch, .slcCmdImageFetch), (P.slcCmdImageDiscard, .slcCmdImageDiscard),
   (P.tmpCmdBist, .tmpCmdBist), (P.tmpCmdAck, .tmpCmdAck), (P.tmpCmdTamperClear, .tmpCmdTamperClear), (P.tilCmdOut, .tilCmdOut),
   (P.tilCmdReturn, .tilCmdReturn), (P.tilCmdReset, .tilCmdReset), (P.hamCmdOut, .hamCmdOut), (P.hamCmdReturn, .hamCmdReturn),
   (P.hamCmdReset, .hamCmdReset), (P.fulCmdOut, .fulCmdOut), (P.fulCmdReturn, .fulCmdReturn), (P.fulCmdReset, .fulCmdReset)]

/-- The command leaves the device as `d`, and everything else as it was. -/
def State.goes (s : State) (c : Instr) (d : Dev) : Prop := exec c s = .next (s.withDev d)

/-! ### Computations -/

/-- The job's computation is under way on its unit: its request is there, it has begun, is not finished, and no abort is pending. -/
def Dev.computing (d : Dev) (j : Nat) (x : Job) (q : Request) : Prop :=
  d.job? j = some x ∧ d.req? x.req = some q ∧ x.begun.isSome = true ∧ x.finished = false ∧ x.abort = none

/-- What a computation needs of the unit's spark generator is there (R111, R250): it draws nothing, or the generator delivers. -/
def Dev.sparkReady (d : Dev) (q : Request) (x : Job) : Prop := d.drawsSpark q x = false ∨ d.sparkOut x.unit = false

/-- The result stands in the unit's staging area and in its job, and the computation has stopped (R90, R117). -/
def Dev.staged (d : Dev) (j : Nat) (x : Job) (r : JobResult) : Dev :=
  (if x.unit < nUnits then d.onUnit x.unit (fun y => { y with staging := r.output }) else d).onJob j
    (fun y => { y with result := some r, stop := some d.now, finished := true })

/-- The computation has ended with a result (R90, R114, R116, R117, R205): it is staged, with the finding of the unit's own check where the operation has one that
can find a fault of the unit, a free choice; the tile or engine holds the values of the trace `l`; the spark generator has delivered what was drawn, and what the memory of the
unit holds the model does not follow; a tile whose program failed is scrubbed, and a symmetric engine whose decryption failed (R286). (DESIGN CHOICE, assumption log 31) -/
def Dev.computed (d : Dev) (j : Nat) (x : Job) (q : Request) (r : JobResult) (l : Trace) : Dev :=
  let n := d.freeCtr
  let e := d.fresh.2.staged j x { r with mismatch := r.mismatch || (d.checksUnit q && Config.freeBool n) }
  let e := if x.unit < 160 then e.holdWork x.unit n x.order l else e
  let e := if x.unit < nUnits then (e.sparkDraw x.unit (e.runDraws q x n)).usedMemory x.unit else e
  if (x.unit < nTiles ∧ r.status / 256 = 8) ∨ (160 ≤ x.unit ∧ r.status = 0x0170) then e.scrub x.unit else e

/-- A row computes the requests whose opcode `op` takes by `f`, its values those of `g`; where a stalled spark generator holds it up, one stall is noted. -/
def ComputesWith (c : Nat → Instr) (op : Nat → Bool) (f : Dev → Request → Job → JobResult) (g : Dev → Request → Job → Trace) : Prop :=
  ∀ (s : State) (j : Nat) (x : Job) (q : Request), s.dev.computing j x q → op q.desc.opcode = true →
    (s.dev.sparkReady q x → s.goes (c j) (s.dev.computed j x q (f s.dev.fresh.2 q x) (g s.dev.fresh.2 q x))) ∧
    (¬ s.dev.sparkReady q x → s.goes (c j) (s.dev.stallOn x.unit))

/-- The same, where the manual follows no value of the computation. -/
def Computes (c : Nat → Instr) (op : Nat → Bool) (f : Dev → Request → Job → JobResult) : Prop := ComputesWith c op f (fun _ _ _ => [])

/-- The update that a request of the vault journals (R314). -/
def vaultUpdate (n : Nat) (q : Request) (parent : Nat) (k : UpdateKind) (old : Nat) (acked : Bool) : Update :=
  { req := some n, slice := q.slice, seq := q.updateSeq, opcode := q.desc.opcode, parent := parent, kind := k, parentGen := old, acked := acked, status := 0,
    output := [], ticket := none }

end Sys2Proof.Machine
end

