-- ==== Sys2Proof/Certificates/Slice0/Obligations.lean ====
section
/-! DEFINITION. The statements of this model for the provers: one `def Obligations.<Name> : Prop` for each entry of OBLIGATIONS.json. -/

open Sys2Proof Sys2Proof.Machine

/-- R140: the ten register instructions and the five immediate ones write s[D] modulo 2^64, take one cycle, and change nothing else; a shift immediate
with a bit of [15:6] set and a SLIH lane field with a bit of [4:2] set are illegal. R140, R147, R165: SLD and SST access 8 aligned bytes below the end
of tile memory, little-endian; a misaligned address is fault 0x0803 and one past the end fault 0x0802. A byte outside the 8 stored reads as before. -/
def Obligations.ScalarInstructions : Prop :=
  (
  ∀ (s : State) (t : Nat) (ws : WordCheck) (f : VFields) (g : IFields), s.tileReady t → ws.all wordGood = true →
    let y := s.dev.tile t
    let a := y.sget f.a
    let b := y.sget f.b
    let put (v : Nat) := Host.Outcome.next (σ := State) (φ := Fault) (ρ := Refusal) ((s.reads t ws).retire t (y.sset f.d v).done 1 0)
    let n := g.imm.toNat
    let iput (word : Nat) (bad : Bool) (v : Nat) :=
      Host.Outcome.next (σ := State) (φ := Fault) (ρ := Refusal) (s.tileOutcome t word ws [(bad, 0x0801)] (y.sset g.d v) 1 0)
    exec (.sadd t ⟨f, ws⟩) s = put (a + b) ∧ exec (.ssub t ⟨f, ws⟩) s = put (a + (2 ^ 64 - b)) ∧ exec (.sand t ⟨f, ws⟩) s = put (a &&& b) ∧
    exec (.sor t ⟨f, ws⟩) s = put (a ||| b) ∧ exec (.sxor t ⟨f, ws⟩) s = put (a ^^^ b) ∧ exec (.ssll t ⟨f, ws⟩) s = put (a * 2 ^ (b % 64)) ∧
    exec (.ssrl t ⟨f, ws⟩) s = put (a / 2 ^ (b % 64)) ∧ exec (.ssra t ⟨f, ws⟩) s = put (int64 (signed64 a / 2 ^ (b % 64))) ∧
    exec (.smul t ⟨f, ws⟩) s = put (a * b) ∧ exec (.ssltu t ⟨f, ws⟩) s = put (if a < b then 1 else 0) ∧
    exec (.saddi t ⟨g, ws⟩) s = iput 0 false (y.sget g.a + (g.imm.signExtend 64).toNat) ∧
    exec (.sandi t ⟨g, ws⟩) s = iput 0 false (y.sget g.a &&& (g.imm.signExtend 64).toNat) ∧
    exec (.sslli t ⟨g, ws⟩) s = iput (iWord 0x04 g) (decide (n ≥ 64)) (y.sget g.a * 2 ^ n) ∧
    exec (.ssrli t ⟨g, ws⟩) s = iput (iWord 0x05 g) (decide (n ≥ 64)) (y.sget g.a / 2 ^ n) ∧
    exec (.slih t ⟨g, ws⟩) s = iput (iWord 0x06 g) (decide (g.a.toNat ≥ 4))
      (y.sget g.d - y.sget g.d / 2 ^ (16 * (g.a.toNat % 4)) % 2 ^ 16 * 2 ^ (16 * (g.a.toNat % 4)) + n * 2 ^ (16 * (g.a.toNat % 4)))) ∧
  (
  ∀ (s : State) (t : Nat) (ws : WordCheck) (f : IFields), s.tileReady t → ws.all wordGood = true →
    let y := s.dev.tile t
    let at' := (y.sget f.a + (f.imm.signExtend 64).toNat) % 2 ^ 64
    let checks := [(decide (at' % 8 ≠ 0), 0x0803), (decide (at' + 8 > 0x40000), 0x0802)]
    exec (.sld t f ws) s = .next (s.tileOutcome t (iWord 0x0A f) ws checks (y.sset f.d (leNat (y.mem.read at' 8))) 1 0) ∧
    exec (.sst t ⟨f, ws⟩) s = .next (s.tileOutcome t (iWord 0x0B f) ws checks { y with mem := y.mem.write at' (natLE 8 (y.sget f.d)) } 1 0) ∧
    (∀ a, a < at' ∨ at' + 8 ≤ a → (y.mem.write at' (natLE 8 (y.sget f.d))).byte a = y.mem.byte a) ∧
    (∀ i < 8, (y.mem.write at' (natLE 8 (y.sget f.d))).byte (at' + i) = BitVec.ofNat 8 (y.sget f.d / 256 ^ i)))

/-- R141: a conditional branch compares s[A] with s[B]; taken, it goes to PC + 4 × OFF in two cycles, else on to the next word in one. JAL keeps PC + 4 in
s31; JR takes its target from s[A] and is illegal with D, B or PB set. A target outside the code or not 4-byte aligned is fault 0x080B. R125: s0 reads
0 and discards writes; every other scalar register holds what was last written, modulo 2^64, and a write changes nothing else of the tile. -/
def Obligations.BranchesAndScalarZero : Prop :=
  (
  ∀ (s : State) (t : Nat) (ws : WordCheck) (f : BFields) (off : BitVec 26) (g : VFields), s.tileReady t → ws.all wordGood = true →
    let y := s.dev.tile t
    let a := y.sget f.a
    let b := y.sget f.b
    let n : Int := (s.dev.tileCtx t).codeLen
    let jump (word : Nat) (pre : List (Bool × Nat)) (z : TileSt) (x : Int) : Host.Outcome State Fault Refusal :=
      .next (match firstFault (pre ++ [(decide (x < 0) || decide (x ≥ n) || decide (x % 4 ≠ 0), 0x080B)]) with
        | some st => s.fails t word ws st
        | none => (s.reads t ws).retire t { z with pc := x.toNat, vstart := 0 } 2 0)
    let br (word : Nat) (p : Bool) := if p then jump word [] y ((y.pc : Int) + 4 * f.off.toInt) else .next ((s.reads t ws).retire t y.done 1 0)
    exec (.beq t ⟨f, ws⟩) s = br (bWord 0x10 f) (decide (a = b)) ∧ exec (.bne t ⟨f, ws⟩) s = br (bWord 0x11 f) (decide (a ≠ b)) ∧
    exec (.blt t ⟨f, ws⟩) s = br (bWord 0x12 f) (decide (signed64 a < signed64 b)) ∧ exec (.bge t ⟨f, ws⟩) s = br (bWord 0x13 f) (decide (signed64 b ≤ signed64 a)) ∧
    exec (.bltu t ⟨f, ws⟩) s = br (bWord 0x14 f) (decide (a < b)) ∧ exec (.bgeu t ⟨f, ws⟩) s = br (bWord 0x15 f) (decide (b ≤ a)) ∧
    exec (.jal t ⟨off, ws⟩) s = jump (0x16 * 2 ^ 26 + off.toNat) [] (y.sset 31 (y.pc + 4)) ((y.pc : Int) + 4 * off.toInt) ∧
    exec (.jr t ⟨g, ws⟩) s = jump (vWord 0x17 0 g) [(decide (g.d ≠ 0) || decide (g.b ≠ 0) || g.pb, 0x0801)] y (y.sget g.a)) ∧
  (
  ∀ (y : TileSt) (r q : BitVec 5) (v : Nat),
    (y.sset r v).sget q = (if q = 0 then 0 else if q = r then v % 2 ^ 64 else y.sget q) ∧ (r = 0 → y.sset r v = y) ∧
    (∃ l, y.sset r v = { y with s := l }))

/-- R130, R135: a vector destination takes its new elements from VSTART to VL − 1 in every plane of the operation; in public mode planes 1 to ORDER become
0 there. Every other element, register and plane stays. R147 to R149: after a load each element of a destination register in a plane holds the
little-endian bytes at its address, k × LVSS above the address of plane 0 (0 in planes above 0 in public mode); memory stays. A store leaves every
byte outside the stored elements as it was. -/
def Obligations.VectorElements : Prop :=
  (
  ∀ (y : TileSt) (c : TileCtx) (r : Nat) (g : Nat → Nat → Nat) (p q i : Nat), i < 64 / y.ebytes →
    (y.vput c r g).elem p q i =
      (if q = r ∧ p ≤ c.order ∧ y.vstart ≤ i ∧ i < y.vl then (if y.shr && decide (0 < p) then 0 else g p i % 2 ^ y.ew) else y.elem p q i) ∧
    (∃ l, y.vput c r g = { y with v := l })) ∧
  (
  ∀ (y : TileSt) (c : TileCtx) (sub : Nat) (f : MFields) (i j p : Nat), f.sp = false → f.d.toNat + subFields sub - 1 ≤ 31 →
    y.vstart ≤ i → i < y.vl → i < 64 / y.ebytes → j < subFields sub → p ≤ c.order →
    (y.vload c sub f).elem p (f.d.toNat + j) i =
      (if y.shr && decide (0 < p) then 0 else leNat (y.mem.read (y.vaddr sub f i j + p * y.lvss) y.ebytes)) ∧
    (y.vload c sub f).mem = y.mem ∧
    (∀ a, (∀ i' ∈ y.indices, ∀ j' < subFields sub, ∀ p' ∈ y.planes c, a < y.vaddr sub f i' j' + p' * y.lvss ∨ y.vaddr sub f i' j' + p' * y.lvss + y.ebytes ≤ a) →
      (y.vstore c sub f).mem.byte a = y.mem.byte a))

/-- R136, R142: the vector integer instructions, plane by plane. A public B (of s[B], or marked PB) enters VADD, VSUB and VXOR in plane 0 alone and the
others in every plane; a masked B is illegal for VAND, VOR, the shifts and VMUL, the compares are public only, VNOT takes no B and inverts plane 0.
LONG must be 0 (fault 0x0804). With VSTART at or above VL they change nothing and take one cycle (R130). -/
def Obligations.VectorInteger : Prop :=
  ∀ (s : State) (t : Nat) (ws : WordCheck) (vs : Bool) (f : VFields), s.tileReady t → ws.all wordGood = true →
    let y := s.dev.tile t
    let c := s.dev.tileCtx t
    let m := 2 ^ y.ew
    let pub := vs || f.pb
    let a (p i : Nat) := y.elem p f.a.toNat i
    let b (p i : Nat) := if vs then y.sget f.b % m else y.elem p f.b.toNat i
    let ends (func : Nat) (illegal : Bool) (g : Nat → Nat → Nat) : Host.Outcome State Fault Refusal :=
      .next (s.vectorOutcome t (vWord (if vs then 0x19 else 0x18) func f) ws [(illegal, 0x0801), (y.long, 0x0804)]
        (y.vput c f.d.toNat (fun p i => g p i % m)) 1 0)
    let linear (h : Nat → Nat → Nat) (p i : Nat) := if !y.shr && pub then (if p = 0 then h (a p i) (b 0 i) else a p i) else h (a p i) (b p i)
    let mskB := !y.shr && !pub
    exec (.vadd t vs ⟨f, ws⟩) s = ends 0 false (linear (fun a b => a + b)) ∧
    exec (.vsub t vs ⟨f, ws⟩) s = ends 1 false (linear (fun a b => a + (m - b))) ∧
    exec (.vand t vs ⟨f, ws⟩) s = ends 2 mskB (fun p i => a p i &&& b 0 i) ∧
    exec (.vxor t vs ⟨f, ws⟩) s = ends 4 false (linear (fun a b => a ^^^ b)) ∧
    exec (.vsll t vs ⟨f, ws⟩) s = ends 6 mskB (fun p i => a p i * 2 ^ (b 0 i % y.ew)) ∧
    exec (.vsrl t vs ⟨f, ws⟩) s = ends 7 mskB (fun p i => a p i / 2 ^ (b 0 i % y.ew)) ∧
    exec (.vsra t vs ⟨f, ws⟩) s = ends 8 mskB (fun p i =>
      a p i / 2 ^ (b 0 i % y.ew) + (if (a p i).testBit (y.ew - 1) then m - 2 ^ (y.ew - b 0 i % y.ew) else 0)) ∧
    exec (.vmul t vs ⟨f, ws⟩) s = ends 9 mskB (fun p i => a p i * b 0 i) ∧
    exec (.vseq t vs ⟨f, ws⟩) s = ends 10 (!y.shr) (fun p i => if a p i = b 0 i then m - 1 else 0) ∧
    exec (.vsltu t vs ⟨f, ws⟩) s = ends 11 (!y.shr) (fun p i => if a p i < b 0 i then m - 1 else 0) ∧
    exec (.vor t vs ⟨f, ws⟩) s = .next (s.vectorOutcome t (vWord (if vs then 0x19 else 0x18) 3 f) ws [(mskB, 0x0801), (y.long, 0x0804)]
      (y.vput c f.d.toNat (fun p i => if y.shr then a p i ||| b 0 i else (a p i &&& (m - 1 - b 0 i)) ^^^ (if p = 0 then b 0 i else 0))) 1 0) ∧
    exec (.vnot t vs ⟨f, ws⟩) s = .next (s.vectorOutcome t (vWord (if vs then 0x19 else 0x18) 5 f) ws [(decide (f.b ≠ 0), 0x0801), (y.long, 0x0804)]
      (y.vput c f.d.toNat (fun p i => if p = 0 then m - 1 - a 0 i else a p i)) 1 0)

/-- R134, R136, R143: the modular instructions reduce modulo the q of m[MSEL] and write canonical residues; VMMAC adds to the destination. They need EW 16
or 32 (fault 0x0804) and a prime-field modulus, below 2^15 at EW 16 (fault 0x0805). A parameter out of its range is fault 0x0804, ahead of the modulus
(R166): t outside 1 to 22 of VMP2R, of VMHIGH a 2γ2 that is 0 or odd, or no divisor of q − 1 where there is a q. R134, R146: carry-less products at
every width, GF(2^m) arithmetic under a KIND 1 modulus at EW 16 and 32 (faults 0x0804, 0x0805), plane by plane where the operation is linear; VGFINV
and VPOPC are public only. -/
def Obligations.VectorModularAndField : Prop :=
  (
  ∀ (s : State) (t : Nat) (ws : WordCheck) (vs : Bool) (f : VFields), s.tileReady t → ws.all wordGood = true →
    let y := s.dev.tile t
    let c := s.dev.tileCtx t
    let q := y.msel.value
    let pub := vs || f.pb
    let a (p i : Nat) := y.elem p f.a.toNat i
    let b (p i : Nat) := if vs then y.sget f.b % 2 ^ y.ew else y.elem p f.b.toNat i
    let prime := [(decide (q = 0) || decide (y.msel.kind ≠ 0) || (decide (y.ew = 16) && decide (q ≥ 2 ^ 15)), 0x0805)]
    let ends (func : Nat) (illegal bad : Bool) (g : Nat → Nat → Nat) : Host.Outcome State Fault Refusal :=
      .next (s.vectorOutcome t (vWord (if vs then 0x1B else 0x1A) func f) ws
        ([(illegal, 0x0801), (y.long, 0x0804), (decide (y.ew ≠ 16) && decide (y.ew ≠ 32), 0x0804),
          (bad, 0x0804)] ++ prime)
        (y.vput c f.d.toNat (fun p i => g p i % 2 ^ y.ew)) 1 0)
    let linear (h : Nat → Nat → Nat) (p i : Nat) := if !y.shr && pub then (if p = 0 then h (a p i) (b 0 i) else a p i) else h (a p i) (b p i)
    let mskB := !y.shr && !pub
    let some' (h : Nat → Bool) := y.indices.any (fun i => h (b 0 i))
    exec (.vmadd t vs ⟨f, ws⟩) s = ends 0 false false (linear (fun a b => (a + b) % q)) ∧
    exec (.vmsub t vs ⟨f, ws⟩) s = ends 1 false false (linear (fun a b => (a % q + (q - b % q)) % q)) ∧
    exec (.vmneg t vs ⟨f, ws⟩) s = ends 2 (decide (f.b ≠ 0)) false (fun p i => (0 % q + (q - a p i % q)) % q) ∧
    exec (.vmmul t vs ⟨f, ws⟩) s = ends 3 mskB false (fun p i => a p i * b 0 i % q) ∧
    exec (.vmred t vs ⟨f, ws⟩) s = ends 5 (decide (f.b ≠ 0)) false (fun p i => a p i % q) ∧
    exec (.vmp2r t vs ⟨f, ws⟩) s = ends 7 (!y.shr) (some' (fun x => decide (x < 1) || decide (x > 22))) (fun p i => (a p i % q + 2 ^ (b 0 i - 1) - 1) / 2 ^ b 0 i) ∧
    exec (.vmhigh t vs ⟨f, ws⟩) s = ends 8 (!y.shr) (some' (fun x => decide (x = 0) || decide (x % 2 = 1) || (decide (y.msel.kind = 0) && decide (q ≠ 0) && decide ((q - 1) % x ≠ 0))))
      (fun p i => highBits q (b 0 i) (a p i % q)) ∧
    exec (.vmmac t vs ⟨f, ws⟩) s = .next (s.vectorOutcome t (vWord (if vs then 0x1B else 0x1A) 4 f) ws
      ([(mskB, 0x0801), (y.long, 0x0804), (decide (y.ew ≠ 16) && decide (y.ew ≠ 32), 0x0804)] ++ prime)
      (y.vput c f.d.toNat (fun p i => (y.elem p f.d.toNat i + a p i * b 0 i) % q)) 1 0) ∧
    exec (.vmcent t vs ⟨f, ws⟩) s = .next (s.vectorOutcome t (vWord (if vs then 0x1B else 0x1A) 6 f) ws
      ([(!y.shr, 0x0801), (y.long, 0x0804), (decide (y.ew ≠ 16) && decide (y.ew ≠ 32), 0x0804)] ++ prime)
      (y.vput c f.d.toNat (fun p i => if a p i % q > (q - 1) / 2 then 2 ^ y.ew + a p i % q - q else a p i % q)) 1 0)) ∧
  (
  ∀ (s : State) (t : Nat) (ws : WordCheck) (f : VFields), s.tileReady t → ws.all wordGood = true →
    let y := s.dev.tile t
    let c := s.dev.tileCtx t
    let a (p i : Nat) := y.elem p f.a.toNat i
    let b (i : Nat) := y.elem 0 f.b.toNat i
    let ends (func : Nat) (checks : List (Bool × Nat)) (cyc : Nat) (g : Nat → Nat → Nat) : Host.Outcome State Fault Refusal :=
      .next (s.vectorOutcome t (vWord 0x1E func f) ws checks (y.vput c f.d.toNat g) cyc 0)
    let short := (y.long, 0x0804)
    let mskB := (!y.shr && !f.pb, 0x0801)
    let wide := (decide (y.ew ≠ 16) && decide (y.ew ≠ 32), 0x0804)
    let gf := (decide (y.msel.value = 0) || decide (y.msel.kind ≠ 1), 0x0805)
    exec (.vclmull t ⟨f, ws⟩) s = ends 0 [mskB, short] 1 (fun p i => clmul (b i) y.ew (a p i) % 2 ^ y.ew) ∧
    exec (.vclmulh t ⟨f, ws⟩) s = ends 1 [mskB, short] 1 (fun p i => clmul (b i) y.ew (a p i) / 2 ^ y.ew % 2 ^ y.ew) ∧
    exec (.vgfmul t ⟨f, ws⟩) s = ends 2 [mskB, short, wide, gf] 1 (fun p i => gfMul y.msel (a p i) (b i)) ∧
    exec (.vgfsq t ⟨f, ws⟩) s = ends 3 [(decide (f.b ≠ 0), 0x0801), short, wide, gf] 1 (fun p i => gfMul y.msel (a p i) (a p i)) ∧
    exec (.vgfinv t ⟨f, ws⟩) s = ends 4 [(!y.shr, 0x0801), short, wide, gf] 4 (fun p i => gfInv y.msel (a p i)) ∧
    exec (.vgfmac t ⟨f, ws⟩) s = ends 5 [mskB, short, wide, gf] 1
      (fun p i => (y.elem p f.d.toNat i % 2 ^ (y.msel.value / 2 ^ 16 % 32)) ^^^ gfMul y.msel (a p i) (b i)) ∧
    exec (.vpopc t ⟨f, ws⟩) s = ends 6 [(!y.shr, 0x0801), short] 1 (fun p i => popcount y.ew (a p i)))

/-- R145: moves and permutations, sources read before the destination is written; the zip and unzip forms need an even VL and VREVB a power of two, VREVB,
VMVSX and VMVXS need SHR 1, and an index at or beyond VLMAX is fault 0x0804. VMVXS writes an element at or above VL too (the model's choice,
assumption log 87). R144: the butterflies on register pairs, each input read before either destination is written; D and A even, twiddle indices below
the table's length (fault 0x0808). -/
def Obligations.PermutationsAndButterflies : Prop :=
  (
  ∀ (s : State) (t : Nat) (ws : WordCheck) (f : VFields), s.tileReady t → ws.all wordGood = true →
    let y := s.dev.tile t
    let c := s.dev.tileCtx t
    let n := y.sget f.b
    let a (p i : Nat) := y.elem p f.a.toNat i
    let b (p i : Nat) := y.elem p f.b.toNat i
    let ends (func : Nat) (checks : List (Bool × Nat)) (z : TileSt) : Host.Outcome State Fault Refusal := .next (s.vectorOutcome t (vWord 0x1D func f) ws checks z 1 0)
    let put (g : Nat → Nat → Nat) := y.vput c f.d.toNat g
    let short := (y.long, 0x0804)
    let odd := (decide (y.vl % 2 = 1), 0x0804)
    let pub := (!y.shr, 0x0801)
    let far := (decide (n ≥ y.vlmax), 0x0804)
    exec (.vmv t ⟨f, ws⟩) s = ends 0 [short] (put a) ∧
    exec (.vslideup t ⟨f, ws⟩) s = ends 1 [short] (put (fun p i => if i ≥ n then a p (i - n) else y.elem p f.d.toNat i)) ∧
    exec (.vslidedn t ⟨f, ws⟩) s = ends 2 [short] (put (fun p i => if i + n < y.vl then a p (i + n) else 0)) ∧
    exec (.vziplo t ⟨f, ws⟩) s = ends 3 [short, odd] (put (fun p i => if i % 2 = 0 then a p (i / 2) else b p (i / 2))) ∧
    exec (.vziphi t ⟨f, ws⟩) s = ends 4 [short, odd] (put (fun p i => if i % 2 = 0 then a p (y.vl / 2 + i / 2) else b p (y.vl / 2 + i / 2))) ∧
    exec (.vunzipe t ⟨f, ws⟩) s = ends 5 [short, odd] (put (fun p i => if i < y.vl / 2 then a p (2 * i) else b p (2 * (i - y.vl / 2)))) ∧
    exec (.vunzipo t ⟨f, ws⟩) s = ends 6 [short, odd] (put (fun p i => if i < y.vl / 2 then a p (2 * i + 1) else b p (2 * (i - y.vl / 2) + 1))) ∧
    exec (.vrevb t ⟨f, ws⟩) s = ends 7 [pub, short, (decide (y.vl < 2) || decide (2 ^ Nat.log2 y.vl ≠ y.vl), 0x0804)]
      (put (fun p i => a p (bitrev (Nat.log2 y.vl) i))) ∧
    exec (.vbcast t ⟨f, ws⟩) s = ends 8 [short, far] (put (fun p _ => a p n)) ∧
    exec (.vmvsx t ⟨f, ws⟩) s = ends 9 [pub, short, far] (y.sset f.d (a 0 n)) ∧
    exec (.vmvxs t ⟨f, ws⟩) s = ends 10 [pub, short, far]
      { ({ y with vstart := n, vl := n + 1 }.vput c f.d.toNat (fun _ _ => y.sget f.a % 2 ^ y.ew)) with vl := y.vl } ∧
    exec (.vredadd t ⟨f, ws⟩) s = ends 11 [short]
      { ({ y with vstart := 0, vl := 1 }.vput c f.d.toNat (fun p _ => (List.range y.vl).foldl (fun x i => x + a p i) 0 % 2 ^ y.ew)) with vl := y.vl }) ∧
  (
  ∀ (s : State) (t : Nat) (ws : WordCheck) (f : TFields) (gs : Bool), s.tileReady t → ws.all wordGood = true →
    let y := s.dev.tile t
    let c := s.dev.tileCtx t
    let q := y.msel.value
    let ix (i : Nat) := y.sget f.b + i / 2 ^ f.rep.toNat
    let w (i : Nat) := (if y.ew = 16 then c.tw (ix i) % 65536 else c.tw (ix i)) % q
    let a (p i : Nat) := y.elem p f.a.toNat i
    let b (p i : Nat) := y.elem p (f.a.toNat + 1) i
    let minus (x z : Nat) := (x % q + (q - z % q)) % q
    let hi (p i : Nat) := if gs then (a p i + b p i) % q else (a p i + w i * (b p i % q) % q) % q
    let lo (p i : Nat) := if gs then w i * minus (a p i) (b p i) % q else minus (a p i) (w i * (b p i % q) % q)
    exec (if gs then .bflyGs t ⟨f, ws⟩ else .bflyCt t ⟨f, ws⟩) s = .next (s.vectorOutcome t (tWord gs f) ws
      [(decide (f.d.toNat % 2 = 1) || decide (f.a.toNat % 2 = 1), 0x0801), (y.long, 0x0804), (decide (y.ew ≠ 16) && decide (y.ew ≠ 32), 0x0804),
       (decide (q = 0) || decide (y.msel.kind ≠ 0) || (decide (y.ew = 16) && decide (q ≥ 2 ^ 15)), 0x0805),
       (y.indices.any (fun i => decide (ix i ≥ c.twLen)), 0x0808)]
      ((y.vput c f.d.toNat hi).vput c (f.d.toNat + 1) lo) 1 0))

/-- R147 to R149, R165, R166: a vector load or store under its checks; at the first element that is misaligned (fault 0x0803) or out of bounds (fault
0x0802) in a field or plane the elements below it are committed and the operation ends; else every element is moved. With VSTART at or above VL
nothing is moved, in one cycle (R130). R100, R102, R166: where an instruction reads an uncorrectable word, the good words before it are counted as
ever. A fault of the instruction that comes no later than the word's element decides. Of tile memory or the key register, the word is read again,
after the vault has reloaded the key; where it is good now, and so is every word after it, the instruction starts again and ends as the whole
instruction does, under a count of recovered words; else, and for a word of the microprogram store or a register file, the operation moves off its
tile. -/
def Obligations.VectorMemoryInstructions : Prop :=
  (
  ∀ (s : State) (t : Nat) (f : MFields) (ws : WordCheck), s.tileReady t → ws.all wordGood = true →
    let y := s.dev.tile t
    let c := s.dev.tileCtx t
    let checks (sub : Nat) :=
      [(decide (sub = 0) && decide (f.b ≠ 0), 0x0801),
       (f.sp && (decide (sub = 0) || decide (sub > 3) || y.shr || decide (subFields sub ≠ c.order + 1)), 0x0801),
       (!f.sp && decide (f.d.toNat + subFields sub - 1 > 31), 0x0801), (y.long, 0x0804), (y.lvssBad c, 0x0804)]
    let ends (major sub : Nat) (act : TileSt → TileCtx → Nat → MFields → TileSt) : Host.Outcome State Fault Refusal :=
      .next (if y.vstart < y.vl then
          match firstFault (checks sub), y.vfirstBad c sub f with
          | some st, _ => s.fails t (mWord major sub f) ws st
          | none, some (i, st) => (s.reads t ws).programFault t (mWord major sub f) { (act { y with vl := i } c sub f) with vl := y.vl } st
          | none, none => (s.reads t ws).retire t (act y c sub f).done (y.vmemCycles c sub) 0
        else s.tileOutcome t (mWord major sub f) ws (checks sub) y 1 0)
    exec (.vld t f ws) s = ends 0x20 0 TileSt.vload ∧ exec (.vlds2 t f ws) s = ends 0x20 1 TileSt.vload ∧
    exec (.vlds3 t f ws) s = ends 0x20 2 TileSt.vload ∧ exec (.vlds4 t f ws) s = ends 0x20 3 TileSt.vload ∧
    exec (.vldst t f ws) s = ends 0x20 4 TileSt.vload ∧ exec (.vldx t f ws) s = ends 0x20 5 TileSt.vload ∧
    exec (.vst t ⟨f, ws⟩) s = ends 0x21 0 TileSt.vstore ∧ exec (.vsts2 t ⟨f, ws⟩) s = ends 0x21 1 TileSt.vstore ∧
    exec (.vsts3 t ⟨f, ws⟩) s = ends 0x21 2 TileSt.vstore ∧ exec (.vsts4 t ⟨f, ws⟩) s = ends 0x21 3 TileSt.vstore ∧
    exec (.vstst t ⟨f, ws⟩) s = ends 0x21 4 TileSt.vstore ∧ exec (.vstx t ⟨f, ws⟩) s = ends 0x21 5 TileSt.vstore) ∧
  (
  ∀ (s : State) (t : Nat) (f : MFields) (g : IFields) (h : VFields) (good rest : WordCheck) (x : WordRead) (load : WordCheck → Instr) (word : Nat) (op : TileOp),
    (load, word, op) ∈ [(Instr.sld t g, iWord 0x0A g, opSld g), (Instr.vld t f, mWord 0x20 0 f, opVload 0 f),
      (Instr.vlds2 t f, mWord 0x20 1 f, opVload 1 f),
      (Instr.vlds3 t f, mWord 0x20 2 f, opVload 2 f), (Instr.vlds4 t f, mWord 0x20 3 f, opVload 3 f), (Instr.vldst t f, mWord 0x20 4 f, opVload 4 f),
      (Instr.vldx t f, mWord 0x20 5 f, opVload 5 f), (Instr.kld t h, vWord 0x24 0 h, opKld h), (fun w => Instr.kabs t ⟨h, w⟩, vWord 0x24 1 h, opKabs h),
      (fun w => Instr.ksh2 t ⟨h, w⟩, vWord 0x24 2 h, opKsh2 h), (Instr.klv t h, vWord 0x24 3 h, opKlv h), (fun w => Instr.kcAbsm t ⟨h, w⟩, vWord 0x28 2 h, opKcAbsm h),
      (fun w => Instr.sh2Absm t ⟨h, w⟩, vWord 0x29 1 h, opSh2Absm h), (fun w => Instr.smpBall t ⟨h, w⟩, vWord 0x2A 4 h, opSmpBall h), (fun w => Instr.xout t ⟨h, w⟩, vWord 0x30 1 h, opXout h)] →
    s.tileReady t → good.all wordGood = true → wordGood x = false →
    let c := s.dev.tileCtx t
    let y := s.dev.tile t
    let d := s.dev.fresh.2.countCorrected t (correctedWords good)
    let lost := d.addNum P.tilUeCount t 1
    let marked := lost.onTile t (fun z => { z with vstart := x.element })
    let keyed := if x.place = .keyRegister then marked.reloadKey t else marked
    let again := (keyed.countCorrected t ((if 0 < x.again then 1 else 0) + correctedWords rest)).onTile t (fun z => { z with vstart := 0 })
    let ends (e : Dev) := exec (load (good ++ x :: rest)) s = .next (s.withDev e)
    let inPlace := x.place = .tileMemory ∨ x.place = .keyRegister
    ¬ (s.dev.sparkOut t = true ∧ (op c y).draws = true) →
    (¬ inPlace → ends (lost.wordLost t)) ∧
    (inPlace → faultFirst word x.element op c y = true → ends (d.tileEnd t word (op c y))) ∧
    (inPlace → faultFirst word x.element op c y = false →
      (x.again ≤ 2 ∧ rest.all wordGood = true → ends ((again.tileEnd t word (op (again.tileCtx t) (again.tile t))).recoveredWord t)) ∧
      (¬ (x.again ≤ 2 ∧ rest.all wordGood = true) → ends (marked.wordLost t))))

/-- R151 to R153: the elementwise long-vector instructions on arrays in tile memory, plane k at k × LVSS, with every source read before the destination is
written. The unit's idle count starts again. -/
def Obligations.LongVectorElementwise : Prop :=
  ∀ (s : State) (t : Nat) (f : LFields) (ws : WordCheck), s.tileReady t → ws.all wordGood = true → (s.dev.tile t).lv = 0 →
    let y := s.dev.tile t
    let c := s.dev.tileCtx t
    let q := y.msel.value
    let m := 2 ^ y.ew
    let n := y.vl * y.ebytes
    let pub := !y.shr && f.pb
    let d (p i : Nat) := y.larr p (y.sget f.d) i
    let a (p i : Nat) := y.larr p (y.sget f.a) i
    let b (p i : Nat) := y.larr (if y.shr || pub then 0 else p) (y.sget f.b) i
    let two : LArrays := { dst := y.sget f.d, dstLen := n, srcs := [(y.sget f.a, n, false), (y.sget f.b, n, pub)], inPlace := true }
    let lin (h : Nat → Nat → Nat) (p i : Nat) := if pub && decide (0 < p) then a p i else h (a p i) (b p i)
    let ends (op : Nat) (illegal modular : Bool) (arr : LArrays) (reads : Nat) (g : Nat → Nat → Nat) : Host.Outcome State Fault Refusal :=
      .next ((s.vectorOutcome t (lWord op f) ws ((illegal, 0x0801) :: longChecks c y modular false arr [])
        ((y.planes c).foldl (fun x p => x.lput p arr.dst ((List.range y.vl).map (g p))) y)
        (y.longCycles c (ceilDiv y.vl 16) (n * reads) (if pub then n else 0) n) 0).lvUsed t)
    let k := if pub then 1 else 2
    let mskB := !y.shr && !f.pb
    exec (.lvAdd t ⟨f, ws⟩) s = ends 0 false false two k (lin (fun a b => (a + b) % m)) ∧
    exec (.lvSub t ⟨f, ws⟩) s = ends 1 false false two k (lin (fun a b => (a + (m - b)) % m)) ∧
    exec (.lvXor t ⟨f, ws⟩) s = ends 2 false false two k (lin (fun a b => (a ^^^ b) % m)) ∧
    exec (.lvAnd t ⟨f, ws⟩) s = ends 3 mskB false two k (fun p i => (a p i &&& b p i) % m) ∧
    exec (.lvMadd t ⟨f, ws⟩) s = ends 4 false true two k (lin (fun a b => (a + b) % q)) ∧
    exec (.lvMsub t ⟨f, ws⟩) s = ends 5 false true two k (lin (fun a b => (a % q + (q - b % q)) % q)) ∧
    exec (.lvMmul t ⟨f, ws⟩) s = ends 6 mskB true two k (fun p i => a p i * b p i % q) ∧
    exec (.lvMmac t ⟨f, ws⟩) s = ends 7 mskB true two (k + 1) (fun p i => (d p i + a p i * b p i) % q) ∧
    exec (.lvCopy t ⟨f, ws⟩) s = ends 8 (decide (f.b ≠ 0)) false { two with srcs := [(y.sget f.a, n, false)] } 1 a

/-- R151: the in-place butterfly layers, base-case multiplication in Z_q[X]/(X² − γ) and the carry-less product of bit strings. -/
def Obligations.LongVectorTransforms : Prop :=
  ∀ (s : State) (t : Nat) (f : LFields) (flag : Bool) (ws : WordCheck), s.tileReady t → ws.all wordGood = true → (s.dev.tile t).lv = 0 →
    let y := s.dev.tile t
    let c := s.dev.tileCtx t
    let q := y.msel.value
    let n := y.vl * y.ebytes
    let pub := !y.shr && f.pb
    let dst := y.sget f.d
    let two : LArrays := { dst := dst, dstLen := n, srcs := [(y.sget f.a, n, false), (y.sget f.b, n, pub)], inPlace := true }
    let ends (op : Nat) (checks : List (Bool × Nat)) (z : TileSt) (cyc : Nat) : Host.Outcome State Fault Refusal :=
      .next ((s.vectorOutcome t (lWord op f) ws checks z cyc 0).lvUsed t)
    let dist := 2 ^ (y.sget f.b % 16)
    let blk (i : Nat) := i / (2 * dist)
    let lo (i : Nat) := blk i * 2 * dist + i % (2 * dist) % dist
    let layer (p i : Nat) :=
      let r := butterfly flag q (y.twiddle c (y.sget f.a + blk i)) (y.larr p dst (lo i)) (y.larr p dst (lo i + dist))
      if i % (2 * dist) < dist then r.1 else r.2
    let a (p i : Nat) := y.larr p (y.sget f.a) i % q
    let b (i : Nat) := y.larr 0 (y.sget f.b) i % q
    let pair (p i : Nat) :=
      if i % 2 = 0 then a p (2 * (i / 2)) * b (2 * (i / 2)) + a p (2 * (i / 2) + 1) * b (2 * (i / 2) + 1) % q * (y.twiddle c (y.twb + i / 2) % q)
      else a p (2 * (i / 2)) * b (2 * (i / 2) + 1) + a p (2 * (i / 2) + 1) * b (2 * (i / 2))
    let k := if pub then 1 else 2
    exec (if flag then .lvBflyGs t ⟨f, ws⟩ else .lvBflyCt t ⟨f, ws⟩) s =
      ends (if flag then 10 else 9)
        (longChecks c y true (decide (y.sget f.b ≥ 16) || decide (y.vl % (2 * dist) ≠ 0)) { dst := dst, dstLen := n, srcs := [(dst, n, false)], inPlace := true }
          ((List.range (y.vl / (2 * dist))).map (fun j => y.sget f.a + j)))
        ((y.planes c).foldl (fun x p => x.lput p dst ((List.range y.vl).map (layer p))) y) (y.longCycles c (ceilDiv y.vl 32) n 0 n) ∧
    exec (if flag then .lvBcmac t ⟨f, ws⟩ else .lvBcm t ⟨f, ws⟩) s =
      ends (if flag then 12 else 11)
        ((!y.shr && !f.pb, 0x0801) :: longChecks c y true (decide (y.vl % 2 = 1)) two ((List.range (y.vl / 2)).map (fun j => y.twb + j)))
        ((y.planes c).foldl (fun x p => x.lput p dst ((List.range y.vl).map (fun i => ((if flag then y.larr p dst i else 0) + pair p i) % q))) y)
        (y.longCycles c (ceilDiv y.vl 8) (n * (k + (if flag then 1 else 0))) (if pub then n else 0) n) ∧
    exec (.lvClmul t ⟨f, ws⟩) s =
      ends 13 ((!y.shr && !f.pb, 0x0801) :: longChecks c y false false { two with dstLen := 2 * n, inPlace := false } [])
        ((y.planes c).foldl (fun x p => x.mwrite (dst + p * y.lvss)
          (natLE (2 * n) (clmul (leNat (y.mread 0 (y.sget f.b) n)) (8 * n) (leNat (y.mread p (y.sget f.a) n))))) y)
        (y.longCycles c (ceilDiv (y.vl * y.ew * (y.vl * y.ew)) 16384) (n * k) (if pub then n else 0) (2 * n))

/-- R167, R168: a long-vector instruction issued to a gated or powered-off unit stalls and wakes it, 64 or 3,200 cycles that count toward R163, and is
counted; LV_WAKE_DONE brings the unit back, and a VEC domain that had been switched off automatically with all the units of its quadrant, and the
stalled instruction proceeds. Under CLOCK and POWER an idle unit is gated; under POWER, once every unit of the quadrant is gated and has idled again,
their domain goes off; under OFF, or while an instruction waits, nothing changes. -/
def Obligations.LongVectorPower : Prop :=
  ∀ (s : State) (t : Nat) (f : LFields) (ws : WordCheck), t < nTiles →
    let y := s.dev.tile t
    let mine := quadTiles (quadOf t)
    let q := 12 + quadOf t
    let idle (u : Nat) : Prop := s.dev.num P.vecIdleCycles 0 ≤ 16 * (s.dev.now - (s.dev.tile u).lvSince)
    (s.dev.issues t = true → y.lv ≠ 0 → ∀ (op : Nat) (i : Met LFields → Instr), (op, i) ∈ [(0, Instr.lvAdd t), (1, .lvSub t), (2, .lvXor t), (3, .lvAnd t), (4, .lvMadd t), (5, .lvMsub t),
        (6, .lvMmul t), (7, .lvMmac t), (8, .lvCopy t), (9, .lvBflyCt t), (10, .lvBflyGs t), (11, .lvBcm t), (12, .lvBcmac t), (13, .lvClmul t)] →
      exec (i ⟨f, ws⟩) s = .next (s.withDev ((s.dev.addNum P.tilLvWakeCount t 1).onTile t (fun z =>
        { z with lv := 3, lvWaiting := some (op, f, ws), sinceChkpt := z.sinceChkpt + (if z.lv = 1 then 64 else if z.lv = 2 then 3200 else 0) })))) ∧
    (s.dev.domain q ≠ .autoOff → s.dev.wakeDomain t = s.dev) ∧
    (s.dev.domain q = .autoOff → (s.dev.wakeDomain t).domain q = .on ∧
      ∀ u, (s.dev.wakeDomain t).tile u = (if u ∈ mine ∧ (s.dev.tile u).lv = 2 then { s.dev.tile u with lv := 1, lvSince := s.dev.now } else s.dev.tile u)) ∧
    (y.lv ≠ 0 →
      let d := (s.dev.wakeDomain t).onTile t (fun z => { z with lv := 0, lvSince := s.dev.now, lvWaiting := none })
      (∀ op, y.lvWaiting = some (op, f, ws) → exec (.lvWakeDone t) s = .next (s.withDev (d.tileRun t (lWord op f) ws (opLong op f)))) ∧
      (y.lvWaiting = none → exec (.lvWakeDone t) s = .next (s.withDev d))) ∧
    (y.lv = 0 → exec (.lvWakeDone t) s = .next s) ∧
    (s.dev.num P.vecAutogate 0 ≠ 0 → y.lvWaiting = none → y.lv = 0 → idle t →
      exec (.vecAutogateIdle t) s = .next (s.withDev (s.dev.onTile t (fun z => { z with lv := 1, lvSince := s.dev.now })))) ∧
    (s.dev.num P.vecAutogate 0 = 2 → y.lvWaiting = none → s.dev.domain q = .on → (∀ u ∈ mine, (s.dev.tile u).lv = 1 ∧ idle u) → idle t → y.lv = 1 →
      exec (.vecAutogateIdle t) s = .next (s.withDev (mine.foldl (fun x u => x.onTile u (fun z => { z with lv := 2, lvSince := s.dev.now }))
        (s.dev.onPower (fun p => { p with domains := tabSet q .autoOff p.domains }))))) ∧
    (y.lv = 1 → (s.dev.num P.vecAutogate 0 = 1 ∨ ∃ u ∈ mine, ¬ idle u) → exec (.vecAutogateIdle t) s = .next s) ∧
    (s.dev.num P.vecAutogate 0 = 0 ∨ y.lvWaiting ≠ none ∨ ¬ idle t → exec (.vecAutogateIdle t) s = .next s)

/-- R126, R161: XIN and XPUB copy bytes of the input or of the bound public object to tile memory, XOUT bytes of plane 0 to the staged output; ranges
outside tile memory are fault 0x0802, ranges outside the source fault 0x0809, and output past OUTCAP ends the operation with 0x0104. R105, R106, R154:
the key-operand instructions deliver share k of the key to plane k; they are illegal with SHR 1, a range beyond KLEN is fault 0x0807, and a key in
arithmetic form needs its modulus register (fault 0x0805). KABS and KSH2 absorb into a masked core that is absorbing, else fault 0x080D. Boolean
shares recombine to the key. -/
def Obligations.StagingAndKeyOperands : Prop :=
  (
  ∀ (s : State) (t : Nat) (f : VFields) (ws : WordCheck), s.tileReady t → ws.all wordGood = true →
    let y := s.dev.tile t
    let c := s.dev.tileCtx t
    let n := y.sget f.b
    let a := y.sget f.a
    let d := y.sget f.d
    let copy (func : Nat) (src : Bytes) : Host.Outcome State Fault Refusal :=
      .next (s.tileOutcome t (vWord 0x30 func f) ws [(decide (n > 0) && decide (d + n > 0x40000), 0x0802), (decide (a + n > src.length), 0x0809)]
        { y with mem := y.mem.write d ((src.drop a).take n) } (16 + ceilDiv n 64) 0)
    exec (.xin t ⟨f, ws⟩) s = copy 0 c.input ∧ exec (.xpub t ⟨f, ws⟩) s = copy 2 c.pub ∧
    exec (.xout t ⟨f, ws⟩) s = .next (s.tileOutcome t (vWord 0x30 1 f) ws
      [(!y.shr && decide (c.order > 0), 0x0801), (decide (n > 0) && decide (a + n > 0x40000), 0x0802), (decide (d + n > c.outCap), 0x0104)]
      { y with staged := overlay d (y.mem.read a n) y.staged } (16 + ceilDiv n 64) 0)) ∧
  (
  ∀ (s : State) (t : Nat) (f : VFields) (ws : WordCheck), s.tileReady t → ws.all wordGood = true →
    let y := s.dev.tile t
    let c := s.dev.tileCtx t
    let n := y.sget f.b
    let data (k : Nat) := c.keyData y (y.sget f.a) k
    let key (k : Nat) := (decide (y.sget f.a + k > c.keyLen), 0x0807)
    let reg := tabGet { kind := 0, value := 0, aux := 0 } c.keyForm y.m
    let form := (decide (c.keyForm < 8) && (decide (reg.kind ≠ 0) || decide (reg.value = 0)), 0x0805)
    let core := [(y.shr || decide (f.d.toNat > 1), 0x0801), form, key n]
    let sha := [(y.shr || decide (f.d ≠ 0), 0x0801), form, key n]
    exec (.kld t f ws) s = .next (s.vectorOutcome t (vWord 0x24 0 f) ws
      [(y.shr || decide (f.b ≠ 0), 0x0801), (y.long, 0x0804), form, key (y.vl * y.ebytes)]
      (y.vput c f.d.toNat (fun p i => leAt (i * y.ebytes) y.ebytes ((data (y.vl * y.ebytes)).getD p []))) 2 0) ∧
    exec (.klv t f ws) s = .next (s.tileOutcome t (vWord 0x24 3 f) ws
      [(y.shr, 0x0801), (y.lvssBad c, 0x0804), form, (y.outOf c (y.sget f.d) n, 0x0802), key n]
      ((y.planes c).foldl (fun z p => z.mwrite (y.sget f.d + p * y.lvss) ((data n).getD p [])) y) (8 + ceilDiv (n * y.active c) 256) 0) ∧
    (firstFault core = none →
      (∀ x, y.core? f.d.toNat = some x → x.squeezing = false → x.masked = true →
        exec (.kabs t ⟨f, ws⟩) s = .next (s.completes t (vWord 0x24 1 f) ws (y.setCore f.d.toNat (x.absorb c (data n) n).1) (2 + 24 * (x.absorb c (data n) n).2)
          (x.draws (x.absorb c (data n) n).2))) ∧
      ((∀ x, y.core? f.d.toNat = some x → x.squeezing = true ∨ x.masked = false) → exec (.kabs t ⟨f, ws⟩) s = .next (s.fails t (vWord 0x24 1 f) ws 0x080D))) ∧
    (firstFault sha = none →
      (∀ x, y.sha2 = some x → x.finished = false → x.masked = true →
        exec (.ksh2 t ⟨f, ws⟩) s = .next (s.completes t (vWord 0x24 2 f) ws { y with sha2 := some (x.absorb c (data n) n).1 }
          (Nat.max 1 (x.cycles (x.absorb c (data n) n).2)) (x.draws (x.absorb c (data n) n).2))) ∧
      ((∀ x, y.sha2 = some x → x.finished = true ∨ x.masked = false) → exec (.ksh2 t ⟨f, ws⟩) s = .next (s.fails t (vWord 0x24 2 f) ws 0x080D))) ∧
    (∀ st, firstFault core = some st → exec (.kabs t ⟨f, ws⟩) s = .next (s.fails t (vWord 0x24 1 f) ws st)) ∧
    (∀ st, firstFault sha = some st → exec (.ksh2 t ⟨f, ws⟩) s = .next (s.fails t (vWord 0x24 2 f) ws st)) ∧
    (8 ≤ c.keyForm → c.keySeeds.length = c.order → ∀ o k i, i < k →
      (List.range (c.order + 1)).foldl (fun a p => a ^^^ (c.keyShare y p o k).getD i 0) 0 = c.keyByte (o + i)))

/-- R155: the Keccak cores. KC.INIT zeroes a core and sets its rate; absorbing and squeezing go on in the right phase, masked data only through a masked
core and squeezing it only with SHR 0; KC.FIN pads, with a block more where the suffix fills the last bit of the block, permutes and turns to
squeezing; else fault 0x080D. A core number above 1 is illegal. R156: the SHA-2 core. SH2.INIT selects one of five variants; absorbing, FIPS 180-4
padding and the digest to tile memory follow in order, under the masked and public rules of R155; else fault 0x080D. D must be 0. -/
def Obligations.HashCores : Prop :=
  (
  ∀ (s : State) (t : Nat) (f : VFields) (ws : WordCheck), s.tileReady t → ws.all wordGood = true →
    let y := s.dev.tile t
    let c := s.dev.tileCtx t
    let k := f.d.toNat
    let e := y.vl * y.ebytes
    let n := y.sget f.b
    let bad := (decide (k > 1), 0x0801)
    let mem := [bad, (y.lvssBad c, 0x0804), (y.outOf c (y.sget f.a) n, 0x0802)]
    let hash (func : Nat) : Host.Outcome State Fault Refusal := .next (s.fails t (vWord 0x28 func f) ws 0x080D)
    exec (.kcInit t ⟨f, ws⟩) s = .next (s.tileOutcome t (vWord 0x28 0 f) ws
      [bad, (!decide (y.sget f.a = 72 ∨ y.sget f.a = 104 ∨ y.sget f.a = 136 ∨ y.sget f.a = 144 ∨ y.sget f.a = 168), 0x080D)]
      (y.setCore k { rate := y.sget f.a, masked := !y.shr, squeezing := false, pos := 0,
                     planes := List.replicate (if y.shr then 1 else c.order + 1) (List.replicate 25 0) }) 1 0) ∧
    (k ≤ 1 → y.core? k = none →
      exec (.kcFin t ⟨f, ws⟩) s = hash 3 ∧ exec (.kcPerm t ⟨f, ws⟩) s = hash 6 ∧
      (y.long = false → exec (.kcAbs t ⟨f, ws⟩) s = hash 1 ∧ exec (.kcSqz t ⟨f, ws⟩) s = hash 4) ∧
      (firstFault mem = none → exec (.kcAbsm t ⟨f, ws⟩) s = hash 2 ∧ exec (.kcSqzm t ⟨f, ws⟩) s = hash 5)) ∧
    (∀ x, k ≤ 1 → y.core? k = some x →
      let ab (src : List Bytes) (m : Nat) := x.absorb c src m
      let sq (m : Nat) := KeccakCore.groups c 8 m x 0
      let out (m p : Nat) : Bytes := (sq m).1.map (fun v => BitVec.ofNat 8 (v.getD p 0))
      let did (func : Nat) (z : TileSt) (cyc n : Nat) : Host.Outcome State Fault Refusal := .next (s.completes t (vWord 0x28 func f) ws z cyc (x.draws n))
      let taken (func m : Nat) (z : TileSt) := did func z (2 + 24 * (sq m).2.2) (sq m).2.2
      let suffix := y.sget f.a % 256
      let full := x.pos / 8 = x.rate - 1 ∧ 0x80 ≤ suffix
      let put (z : KeccakCore) (pos v : Nat) := { z with planes := xorByte (z.planes.headD []) pos (BitVec.ofNat 8 v) :: z.planes.drop 1 }
      let head := if full then (put x (x.pos / 8) suffix).permute c 0 else put x (x.pos / 8) suffix
      let fin := { ((put head (x.rate - 1) 0x80).permute c 1) with squeezing := true, pos := 0 }
      let runs := if full then 2 else 1
      exec (.kcPerm t ⟨f, ws⟩) s = did 6 (y.setCore k (x.permute c 0)) 24 1 ∧
      exec (.kcFin t ⟨f, ws⟩) s = (if x.squeezing then hash 3 else did 3 (y.setCore k fin) (2 + 24 * runs) runs) ∧
      (y.long = false → exec (.kcAbs t ⟨f, ws⟩) s = (if x.squeezing || (!y.shr && !x.masked) then hash 1
        else did 1 (y.setCore k (ab (y.vdata c f.a.toNat) e).1) (2 + 24 * (ab (y.vdata c f.a.toNat) e).2) (ab (y.vdata c f.a.toNat) e).2)) ∧
      (firstFault mem = none → exec (.kcAbsm t ⟨f, ws⟩) s = (if x.squeezing || (!y.shr && !x.masked) then hash 2
        else did 2 (y.setCore k (ab (y.mdata c (y.sget f.a) n) n).1) (2 + 24 * (ab (y.mdata c (y.sget f.a) n) n).2) (ab (y.mdata c (y.sget f.a) n) n).2)) ∧
      (y.long = false → exec (.kcSqz t ⟨f, ws⟩) s = (if !x.squeezing || (x.masked && y.shr) then hash 4
        else taken 4 e ((y.setCore k (sq e).2.1).vput c f.a.toNat (fun p i => leAt (i * y.ebytes) y.ebytes (if p < x.planes.length then out e p else []))))) ∧
      (firstFault mem = none → exec (.kcSqzm t ⟨f, ws⟩) s = (if !x.squeezing || (x.masked && y.shr) then hash 5
        else taken 5 n ((y.planes c).foldl (fun w p => w.mwrite (y.sget f.a + p * y.lvss) (fitLen n (if p < x.planes.length then out n p else [])))
          (y.setCore k (sq n).2.1)))))) ∧
  (
  ∀ (s : State) (t : Nat) (f : VFields) (ws : WordCheck), s.tileReady t → ws.all wordGood = true → f.d = 0 →
    let y := s.dev.tile t
    let c := s.dev.tileCtx t
    let n := y.sget f.b
    let hash (func : Nat) : Host.Outcome State Fault Refusal := .next (s.fails t (vWord 0x29 func f) ws 0x080D)
    exec (.sh2Init t ⟨f, ws⟩) s = .next (s.tileOutcome t (vWord 0x29 0 f) ws [(decide (y.sget f.a > 4), 0x080D)]
      { y with sha2 := some { variant := y.sget f.a, masked := !y.shr, finished := false,
                              planes := (shaVariant (y.sget f.a)).2.1 :: List.replicate (if y.shr then 0 else c.order) (List.replicate 8 0),
                              pend := List.replicate ((if y.shr then 0 else c.order) + 1) [], len := 0 } } 1 0) ∧
    (y.sha2 = none → exec (.sh2Fin t ⟨f, ws⟩) s = hash 2 ∧
      (firstFault [(y.lvssBad c, 0x0804), (y.outOf c (y.sget f.a) n, 0x0802)] = none → exec (.sh2Absm t ⟨f, ws⟩) s = hash 1)) ∧
    (y.sha2 = none → firstFault [(y.lvssBad c, 0x0804), (y.outOf c (y.sget f.a) 0, 0x0802)] = none → exec (.sh2Out t ⟨f, ws⟩) s = hash 3) ∧
    (∀ x, y.sha2 = some x →
      let w := (shaVariant x.variant).1.w
      let pad : Bytes := 0x80 :: zeros ((2 * w - (x.len + 1 + w / 4) % (2 * w)) % (2 * w)) ++ natBE (w / 4) (8 * x.len)
      let digest (p : Nat) : Bytes := (x.planes.getD p []).flatMap (natBE (w / 8))
      let len := (shaVariant x.variant).2.2
      let ab (src : List Bytes) (m : Nat) := x.absorb c src m
      (firstFault [(y.lvssBad c, 0x0804), (y.outOf c (y.sget f.a) n, 0x0802)] = none →
        exec (.sh2Absm t ⟨f, ws⟩) s = (if x.finished || (!y.shr && !x.masked) then hash 1
          else .next (s.completes t (vWord 0x29 1 f) ws { y with sha2 := some (ab (y.mdata c (y.sget f.a) n) n).1 }
            (Nat.max 1 (x.cycles (ab (y.mdata c (y.sget f.a) n) n).2)) (x.draws (ab (y.mdata c (y.sget f.a) n) n).2)))) ∧
      exec (.sh2Fin t ⟨f, ws⟩) s = (if x.finished then hash 2
        else .next (s.completes t (vWord 0x29 2 f) ws { y with sha2 := some { (ab [pad] pad.length).1 with finished := true } }
          (Nat.max 1 (x.cycles (ab [pad] pad.length).2)) (x.draws (ab [pad] pad.length).2))) ∧
      (firstFault [(y.lvssBad c, 0x0804), (y.outOf c (y.sget f.a) len, 0x0802)] = none →
        exec (.sh2Out t ⟨f, ws⟩) s = (if !x.finished || (x.masked && y.shr) then hash 3
          else .next (s.completes t (vWord 0x29 3 f) ws ((y.planes c).foldl (fun z p => z.mwrite (y.sget f.a + p * y.lvss) (fitLen len (digest p))) y) 1 0)))))

/-- R155, R157: the samplers on a core that squeezes (SMP.CBD and SMP.ETA either kind, a masked one with SHR 0 alone, the others a public one), at the
candidate position the stream has reached; s[A] counts the accepted values. A core of the wrong kind is fault 0x080D, a progress above VL or an
SMP.BALL position above 255 fault 0x080E. -/
def Obligations.Samplers : Prop :=
  ∀ (s : State) (t : Nat) (f : VFields) (ws : WordCheck), s.tileReady t → ws.all wordGood = true →
    let y := s.dev.tile t
    let c := s.dev.tileCtx t
    let q := y.msel.value
    let k := if f.pb then 1 else 0
    let eta := y.sget f.b
    let n := y.sget f.a
    let wide := decide (y.ew ≠ 16) && decide (y.ew ≠ 32)
    let prime := decide (q = 0) || decide (y.msel.kind ≠ 0) || (decide (y.ew = 16) && decide (q ≥ 2 ^ 15))
    let checks (bad : Bool) := [(y.long, 0x0804), (wide, 0x0804), (bad, 0x0804), (prime, 0x0805)]
    let badEta := decide (eta ≠ 2) && decide (eta ≠ 4)
    let badCbd := (decide (eta ≠ 2) && decide (eta ≠ 3)) || decide (n ≠ 0)
    let ball := [(prime, 0x0805), (decide (y.sget f.d % 4 ≠ 0), 0x0803), (decide (y.sget f.d + 1024 > 0x40000), 0x0802), (decide (n = 0) && decide (eta % 256 = 0), 0x080E)]
    let fault (func st : Nat) : Host.Outcome State Fault Refusal := .next (s.fails t (vWord 0x2A func f) ws st)
    (∀ st, firstFault (checks false) = some st → exec (.smpUni12 t ⟨f, ws⟩) s = fault 0 st ∧ exec (.smpUni23 t ⟨f, ws⟩) s = fault 1 st) ∧
    (∀ st, firstFault (checks badCbd) = some st → exec (.smpCbd t ⟨f, ws⟩) s = fault 2 st) ∧
    (∀ st, firstFault (checks badEta) = some st → exec (.smpEta t ⟨f, ws⟩) s = fault 3 st) ∧
    (∀ st, firstFault ball = some st → exec (.smpBall t ⟨f, ws⟩) s = fault 4 st) ∧
    (y.long = true → exec (.smpGauss t ⟨f, ws⟩) s = fault 5 0x0804) ∧
    (n > y.vl → (firstFault (checks false) = none → exec (.smpUni12 t ⟨f, ws⟩) s = fault 0 0x080E ∧ exec (.smpUni23 t ⟨f, ws⟩) s = fault 1 0x080E) ∧
      (firstFault (checks badEta) = none → exec (.smpEta t ⟨f, ws⟩) s = fault 3 0x080E)) ∧
    ((∀ x, y.core? k = some x → x.squeezing = false ∨ x.masked = true) → (y.long = false → exec (.smpGauss t ⟨f, ws⟩) s = fault 5 0x080D) ∧
      (firstFault ball = none → exec (.smpBall t ⟨f, ws⟩) s = fault 4 0x080D) ∧
      (n ≤ y.vl → firstFault (checks false) = none → exec (.smpUni12 t ⟨f, ws⟩) s = fault 0 0x080D ∧ exec (.smpUni23 t ⟨f, ws⟩) s = fault 1 0x080D)) ∧
    ((∀ x, y.core? k = some x → x.squeezing = false ∨ (x.masked = true ∧ y.shr = true)) →
      (firstFault (checks badCbd) = none → exec (.smpCbd t ⟨f, ws⟩) s = fault 2 0x080D) ∧
      (n ≤ y.vl → firstFault (checks badEta) = none → exec (.smpEta t ⟨f, ws⟩) s = fault 3 0x080D)) ∧
    ∀ x, y.core? k = some x → x.squeezing = true →
    let cand (w : Nat) (acc : Nat → Option Nat) := candidates c y.vl w acc 16 n x 0
    let put (l : List Nat) (m : Nat) :=
      let z := { y with vstart := n, vl := m }
      { (if x.masked then z.putArith c q f.d.toNat (fun i => l.getD (i - n) 0) else z.vpublic c f.d.toNat (fun i => l.getD (i - n) 0)) with vstart := 0, vl := y.vl }
    let taken (func : Nat) (r : List Nat × Nat × KeccakCore × Nat) : Host.Outcome State Fault Refusal :=
      .next (s.completes t (vWord 0x2A func f) ws (((put r.1 r.2.1).setCore k r.2.2.1).sset f.a r.2.1) (2 + 24 * r.2.2.2) (x.draws r.2.2.2))
    let bits' := KeccakCore.groups c (2 * eta) y.vl x 0
    let g (i : Nat) := unshare (bits'.1.getD i [])
    let cbd (i : Nat) := (popcount eta (g i) % q + (q - popcount eta (g i / 2 ^ eta) % q)) % q
    (x.masked = false → firstFault (checks false) = none → n ≤ y.vl →
      exec (.smpUni12 t ⟨f, ws⟩) s = taken 0 (cand 12 (fun v => if v < q then some v else none)) ∧
      exec (.smpUni23 t ⟨f, ws⟩) s = taken 1 (cand 24 (fun v => if v % 2 ^ 23 < q then some (v % 2 ^ 23) else none))) ∧
    ((x.masked && y.shr) = false → firstFault (checks badEta) = none → n ≤ y.vl → exec (.smpEta t ⟨f, ws⟩) s = taken 3 (cand 4 (fun v =>
      if eta = 2 then (if v < 15 then some ((2 % q + (q - v % 5 % q)) % q) else none) else (if v < 9 then some ((4 % q + (q - v % q)) % q) else none)))) ∧
    ((x.masked && y.shr) = false → firstFault (checks badCbd) = none → exec (.smpCbd t ⟨f, ws⟩) s =
      .next (s.completes t (vWord 0x2A 2 f) ws ((if x.masked then y.putArith c q f.d.toNat cbd else y.vpublic c f.d.toNat cbd).setCore k bits'.2.1)
        ([2, 8, 14, 22].getD c.order 2) (x.draws bits'.2.2))) ∧
    (x.masked = false → y.long = false →
      let r := KeccakCore.groups c 72 y.vl x 0
      exec (.smpGauss t ⟨f, ws⟩) s = .next (s.completes t (vWord 0x2A 5 f) ws ((y.vpublic c f.d.toNat
        (fun i => (gaussTable.filter (fun v => decide (unshare (r.1.getD i []) < v))).length)).setCore k r.2.1) y.vl 0)) ∧
    (x.masked = false → firstFault ball = none →
      let g := KeccakCore.squeeze c 64 x 0
      let r := if n = 0 then ballStep c (y.sget f.d) q 8 (256 - eta % 256) (unshare g.1) g.2.1 g.2.2 y
        else ballStep c (y.sget f.d) q 8 (n / 2 ^ 56) (n % 2 ^ 56) x 0 y
      exec (.smpBall t ⟨f, ws⟩) s = .next (s.completes t (vWord 0x2A 4 f) ws ((r.2.2.2.2.setCore k r.2.2.1).sset f.a (r.1 % 256 * 2 ^ 56 + r.2.1 % 2 ^ 56)) (2 + 24 * r.2.2.2.1) 0))

/-- R136, R158, R159: the masked gadgets need SHR 0 and PB 0 and write a fresh sharing of the plain function of the values that the shares stand for, in
the issue cycles of R171; they draw spark output above ORDER 0. G.REFRESH keeps the value, G.UNMASK alone writes it to plane 0. The value of G.B2A is
open at and above q; G.REFRESH and G.CMPEQ take the form in which the microprogram keeps its shares, which the tile does not tag (the model's choices,
assumption log 85). R135, R158: the shares that a gadget writes recombine to its value: Boolean shares by XOR, arithmetic shares by the sum modulo q.
This holds for every value of the share randomness. -/
def Obligations.MaskedGadgets : Prop :=
  (
  ∀ (s : State) (t : Nat) (f : VFields) (ws : WordCheck), s.tileReady t → ws.all wordGood = true →
    let y := s.dev.tile t
    let c := s.dev.tileCtx t
    let q := y.msel.value
    let m := 2 ^ y.ew
    let n := y.sget f.b
    let a (i : Nat) := y.unbool c f.a.toNat i
    let b (i : Nat) := y.unbool c f.b.toNat i
    let v (i : Nat) := y.unarith c q f.a.toNat i
    let u (i : Nat) := y.unarith c q f.b.toNat i
    let cyc (l : List Nat) := gadgetCycles y c l
    let ends (func : Nat) (checks : List (Bool × Nat)) (l : List Nat) (z : TileSt) : Host.Outcome State Fault Refusal :=
      .next (s.vectorOutcome t (vWord 0x2C func f) ws ((y.shr || f.pb, 0x0801) :: (y.long, 0x0804) :: checks) z (cyc l) (if c.order = 0 then 0 else cyc l))
    let wide := (decide (y.ew ≠ 16) && decide (y.ew ≠ 32), 0x0804)
    let prime := (decide (q = 0) || decide (y.msel.kind ≠ 0) || (decide (y.ew = 16) && decide (q ≥ 2 ^ 15)), 0x0805)
    let param (bad : Bool) := [wide, (bad, 0x0804), prime]
    let ones (h : Bool) := if h then m - 1 else 0
    let form := Config.shareForm c.opcode y.pc
    let w := if form = 1 ∧ y.msel.kind = 0 ∧ q ≠ 0 then q else m
    exec (.gA2b t ⟨f, ws⟩) s = ends 0 [wide, prime] [1, 10, 16, 26] (y.putBool c f.d.toNat v) ∧
    exec (.gAnd t ⟨f, ws⟩) s = ends 2 [] [1, 4, 12, 24] (y.putBool c f.d.toNat (fun i => a i &&& b i)) ∧
    exec (.gMul t ⟨f, ws⟩) s = ends 3 [wide, prime] [1, 6, 14, 26] (y.putArith c q f.d.toNat (fun i => v i * u i % q)) ∧
    exec (.gGfmul t ⟨f, ws⟩) s = ends 4 [wide, (decide (q = 0) || decide (y.msel.kind ≠ 1), 0x0805)] [1, 4, 12, 24]
      (y.putBool c f.d.toNat (fun i => gfMul y.msel (a i) (b i))) ∧
    exec (.gRefresh t ⟨f, ws⟩) s = ends 5 [] [1, 4, 8, 12] (if c.order = 0 then y.vput c f.d.toNat (fun p i => y.elem p f.a.toNat i)
      else if form = 0 then y.putBool c f.d.toNat a else y.putArith c w f.d.toNat (fun i => y.unarith c w f.a.toNat i)) ∧
    exec (.gCompress t ⟨f, ws⟩) s = ends 8 (param (decide (n < 1) || decide (n > 11))) [1, 14, 22, 34]
      (y.putBool c f.d.toNat (fun i => (2 * 2 ^ n * v i + q) / (2 * q) % 2 ^ n)) ∧
    exec (.gDecomp t ⟨f, ws⟩) s = ends 9 (param (decide (n = 0) || decide (n % 2 = 1) || (decide (y.msel.kind = 0) && decide (q ≠ 0) && decide ((q - 1) % n ≠ 0)))) [2, 16, 26, 40]
      (y.putBool c f.d.toNat (fun i => highBits q n (v i))) ∧
    exec (.gInrange t ⟨f, ws⟩) s = ends 10 [wide, prime] [1, 14, 22, 34]
      (y.putBool c f.d.toNat (fun i => ones (decide ((if v i > (q - 1) / 2 then q - v i else v i) < n)))) ∧
    exec (.gSel t ⟨f, ws⟩) s = ends 11 [] [1, 4, 12, 24]
      (y.putBool c f.d.toNat (fun i => (y.unbool c f.d.toNat i &&& a i) ^^^ ((m - 1 - y.unbool c f.d.toNat i) &&& b i))) ∧
    (∃ val : Nat → Nat, (∀ i, a i < q → val i = a i) ∧ exec (.gB2a t ⟨f, ws⟩) s = ends 1 [wide, prime] [1, 8, 14, 22] (y.putArith c q f.d.toNat val)) ∧
    exec (.gCmpeq t ⟨f, ws⟩) s = ends 6 [] [1, 12, 20, 30] (y.putBool c f.d.toNat (fun i =>
      ones (if c.order = 0 ∨ form = 0 then decide (a i = b i) else decide (y.unarith c w f.a.toNat i = y.unarith c w f.b.toNat i)))) ∧
    exec (.gUnmask t ⟨f, ws⟩) s = .next (s.vectorOutcome t (vWord 0x2C 12 f) ws
      ([(y.shr || f.pb || decide (f.b.toNat > 2), 0x0801), (y.long, 0x0804)] ++ (if f.b.toNat = 0 then [wide, prime] else []))
      (y.vpublic c f.d.toNat (fun i => if f.b.toNat = 0 then v i else if f.b.toNat = 1 then a i else y.unarith c m f.a.toNat i))
      (cyc [1, 2, 2, 2]) (if c.order = 0 then 0 else cyc [1, 2, 2, 2])) ∧
    let k := [2, 4 * opGRandr.ceilLog2 y.vl, 8 * opGRandr.ceilLog2 y.vl, 12 * opGRandr.ceilLog2 y.vl].getD c.order 0
    exec (.gRandr t ⟨f, ws⟩) s = .next (s.vectorOutcome t (vWord 0x2C 7 f) ws [(y.shr || f.pb, 0x0801), (y.long, 0x0804)]
        { ({ y with vstart := 0, vl := 1 }.putBool c f.d.toNat (fun _ => (List.range y.vl).foldl (fun z i => z &&& a i) (m - 1))) with vl := y.vl }
        k (if c.order = 0 then 0 else k))) ∧
  (
  ∀ (y : TileSt) (c : TileCtx) (q r i : Nat) (g : Nat → Nat), y.vstart ≤ i → i < y.vl → i < 64 / y.ebytes →
    (y.putBool c r g).unbool c r i = g i % 2 ^ y.ew ∧ (0 < q → q ≤ 2 ^ y.ew → (y.putArith c q r g).unarith c q r i = g i % q))

/-- R127, R128, R132, R133, R162: the system instructions. VSETVL and VSETVLI cap VL at VLMAX; VSETTYPE sets VTYPE with VL 0; CSRR reads and CSRW writes
the control registers that are writable; MSET and MSETGF write modulus registers; NOP and a CHKPT with no abort pending only go on. -/
def Obligations.SystemInstructions : Prop :=
  ∀ (s : State) (t : Nat) (f : VFields) (g : IFields) (ws : WordCheck), s.tileReady t → ws.all wordGood = true →
    let y := s.dev.tile t
    let c := s.dev.tileCtx t
    let v := y.sget f.a
    let ends (word : Nat) (checks : List (Bool × Nat)) (z : TileSt) (cyc : Nat) : Host.Outcome State Fault Refusal := .next (s.tileOutcome t word ws checks z cyc 0)
    let setvl (d : BitVec 5) (x : Nat) := { y with vl := Nat.min x y.vlmax }.sset d (Nat.min x y.vlmax)
    let w := g.imm.toNat
    let n := f.b.toNat
    exec (.nop t ⟨f, ws⟩) s = ends (vWord 0x3E 0 f) [] y 1 ∧
    exec (.vsetvl t ⟨f, ws⟩) s = ends (vWord 0x3E 1 f) [] (setvl f.d v) 1 ∧
    exec (.vsetvli t ⟨g, ws⟩) s = ends (iWord 0x3C g) [(decide (g.a ≠ 0), 0x0801)] (setvl g.d w) 1 ∧
    exec (.vsettype t ⟨g, ws⟩) s = ends (iWord 0x3D g) [(decide (g.d ≠ 0) || decide (g.a ≠ 0), 0x0801),
      (decide (w / 2 ^ 12 % 16 ≠ 0) || decide (w / 2 ^ 6 % 4 ≠ 0) || decide (w / 2 ^ 2 % 8 ≠ 0), 0x0804)] { y with vtype := w, vl := 0 } 1 ∧
    exec (.csrr t ⟨f, ws⟩) s = ends (vWord 0x3E 2 f) [] (y.sset f.d (([y.vl, y.vtype, y.vstart, y.lvss, c.order, c.keyLen, c.input.length, c.outCap, c.aux, c.param,
      c.opcode, y.twb, c.pub.length] : List Nat).getD n 0)) 1 ∧
    exec (.csrw t ⟨f, ws⟩) s = ends (vWord 0x3E 3 f) [(decide (n ≠ 2) && decide (n ≠ 3) && decide (n ≠ 0x0B), 0x0801), (decide (n = 2) && decide (v ≠ 0), 0x0804)]
      (if n = 2 then { y with vstart := 0 } else { y with csr := tabSet n (v % 2 ^ (if n = 3 then 18 else 16)) y.csr }) 1 ∧
    exec (.mset t ⟨f, ws⟩) s = ends (vWord 0x3E 4 f) [(decide (f.d.toNat ≥ 8), 0x0801), (decide (v % 2 = 0) || decide (v < 3) || decide (v ≥ 2 ^ 31), 0x0805)]
      { y with m := tabSet f.d.toNat { kind := 0, value := v, aux := modulusAux v } y.m } 8 ∧
    exec (.msetgf t ⟨f, ws⟩) s = ends (vWord 0x3E 5 f)
      [(decide (f.d.toNat ≥ 8), 0x0801), (decide (v ≥ 2 ^ 21) || decide (v / 2 ^ 16 % 32 < 2) || decide (v / 2 ^ 16 % 32 > 16), 0x0805)]
      { y with m := tabSet f.d.toNat { kind := 1, value := v, aux := 0 } y.m } 8 ∧
    ((∀ j x r, s.dev.running t = some (j, x, r) → x.abort = none) →
      exec (.chkpt t ⟨f, ws⟩) s = ends (vWord 0x3E 6 f) [] { y with sinceChkpt := 0 } 1) ∧
    (∀ z : TileSt, z.vlmax = (if z.long then 16384 else 512 / z.ew) ∧ z.done.vstart = 0)

/-- R162, R165: DONE ends the running operation j with status 0x0000 and the first s[A] staged bytes, zero where XOUT wrote none; REJECT with 0x01 in the
class byte and no output. The job is reported finished, its output stands in the unit's staging area, and nothing else of it or of another unit
changes. R116, R163 to R165: a program fault records the status, PC, VSTART and instruction word in TIL_LAST_FAULT, ends the operation with its status
and no output, and scrubs the tile, which keeps its pool state; past the ceiling of its entry it is 0x080A, at a word that is no instruction 0x0801. A
pending abort decides the status instead, at a CHKPT or when 32,000 cycles have passed without one: the computation ends and its tile scrubs, and with
the last that ran the request completes with the status of its cause. -/
def Obligations.OperationEndsAndFaults : Prop :=
  (
  ∀ (s : State) (t j : Nat) (x : Job) (r : Request) (f : VFields) (ws : WordCheck), s.tileReady t → ws.all wordGood = true →
    s.dev.running t = some (j, x, r) → x.unit = t → x.abort = none →
    let y := s.dev.tile t
    let n := y.sget f.a
    let done (st : Nat) (out : Bytes) (u : State) :=
      u.dev.job? j = some { x with result := some { status := st, output := out, mismatch := false, secret := [] }, stop := some s.dev.now, finished := true } ∧
      u.dev.unit t = { s.dev.unit t with staging := out } ∧ ∀ v, v ≠ t → u.dev.unit v = s.dev.unit v
    (n ≤ (s.dev.tileCtx t).outCap → ∃ u, exec (.tileDone t ⟨f, ws⟩) s = .next u ∧ done 0 (fitLen n y.staged) u) ∧
    (0x10 ≤ n % 256 → ∃ u, exec (.reject t ⟨f, ws⟩) s = .next u ∧ done (0x100 + n % 256) [] u) ∧
    ((s.dev.tileCtx t).outCap < n → exec (.tileDone t ⟨f, ws⟩) s = .next (s.fails t (vWord 0x3E 7 f) ws 0x0104)) ∧
    (n % 256 < 0x10 → exec (.reject t ⟨f, ws⟩) s = .next (s.fails t (vWord 0x3E 8 f) ws 0x0801)) ∧
    exec (.fault t ⟨f, ws⟩) s = .next (s.fails t (vWord 0x3E 9 f) ws 0x080F)) ∧
  (
  ∀ (s : State) (t j : Nat) (x : Job) (r : Request) (word : BitVec 32) (f : VFields) (ws : WordCheck), t < nTiles → s.dev.running t = some (j, x, r) →
    let y := s.dev.tile t
    let record (st w : Nat) := natLE 2 st ++ natLE 2 y.pc ++ natLE 2 y.vstart ++ natLE 4 w ++ zeros 2
    let ended (st w : Nat) (u : State) :=
      u.dev.oct P.tilLastFault t = record st w ∧ (u.dev.job? j).bind Job.result = some { status := st, output := [], mismatch := false, secret := [] } ∧
      (u.dev.job? j).map Job.finished = some true ∧ (u.dev.unit t).scrubbing = true ∧ (u.dev.unit t).pool = (s.dev.unit t).pool
    let d := (s.dev.scrub x.unit).dropJob j
    (x.abort = none → s.dev.issues t = true →
      tileWord word.toNat = none ∨ (∃ op, tileWord word.toNat = some op ∧ op (s.dev.tileCtx t) y = .stop y 0x0801) →
      ∃ u, exec (.illegalInstruction t word) s = .next u ∧ ended 0x0801 word.toNat u) ∧
    (∀ m e, x.abort = none → s.dev.runningMp t = some m → m.entry? r.desc.opcode = some e → e.ceil.getD x.order 0 < y.cycles →
      ∃ u, exec (.cycleCeilingExceeded t) s = .next u ∧ ended 0x080A (leAt y.pc 4 m.code) u) ∧
    (∀ st, x.abort = some st → st ≠ 0x0701 → st ≠ 0 → (d.jobsOf x.req).any (fun e => e.2.runs) = false → r.gen = d.num P.slcGeneration r.slice →
      (32000 ≤ y.sinceChkpt → exec (.abortCheckpointTimeout t) s = .next (s.withDev ((d.fail x.req (r.halfStatus st)).goOn))) ∧
      (s.dev.issues t = true → exec (.chkpt t ⟨f, ws⟩) s = .next (s.withDev ((d.fail x.req (r.halfStatus st)).goOn)))) ∧
    (∀ st, x.abort = some st →
      (32000 ≤ y.sinceChkpt → exec (.abortCheckpointTimeout t) s = .next (s.withDev (s.dev.abortJob j x r st))) ∧
      (s.dev.issues t = true → exec (.chkpt t ⟨f, ws⟩) s = .next (s.withDev (s.dev.abortJob j x r st)))) ∧
    (y.sinceChkpt < 32000 → y.cycles ≠ 0 → y.sparkWaiting = none → exec (.abortCheckpointTimeout t) s = .next s))

/-- Before its effect a request meets these tests, in this order (R507, R513, R514, R517, R518): can the sender be heard; is it a repetition; may anything
but SCG_ANCHORS be written; is the row one of the parameter's; may the sender do this; does it need a second officer. -/
def Obligations.RequestsRefused : Prop :=
  ∀ (p : Param) (w : Bool) (c : Msg → Instr) (s : State) (m : Msg), (if w then WriteRow p c else CommandRow p c) →
  let d := s.dev
  let id := m.reqId.toNat
  let no (r : Nat) := s.answered d m (Reply.err r)
  (d.heard m.src = false → exec (c m) s = .next s) ∧
  (d.heard m.src = true → ∀ b, d.repeated m.src id = some b → exec (c m) s = .next (s.withDev (d.resend m.src id b))) ∧
  (d.heard m.src = true → d.repeated m.src id = none →
    (d.alone d.lc m.src = true → p ≠ P.scgAnchors → exec (c m) s = no resState) ∧
    (d.alone d.lc m.src = false → ∀ r, catFind p = some r →
      (r.rowOk m.row.toNat = false → r.kind ≠ .cmd → exec (c m) s = no resUnknown) ∧
      ((r.rowOk m.row.toNat = true ∨ r.kind = .cmd) →
        (d.mayDo d.lc m.src p (r.index m.row.toNat) true m.body = none → exec (c m) s = no resAccess) ∧
        (d.mayDo d.lc m.src p (r.index m.row.toNat) true m.body = some true → ∀ n, m.src = .session n →
          (d.mgmt.tickets.length ≥ 16 → exec (c m) s = no resBusy) ∧
          (d.mgmt.tickets.length < 16 → ∃ t : Ticket,
            t.number = d.mgmt.nextTicket ∧ t.param = p ∧ t.offset = 0 ∧ t.origin = n ∧ t.msg = m ∧ t.requested = d.now ∧
            t.digest = Sha2.sha384 (natLE 3 p ++ [0] ++ natLE 4 m.row.toNat ++ (if w then natLE 4 0 else []) ++ m.body) ∧
            exec (c m) s =
              s.answered ((d.onMgmt (fun g => { g with tickets := g.tickets ++ [t], nextTicket := g.nextTicket + 1 })).notifyAll (fun r => r == roleOfficer) 2
                (natLE 4 t.number ++ natLE 3 p ++ [0] ++ natLE 4 m.row.toNat)) m { result := resDualPending, detail := t.number, data := [] })))))

/-- Sessions and the network by command (R501, R506, R508): CLOSE ends a session, a write of a row of SCG_ANCHORS ends those that rest on it, and
NET_CMD_APPLY answers, takes the parameters into force and ends them all. CONFIRM (R507, R514): by another officer, in 60 s, with the digest of the
first request, it runs the action on the state as it is now; every other one is refused. The outcome goes to the originator as well. -/
def Obligations.SessionsAndConfirmations : Prop :=
  (
  Accepts .scgCmdClose P.scgCmdClose (fun d m => m.body.length = 4 ∧ (tabGet? (leNat m.body) d.mgmt.sessions).isSome = true) (fun d m => d.endSession (leNat m.body)) ∧
  Refuses .scgCmdClose P.scgCmdClose (fun d m => m.body.length = 4 ∧ tabGet? (leNat m.body) d.mgmt.sessions = none) (Reply.range P.scgCmdClose) ∧
  Accepts .scgAnchors P.scgAnchors (fun _ m => m.body.length ≤ 97)
    (fun d m => (d.mgmt.sessions.filter (fun e => e.2.anchorRow == m.row.toNat)).foldl (fun e x => e.endSession x.1) (d.setOct P.scgAnchors m.row.toNat m.body)) ∧
  Refuses .scgAnchors P.scgAnchors (fun _ m => 97 < m.body.length) (Reply.err resLength) ∧
  Defers .netCmdApply P.netCmdApply (fun _ m => m.body = [])
    (fun d m => let e := (d.respondTo m.src m.reqId.toNat Reply.ok).applyNetwork
                ((e.mgmt.sessions.map Prod.fst) ++ (e.mgmt.shakes.map Prod.fst)).foldl Dev.endSession e)) ∧
  (
  ∀ (s : State) (m : Msg) (k : Nat) (x : Session),
  let d := s.dev
  d.heard m.src = true → m.src = .session k → tabGet? k d.mgmt.sessions = some x → d.repeated m.src m.reqId.toNat = none →
  let no (r : Nat) := s.answered d m (Reply.err r)
  let ticket := d.mgmt.tickets.find? (fun t => t.number == leAt 0 4 m.body && d.now ≤ t.requested + 60 * ticksPerS)
  (d.alone d.lc m.src = true → exec (.confirm m) s = no resState) ∧
  (d.alone d.lc m.src = false → (x.peer = true ∨ x.role ≠ roleOfficer) → exec (.confirm m) s = no resAccess) ∧
  (d.alone d.lc m.src = false → x.peer = false → x.role = roleOfficer →
    (m.body.length ≠ 52 → exec (.confirm m) s = no resLength) ∧
    (m.body.length = 52 →
      (ticket = none → exec (.confirm m) s = no resDualExpired) ∧
      (∀ t, ticket = some t →
        (d.principalOf t.origin = x.principal → exec (.confirm m) s = no resDualSame) ∧
        (d.principalOf t.origin ≠ x.principal → m.body.drop 4 ≠ t.digest → exec (.confirm m) s = no resRange) ∧
        (d.principalOf t.origin ≠ x.principal → m.body.drop 4 = t.digest →
          let e := d.onMgmt (fun g => { g with tickets := g.tickets.filter (fun y => y.number != t.number)
                                               awaiting := g.awaiting ++ [{ src := m.src, reqId := m.reqId.toNat, origin := t.origin, ticket := t.number }] })
          exec (.confirm m) s =
            match effectOf t.param t.offset e { t.msg with src := m.src, reqId := m.reqId } with
            | (some r, u) => s.answered u m r
            | (none, u) => .next (s.withDev (u.hears m.src)))))))

/-- A response (R30, R503, R512, R513): it goes out, and a session keeps it among its last 64 and sends it again for a repeated REQ_ID; to a page it is
written, with DONE set and BUSY clear. A response in a tick of its own is no record of the client (R508). ECHO returns its bytes. -/
def Obligations.Responses : Prop :=
  (∀ (d : Dev) (id : Nat) (r : Reply), d.mgmt.awaiting = [] →
    (∀ n x, tabGet? n d.mgmt.sessions = some x → x.sendSeq < 2 ^ 32 →
      let u := d.respondTo (.session n) id r
      u.out = d.out ++ [.response (.session n) id r.result r.detail r.data] ∧
      tabGet? n u.mgmt.sessions = some { x with sendSeq := x.sendSeq + 1, lastRecord := d.now,
                                                recent := ((id, natLE 2 r.result ++ natLE 2 0 ++ natLE 4 r.detail ++ r.data) :: x.recent).take 64 } ∧
      u = { d with out := u.out, mgmt := { d.mgmt with sessions := u.mgmt.sessions } } ∧
      (let v := d.respondLate (.session n) id r
       tabGet? n v.mgmt.sessions = (tabGet? n u.mgmt.sessions).map (fun z => { z with lastRecord := x.lastRecord }) ∧
       v = { u with mgmt := { u.mgmt with sessions := v.mgmt.sessions } }) ∧
      (∀ b : Bytes, let v := d.resend (.session n) id b
       v.out = d.out ++ [.response (.session n) id (leAt 0 2 b) (leAt 4 4 b) (b.drop 8)] ∧
       tabGet? n v.mgmt.sessions = some { x with sendSeq := x.sendSeq + 1, lastRecord := d.now } ∧
       v = { d with out := v.out, mgmt := { d.mgmt with sessions := v.mgmt.sessions } })) ∧
    (∀ n x, tabGet? n d.mgmt.sessions = some x → x.sendSeq ≥ 2 ^ 32 → d.respondTo (.session n) id r = d.endSession n) ∧
    (∀ n x, tabGet? n d.mgmt.sessions = some x → d.hears (.session n) = d.onMgmt (fun g => { g with sessions := tabSet n { x with lastRecord := d.now } g.sessions })) ∧
    (∀ i, let u := d.respondTo (.slicePage i) id r
          let b := tabGet Mailbox.reset (i + 1) u.host.mailboxes
          u.out = d.out ++ [.response (.slicePage i) id r.result r.detail r.data] ∧ b.busy = false ∧ b.done = true ∧ b.rspLen = 24 + r.data.length ∧
          b.response.take 8 = natLE 2 0x0081 ++ natLE 2 (24 + r.data.length) ++ natLE 4 id ∧ b.response[11]? = some 0 ∧
          b.response.drop 16 = natLE 2 r.result ++ natLE 2 0 ++ natLE 4 r.detail ++ r.data ∧
          u = { d with out := u.out, host := { d.host with mailboxes := u.host.mailboxes } })) ∧
  (∀ (s : State) (m : Msg), s.dev.heard m.src = true → s.dev.repeated m.src m.reqId.toNat = none → s.dev.alone s.dev.lc m.src = false →
    exec (.echo m) s = s.answered s.dev m (Reply.data' m.body))

/-- Plain writes (R511, R518): a number within its range takes the value, octets stand at OFFSET with the rest cleared at OFFSET 0; M6 follows a policy
value. A row of another kind, or a value out of range or too long, is refused. Writes of configuration (R22, R27, R389, R390): a queue pair that is
neither ACTIVE nor FAULTED takes a value and is DISABLED, and a write of QP_SLICE binds one that has no binding, which then keeps its slice (the
model's choices, assumption log 37); a slice takes a policy value at any time, and a resource while it is idle. -/
def Obligations.ParameterWrites : Prop :=
  (
  ∀ (s : State) (m : Msg) (p offset : Nat) (r : CatRow),
  let d := s.dev
  let row := r.index m.row.toNat
  d.granted p m = true → catFind p = some r → p / 0x100000 ≠ 15 → p / 0x100000 ≠ 3 → p / 0x100000 ≠ 4 → p ≠ P.fwStageData →
  writeEffects.find? (fun e => e.1 == p) = none → commandEffects.any (fun e => e.1 == p) = false →
  let v := leNat m.body
  (∀ n, r.kind.fixedLen = some n → r.kind ≠ .cmd →
    ((offset ≠ 0 ∨ m.body.length ≠ n) → exec (.parameterWrite m p offset) s = s.answered d m (Reply.err resLength)) ∧
    (offset = 0 → m.body.length = n → (v < r.lo ∨ r.hi < v) → exec (.parameterWrite m p offset) s = s.answered d m (Reply.range p)) ∧
    (offset = 0 → m.body.length = n → r.lo ≤ v → v ≤ r.hi → d.settingBad p v = none →
      exec (.parameterWrite m p offset) s = s.answered (((d.setNum p row v).settingWritten p row (d.num p row) v).policyWritten p) m Reply.ok)) ∧
  (∀ n, r.kind = .octets n → p ≠ P.mpgContainer → p ≠ P.mpgSlotTarget → p ≠ P.vltGroupMembers →
    (offset + m.body.length > n → exec (.parameterWrite m p offset) s = s.answered d m (Reply.err resLength)) ∧
    (offset + m.body.length ≤ n → offset = 0 → exec (.parameterWrite m p offset) s = s.answered ((d.setOct p row m.body).policyWritten p) m Reply.ok) ∧
    (offset + m.body.length ≤ n → offset ≠ 0 →
      exec (.parameterWrite m p offset) s = s.answered ((d.setOct p row (overlay offset m.body (d.value m.src p row))).policyWritten p) m Reply.ok))) ∧
  (
  ∀ (s : State) (m : Msg) (p n : Nat) (r : CatRow),
  let d := s.dev
  let i := r.index m.row.toNat
  let v := leNat m.body
  d.granted p m = true → catFind p = some r → r.kind.fixedLen = some n → r.kind ≠ .cmd → m.body.length = n → r.lo ≤ v → v ≤ r.hi →
  writeEffects.find? (fun e => e.1 == p) = none → commandEffects.any (fun e => e.1 == p) = false →
  (p / 0x100000 = 3 → i < 65536 → ((d.qp i).state = .unconfigured ∨ (d.qp i).state = .disabled) →
    let e := (d.setNum p i v).onQp i (fun x => { x with state := .disabled })
    (p = P.qpSlice → (d.qp i).binding.isSome = true → v ≠ d.qpOwner i → exec (.parameterWrite m p 0) s = s.answered d m (Reply.err resState)) ∧
    (p = P.qpSlice → (d.qp i).binding = none → exec (.parameterWrite m p 0) s = s.answered (e.bindQp i) m Reply.ok) ∧
    (p ≠ P.qpSlice ∨ ((d.qp i).binding.isSome = true ∧ v = d.qpOwner i) → exec (.parameterWrite m p 0) s = s.answered e m Reply.ok)) ∧
  (p / 0x100000 = 3 → ((d.qp i).state = .active ∨ (d.qp i).state = .faulted) → i < 65536 →
    exec (.parameterWrite m p 0) s = s.answered d m (Reply.err resState)) ∧
  (p / 0x100000 = 4 → policyParams.contains p = true → d.sliceExists i = true → exec (.parameterWrite m p 0) s = s.answered (d.setNum p i v) m Reply.ok) ∧
  (p / 0x100000 = 4 → resourceParams.contains p = true → d.sliceExists i = true →
    (((∃ q ∈ d.qpsOf i, (d.qp q).state = .active) ∨ (∃ e ∈ d.disp.reqs, e.2.slice = i)) → exec (.parameterWrite m p 0) s = s.answered d m (Reply.err resState)) ∧
    ((∀ q ∈ d.qpsOf i, (d.qp q).state ≠ .active) → (∀ e ∈ d.disp.reqs, e.2.slice ≠ i) →
      (∀ bad, d.sliceBad i ((p, v) :: d.argsOf i) = some bad → exec (.parameterWrite m p 0) s = s.answered d m (Reply.range bad)) ∧
      (d.sliceBad i ((p, v) :: d.argsOf i) = none →
        let e := if p == P.slcPasid && v != d.pasid i then d.onHost (fun h => { h with translations := h.translations.filter (fun t => t.1 != d.pasid i) }) else d
        exec (.parameterWrite m p 0) s = s.answered ((e.setNum p i v).allot i) m Reply.ok))))

/-- The device's own modes (R15, R325, R413, R494): QUIESCE and RESUME, ZEROISE as an A4 edge of the host, RECOVERY_DONE from SEALED, and the warm and
cold resets, which answer first; a reset that one in progress contains is only recorded. Power commands (R484, R485, R488): S2 only from QUIESCED, and
back to what was on; domains by a mask, with BUSY before DEPENDENCY; tiles by their switches. -/
def Obligations.ModeAndPowerCommands : Prop :=
  (
  let none' (_ : Dev) (m : Msg) : Prop := m.body = []
  Accepts .modCmdQuiesce P.modCmdQuiesce (fun d m => none' d m ∧ d.ready = true) (fun d _ => d.takeEdge .quiesced .host 0) ∧
  Refuses .modCmdQuiesce P.modCmdQuiesce (fun d m => none' d m ∧ d.ready = false) (Reply.err resState) ∧
  Accepts .modCmdResume P.modCmdResume (fun d m => none' d m ∧ d.modes.mode = .quiesced ∧ d.power.inS2 = false) (fun d _ => d.takeEdge d.serviceMode .host 0) ∧
  Accepts .modCmdResume P.modCmdResume (fun d m => none' d m ∧ d.modes.mode = .debug ∧ d.modes.hold = true) (fun d _ => d.onModes (fun x => { x with hold := false })) ∧
  Accepts .modCmdZeroise P.modCmdZeroise (fun d m => none' d m ∧ (d.ready = true ∨ d.modes.mode = .quiesced))
    (fun d _ => ((d.joinResponse 4).recordAlarm 0x900 0 4 4 0 false).respondA4 .host 0x900 true) ∧
  Refuses .modCmdZeroise P.modCmdZeroise (fun d m => none' d m ∧ d.ready = false ∧ d.modes.mode ≠ .quiesced) (Reply.err resState) ∧
  Defers .modCmdRecoveryDone P.modCmdRecoveryDone (fun d m => none' d m ∧ d.modes.mode = .sealed ∧ d.vault.recovered = true ∧ d.lcState ≠ 4)
    (fun d m => (((d.respondTo m.src m.reqId.toNat Reply.ok).onVault (fun v => { v with recovered := false })).onModes (fun x => { x with bootEdge := .host })).warmWork .host) ∧
  Refuses .modCmdRecoveryDone P.modCmdRecoveryDone (fun d m => none' d m ∧ (d.modes.mode ≠ .sealed ∨ d.vault.recovered = false ∨ d.lcState = 4)) (Reply.err resState) ∧
  Defers .rstCmdWarm P.rstCmdWarm (fun d m => none' d m ∧ (d.respondTo m.src m.reqId.toNat Reply.ok).contained 2 = false)
    (fun d m => (d.respondTo m.src m.reqId.toNat Reply.ok).warmReset) ∧
  Defers .rstCmdCold P.rstCmdCold (fun d m => none' d m ∧ (d.respondTo m.src m.reqId.toNat Reply.ok).contained 1 = false)
    (fun d m => (d.respondTo m.src m.reqId.toNat Reply.ok).coldReset 1 0 .host) ∧
  Defers .rstCmdWarm P.rstCmdWarm (fun d m => none' d m ∧ (d.respondTo m.src m.reqId.toNat Reply.ok).contained 2 = true)
    (fun d m => (d.respondTo m.src m.reqId.toNat Reply.ok).onModes (fun x => { x with lastReset := 2, lastResetSource := 0 })) ∧
  Defers .rstCmdCold P.rstCmdCold (fun d m => none' d m ∧ (d.respondTo m.src m.reqId.toNat Reply.ok).contained 1 = true)
    (fun d m => (d.respondTo m.src m.reqId.toNat Reply.ok).onModes (fun x => { x with lastReset := 1, lastResetSource := 0 }))) ∧
  (
  let calm (d : Dev) : Prop := (∀ n ∈ quadDomains, d.domainBusy n = false) ∧ (∀ t, t < nTiles → d.tileBusy t = false)
  let tiles (m : Msg) : List Nat := (List.range nTiles).filter (fun t => (leAt 0 16 m.body).testBit t)
  let doms (m : Msg) : List Nat := ((List.range 32).filter (fun b => (leAt 0 4 m.body).testBit b)).map (· + 1)
  Accepts .pwrStateCmd P.pwrStateCmd (fun d m => m.body = [2] ∧ calm d ∧ d.modes.mode = .quiesced ∧ d.power.inS2 = false)
    (fun d _ => (d.onPower (fun p => { p with inS2 := true, beforeS2 := quadDomains.filter d.domainSet })).switchDomains (quadDomains.filter d.domainSet) false) ∧
  Accepts .pwrStateCmd P.pwrStateCmd (fun d m => m.body = [1] ∧ calm d ∧ d.modes.mode = .quiesced ∧ d.power.inS2 = true)
    (fun d _ => (d.onPower (fun p => { p with inS2 := false, beforeS2 := [] })).switchDomains d.power.beforeS2 true) ∧
  Accepts .pwrStateCmd P.pwrStateCmd (fun d m => m.body = [0] ∧ calm d ∧ d.modes.mode = .quiesced ∧ d.power.inS2 = true)
    (fun d _ => (d.onPower (fun p => { p with inS2 := false, beforeS2 := [] })).switchDomains quadDomains true) ∧
  Accepts .pwrStateCmd P.pwrStateCmd (fun d m => m.body = [0] ∧ calm d ∧ d.power.inS2 = false)
    (fun d _ => let e := ((List.range nTiles).filter (fun t => d.domainSet (unitDomain t) && d.power.openSwitches.contains t)).foldl Dev.closeTile d
                e.switchDomains (quadDomains.filter (fun n => !e.domainSet n)) true) ∧
  Refuses .pwrStateCmd P.pwrStateCmd (fun d m => m.body = [2] ∧ calm d ∧ d.modes.mode ≠ .quiesced) (Reply.err resState) ∧
  Refuses .pwrStateCmd P.pwrStateCmd (fun d m => m.body = [1] ∧ calm d ∧ d.power.inS2 = false) (Reply.err resState) ∧
  Refuses .pwrStateCmd P.pwrStateCmd (fun d m => m.body.length = 1 ∧ leNat m.body ≤ 2 ∧ ¬ calm d) (Reply.err resBusy) ∧
  Refuses .pwrDomainCmd P.pwrDomainCmd (fun _ m => m.body.length = 5 ∧ (leAt 4 1 m.body > 1 ∨ doms m = [] ∨ ∃ n ∈ doms m, ¬ ((4 ≤ n ∧ n ≤ 15) ∨ n = 20)))
    (Reply.range P.pwrDomainCmd) ∧
  (∀ n, 4 ≤ n → n ≤ 15 → Accepts .pwrDomainCmd P.pwrDomainCmd (fun d m => m.body.length = 5 ∧ doms m = [n] ∧ leAt 4 1 m.body = 0 ∧ d.power.inS2 = false ∧
      d.domainBusy n = false ∧ d.domainSet n = true ∧ (∀ t, t < nTiles → unitDomain t = n → d.tileBusy t = false) ∧
      d.dependency (fun k => if k == n then false else d.domainSet k) (fun t => if unitDomain t == n then false else d.switchClosed t) [] = false)
    (fun d _ => (domainUnits n).foldl (fun d u => (d.dropShadows u).drainUnit u .host) (d.setDomain n .draining))) ∧
  (∀ n, 4 ≤ n → n ≤ 15 → Accepts .pwrDomainCmd P.pwrDomainCmd (fun d m => m.body.length = 5 ∧ doms m = [n] ∧ leAt 4 1 m.body = 1 ∧ d.power.inS2 = false ∧
      d.domainBusy n = false ∧ d.domainSet n = false ∧ (∀ t, t < nTiles → unitDomain t = n → d.tileBusy t = false) ∧
      d.dependency (fun k => if k == n then true else d.domainSet k) (fun t => if unitDomain t == n then true else d.switchClosed t) ([n].filter (fun k => 12 ≤ k && k ≤ 15)) = false)
    (fun d _ => d.setDomain n .ramping)) ∧
  Accepts .pwrDomainCmd P.pwrDomainCmd (fun d m => m.body.length = 5 ∧ doms m = [20] ∧ leAt 4 1 m.body = 1 ∧ d.domain 20 = .off ∧ d.lcy.burning = none ∧
      d.dependency (fun k => if k == 20 then true else d.domainSet k) d.switchClosed [] = false)
    (fun d _ => d.setDomain 20 .on) ∧
  Accepts .pwrDomainCmd P.pwrDomainCmd (fun d m => m.body.length = 5 ∧ doms m = [20] ∧ leAt 4 1 m.body = 0 ∧ d.domain 20 = .on ∧ d.lcy.burning = none ∧
      d.dependency (fun k => if k == 20 then false else d.domainSet k) d.switchClosed [] = false)
    (fun d _ => d.setDomain 20 .off) ∧
  Refuses .pwrTileCmd P.pwrTileCmd (fun _ m => m.body.length = 17 ∧ (leAt 16 1 m.body > 1 ∨ tiles m = [])) (Reply.range P.pwrTileCmd) ∧
  Accepts .pwrTileCmd P.pwrTileCmd (fun d m => m.body.length = 17 ∧ leAt 16 1 m.body = 0 ∧ tiles m ≠ [] ∧
      ∀ t ∈ tiles m, d.domainBusy (unitDomain t) = false ∧ d.tileBusy t = false)
    (fun d m => ((tiles m).filter d.switchClosed).foldl Dev.openTile d) ∧
  Accepts .pwrTileCmd P.pwrTileCmd (fun d m => m.body.length = 17 ∧ leAt 16 1 m.body = 1 ∧ tiles m ≠ [] ∧
      ∀ t ∈ tiles m, d.tileBusy t = false ∧ d.domain (unitDomain t) = .on ∧ d.domain (hearthDomain (quadOf t)) = .on)
    (fun d m => ((tiles m).filter (fun t => !d.switchClosed t)).foldl Dev.closeTile d))

/-- Units out and back (R81, R120, R121, R122, R276, R281, R496): OUT from the pool, RETURN from OUT, RESET in every pool state but OFF, absorbed by a
reset of the main domains in progress. Units out of the pool and back (R81, R101 to R104, R109, R116, R122, R123, R271 to R273, R277): a step of
RETURNING that fails takes the unit OUT, the last that passes opens its probation; a matched count joins it at the next boundary; scrubs and refreshes
end; bad words are counted, recovered, or move the operation off. -/
def Obligations.UnitsOutAndBack : Prop :=
  (
  ∀ (c : Nat × Nat × (Msg → Instr) × (Msg → Instr) × (Msg → Instr) × Param × Param × Param),
  c ∈ ([(0, 128, .tilCmdOut, .tilCmdReturn, .tilCmdReset, P.tilCmdOut, P.tilCmdReturn, P.tilCmdReset),
        (128, 32, .hamCmdOut, .hamCmdReturn, .hamCmdReset, P.hamCmdOut, P.hamCmdReturn, P.hamCmdReset),
        (160, 16, .fulCmdOut, .fulCmdReturn, .fulCmdReset, P.fulCmdOut, P.fulCmdReturn, P.fulCmdReset)] : List _) →
  let u (m : Msg) : Nat := c.1 + m.row.toNat
  let named (m : Msg) : Prop := m.body = [] ∧ m.row.toNat < c.2.1
  let out := c.2.2.1
  let back := c.2.2.2.1
  let reset := c.2.2.2.2.1
  let po := c.2.2.2.2.2.1
  let pb := c.2.2.2.2.2.2.1
  let pr := c.2.2.2.2.2.2.2
  Accepts out po (fun d m => named m ∧ (d.unit (u m)).pool = .inPool) (fun d m => (d.drainUnit (u m) .host).rolloutStep) ∧
  Refuses out po (fun d m => named m ∧ (d.unit (u m)).pool ≠ .inPool) (Reply.err resState) ∧
  Refuses out po (fun _ m => m.body = [] ∧ m.row.toNat ≥ c.2.1) (Reply.err resUnknown) ∧
  Accepts back pb (fun d m => named m ∧ (d.unit (u m)).pool = .out)
    (fun d m => (d.setPool (u m) .returning .host).onUnit (u m) (fun x => { x with returnStep := if u m < nTiles then 2 else 1, matched := 0 })) ∧
  Refuses back pb (fun d m => named m ∧ (d.unit (u m)).pool ≠ .out) (Reply.err resState) ∧
  Accepts reset pr (fun d m => named m ∧ d.modes.inReset = none ∧ (d.unit (u m)).pool ≠ .off)
    (fun d m => ((((d.unitOut (u m) .host).unitDefaults (u m)).scrubMemory (u m)).goOn).rolloutStep) ∧
  Refuses reset pr (fun d m => named m ∧ d.modes.inReset = none ∧ (d.unit (u m)).pool = .off) (Reply.err resState) ∧
  Accepts reset pr (fun d m => named m ∧ d.modes.inReset.isSome = true) (fun d _ => d.onModes (fun x => { x with lastReset := 5, lastResetSource := 0 }))) ∧
  (
  (∀ (s : State) (u : Nat) (ok : Bool) (found : WordCheck), u < nUnits →
    let d := s.dev
    let x := d.unit u
    let live : Prop := x.pool = .returning ∧ (d.modes.mode = .boot → d.boot.step = 8 ∧ d.boot.halted = false) ∧ d.unitPowered u = true
    let checks : Prop := x.returnStep = (if u < nTiles then 3 else 2)
    let last := if u < nTiles then 4 else 2
    let fails : Prop := ok = false ∨ (checks ∧ ((∃ w ∈ found, 2 < w.symbols) ∨ 4 < correctedWords found))
    (∀ e : Dev, (checks → e = ((d.countWords u found).wipe u).onUnit u (fun y => { y with scrubbing := false })) → (¬ checks → e = d) →
      (¬ live → s.goes (.returnStepDone u ⟨ok, found⟩) d) ∧
      (live → fails → s.goes (.returnStepDone u ⟨ok, found⟩) (e.returnFail u).rolloutStep) ∧
      (live → ¬ fails → last ≤ x.returnStep →
        (u < nTiles ∧ (e.q u).calibrating = true → s.goes (.returnStepDone u ⟨ok, found⟩) e) ∧
        (¬ (u < nTiles ∧ (e.q u).calibrating = true) → s.goes (.returnStepDone u ⟨ok, found⟩) (e.endReturn u).rolloutStep)) ∧
      (live → ¬ fails → x.returnStep < last →
        let f := e.onUnit u (fun y => { y with returnStep := y.returnStep + 1 })
        (u < nTiles → checks → s.goes (.returnStepDone u ⟨ok, found⟩) (f.startCalibration u)) ∧
        (¬ (u < nTiles ∧ checks) → s.goes (.returnStepDone u ⟨ok, found⟩) f))) ∧
    (d.modes.mode = .boot → d.endReturn u = (d.setPool u .joining .host).poolChange { unit := u, target := .inPool, edge := .host }) ∧
    (d.modes.mode ≠ .boot → d.endReturn u = d.enterProbation u) ∧
    (let total := if 4096 ≤ x.matched then x.matched else x.matched + Config.freeNat d.freeCtr
     ((x.pool ≠ .probation ∨ d.now < x.probationStart + 5000000) → s.goes (.probationComplete u) d) ∧
     (x.pool = .probation → x.probationStart + 5000000 ≤ d.now → total < 4096 → s.goes (.probationComplete u) d.fresh.2) ∧
     (x.pool = .probation → x.probationStart + 5000000 ≤ d.now → 4096 ≤ total → s.goes (.probationComplete u)
       ((((d.fresh.2.dropShadows u).setPool u .joining .host).onUnit u (fun y => { y with matched := total })).poolChange
         { unit := u, target := .inPool, edge := .host }).rolloutStep)) ∧
    (x.scrubbing = false → s.goes (.scrubDone u) d) ∧
    (x.scrubbing = true → s.goes (.scrubDone u) (d.onUnit u (fun x => { x with scrubbing := false })).startReady) ∧
    (x.refreshing = false → s.goes (.keyRegisterRefreshDone u) d) ∧
    (x.refreshing = true → s.goes (.keyRegisterRefreshDone u) ((d.refreshKey u).onUnit u (fun x => { x with refreshing := false })).startReady)) ∧
  (∀ (s : State) (u : Nat) (l : WordCheck), u < nUnits →
    let d := s.dev
    let live : Prop := u < 160 ∧ d.modes.mode.powered = true ∧ d.unitPowered u = true
    (¬ live → s.goes (.patrolScrub u l) d) ∧
    (live → s.goes (.patrolScrub u l) (l.foldl (patrolOne u) d).goOn)) ∧
  (∀ (d : Dev) (u : Nat) (w : WordRead),
    let e := if w.place = .keyRegister then d.reloadKey u else d
    let f := d.addNum P.tilUeCount u 1
    let g := if w.place = .keyRegister then f.reloadKey u else f
    (u < nTiles → w.symbols = 0 → patrolOne u d w = d) ∧
    (u < nTiles → 0 < w.symbols → w.symbols ≤ 2 → patrolOne u d w = d.addNum P.tilCeCount u 1) ∧
    (u < nTiles → 2 < w.symbols → (∃ n, w.place = .slot n) → patrolOne u d w = f.recoveredWord u) ∧
    (u < nTiles → 2 < w.symbols → (∀ n, w.place ≠ .slot n) →
      (w.again = 0 → patrolOne u d w = g.recoveredWord u) ∧
      (0 < w.again → w.again ≤ 2 → patrolOne u d w = (g.addNum P.tilCeCount u 1).recoveredWord u) ∧
      (2 < w.again → patrolOne u d w = g.moveOff u)) ∧
    (nTiles ≤ u → w.symbols ≤ 2 → patrolOne u d w = d) ∧
    (nTiles ≤ u → 2 < w.symbols → patrolOne u d w = if w.again ≤ 2 then e.recoveredEngineWord u else e.moveOff u)) ∧
  (∀ (s : State) (u : Nat) (k ok : Bool), u < nUnits →
    let d := s.dev
    let engine := 128 ≤ u ∧ u < 160 ∧ d.unitPowered u = true
    let e := if k then d.reloadKey u else d
    (¬ engine → s.goes (.engineUncorrectableWord u k ok) d) ∧
    (engine → s.goes (.engineUncorrectableWord u k false) (e.moveOff u).goOn ∧ s.goes (.engineUncorrectableWord u k true) (e.recoveredEngineWord u)) ∧
    ((u < nTiles ∨ d.running u = none) → s.goes (.engineCheckpoint u) d) ∧
    (∀ j x q, nTiles ≤ u → d.running u = some (j, x, q) →
      (x.abort = none → s.goes (.engineCheckpoint u) d) ∧
      (∀ st, x.abort = some st →
        let f := (if st = 0x0701 ∨ st = 0 then d.wipe x.unit else d.scrub x.unit).dropJob j
        ((∃ y ∈ f.jobsOf x.req, y.2.runs = true) → s.goes (.engineCheckpoint u) f) ∧
        ((∀ y ∈ f.jobsOf x.req, y.2.runs = false) →
          (q.gen ≠ f.num P.slcGeneration q.slice → s.goes (.engineCheckpoint u) (f.dropReq x.req false).goOn) ∧
          (q.gen = f.num P.slcGeneration q.slice → st = 0 → s.goes (.engineCheckpoint u) ((f.dropReq x.req false).freezeSettled q.slice).goOn) ∧
          (q.gen = f.num P.slcGeneration q.slice → st ≠ 0 → s.goes (.engineCheckpoint u) (f.fail x.req (q.halfStatus st)).goOn))))) ∧
  (∀ (d : Dev) (u : Nat),
    let span := if u < nTiles then 268435456 else 357913941
    let a := d.raiseUnit 0x0801 u 0
    let keep := (a.unit u).ueTimes.filter (fun t => a.now < t + span)
    let after (l : List Nat) := a.onUnit u (fun x => { x with ueTimes := l })
    let f : Dev := if u < nTiles then d.recoveredWord u else d.recoveredEngineWord u
    (keep.length < 2 → f = after (keep ++ [a.now])) ∧
    (2 ≤ keep.length → f = ((after []).raiseUnit 0x0806 u 0).drainUnit u .alarm)))

/-- Slices by command (R389, R391, R396, R401, R403, R405 to R407): creation, reset, removal, freeze and thaw, and the stored image. -/
def Obligations.SliceCommands : Prop :=
  let i (m : Msg) : Nat := m.row.toNat
  let new (m : Msg) : Nat := leAt 0 2 m.body
  let fits (d : Dev) (m : Msg) : Prop := m.body.length = 64 ∧ new m < 4096 ∧ allZero (m.body.drop 53) = true ∧ d.sliceExists (new m) = false ∧
    (d.sliceSt (new m)).restoring = none ∧ d.creating = false ∧ d.sliceBad (new m) (createArgs m.body) = none
  let named (d : Dev) (m : Msg) (st : SliceState) : Prop := i m < 4096 ∧ (d.sliceSt (i m)).state = st
  Accepts .slcCmdCreate P.slcCmdCreate (fun d m => fits d m ∧ (d.root (new m)).held = true) (fun d m => d.makeInstance (new m) (createArgs m.body)) ∧
  Defers .slcCmdCreate P.slcCmdCreate (fun d m => fits d m ∧ (d.root (new m)).held = false ∧ d.modes.storeOpen = true)
    (fun d m => (d.draw 32).2.journal (sliceUpdate (new m) .sliceRoot (m.body ++ (d.draw 32).1) (some (m.src, m.reqId.toNat)))) ∧
  Refuses .slcCmdCreate P.slcCmdCreate (fun d m => m.body.length = 64 ∧ new m < 4096 ∧ allZero (m.body.drop 53) = true ∧ d.sliceExists (new m) = true) (Reply.err resState) ∧
  (∀ p, Refuses .slcCmdCreate P.slcCmdCreate (fun d m => m.body.length = 64 ∧ new m < 4096 ∧ allZero (m.body.drop 53) = true ∧ d.sliceExists (new m) = false ∧
    (d.sliceSt (new m)).restoring = none ∧ d.creating = false ∧ d.sliceBad (new m) (createArgs m.body) = some p) (Reply.range p)) ∧
  (∀ st, st = .active ∨ st = .frozen →
    Accepts .slcCmdReset P.slcCmdReset (fun d m => m.body = [] ∧ named d m st ∧ d.modes.inReset = none) (fun d m => d.beginSliceReset (i m) .host)) ∧
  Accepts .slcCmdReset P.slcCmdReset (fun d m => m.body = [] ∧ i m < 4096 ∧ d.modes.inReset.isSome = true)
    (fun d _ => d.onModes (fun x => { x with lastReset := 4, lastResetSource := 0 })) ∧
  Refuses .slcCmdReset P.slcCmdReset (fun d m => m.body = [] ∧ named d m .resetting ∧ d.modes.inReset = none) (Reply.err resBusy) ∧
  Accepts .slcCmdRemove P.slcCmdRemove (fun d m => m.body = [0] ∧ named d m .active)
    (fun d m => (d.beginSliceReset (i m) .host).onSlice (i m) (fun x => { x with removal := true, purge := false })) ∧
  Accepts .slcCmdRemove P.slcCmdRemove (fun d m => m.body = [1] ∧ named d m .active ∧ d.isHome (i m) = true)
    (fun d m => (d.beginSliceReset (i m) .host).onSlice (i m) (fun x => { x with removal := true, purge := true })) ∧
  Refuses .slcCmdRemove P.slcCmdRemove (fun d m => m.body = [1] ∧ named d m .active ∧ d.isHome (i m) = false) (Reply.err resState) ∧
  Accepts .slcCmdFreeze P.slcCmdFreeze (fun d m => m.body = [] ∧ named d m .active)
    (fun d m => (d.onSlice (i m) (fun x => { x with state := .frozen, edge := .host, freezeStart := d.now, limitPassed := false, cancelled := 0, drainedCount := 0,
                                                    frozenDrained := false })).freezeSettled (i m)) ∧
  (∀ st, st ≠ .active → Refuses .slcCmdFreeze P.slcCmdFreeze (fun d m => m.body = [] ∧ named d m st) (Reply.err resState)) ∧
  Accepts .slcCmdThaw P.slcCmdThaw (fun d m => m.body = [] ∧ named d m .frozen ∧ d.saving (i m) = false)
    (fun d m =>
      let e := ((d.onSlice (i m) (fun x => { x with state := .active, edge := .host })).numberReissues (i m)).replayWaiting (i m)
      (e.qpsOf (i m)).foldl (fun e q => e.onQp q (fun p => { p with parked := false })) e) ∧
  Refuses .slcCmdThaw P.slcCmdThaw (fun d m => m.body = [] ∧ named d m .frozen ∧ d.saving (i m) = true) (Reply.err resBusy) ∧
  (∀ im, Accepts .slcCmdImageFetch P.slcCmdImageFetch
    (fun d m => m.body.length = 16 ∧ i m < 4096 ∧ (d.sliceSt (i m)).stored = some im ∧ im.length ≤ leAt 8 8 m.body)
    (fun d m => d.emit (.hostWrite none BusAttr.plain (leAt 0 8 m.body) im.bytes))) ∧
  Accepts .slcCmdImageDiscard P.slcCmdImageDiscard (fun d m => m.body = [] ∧ i m < 4096 ∧ (d.sliceSt (i m)).stored.isSome = true)
    (fun d m => d.onSlice (i m) (fun x => { x with stored := none }))

/-- A READ of SLC_EVENTS (R404): whole records, oldest first, which it removes; records lost while the ring was full are then told of. Migration (R407 to
R409): a save of a drained frozen slice to a reachable member is journaled, with its nonce, buffer and free lengths; a restore is taken where its
image passes every check, and else refused with the first that fails. -/
def Obligations.SliceEventsReadAndMigration : Prop :=
  (
  ∀ (s : State) (m : Msg) (r : CatRow),
  let d := s.dev
  let i := m.row.toNat
  let x := d.sliceSt i
  let skip := ceilDiv (leAt 0 4 m.body) 32
  let n := Nat.min (leAt 4 4 m.body / 32) 63
  let got := (x.events.drop skip).take n
  d.heard m.src = true → d.repeated m.src m.reqId.toNat = none → d.alone d.lc m.src = false → catFind P.slcEvents = some r → r.rowOk m.row.toNat = true →
  ((d.mayDo d.lc m.src P.slcEvents (r.index m.row.toNat) false m.body).isNone = true → exec (.slcEvents m) s = s.answered d m (Reply.err resAccess)) ∧
  ((d.mayDo d.lc m.src P.slcEvents (r.index m.row.toNat) false m.body).isSome = true → m.body.length = 8 →
    let e := d.onSlice i (fun y => { y with events := y.events.take skip ++ y.events.drop (skip + n) })
    exec (.slcEvents m) s =
      s.answered (if x.dropped > 0 ∧ got ≠ [] then (e.onSlice i (fun y => { y with dropped := 0 })).event i 8 0xFFFF x.dropped 0 else e) m
        (Reply.data' (got.flatMap (fun e => natLE 8 e.time ++ natLE 2 e.code ++ natLE 2 e.queue ++ zeros 4 ++ natLE 8 e.detail0 ++ natLE 8 e.detail1))))) ∧
  (
  (∀ (s : State) (m : Msg),
    let d := s.dev
    let i := m.row.toNat
    let dest := m.body.take 32
    let size := 128 + Config.freeNat d.freeCtr + 16
    d.granted P.slcCmdSave m = true → m.body.length = 48 → i < 4096 → d.saving i = false → (d.sliceSt i).state = .frozen → (d.sliceSt i).frozenDrained = true →
    d.modes.storeOpen = true →
    (d.reachable dest = false → exec (.slcCmdSave m) s = s.answered d m (Reply.refused "GROUP" 0)) ∧
    (d.reachable dest = true → leAt 40 8 m.body < size → exec (.slcCmdSave m) s = s.answered d.fresh.2.fresh.2 m (Reply.refused "SPACE" (size % 2 ^ 32))) ∧
    (d.reachable dest = true → size ≤ leAt 40 8 m.body → 16777216 < size → exec (.slcCmdSave m) s = s.answered d.fresh.2.fresh.2 m (Reply.refused "SIZE" 0)) ∧
    (d.reachable dest = true → size ≤ leAt 40 8 m.body → size ≤ 16777216 →
      let drawn := d.fresh.2.fresh.2.draw 48
      let nonce := drawn.1.take 16
      let key := drawn.1.drop 16
      exec (.slcCmdSave m) s = .next (s.withDev ((drawn.2.emit (.peer 3 i (dest ++ nonce ++ key))).journal
        (sliceUpdate i .storeImage (dest ++ nonce ++ slice 32 8 m.body ++ natLE 4 (Config.freeNat d.freeCtr) ++ natLE 8 (d.freeCtr + 1) ++ key) (some (m.src, m.reqId.toNat))))))) ∧
  (∀ (s : State) (m : Msg) (im : Machine.ImageRead),
    let d := s.dev
    let h := im.header
    let i := leAt 6 2 h
    let pasid := leAt 16 4 m.body
    d.granted P.slcCmdRestore m = true → m.body.length = 20 →
    (∀ why, d.imageBar im (leAt 8 8 m.body) pasid = some why → exec (.slcCmdRestore m im) s = s.answered d m (Reply.refused why 0)) ∧
    (d.imageBar im (leAt 8 8 m.body) pasid = none →
      let x : SliceImage := { im.content with slice := i, source := slice 8 32 h, dest := slice 40 32 h, nonce := slice 72 16 h, gen := leAt 88 2 h,
                                              home := leAt 90 1 h == 1, replMark := leAt 96 8 h, bodyLen := leAt 92 4 h, body := im.rest }
      exec (.slcCmdRestore m im) s = s.answered (d.onSlice i (fun y => { y with restoring := some (x, pasid) })) m Reply.ok)) ∧
  (∀ (d : Dev) (im : Machine.ImageRead) (len pasid : Nat) (t : TransportKey),
    let h := im.header
    let whole := h.length = 128 ∧ leAt 0 4 h = 0x4F515349 ∧ leAt 4 2 h = 1 ∧ leAt 6 2 h < 4096 ∧ leAt 90 1 h ≤ 1 ∧ leAt 91 1 h = 0 ∧ allZero (slice 104 24 h) = true ∧
      im.rest.length = leAt 92 4 h + 16 ∧ 128 + im.rest.length ≤ len
    (¬ whole → d.imageBar im len pasid = some "FORMAT") ∧
    (whole → slice 40 32 h ≠ deviceIdentity → d.imageBar im len pasid = some "DESTINATION") ∧
    (whole → slice 40 32 h = deviceIdentity →
      ((∀ k ∈ d.vault.transport, k.nonce = slice 72 16 h → k.used = true) → d.imageBar im len pasid = some "NONCE") ∧
      (d.vault.transport = [t] → t.nonce = slice 72 16 h → t.used = false →
        d.imageBar im len pasid =
          if imageTagOk t.key h im.rest = false then some "TAG"
          else if d.sliceExists (leAt 6 2 h) = true ∨ (d.sliceSt (leAt 6 2 h)).restoring.isSome = true then some "SLICE_BUSY"
          else if (d.sliceBad (leAt 6 2 h) ((P.slcPasid, pasid) :: im.content.params)).isSome = true then some "RESOURCES"
          else none))) ∧
  (∀ key header plain : Bytes, key.length = 32 → imageTagOk key header (imageSeal key header plain) = true ∧ (imageSeal key header plain).length = plain.length + 16))

/-- The microprogram library (R176, R177, R182): an install or removal is journaled once its checks pass, and its answer follows the commit; a minimum SVN
only rises; a rollout starts with its lowest tile whose configuration changes, and changes nothing where none does. The officer's vault commands
(R325, R330): INIT erases the key store under a new ember key, RECOVER keeps what a peer can open again, and SET_HOME names the home, a new one
waiting for a lag of 0. -/
def Obligations.MicroprogramAndVaultCommands : Prop :=
  (
  let update (m : Msg) (k : UpdateKind) : Update :=
    { req := none, slice := 0xFFFF, seq := 0, opcode := 0, parent := 0, kind := k, parentGen := 0, acked := true, status := 0, output := [],
      ticket := some (m.src, m.reqId.toNat) }
  let tiles (m : Msg) : List Nat := (List.range nTiles).filter (fun t => (leNat m.body).testBit t)
  let changing (d : Dev) (m : Msg) : List Nat := (tiles m).filter (fun t => tabGet (d.slots t) t d.lib.target != d.slots t)
  (∀ why, Refuses .mpgInstall P.mpgInstall (fun d m => m.body = [] ∧ d.mpBar d.lib.container = some why) (Reply.refused why 0)) ∧
  Defers .mpgInstall P.mpgInstall (fun d m => m.body = [] ∧ d.mpBar d.lib.container = none) (fun d m => d.journal (update m (.library d.lib.container))) ∧
  Refuses .mpgRemove P.mpgRemove (fun d m => m.body.length = 8 ∧ d.mp? (leAt 0 4 m.body) (leAt 4 4 m.body) = none) (Reply.range P.mpgRemove) ∧
  Refuses .mpgRemove P.mpgRemove (fun d m => m.body.length = 8 ∧ (d.mp? (leAt 0 4 m.body) (leAt 4 4 m.body)).isSome = true ∧
    d.mpInUse (leAt 0 4 m.body) (leAt 4 4 m.body) = true) (Reply.err resState) ∧
  Defers .mpgRemove P.mpgRemove (fun d m => m.body.length = 8 ∧ (d.mp? (leAt 0 4 m.body) (leAt 4 4 m.body)).isSome = true ∧
      d.mpInUse (leAt 0 4 m.body) (leAt 4 4 m.body) = false)
    (fun d m => d.journal (update m (.libraryRemove (leAt 0 4 m.body) (leAt 4 4 m.body)))) ∧
  Accepts .mpgMinSvn P.mpgMinSvn (fun d m => m.body.length = 4 ∧ d.num P.mpgMinSvn m.row.toNat ≤ leNat m.body ∧
      ∀ x ∈ d.lib.library, x.mpId = m.row.toNat → d.mpInUse m.row.toNat x.version = true → leNat m.body ≤ x.svn)
    (fun d m => d.setNum P.mpgMinSvn m.row.toNat (leNat m.body)) ∧
  Refuses .mpgMinSvn P.mpgMinSvn (fun d m => m.body.length = 4 ∧ leNat m.body < d.num P.mpgMinSvn m.row.toNat) (Reply.range P.mpgMinSvn) ∧
  (∀ n l, Accepts .mpgCmdRollout P.mpgCmdRollout (fun d m => m.body.length = 16 ∧ changing d m = n :: l ∧ d.lib.rolloutState ≠ 1 ∧
      (∀ t ∈ changing d m, (d.unit t).pool ≠ .off) ∧ ∀ t ∈ changing d m, d.slotsOk (tabGet (d.slots t) t d.lib.target) = true)
    (fun d _ => (d.onLib (fun x => { x with rolloutState := 1, rolloutDraining := false, rolloutTiles := n :: l, rolloutCurrent := n, rolloutStopped := 0,
                                            rolloutReason := 0 })).rolloutStep)) ∧
  Accepts .mpgCmdRollout P.mpgCmdRollout (fun d m => m.body.length = 16 ∧ tiles m ≠ [] ∧ changing d m = [] ∧ d.lib.rolloutState ≠ 1)
    (fun d _ => d.onLib (fun x => { x with rolloutState := 0, rolloutTiles := [], rolloutStopped := 0, rolloutReason := 0 })) ∧
  Refuses .mpgCmdRollout P.mpgCmdRollout (fun d m => m.body.length = 16 ∧ d.lib.rolloutState ≠ 1 ∧ (∀ t ∈ changing d m, (d.unit t).pool ≠ .off) ∧
    ∃ t ∈ changing d m, d.slotsOk (tabGet (d.slots t) t d.lib.target) = false) (Reply.range P.mpgSlotTarget) ∧
  Refuses .mpgCmdRollout P.mpgCmdRollout (fun d m => m.body.length = 16 ∧ tiles m ≠ [] ∧ d.lib.rolloutState = 1) (Reply.err resBusy)) ∧
  (
  let sealed' (d : Dev) (m : Msg) : Prop := m.body = [] ∧ d.modes.mode = .sealed ∧ d.lcState < 4
  let part (d : Dev) (i : Nat) : Bytes := slice (32 * i) 32 (d.draw 128).1
  let keyed (d : Dev) : Dev :=
    let e := (d.draw 128).2.onBackup (fun b => { b with emberShares := [xorBytes (part d 0) (part d 1), part d 1], reprovisioned := true })
    (e.onVault (fun v => { v with
      deviceRoot := none, master := some (part d 2), domainRoot := some (part d 3), masterWrapped := wrapKey (kmac256 d.pufSecret e.backup.emberKey "OQ7168-ROOT") (part d 2)
      domainWrapped := wrapKey (part d 2) (part d 3), recovered := true, updates := [], journalUsed := 0, journalHigh := false })).dropPlacements (fun _ _ => true)
  let tagged (v : VaultSt) : Tab Nat Nat := v.nodes.foldl (fun t e => tabSet e.1 e.2.tag t) v.tags
  Accepts .vltCmdInit P.vltCmdInit sealed' (fun d _ => (keyed d).onVault (fun v =>
    { v with nodes := [], tags := tagged v, roots := [], retained := [], lowMarks := [], misses := [], roomless := [], store := [], marks := [], reserved := [],
             invalidations := [], seqs := [], transport := [], recovering := false, homeMoves := [] })) ∧
  Accepts .vltCmdRecover P.vltCmdRecover sealed' (fun d _ => (keyed d).onVault (fun v =>
    { v with recovering := true, roots := v.roots.map (fun e => (e.1, { e.2 with closed := true, key := [] })), seqs := v.marks, misses := [], roomless := [], invalidations := [],
             tags := tagged v, nodes := (v.store.filter (fun e => e.2.stateful = none)).map (fun e => (e.1, { e.2 with resident := false, shares := [] })) })) ∧
  Refuses .vltCmdInit P.vltCmdInit (fun d m => m.body = [] ∧ (d.modes.mode ≠ .sealed ∨ 4 ≤ d.lcState)) (Reply.err resState) ∧
  Refuses .vltCmdRecover P.vltCmdRecover (fun d m => m.body = [] ∧ (d.modes.mode ≠ .sealed ∨ 4 ≤ d.lcState)) (Reply.err resState) ∧
  Accepts .vltCmdSetHome P.vltCmdSetHome (fun d m => m.body.length = 34 ∧ leAt 0 2 m.body < 4096 ∧ (m.body.drop 2 = deviceIdentity ∨ d.groupMember (m.body.drop 2) = true))
    (fun d m =>
      let i := leAt 0 2 m.body
      (d.onVault (fun v => { v with homeMoves := v.homeMoves.filter (· != i) ++
        (if m.body.drop 2 = deviceIdentity ∧ d.isHome i = false ∧ d.replLag i ≠ 0 then [i] else []) })).setOct P.vltSliceHome i (m.body.drop 2)) ∧
  Refuses .vltCmdSetHome P.vltCmdSetHome (fun d m => m.body.length = 34 ∧ leAt 0 2 m.body < 4096 ∧ m.body.drop 2 ≠ deviceIdentity ∧ d.groupMember (m.body.drop 2) = false)
    (Reply.range P.vltCmdSetHome))

/-- The tamper officer's commands and settings (R412, R426, R431, R437, R439, R440): a class stays at or above its floor; from FIELDED on no enable is
cleared. -/
def Obligations.TamperCommands : Prop :=
  let mask (c : Msg → Instr) (p : Param) (hi : Nat) : Prop :=
    Accepts c p (fun d m => m.body.length = 1 ∧ leNat m.body ≤ hi ∧ (d.lcState < 3 ∨ d.num p 0 &&& leNat m.body = d.num p 0))
      (fun d m => (d.setNum p 0 (leNat m.body)).policyWritten p) ∧
    Refuses c p (fun _ m => m.body.length = 1 ∧ hi < leNat m.body) (Reply.range p) ∧
    Refuses c p (fun d m => m.body.length = 1 ∧ leNat m.body ≤ hi ∧ 3 ≤ d.lcState ∧ d.num p 0 &&& leNat m.body ≠ d.num p 0) (Reply.err resState)
  mask .tmpMeshEnable P.tmpMeshEnable 0xFF ∧ mask .tmpSwitchEnable P.tmpSwitchEnable 0x0F ∧
  Accepts .tmpA4Scrap P.tmpA4Scrap (fun d m => (m.body = [1] ∨ m.body = [0]) ∧ (d.lcState < 3 ∨ m.body = [1]))
    (fun d m => (d.setNum P.tmpA4Scrap 0 (leNat m.body)).policyWritten P.tmpA4Scrap) ∧
  Refuses .tmpA4Scrap P.tmpA4Scrap (fun d m => m.body = [0] ∧ 3 ≤ d.lcState) (Reply.err resState) ∧
  Accepts .tmpClass P.tmpClass (fun d m => m.body.length = 1 ∧ sourceListed m.row.toNat = true ∧ leNat m.body ≤ 4 ∧ sourceFloor m.row.toNat ≤ leNat m.body ∧
      ¬ (3 ≤ d.lcState ∧ m.row.toNat / 16 = 0x71 ∧ leNat m.body < d.sourceClass m.row.toNat))
    (fun d m => (d.setNum P.tmpClass m.row.toNat (leNat m.body)).policyWritten P.tmpClass) ∧
  Refuses .tmpClass P.tmpClass (fun _ m => m.body.length = 1 ∧ sourceListed m.row.toNat = true ∧ (4 < leNat m.body ∨ leNat m.body < sourceFloor m.row.toNat))
    (Reply.range P.tmpClass) ∧
  Accepts .tmpCmdBist P.tmpCmdBist (fun d m => m.body = [] ∧ d.tamper.testing = none ∧ d.modes.mode.powered = true)
    (fun d _ => d.onTamper (fun t => { t with testing := mainMonitors[t.bistNext % mainMonitors.length]?, bistNext := t.bistNext % mainMonitors.length + 1,
                                              bistStart := if t.bistNext % mainMonitors.length = 0 then d.now else t.bistStart })) ∧
  Refuses .tmpCmdBist P.tmpCmdBist (fun d m => m.body = [] ∧ d.tamper.testing.isSome = true) (Reply.err resBusy) ∧
  Accepts .tmpCmdTamperClear P.tmpCmdTamperClear (fun d m => m.body = [] ∧ d.backup.reprovisioned = true) (fun d _ => d.onBackup (fun b => { b with tamperOut := false })) ∧
  Refuses .tmpCmdTamperClear P.tmpCmdTamperClear (fun d m => m.body = [] ∧ d.backup.reprovisioned = false) (Reply.err resState) ∧
  Refuses .tmpCmdAck P.tmpCmdAck (fun d m => m.body.length = 4 ∧ d.tamper.logNext ≤ leNat m.body) (Reply.range P.tmpCmdAck) ∧
  (∀ (s : State) (m : Msg), s.dev.granted P.tmpCmdAck m = true → m.body.length = 4 →
    let d := s.dev
    let pos := leNat m.body
    let lo := d.tamper.logNext - 1024
    let upTo := d.tamper.log.filter (fun e => e.2.acked == false && (List.range (min (pos + 1) d.tamper.logNext - lo)).any (fun i => (lo + i) % 1024 == e.1))
    let role := match m.src with | .session n => ((tabGet? n d.mgmt.sessions).map Session.role).getD 0 | _ => 0
    let seqs := upTo.filterMap (fun e => e.2.blogSeq)
    pos < d.tamper.logNext →
    (role = roleOperator → (∃ e ∈ upTo, 3 ≤ e.2.cls) → exec (.tmpCmdAck m) s = s.answered d m (Reply.err resAccess)) ∧
    ((role ≠ roleOperator ∨ ∀ e ∈ upTo, e.2.cls < 3) →
      exec (.tmpCmdAck m) s = s.answered
        ((d.onTamper (fun t => { t with log := tabMap (fun k e => if upTo.any (fun x => x.1 == k) then { e with acked := true } else e) t.log })).onBackup
          (fun b => { b with log := b.log.map (fun e => if seqs.contains e.seq then { e with acked := true } else e) })) m Reply.ok))

/-- Debug authorisation by command (R324, R459 to R462): a nonce of 16 drawn bytes; a certificate that passes every check opens DEBUG under the test root,
and one that fails from check 5 on uses up the nonce; END lapses the rights. Life cycle by command (R448, R449, R452, R455): PREPARE holds a
transition for 10 s, wiping first for RETURNED; BURN starts its field at the lowest bit that is not firm; debug keys are burned once, in INTEGRATOR,
and revoked there and in FIELDED. -/
def Obligations.LifeCycleAndDebugCommands : Prop :=
  (
  Accepts .dbgCmdNonce P.dbgCmdNonce (fun d m => m.body = [] ∧ (tabGet Drbg.reset 0 d.bellows.instances).seeded = true ∧ d.num P.blwState 0 ≠ 3 ∧ d.num P.blwState 0 ≠ 0)
    (fun d _ => ((d.draw 16).2.onDebug (fun g => { g with nonce := some (d.draw 16).1 })).setOct P.dbgNonce 0 (d.draw 16).1) ∧
  Refuses .dbgCmdNonce P.dbgCmdNonce (fun d m => m.body = [] ∧ ((tabGet Drbg.reset 0 d.bellows.instances).seeded = false ∨ d.num P.blwState 0 = 3)) (Reply.err resState) ∧
  (∀ (s : State) (m : Msg) (n : Nat) (x : Session), s.dev.granted P.dbgCmdApply m = true → m.body = [] → m.src = .session n →
    tabGet? n s.dev.mgmt.sessions = some x →
    let d := s.dev
    let c := d.oct P.dbgCert 0
    let spent := (d.onDebug (fun g => { g with nonce := none })).setOct P.dbgNonce 0 []
    let officer := if d.lcState = 0 then x.role = roleMaker else x.role = roleOfficer
    (¬ officer → exec (.dbgCmdApply m) s = s.answered d m (Reply.err resAccess)) ∧
    (officer → ∀ why k, d.certBar c = some (why, k) → exec (.dbgCmdApply m) s = s.answered (if k ≥ 5 then spent else d) m (Reply.refused why k)) ∧
    (officer → d.certBar c = none →
      exec (.dbgCmdApply m) s = s.answered
        ((((((spent.enterTestRoot).onDebug (fun g => { g with certActive := true, notAfter := leAt 62 6 c })).setNum P.dbgRights 0 (leAt 68 4 c)).setOct P.dbgCertDigest 0
          (Sha2.sha384 c)).takeEdge .debug .host 0).extend 7 0x09 0 (Sha2.sha384 c)) m Reply.ok)) ∧
  Accepts .dbgCmdEnd P.dbgCmdEnd (fun d m => m.body = [] ∧ d.dbg.certActive = true) (fun d _ => d.setNum P.dbgRights 0 0) ∧
  Refuses .dbgCmdEnd P.dbgCmdEnd (fun d m => m.body = [] ∧ d.dbg.certActive = false) (Reply.err resState)) ∧
  (
  let target (m : Msg) : Nat := leNat m.body
  let one (m : Msg) : Prop := m.body.length = 1
  let lapsed (d : Dev) : Prop := d.lcy.prepared = none ∨ ∃ t a, d.lcy.prepared = some (t, a) ∧ a + 10 * ticksPerS < d.now
  let free (d : Dev) (m : Msg) : Prop := one m ∧ d.lcy.wiping = false ∧ d.lcy.burning = none ∧ lapsed d
  Accepts .lcyCmdPrepare P.lcyCmdPrepare (fun d m => free d m ∧ d.transitionBar m (target m) = none ∧ target m ≠ 4)
    (fun d m => (d.logMode 1 d.lcState (target m) 0 0).onLcy (fun l => { l with prepared := some (target m, (d.logMode 1 d.lcState (target m) 0 0).now) })) ∧
  Accepts .lcyCmdPrepare P.lcyCmdPrepare (fun d m => free d m ∧ d.transitionBar m 4 = none ∧ target m = 4)
    (fun d _ => ((((d.logMode 1 d.lcState 4 0 0).joinResponse 4).recordAlarm 0x900 0 4 4 1 false).respondA4 .host 0x900 false).onLcy (fun l => { l with wiping := true, prepared := none })) ∧
  (∀ r, Refuses .lcyCmdPrepare P.lcyCmdPrepare (fun d m => free d m ∧ d.transitionBar m (target m) = some r) r) ∧
  Refuses .lcyCmdPrepare P.lcyCmdPrepare (fun d m => one m ∧ (d.lcy.wiping = true ∨ d.lcy.burning.isSome = true)) (Reply.refused "BUSY" 0) ∧
  (∀ f a, Accepts .lcyCmdBurn P.lcyCmdBurn (fun d m => one m ∧ d.lcy.burning = none ∧ d.lcy.prepared = some (target m, a) ∧ d.now ≤ a + 10 * ticksPerS ∧
      d.transitionBar m (target m) = none ∧ d.transitionField (target m) = some f)
    (fun d m =>
      let e := d.logMode 2 d.lcState (target m) 0 f
      e.onLcy (fun l => { l with prepared := none, burning := some (f, ((e.field f).nextBit).getD 0), burnStop := false }))) ∧
  (∀ (s : State) (m : Msg), s.dev.granted P.lcyCmdBurn m = true → one m → s.dev.lcy.burning = none →
    let d := s.dev
    (d.lcy.prepared = none → exec (.lcyCmdBurn m) s = s.answered (d.burnResult 2 "NOT_PREPARED") m (Reply.err resState)) ∧
    (∀ t a, d.lcy.prepared = some (t, a) →
      (t ≠ target m → exec (.lcyCmdBurn m) s = s.answered (d.burnResult 2 "NOT_PREPARED") m (Reply.err resState)) ∧
      (t = target m → a + 10 * ticksPerS < d.now → exec (.lcyCmdBurn m) s = s.answered (d.burnResult 2 "EXPIRED") m (Reply.err resState)) ∧
      (t = target m → d.now ≤ a + 10 * ticksPerS → ∀ r, d.transitionBar m (target m) = some r → exec (.lcyCmdBurn m) s = s.answered (d.burnResult 2 "CONDITION") m r))) ∧
  Accepts .lcyCmdDbgKeyBurn P.lcyCmdDbgKeyBurn (fun d m => m.body.length = 49 ∧ leAt 0 1 m.body ≤ 3 ∧ d.lcState = 2 ∧ d.lcy.bootState = 2 ∧
      (tabGet KeySlot.reset (leAt 0 1 m.body) d.lcy.keySlots).burned = false ∧ d.domain 20 = .on)
    (fun d m => d.onLcy (fun l => { l with keySlots := tabMod KeySlot.reset (leAt 0 1 m.body) (fun k => { k with burned := true, digest := slice 1 48 m.body }) l.keySlots })) ∧
  Refuses .lcyCmdDbgKeyBurn P.lcyCmdDbgKeyBurn (fun d m => m.body.length = 49 ∧ leAt 0 1 m.body ≤ 3 ∧
      (d.lcState ≠ 2 ∨ (tabGet KeySlot.reset (leAt 0 1 m.body) d.lcy.keySlots).burned = true)) (Reply.err resState) ∧
  Accepts .lcyCmdDbgKeyRevoke P.lcyCmdDbgKeyRevoke (fun d m => one m ∧ leAt 0 1 m.body ≤ 3 ∧ (d.lcState = 2 ∨ d.lcState = 3) ∧ d.domain 20 = .on)
    (fun d m => d.onLcy (fun l => { l with keySlots := tabMod KeySlot.reset (leAt 0 1 m.body) (fun k => { k with revoked := true }) l.keySlots })) ∧
  Refuses .lcyCmdDbgKeyRevoke P.lcyCmdDbgKeyRevoke (fun d m => one m ∧ leAt 0 1 m.body ≤ 3 ∧ d.lcState ≠ 2 ∧ d.lcState ≠ 3) (Reply.err resState))

/-- Firmware and attestation by command (R470, R475, R478 to R480): staging in order, the whole image checked at its end, activation, confirmation and its
cancelling, and a quote of all slots. -/
def Obligations.FirmwareCommands : Prop :=
  let image (d : Dev) (m : Msg) : Bytes := (if leAt 0 4 m.body = 0 then [] else d.boot.recovery) ++ m.body.drop 4
  let chunk (d : Dev) (m : Msg) : Prop := d.boot.recoveryWait = true ∧ 4 < m.body.length ∧ m.body.length ≤ 1796 ∧
    (leAt 0 4 m.body = 0 ∨ leAt 0 4 m.body = d.boot.recovery.length)
  Accepts .fwCmdStageBegin P.fwCmdStageBegin (fun d m => m.body.length = 4 ∧ d.boot.trial = false ∧ 0 < leNat m.body ∧ leNat m.body ≤ 32505856)
    (fun d m => (d.setNum P.fwBankState (1 - d.boot.running) 0).onBoot (fun b => { b with staging := some (leNat m.body), staged := [], banks := tabSet (1 - d.boot.running) { image := [] } b.banks })) ∧
  Refuses .fwCmdStageBegin P.fwCmdStageBegin (fun d m => m.body.length = 4 ∧ d.boot.trial = true) (Reply.err resBusy) ∧
  (∀ n, Accepts .fwStageData P.fwStageData (fun d m => d.boot.staging = some n ∧ 4 < m.body.length ∧ m.body.length ≤ 1796 ∧ d.boot.staged.length + (m.body.length - 4) ≤ n ∧
      leAt 0 4 m.body = d.boot.staged.length)
    (fun d m => d.onBoot (fun x => { x with staged := x.staged ++ m.body.drop 4 }))) ∧
  (∀ n, Refuses .fwStageData P.fwStageData (fun d m => d.boot.staging = some n ∧ 4 < m.body.length ∧ m.body.length ≤ 1796 ∧ d.boot.staged.length + (m.body.length - 4) ≤ n ∧
      leAt 0 4 m.body ≠ d.boot.staged.length) (Reply.range P.fwStageData)) ∧
  Refuses .fwStageData P.fwStageData (fun d m => d.boot.staging = none ∧ 4 ≤ m.body.length) (Reply.err resState) ∧
  (∀ n, Accepts .fwCmdStageEnd P.fwCmdStageEnd (fun d m => m.body = [] ∧ d.boot.staging = some n ∧ d.boot.staged.length = n ∧ imageOk d.boot.staged d.lcy.minSvn = true)
    (fun d _ => (d.onBoot (fun b => { b with staging := none, staged := [], banks := tabSet (1 - d.boot.running) { image := d.boot.staged } b.banks })).setNum
      P.fwBankState (1 - d.boot.running) 1)) ∧
  (∀ (s : State) (m : Msg) (n : Nat), s.dev.granted P.fwCmdStageEnd m = true → m.body = [] → s.dev.boot.staging = some n →
    (s.dev.boot.staged.length ≠ n ∨ imageOk s.dev.boot.staged s.dev.lcy.minSvn = false) →
    exec (.fwCmdStageEnd m) s = s.answered ((s.dev.onBoot (fun b => { b with staging := none, staged := [] })).setNum P.fwBankState (1 - s.dev.boot.running) 0) m
      (Reply.refused "IMAGE" 0)) ∧
  Accepts .fwCmdActivate P.fwCmdActivate (fun d m => m.body = [] ∧ d.num P.fwBankState (1 - d.boot.running) = 1 ∧ d.boot.trial = false)
    (fun d _ => d.setNum P.fwPendingBank 0 (1 - d.boot.running + 1)) ∧
  Accepts .fwCmdConfirm P.fwCmdConfirm (fun d m => m.body = [] ∧ d.boot.trial = true ∧ d.boot.trialDone = true)
    (fun d _ => ((((d.setNum P.fwActiveBank 0 d.boot.running).setNum P.fwPendingBank 0 0).setNum P.fwBankState d.boot.running 2).setNum P.fwBankState (1 - d.boot.running) 1).onBoot
      (fun x => { x with trial := false })) ∧
  Refuses .fwCmdConfirm P.fwCmdConfirm (fun d m => m.body = [] ∧ d.boot.trial = false) (Reply.err resState) ∧
  Accepts .fwCmdCancel P.fwCmdCancel (fun d m => m.body = [] ∧ d.num P.fwPendingBank 0 ≠ 0 ∧ d.boot.trial = false) (fun d _ => d.setNum P.fwPendingBank 0 0) ∧
  Accepts .fwCmdCommitSvn P.fwCmdCommitSvn (fun d m => m.body = [] ∧ d.boot.trial = false ∧ d.domain 20 = .on)
    (fun d _ => d.onLcy (fun l => { l with minSvn := max l.minSvn (d.bankSvn (d.num P.fwActiveBank 0)) })) ∧
  Refuses .fwCmdCommitSvn P.fwCmdCommitSvn (fun d m => m.body = [] ∧ d.boot.trial = true) (Reply.err resState) ∧
  Accepts .fwRecover P.fwRecover (fun d m => chunk d m ∧ (image d m).length < imageLength (image d m)) (fun d m => d.onBoot (fun b => { b with recovery := image d m })) ∧
  Accepts .fwRecover P.fwRecover (fun d m => chunk d m ∧ 128 ≤ (image d m).length ∧ imageLength (image d m) ≤ (image d m).length ∧ imageOk (image d m) d.lcy.minSvn = true)
    (fun d m => ((d.onBoot (fun b => { b with recovery := [], banks := tabSet 0 { image := image d m } b.banks })).setNum P.fwBankState 0 2).coldReset 1 0 .host) ∧
  Returns .attCmdQuote P.attCmdQuote (fun d m => m.body.length = 32 ∧ 8 ≤ d.boot.step) (fun d m => (d.quote m.body (d.draw 32).1).take 2024)
    (fun d m => (d.draw 32).2.onBoot (fun b => { b with quotes := tabSet (srcKey m.src) (d.quote m.body (d.draw 32).1) b.quotes }))

/-- Bellows and quench settings (R349, R359, R365, R372, R377, R378): a retest of failed sources waits for its tests; a raw capture takes its source from
the pool; floor and ceiling hold every level within them; a new duty clears every credit; FIXED ends what the loop was doing. -/
def Obligations.EntropyAndQuenchCommands : Prop :=
  let mask (m : Msg) : Nat := leNat m.body
  Defers .blwCmdSourceRetest P.blwCmdSourceRetest (fun d m => m.body.length = 4 ∧ 0 < mask m ∧ mask m < 256 ∧ d.bellows.retest = none ∧
      ∀ i, i < 8 → (mask m).testBit i = true → (d.noise i).failed = true)
    (fun d m => d.onBellows (fun b => { b with retest := some (m.src, m.reqId.toNat, mask m) })) ∧
  Refuses .blwCmdSourceRetest P.blwCmdSourceRetest (fun d m => m.body.length = 4 ∧ 0 < mask m ∧ mask m < 256 ∧ d.bellows.retest = none ∧
      ∃ i, i < 8 ∧ (mask m).testBit i = true ∧ (d.noise i).failed = false) (Reply.err resState) ∧
  Refuses .blwCmdSourceRetest P.blwCmdSourceRetest (fun _ m => m.body.length = 4 ∧ (mask m = 0 ∨ 256 ≤ mask m)) (Reply.range P.blwCmdSourceRetest) ∧
  Accepts .blwRawCapture P.blwRawCapture (fun d m => m.body.length = 5 ∧ leAt 0 1 m.body ≤ 7 ∧ 0 < leAt 1 4 m.body ∧ leAt 1 4 m.body ≤ 1000000 ∧ (d.lcState = 0 ∨ d.lcState = 1))
    (fun d m => (d.fresh.2.onNoise (leAt 0 1 m.body) (fun x => { x with capturing := true, heldBlocks := [] })).setOct P.blwRawData 0
      (drawBytes d.freeCtr (ceilDiv (leAt 1 4 m.body) 8))) ∧
  Accepts .qncFloor P.qncFloor (fun d m => m.body.length = 1 ∧ leNat m.body ≤ 7 ∧ leNat m.body ≤ d.num P.qncCeiling 0)
    (fun d m => (((d.pinLevels).setNum P.qncFloor 0 (leNat m.body)).boundLevels).policyWritten P.qncFloor) ∧
  Refuses .qncFloor P.qncFloor (fun d m => m.body.length = 1 ∧ (7 < leNat m.body ∨ d.num P.qncCeiling 0 < leNat m.body)) (Reply.range P.qncFloor) ∧
  Accepts .qncCeiling P.qncCeiling (fun d m => m.body.length = 1 ∧ leNat m.body ≤ 7 ∧ d.num P.qncFloor 0 ≤ leNat m.body)
    (fun d m => ((d.setNum P.qncCeiling 0 (leNat m.body)).boundLevels).policyWritten P.qncCeiling) ∧
  Refuses .qncCeiling P.qncCeiling (fun d m => m.body.length = 1 ∧ (7 < leNat m.body ∨ leNat m.body < d.num P.qncFloor 0)) (Reply.range P.qncCeiling) ∧
  Accepts .qncDutyExp P.qncDutyExp (fun _ m => m.body.length = 1 ∧ 6 ≤ leNat m.body ∧ leNat m.body ≤ 12)
    (fun d m => ((d.setNum P.qncDutyExp 0 (leNat m.body)).onQuench (tabMap (fun _ q => { q with credit := 0 }))).policyWritten P.qncDutyExp) ∧
  Refuses .qncDutyExp P.qncDutyExp (fun _ m => m.body.length = 1 ∧ (leNat m.body < 6 ∨ 12 < leNat m.body)) (Reply.range P.qncDutyExp) ∧
  Accepts .qncMode P.qncMode (fun d m => m.body.length = 1 ∧ leNat m.body ≤ 1 ∧ leNat m.body = d.num P.qncMode 0) (fun d _ => d.policyWritten P.qncMode) ∧
  Accepts .qncMode P.qncMode (fun d m => m.body = [0] ∧ d.num P.qncMode 0 ≠ 0)
    (fun d _ => ((d.setNum P.qncMode 0 0).discardWindows.onQuench (tabMap (fun _ q => { q with cleanCount := 0 }))).policyWritten P.qncMode) ∧
  Accepts .qncMode P.qncMode (fun d m => m.body = [1] ∧ d.num P.qncMode 0 ≠ 1)
    (fun d _ => ((List.range nTiles).foldl (fun x t => let x := if (x.q t).calibrating then x.calibrated t else x
                                                       x.wantLevel t (x.num P.qncFloor 0))
      ((d.setNum P.qncMode 0 1).discardWindows.onQuench (tabMap (fun _ q => { q with cleanCount := 0 })))).policyWritten P.qncMode)

/-- Monitors by command (R382 to R388): an arm starts an empty record, a snapshot returns the record and clears it in the same tick, and a write to a
setting clears it; an owner forces its own slice into a filter. Monitors (R381, R384 to R386): a sample counts into its record, with its sum
saturating, its bounds and its bin; an armed capture closes at its window's end; every 100 µs each instance's reseed age is sampled. -/
def Obligations.Monitors : Prop :=
  (
  let n (m : Msg) : Nat := m.row.toNat
  let cleared (d : Dev) (k : Nat) : Dev :=
    d.onMonitors (tabSet k { MonRecord.reset with start := d.now, running := d.num P.monCapture k != 1 })
  let fits (d : Dev) (m : Msg) (o : Nat) : Prop := o ≠ 0xFFFF → d.ownsQp o (bits 63 48 (d.num P.monChFilter (n m))) = true
  Accepts .monCmdArm P.monCmdArm (fun d m => m.body = [] ∧ n m < nMonitors ∧ d.num P.monCapture (n m) = 1 ∧ (d.num P.monWindow (n m) ≠ 0 ∨ d.num P.monLimit (n m) ≠ 0))
    (fun d m => d.onMonitors (tabSet (n m) { MonRecord.reset with start := d.now, armedAt := d.now, window := d.num P.monWindow (n m), limit := d.num P.monLimit (n m) })) ∧
  Refuses .monCmdArm P.monCmdArm (fun d m => m.body = [] ∧ n m < nMonitors ∧ d.num P.monCapture (n m) ≠ 1) (Reply.err resState) ∧
  Refuses .monCmdArm P.monCmdArm (fun d m => m.body = [] ∧ n m < nMonitors ∧ d.num P.monCapture (n m) = 1 ∧ d.num P.monWindow (n m) = 0 ∧ d.num P.monLimit (n m) = 0)
    (Reply.range P.monWindow) ∧
  Returns .monCmdSnap P.monCmdSnap (fun _ m => m.body = [] ∧ n m < nMonitors) (fun d m => (d.snap (n m)).1) (fun d m => (d.snap (n m)).2) ∧
  (∀ (d : Dev) (k : Nat),
    let r := d.monitor k
    let late := r.armedDone = false ∧ r.tick = d.now ∧ r.tickSamples ≠ []
    let next : MonRecord := { MonRecord.reset with
      start := d.now, running := r.running, armedAt := r.armedAt, window := r.window, limit := r.limit, armedSamples := r.armedSamples, tick := d.now }
    (¬ late → (d.snap k).1 = d.monBytes k (if r.armedDone then r.stop else d.now) ∧ (d.snap k).2 = d.onMonitors (tabSet k next)) ∧
    (late → (d.snap k).1 = d.monBytesOf k (r.withSums r.prior) d.now ∧ ∃ z : MonSums, z.count = r.tickSamples.length ∧
      (d.snap k).2 = d.onMonitors (tabSet k ({ next with tickSamples := r.tickSamples }.withSums z)))) ∧
  Returns .monCmdSnapRange P.monCmdSnapRange (fun _ m => m.body.length = 4 ∧ leAt 2 2 m.body = 1 ∧ leAt 0 2 m.body < nMonitors)
    (fun d m => (d.snap (leAt 0 2 m.body)).1) (fun d m => (d.snap (leAt 0 2 m.body)).2) ∧
  Returns .monCmdSnapRange P.monCmdSnapRange (fun _ m => m.body.length = 4 ∧ leAt 2 2 m.body = 2 ∧ leAt 0 2 m.body + 1 < nMonitors)
    (fun d m => (d.snap (leAt 0 2 m.body)).1 ++ ((d.snap (leAt 0 2 m.body)).2.snap (leAt 0 2 m.body + 1)).1) (fun d m => ((d.snap (leAt 0 2 m.body)).2.snap (leAt 0 2 m.body + 1)).2) ∧
  Refuses .monCmdSnapRange P.monCmdSnapRange (fun _ m => m.body.length = 4 ∧ (leAt 2 2 m.body = 0 ∨ 6 < leAt 2 2 m.body ∨ nMonitors < leAt 0 2 m.body + leAt 2 2 m.body))
    (Reply.range P.monCmdSnapRange) ∧
  Accepts .monBase P.monBase (fun _ m => m.body.length = 8) (fun d m => cleared (d.setNum P.monBase (n m) (leNat m.body)) (n m)) ∧
  Accepts .monWidthExp P.monWidthExp (fun d m => m.body.length = 1 ∧ leNat m.body ≤ (if d.num P.monBinmode (n m) = 1 then 47 else 40))
    (fun d m => cleared (d.setNum P.monWidthExp (n m) (leNat m.body)) (n m)) ∧
  Refuses .monWidthExp P.monWidthExp (fun d m => m.body.length = 1 ∧ (if d.num P.monBinmode (n m) = 1 then 47 else 40) < leNat m.body) (Reply.range P.monWidthExp) ∧
  Accepts .monBinmode P.monBinmode (fun d m => m.body = [1] ∨ (m.body = [0] ∧ d.num P.monWidthExp (n m) ≤ 40))
    (fun d m => cleared (d.setNum P.monBinmode (n m) (leNat m.body)) (n m)) ∧
  Accepts .monChSource P.monChSource (fun d m => m.body.length = 1 ∧ leNat m.body ≤ 3 ∧ (leNat m.body = 3 → fits d m (d.num P.monChOwner (n m)))) (fun d m => cleared (d.setNum P.monChSource (n m) (leNat m.body)) (n m)) ∧
  Accepts .monChFilter P.monChFilter (fun d m => m.body.length = 8 ∧ bits 27 2 (leNat m.body) = 0 ∧ d.num P.monChOwner (n m) = 0xFFFF)
    (fun d m => cleared (d.setNum P.monChFilter (n m) (leNat m.body)) (n m)) ∧
  Accepts .monChFilter P.monChFilter (fun d m => m.body.length = 8 ∧ bits 27 2 (leNat m.body) = 0 ∧ d.num P.monChOwner (n m) ≠ 0xFFFF ∧
      (d.num P.monChSource (n m) = 3 → d.ownsQp (d.num P.monChOwner (n m)) (bits 63 48 (leNat m.body)) = true))
    (fun d m => let f := leNat m.body
                cleared (d.setNum P.monChFilter (n m) (f / 2 ^ 40 * 2 ^ 40 + d.num P.monChOwner (n m) % 4096 * 2 ^ 28 + f / 2 % 2 * 2)) (n m)) ∧
  Refuses .monChSource P.monChSource (fun d m => m.body.length = 1 ∧ (3 < leNat m.body ∨ (leNat m.body = 3 ∧ ¬ fits d m (d.num P.monChOwner (n m))))) (Reply.range P.monChSource) ∧
  Accepts .monChOwner P.monChOwner (fun d m => m.body.length = 2 ∧ (leNat m.body = 0xFFFF ∨ (leNat m.body < 4096 ∧ d.sliceExists (leNat m.body) = true)) ∧
      (d.num P.monChSource (n m) = 3 → fits d m (leNat m.body)))
    (fun d m => let e := d.setNum P.monChOwner (n m) (leNat m.body)
                cleared (e.setNum P.monChFilter (n m) (e.forceFilter (n m) (e.num P.monChFilter (n m)))) (n m)) ∧
  Refuses .monChOwner P.monChOwner (fun d m => m.body.length = 2 ∧ leNat m.body ≠ 0xFFFF ∧ ¬ (leNat m.body < 4096 ∧ d.sliceExists (leNat m.body) = true)) (Reply.range P.monChOwner)) ∧
  (
  (∀ (s : State) (n : Nat), n < 1373 →
    let d := s.dev
    let r := d.monitorHeld n
    let w := r.window
    let ended := r.running = true ∧ 0 < w ∧ r.armedAt + w ≤ d.now
    (¬ ended → s.goes (.monWindowExpire n) d) ∧
    (ended → s.goes (.monWindowExpire n) (d.onMonitors (tabSet n { r with running := false, stop := r.armedAt + w, armedDone := true })))) ∧
  (∀ s : State,
    (s.dev.modes.mode.powered = false → s.goes .reseedAgeSample s.dev) ∧
    (s.dev.modes.mode.powered = true → s.goes .reseedAgeSample ((List.range 17).foldl (fun e i => e.sample (1356 + i) ((e.inst i).age : Int)) s.dev))) ∧
  (∀ (d : Dev) (n : Nat) (x : Int),
    let r := d.monitor n
    let e := r.add (d.num P.monBinmode n == 1) (signed64 (d.num P.monBase n)) (d.num P.monWidthExp n) x
    (r.running = false → d.sample n x = d) ∧
    (r.running = true → ∃ z : MonRecord, d.sample n x = d.onMonitors (tabSet n z) ∧ z.sums = e.sums ∧ z.tick = d.now ∧
      z.tickSamples = (if r.tick = d.now then r.tickSamples else []) ++ [x] ∧ z.prior = (if r.tick = d.now then r.prior else r.sums) ∧
      (r.limit = 0 ∨ r.armedSamples + 1 < r.limit → z.running = true ∧ z.armedDone = r.armedDone) ∧
      (0 < r.limit → r.limit ≤ r.armedSamples + 1 → z.running = false ∧ z.armedDone = true ∧ z.stop = d.now))) ∧
  (∀ (d : Dev) (n : Nat), (d.monitorHeld n).running = true → 0 < (d.monitorHeld n).window → (d.monitorHeld n).armedAt + (d.monitorHeld n).window ≤ d.now →
    (d.monitor n).running = false) ∧
  (∀ (r : MonRecord) (log : Bool) (base : Int) (k : Nat) (x : Int),
    let e := r.add log base k x
    let b := monBin log base k x
    e.count = r.count + 1 ∧ e.min = Min.min r.min x ∧ e.max = Max.max r.max x ∧
    (-(2 ^ 63 : Int) ≤ r.sum + x → r.sum + x < 2 ^ 63 → e.sum = r.sum + x ∧ e.sumSat = r.sumSat) ∧
    ((2 ^ 63 : Int) ≤ r.sum + x → e.sum = 2 ^ 63 - 1 ∧ e.sumSat = true) ∧ (r.sum + x < -(2 ^ 63 : Int) → e.sum = -(2 ^ 63 : Int) ∧ e.sumSat = true) ∧
    b < 64 ∧ tabGet 0 b e.bins = Nat.min (tabGet 0 b r.bins + 1) 0xFFFFFFFF ∧ (∀ j, j ≠ b → tabGet 0 j e.bins = tabGet 0 j r.bins)) ∧
  (∀ (base x : Int) (k : Nat),
    (x < base → monBin false base k x = 0) ∧
    (base ≤ x → monBin false base k x = Nat.min ((x - base).toNat / 2 ^ k) 63) ∧
    (x - base < 2 ^ k → monBin true base k x = 0) ∧
    (k ≤ 1 → 2 ≤ x - base → x - base < 4 → monBin true base k x = 1 + 4 * (1 - k) + (if x - base = 3 then 2 else 0)) ∧
    (k = 0 → x - base = 1 → monBin true base k x = 1) ∧
    (∀ l m : Nat, 2 ≤ l → k ≤ l → m < 4 → (2 ^ l + m * 2 ^ (l - 2) : Int) ≤ x - base → x - base < (2 ^ l + (m + 1) * 2 ^ (l - 2) : Int) →
      monBin true base k x = Nat.min (1 + 4 * (l - k) + m) 63)))

/-- Queue pairs by command (R22, R24, R27, R33, R56): ENABLE needs every constraint, sets every count to 0 and writes the credit word; DISABLE ends once
no request is admitted; DESTROY only from DISABLED; a new level arms or disarms the ring at once. -/
def Obligations.QueuePairCommands : Prop :=
  let q (m : Msg) : Nat := m.row.toNat
  let bound (d : Dev) (m : Msg) : Dev := if (d.qp (q m)).binding.isNone then d.bindQp (q m) else d
  let may (d : Dev) (m : Msg) : Prop := m.body = [] ∧ q m < 65536 ∧ (d.qp (q m)).state = .disabled ∧ d.host.linkReset = false ∧
    (d.sliceExists (d.qpOwner (q m)) = true → (d.sliceSt (d.qpOwner (q m))).state = .active)
  Accepts .qpEnable P.qpEnable (fun d m => may d m ∧ (bound d m).qpBad (q m) = none)
    (fun d m =>
      let e := [P.qpCreditViolCount, P.qpDbStaleCount, P.qpStrayWriteCount, P.qpReleaseInvalidCount, P.qpCqSpaceWaitCount, P.qpLostRecordCount].foldl
        (fun e p => e.setNum p (q m) 0) (bound d m)
      (e.onQp (q m) (fun p => { Qp.reset with state := .active, binding := p.binding, armed := decide (0 < e.num P.qpIrqLevel (q m)) })).writeCredit (q m)) ∧
  (∀ p, Refuses .qpEnable P.qpEnable (fun d m => may d m ∧ (bound d m).qpBad (q m) = some p) (Reply.range p)) ∧
  Refuses .qpEnable P.qpEnable (fun d m => m.body = [] ∧ q m < 65536 ∧ (d.qp (q m)).state ≠ .disabled) (Reply.err resState) ∧
  Accepts .qpDisable P.qpDisable (fun d m => m.body = [] ∧ q m < 65536 ∧ ((d.qp (q m)).state = .active ∨ (d.qp (q m)).state = .faulted) ∧
      ∀ e ∈ d.disp.reqs, e.2.qp ≠ q m)
    (fun d m => (d.onQp (q m) (fun p => { p with disabling := true, parked := false })).onQp (q m) (fun p => { p with state := .disabled, disabling := false })) ∧
  Accepts .qpDisable P.qpDisable (fun d m => m.body = [] ∧ q m < 65536 ∧ ((d.qp (q m)).state = .active ∨ (d.qp (q m)).state = .faulted) ∧
      ∃ e ∈ d.disp.reqs, e.2.qp = q m)
    (fun d m => d.onQp (q m) (fun p => { p with disabling := true, parked := false })) ∧
  Accepts .qpDestroy P.qpDestroy (fun d m => m.body = [] ∧ q m < 65536 ∧ (d.qp (q m)).state = .disabled) (fun d m => d.unconfigure (q m)) ∧
  Refuses .qpDestroy P.qpDestroy (fun d m => m.body = [] ∧ q m < 65536 ∧ (d.qp (q m)).state ≠ .disabled) (Reply.err resState) ∧
  Accepts .qpIrqLevel P.qpIrqLevel (fun d m => m.body.length = 4 ∧ q m < 65536 ∧ ((d.qp (q m)).state = .active ∨ (d.qp (q m)).state = .faulted) ∧
      leNat m.body ≤ d.num P.qpCqBytes (q m) / 16)
    (fun d m => (d.setNum P.qpIrqLevel (q m) (leNat m.body)).onQp (q m) (fun p => { p with armed := decide (p.fill < leNat m.body) })) ∧
  Refuses .qpIrqLevel P.qpIrqLevel (fun d m => m.body.length = 4 ∧ q m < 65536 ∧ ((d.qp (q m)).state = .active ∨ (d.qp (q m)).state = .faulted) ∧
      d.num P.qpCqBytes (q m) / 16 < leNat m.body) (Reply.range P.qpIrqLevel) ∧
  Accepts .qpIrqLevel P.qpIrqLevel (fun d m => m.body.length = 4 ∧ q m < 65536 ∧ ((d.qp (q m)).state = .unconfigured ∨ (d.qp (q m)).state = .disabled))
    (fun d m => (d.setNum P.qpIrqLevel (q m) (leNat m.body)).onQp (q m) (fun p => { p with state := .disabled }))

/-- The schemes computed on tiles and the composites (R186 to R245, R211 to R214): each row computes the requests of its opcode, and stages the result of
its scheme; its values stand in shares, and those that the manual names are unmasked (R205, R247). -/
def Obligations.LatticeAndHashOperations : Prop :=
  let lattice (c : Nat → Instr) (op : Nat → Bool) (f : Dev → Request → Job → JobResult) : Prop := ComputesWith c op f latticeTrace
  lattice .mlKemKeygen (famOp 0x10 1) (fun _ q _ => schemeKeygenResult q) ∧
  lattice .mlKemEncaps (famOp 0x10 3) (fun d q _ => encapsResult d q) ∧
  lattice .mlKemDecaps (famOp 0x10 4) (fun d q _ => decapsResult d q) ∧
  lattice .mlKemCheckEk (famOp 0x10 5) (fun d q _ => checkEkResult d q) ∧
  lattice .mlDsaKeygen (famOp 0x11 1) (fun _ q _ => schemeKeygenResult q) ∧
  lattice .mlDsaSign (famOp 0x11 2) (fun d q _ => schemeSignResult d q) ∧
  lattice .mlDsaVerify (famOp 0x11 3) (fun d q _ => schemeVerifyResult d q) ∧
  lattice .fnDsaKeygen (famOp 0x12 1) (fun _ q _ => schemeKeygenResult q) ∧
  lattice .fnDsaSign (famOp 0x12 2) (fun d q _ => schemeSignResult d q) ∧
  lattice .fnDsaVerify (famOp 0x12 3) (fun d q _ => schemeVerifyResult d q) ∧
  lattice .hybridKemEncaps (opIn [0x6011, 0x6013, 0x6015]) hybridKemResult ∧
  lattice .hybridKemDecaps (opIn [0x6012, 0x6014, 0x6016]) hybridKemResult ∧
  lattice .hybridSign (opIn [0x6021, 0x6023, 0x6025]) hybridSignResult ∧
  lattice .hybridVerify (opIn [0x6022, 0x6024, 0x6026]) hybridVerifyResult ∧
  lattice .slhDsaKeygen (famOp 0x18 1) (fun _ q _ => schemeKeygenResult q) ∧
  lattice .slhDsaSign (famOp 0x18 2) (fun d q _ => schemeSignResult d q) ∧
  lattice .slhDsaVerify (famOp 0x18 3) (fun d q _ => schemeVerifyResult d q) ∧
  lattice .lmsHssKeygen (famOp 0x19 1) (fun _ q _ => schemeKeygenResult q) ∧
  lattice .lmsHssSign (famOp 0x19 2) (fun d q _ => statefulSignResult d q) ∧
  lattice .lmsHssVerify (famOp 0x19 3) (fun d q _ => statefulVerifyResult d q) ∧
  lattice .lmsHssQuery (famOp 0x19 4) (fun d q _ => statefulQueryResult d q) ∧
  lattice .xmssKeygen (famOp 0x1A 1) (fun _ q _ => schemeKeygenResult q) ∧
  lattice .xmssSign (famOp 0x1A 2) (fun d q _ => statefulSignResult d q) ∧
  lattice .xmssVerify (famOp 0x1A 3) (fun d q _ => statefulVerifyResult d q) ∧
  lattice .xmssQuery (famOp 0x1A 4) (fun d q _ => statefulQueryResult d q) ∧
  lattice .hqcKeygen (famOp 0x20 1) (fun _ q _ => schemeKeygenResult q) ∧
  lattice .hqcEncaps (famOp 0x20 3) (fun d q _ => encapsResult d q) ∧
  lattice .hqcDecaps (famOp 0x20 4) (fun d q _ => decapsResult d q) ∧
  lattice .hqcCheckEk (famOp 0x20 5) (fun d q _ => checkEkResult d q) ∧
  lattice .classicMcelieceKeygen (famOp 0x21 1) (fun _ q _ => schemeKeygenResult q) ∧
  lattice .classicMcelieceEncaps (famOp 0x21 3) (fun d q _ => encapsResult d q) ∧
  lattice .classicMcelieceDecaps (famOp 0x21 4) (fun d q _ => decapsResult d q)

/-- The big-number engines, the symmetric engines and the payment operations (R252 to R293): each row computes the requests of its opcode with the keys
they name. R251, R268, R269: what an engine holds of its secrets is blinded: an RSA private operation's base times r^e and exponents to which a
multiple of p − 1 and of q − 1 is added, a secret scalar to which a multiple of the order is added, a random Z; under FULL a second computation with
blinding of its own. -/
def Obligations.EngineOperations : Prop :=
  (
  let ham (c : Nat → Instr) (op : Nat → Bool) (f : Dev → Request → Job → JobResult) : Prop := ComputesWith c op f hamTrace
  let sym : Dev → Request → Job → JobResult := fun d q _ => symResult (d.material q.desc.keyA) q
  ham .rsaKeygen (opIs 0x3001) (fun _ q _ => rsaKeygenResult q) ∧
  ham .rsaPrivate (opIs 0x3002) (fun d q _ => rsaResult d q) ∧
  ham .rsaPublic (opIs 0x3003) (fun d q _ => rsaResult d q) ∧
  ham .rsassaPssSign (opIs 0x3004) (fun d q _ => rsaResult d q) ∧
  ham .rsassaPssVerify (opIs 0x3005) (fun d q _ => rsaResult d q) ∧
  ham .rsassaPkcs1V15Sign (opIs 0x3006) (fun d q _ => rsaResult d q) ∧
  ham .rsassaPkcs1V15Verify (opIs 0x3007) (fun d q _ => rsaResult d q) ∧
  ham .rsaesOaepDecrypt (opIs 0x3008) (fun d q _ => rsaResult d q) ∧
  ham .rsaesOaepEncrypt (opIs 0x3009) (fun d q _ => rsaResult d q) ∧
  ham .ecdsaKeygen (opIs 0x3101) (fun d q _ => ecKeygenResult d q) ∧
  ham .ecdsaSign (opIs 0x3102) (fun d q _ => ecdsaSignResult d q) ∧
  ham .ecdsaVerify (opIs 0x3103) (fun d q _ => ecdsaVerifyResult d q) ∧
  ham .ecdsaCheckPk (opIs 0x3104) (fun d q _ => checkPkResult d q) ∧
  ham .loadCurve (opIs 0x310F) (fun _ q _ => loadCurveResult q) ∧
  ham .eddsaKeygen (opIs 0x3201) (fun d q _ => ecKeygenResult d q) ∧
  ham .eddsaSign (opIs 0x3202) (fun d q _ => eddsaSignResult d q) ∧
  ham .eddsaVerify (opIs 0x3203) (fun d q _ => eddsaVerifyResult d q) ∧
  ham .ecdhXdhKeygen (opIs 0x3301) (fun d q _ => ecKeygenResult d q) ∧
  ham .derive (opIs 0x3302) (fun d q _ => deriveResult d q) ∧
  ham .ephemeral (opIs 0x3303) (fun d q _ => ephemeralResult d q) ∧
  ham .ecdhXdhCheckPk (opIs 0x3304) (fun d q _ => checkPkResult d q) ∧
  Computes .aesEcbEncrypt (opIs 0x4001) sym ∧
  Computes .aesEcbDecrypt (opIs 0x4002) sym ∧
  Computes .aesCbcEncrypt (opIs 0x4003) sym ∧
  Computes .aesCbcDecrypt (opIs 0x4004) sym ∧
  Computes .aesCtrEncrypt (opIs 0x4005) sym ∧
  Computes .aesCtrDecrypt (opIs 0x4006) sym ∧
  Computes .aesGcmEncrypt (opIs 0x4007) sym ∧
  Computes .aesGcmDecrypt (opIs 0x4008) sym ∧
  Computes .aesCcmEncrypt (opIs 0x4009) sym ∧
  Computes .aesCcmDecrypt (opIs 0x400A) sym ∧
  Computes .aesXtsEncrypt (opIs 0x400B) sym ∧
  Computes .aesXtsDecrypt (opIs 0x400C) sym ∧
  Computes .aesKwWrap (opIs 0x400D) sym ∧
  Computes .aesKwUnwrap (opIs 0x400E) sym ∧
  Computes .aesKwpWrap (opIs 0x400F) sym ∧
  Computes .aesKwpUnwrap (opIs 0x4010) sym ∧
  Computes .aesCmacGenerate (opIs 0x4011) sym ∧
  Computes .aesCmacVerify (opIs 0x4012) sym ∧
  Computes .tdesEcbEncrypt (opIs 0x4021) sym ∧
  Computes .tdesEcbDecrypt (opIs 0x4022) sym ∧
  Computes .tdesCbcEncrypt (opIs 0x4023) sym ∧
  Computes .tdesCbcDecrypt (opIs 0x4024) sym ∧
  Computes .macAlgorithm3Generate (opIs 0x4025) sym ∧
  Computes .macAlgorithm3Verify (opIs 0x4026) sym ∧
  Computes .hash (opIs 0x4031) sym ∧
  Computes .hmacGenerate (opIs 0x4032) sym ∧
  Computes .hmacVerify (opIs 0x4033) sym ∧
  Computes .kmacGenerate (opIs 0x4034) sym ∧
  Computes .kmacVerify (opIs 0x4035) sym ∧
  Computes .hkdf (opIs 0x4041) sym ∧
  Computes .sp800108Kdf (opIs 0x4042) sym ∧
  Computes .pinTranslate (opIs 0x4801) (fun d q _ => pinTranslateResult (d.material q.desc.keyA) (d.material q.desc.keyB) q) ∧
  Computes .dukptDerive (opIs 0x4811) (fun d q _ => dukptResult (d.material q.desc.keyA) q) ∧
  Computes .kbExport (opIs 0x4821) (fun d q _ => kbExportResult d q []) ∧
  Computes .kbImport (opIs 0x4822) (fun d q _ => kbImportResult (d.material q.desc.keyA) q)) ∧
  (
  (∀ (d : Dev) (q : Request),
    (((d.opReq q).strike = 4 ∨ ((d.opReq q).strike = 3 ∧ q.policy.strikeHammer = 1)) → strikesOf d q = [0, 1]) ∧
    (¬ ((d.opReq q).strike = 4 ∨ ((d.opReq q).strike = 3 ∧ q.policy.strikeHammer = 1)) → strikesOf d q = [0])) ∧
  (∀ (d : Dev) (q : Request) (j : Job) (n e : Nat), q.desc.opcode = 0x3002 → d.rsaKey q.slice q.desc q.input = some (n, e, 0) →
    let f := rsaCrt n (ceilDiv (bitLen e) 8) (d.material q.desc.keyA)
    let w := ceilDiv (bitLen n) 16 + 8
    hamTrace d q j = (strikesOf d q).flatMap (fun t =>
      [(.blindedBase, natBE (ceilDiv (bitLen n) 8) (beNat q.input * expMod (d.blinding t 0 (ceilDiv (bitLen n) 64)) e n % n), false),
       (.blindedExponent, natBE w (f 2 + d.blinding t 1 1 * (f 0 - 1)), false), (.blindedExponent, natBE w (f 3 + d.blinding t 2 1 * (f 1 - 1)), false)])) ∧
  (∀ (d : Dev) (q : Request) (j : Job), q.desc.opcode = 0x3302 →
    let c := d.curveOfKey q.slice q.desc.keyA
    let k := c.scalar (d.material q.desc.keyA)
    hamTrace d q j = (strikesOf d q).flatMap (fun t =>
      let v := k + d.blinding t 0 1 * c.order
      [(.blindedScalar, natBE (ceilDiv (bitLen v) 8) v, false), (.projectiveZ, natBE (ceilDiv (bitLen c.prime) 8) (d.blinding t 1 10 % c.prime), false)])) ∧
  (∀ (d : Dev) (u n order : Nat) (l : Trace), 128 ≤ u → u < 160 →
    ((d.holdWork u n order l).unit u).work.map (fun v => (v.name, v.shares)) = l.map (fun e => (e.1, [e.2.1]))))

/-- Placements of a public key in a hearth's memory (R239 to R242), the software port (R353 to R356), and an integrator's microprogram (R181), which runs
from its entry to its end. Key management (R303, R310, R311, R318 to R322): keys are made, exported and imported; a destruction or revocation clears
all below it, waits for its acknowledgement, and a persistent one is journaled; one at a time. -/
def Obligations.KeyManagementAndPlacement : Prop :=
  (
  (∀ (s : State) (j : Nat) (x : Job) (q : Request), s.dev.computing j x q → q.desc.opcode / 256 = 0x21 →
    let d := s.dev
    let n := handleObj q.desc.keyA
    let key := d.material q.desc.keyA
    let new := (hearthsOf q.desc).filter (fun h => !(d.hearth h).objects.any (fun o => o.1 == n))
    let full := new.any (fun h => d.areaUsed h + key.length > 2097152)
    let left := d.dropPlacements (fun h k => k == n && (hearthsOf q.desc).contains h)
    let reader (e : Nat × Job) : Prop := e.2.unit < nTiles ∧ (hearthsOf q.desc).contains (hearthOf e.2.unit) = true ∧
      ∃ r, d.req? e.2.req = some r ∧ r.desc.opcode / 256 = 0x21 ∧ lowOp r.desc.opcode = 3 ∧ r.desc.keyA ≠ 0 ∧ handleObj r.desc.keyA = n ∧ r.released = false
    (lowOp q.desc.opcode = 6 → full = true → s.goes (.place j) (d.finishJob j (JobResult.ofStatus 0x0330))) ∧
    (lowOp q.desc.opcode = 6 → full = false →
      s.goes (.place j) ((new.foldl (fun e h => e.onHearth h (fun m => { m with objects := tabSet n key m.objects })) d).finishJob j (JobResult.good []))) ∧
    (lowOp q.desc.opcode = 7 → (∀ e ∈ d.disp.jobs, ¬ reader e) → s.goes (.evict j) (left.finishJob j (JobResult.good []))) ∧
    (lowOp q.desc.opcode = 7 → (∃ e ∈ d.disp.jobs, reader e) → s.goes (.evict j) d)) ∧
  (∀ (s : State) (j : Nat) (x : Job) (q : Request), s.dev.computing j x q → x.unit = portUnit → q.desc.opcode = 0x5801 → q.released = false →
    let d := s.dev
    let calls := ceilDiv q.desc.outCap 65536
    let e := portCalls x.req (q.desc.aux? 0) calls calls d
    (d.num P.blwState 0 = blwExhausted → s.goes (.softwarePortGenerate j) (d.fail x.req 0x0502)) ∧
    (d.num P.blwState 0 ≠ blwExhausted → ∀ y, e.req? x.req = some y →
      (y.calls < calls → s.goes (.softwarePortGenerate j) e) ∧ (calls ≤ y.calls → s.goes (.softwarePortGenerate j) (e.finishJob j (JobResult.good y.port))))) ∧
  (∀ (d : Dev) (r : Nat) (q : Request), d.req? r = some q →
    let n := Nat.min 65536 (q.desc.outCap - q.port.length)
    let next (e : Dev) : Dev := (e.generate 16 q.input n).2.onReq r (fun y =>
      { y with calls := y.calls + 1, port := y.port ++ ((e.generate 16 q.input n).1).stream n, stretched := y.stretched || decide (65536 < (e.inst 16).age) })
    d.portCall r q = next d ∧
    (∀ b, d.giveBlock (.call r) b = next (d.onInst 16 (fun x => { x with state := x.state.update (drbgDf b), age := 0, stopped := false })))) ∧
  (∀ (s : State) (j : Nat) (w : WordCheck) (x : Job) (q : Request) (m : Microprogram) (e : MpEntry), s.dev.computing j x q → x.unit < nTiles →
    q.desc.opcode / 256 = 0x70 → s.dev.issues x.unit = true → s.dev.bound? x.unit q.desc.opcode = some (m, e) →
    let t := x.unit
    let d := s.dev.startTile t q.desc.opcode
    let n := e.ceil.getD x.order 0
    let fuel := (n + 2) * (m.code.length / 4 + 2)
    let o := runCode (d.tileCtx t) m.code n fuel 0 0 (d.tile t)
    let stalls : Prop := s.dev.sparkOut t = true ∧ 0 < o.2.2
    (stalls → s.goes (.integratorMicroprogram ⟨j, w⟩) (s.dev.stallOn t)) ∧
    (¬ stalls → d.runWords t w = none → s.goes (.integratorMicroprogram ⟨j, w⟩) ((d.addNum P.tilUeCount t 1).wordLost t)) ∧
    (∀ f, ¬ stalls → d.runWords t w = some f →
      let f := { f with freeCtr := f.freeCtr + fuel }
      let f := if (f.tile t).lv ≠ 0 ∧ o.1.state.lv = 0 then (f.addNum P.tilLvWakeCount t 1).wakeDomain t else f
      s.goes (.integratorMicroprogram ⟨j, w⟩) ((f.sparkDraw t (f.sparkUse t o.1.state.cycles o.2.2)).tileEnd t o.2.1 o.1)))) ∧
  (
  Computes .generate (opIs 0x5001) (fun _ q _ => generateResult q) ∧
  Computes .wrapExport (opIs 0x5002) (fun d q _ => wrapExportResult d q) ∧
  Computes .unwrapImport (opIs 0x5003) (fun d q _ => unwrapImportResult d q) ∧
  Computes .query (opIs 0x5007) (fun d q _ => queryResult d q) ∧
  Computes .seqQuery (opIs 0x5008) (fun d q _ => seqQueryResult d q) ∧
  (∀ (c : Nat → Instr) (op : Nat), (c, op) ∈ ([(.destroy, 0x5004), (.unloadCurve, 0x310E)] : List ((Nat → Instr) × Nat)) →
    ∀ (s : State) (j n : Nat) (q : Request), s.dev.vaultJob j op = some (n, q) →
    let d := s.dev
    let h := if op = 0x310E then q.desc.keyB else q.desc.keyA
    let o := handleObj h
    (d.vault.invalidations ≠ [] → s.goes (c j) d) ∧
    (d.vault.invalidations = [] → d.ancestorsOk o = false → s.goes (c j) (d.finishJob j (JobResult.ofStatus 0x0203))) ∧
    (d.vault.invalidations = [] → d.ancestorsOk o = true →
      s.goes (c j) ((d.onNode o (fun x => { x with destroyed := true, gen := (x.gen + 1) % 2 ^ 32 })).invalidate j n q (some o) h (d.below o) (.destroy o) (!isVol o)))) ∧
  (∀ (s : State) (j n : Nat) (q : Request), s.dev.vaultJob j 0x5005 = some (n, q) → s.dev.vault.invalidations = [] →
    let d := s.dev
    let o := handleObj q.desc.keyA
    (q.desc.keyA = 0 → (d.root q.slice).gen < 2 ^ 32 - 1 →
      s.goes (.revokeChildren j) (((d.draw 32).2.onRoot q.slice (fun r => { r with gen := r.gen + 1, key := (d.draw 32).1 })).invalidate j n q none 0 (d.ofSlice q.slice)
        (.revoke none) true)) ∧
    (q.desc.keyA = 0 → 2 ^ 32 - 1 ≤ (d.root q.slice).gen → s.goes (.revokeChildren j) (d.finishJob j (JobResult.ofStatus 0x020B))) ∧
    (q.desc.keyA ≠ 0 → d.ancestorsOk o = false → s.goes (.revokeChildren j) (d.finishJob j (JobResult.ofStatus 0x0203))) ∧
    (∀ x, q.desc.keyA ≠ 0 → d.ancestorsOk o = true → d.node? o = some x →
      (2 ^ 32 - 1 ≤ x.gen → s.goes (.revokeChildren j) (d.finishJob j (JobResult.ofStatus 0x020B))) ∧
      (x.gen < 2 ^ 32 - 1 →
        s.goes (.revokeChildren j) ((d.onNode o (fun x => { x with gen := x.gen + 1 })).invalidate j n q (some o) q.desc.keyA ((d.below o).filter (· != o))
          (.revoke (some o)) (!isVol o))))) ∧
  (∀ (s : State) (j n : Nat) (q : Request), s.dev.vaultJob j 0x5006 = some (n, q) →
    let d := s.dev
    let o := handleObj q.desc.keyA
    (d.ancestorsOk o = false → s.goes (.restrict j) (d.finishJob j (JobResult.ofStatus 0x0203))) ∧
    (d.ancestorsOk o = true → isVol o = true →
      s.goes (.restrict j) ((d.onNode o (fun x => { x with exportable := false, childExport := false })).finishJob j (JobResult.good []))) ∧
    (d.ancestorsOk o = true → isVol o = false →
      s.goes (.restrict j) ((d.startCommit j n).journal (vaultUpdate n q q.desc.keyA (.restrict o) 0 true)))) ∧
  (∀ (d : Dev) (j n : Nat) (q : Request) (node : Option Nat) (h : Nat) (l : List Nat) (k : UpdateKind),
    let e := ((d.startCommit j n).broadcast l).onVault (fun v => { v with invalidations := v.invalidations ++ [{ node := node, slice := q.slice, affected := l, req := some n }] })
    d.invalidate j n q node h l k false = e ∧
    d.invalidate j n q node h l k true = e.journal (vaultUpdate n q h k 0 false)))

/-- Doorbells (R26, R29, R34, R35, R54, R55, R57): a posted number within credit is stamped with the time and the next sequence number, one beyond it is
void and counted; a release must end on a record boundary and may let re-issued requests in; what lands elsewhere is counted astray; unmasking sends
what was pending. -/
def Obligations.HostWrites : Prop :=
  (∀ (s : State) (page slot q : Nat) (v : BitVec 32), page < 4096 → s.dev.hostUp = true → s.dev.boundTo page slot = some q →
    let d := s.dev
    let p := d.qp q
    let delta := (v.toNat + 2 ^ 32 - p.b % 2 ^ 32) % 2 ^ 32
    let first := Nat.max p.b (d.credit q)
    let voids := p.b + delta - first
    (p.state = .active → delta = 0 → s.goes (.sqDoorbell page slot v) d) ∧
    (p.state = .active → 2 ^ 31 ≤ delta → s.goes (.sqDoorbell page slot v) (d.addNum P.qpDbStaleCount q 1)) ∧
    (p.state = .active → 0 < delta → delta < 2 ^ 31 → voids = 0 → s.goes (.sqDoorbell page slot v) (d.stampNumbers q true delta)) ∧
    (p.state = .active → 0 < delta → delta < 2 ^ 31 → 0 < voids →
      s.goes (.sqDoorbell page slot v) (((d.stampNumbers q true delta).addNum P.qpCreditViolCount q voids).event
        (((d.stampNumbers q true delta).addNum P.qpCreditViolCount q voids).qpOwner q) 1 q first voids)) ∧
    ((p.state = .disabled ∨ p.state = .unconfigured) → s.goes (.sqDoorbell page slot v) (d.addNum P.qpStrayWriteCount q 1))) ∧
  (∀ (d : Dev) (q n : Nat),
    let p := d.qp q
    (p.b < d.credit q → d.stampNumbers q true (n + 1) =
      ((d.onQp q (fun p => { p with b := p.b + 1, stamps := p.stamps ++ [{ void := false, time := d.now, seq := d.host.nextSeq }] })).onHost
        (fun h => { h with nextSeq := h.nextSeq + 1 })).stampNumbers q true n) ∧
    (d.credit q ≤ p.b → d.stampNumbers q true (n + 1) =
      (d.onQp q (fun p => { p with b := p.b + 1, stamps := p.stamps ++ [{ void := true, time := 0, seq := 0 }] })).stampNumbers q true n)) ∧
  (∀ (s : State) (page slot q : Nat) (v : BitVec 64), page < 4096 → s.dev.hostUp = true → s.dev.boundTo page slot = some q →
    let d := s.dev
    let p := d.qp q
    let dr := (v.toNat / 2 ^ 32 + 2 ^ 32 - p.relRecords) % 2 ^ 32
    let du := (v.toNat % 2 ^ 32 + 2 ^ 32 - p.relUnits) % 2 ^ 32
    let sum (k : Nat) : Nat := (p.unreleased.take k).foldl (· + ·) 0
    let on (k : Nat) : Prop := k ≤ p.unreleased.length ∧ sum k = du ∧ ∀ i, i < k → sum i ≠ du
    (∀ k, (p.state = .active ∨ p.state = .faulted) → on k → dr ≤ p.fill →
      s.goes (.cqRelease page slot v) (((d.onQp q (fun p =>
        { p with relRecords := v.toNat / 2 ^ 32, relUnits := v.toNat % 2 ^ 32, unreleased := p.unreleased.drop k,
                 armed := p.armed || decide (p.fill - dr < d.num P.qpIrqLevel q) })).sampleFill q).replayWaiting (d.qpOwner q))) ∧
    ((p.state = .active ∨ p.state = .faulted) → ((∀ k, ¬ on k) ∨ p.fill < dr) →
      s.goes (.cqRelease page slot v) (((d.addNum P.qpReleaseInvalidCount q 1).event (d.qpOwner q) 3 q v.toNat 0).replayWaiting (d.qpOwner q))) ∧
    ((p.state = .disabled ∨ p.state = .unconfigured) → s.goes (.cqRelease page slot v) (d.addNum P.qpStrayWriteCount q 1))) ∧
  (∀ (s : State) (page slot : Nat) (v : BitVec 32) (w : BitVec 64), page < 4096 → s.dev.hostUp = true → s.dev.boundTo page slot = none →
    s.goes (.sqDoorbell page slot v) (s.dev.addNum P.qpStrayWriteCount 65536 1) ∧ s.goes (.cqRelease page slot w) (s.dev.addNum P.qpStrayWriteCount 65536 1)) ∧
  (∀ (s : State) (page slot i bar off : Nat), s.dev.hostUp = true →
    let d := s.dev
    (∀ q, d.boundTo page slot = some q → s.goes (.barStrayWrite (.doorbellSlot page slot)) (d.addNum P.qpStrayWriteCount q 1)) ∧
    (d.boundTo page slot = none → s.goes (.barStrayWrite (.doorbellSlot page slot)) (d.addNum P.qpStrayWriteCount 65536 1)) ∧
    (d.sliceExists i = false → s.goes (.barStrayWrite (.mailboxPage i)) (d.addNum P.qpStrayWriteCount 65536 1)) ∧
    (barPlace bar off = .reserved → s.goes (.barStrayWrite (.reservedSpace bar off)) (d.addNum P.qpStrayWriteCount 65536 1)) ∧
    (barPlace bar off ≠ .reserved → s.goes (.barStrayWrite (.reservedSpace bar off)) d)) ∧
  (∀ (s : State) (n : Nat), n < 8192 → s.dev.hostUp = true →
    let d := s.dev
    let e := tabGet MsixEntry.reset n d.host.msix
    (e.pending = false → s.goes (.msixUnmask (some n)) (d.onHost (fun h => { h with msix := tabSet n { e with masked := false } h.msix }))) ∧
    (e.pending = true → d.host.functionMask = false →
      ∃ h, s.goes (.msixUnmask (some n)) ((d.onHost (fun _ => h)).emit (.msix n)) ∧ h = { d.host with msix := h.msix } ∧
        tabGet MsixEntry.reset n h.msix = { e with masked := false, pending := false } ∧ ∀ k, k ≠ n → tabGet MsixEntry.reset k h.msix = tabGet MsixEntry.reset k d.host.msix))

/-- A GO on a mailbox page (R26, R30, R510, R517): the request is taken with BUSY set and DONE clear and served for the page; a page that is BUSY, or a
write without GO, changes nothing; the page of a slice that does not exist takes no write. -/
def Obligations.MailboxPages : Prop :=
  ∀ (s : State) (pg : MbPage) (v : BitVec 32) (b : Bytes), s.dev.hostUp = true → 8 ≤ s.dev.boot.step → s.dev.boot.halted = false → s.dev.boot.recoveryWait = false →
  let d := s.dev
  let n := pageNumber pg
  let src := pageSrc pg
  let there : Prop := match pg with | .device => True | .slice i => i < 4096 ∧ d.sliceExists i = true
  let e := d.onMailbox n (fun x => { x with busy := true, done := false, reqLen := b.length, request := b })
  let id := leAt 4 4 b
  let m : Msg := { src := src, reqId := BitVec.ofNat 32 id, row := BitVec.ofNat 32 (leAt 12 4 b), body := b.drop 16 }
  let p := leAt 8 3 b
  (¬ there → s.goes (.mbControlGo pg v b) (d.addNum P.qpStrayWriteCount 65536 1)) ∧
  (there → (v.getLsbD 0 = false ∨ (tabGet Mailbox.reset n d.host.mailboxes).busy = true) → s.goes (.mbControlGo pg v b) d) ∧
  (there → v.getLsbD 0 = true → (tabGet Mailbox.reset n d.host.mailboxes).busy = false →
    ((b.length < 16 ∨ leAt 2 2 b ≠ b.length ∨ 1792 < b.length) → s.goes (.mbControlGo pg v b) (e.respondTo src id (Reply.err resLength))) ∧
    (16 ≤ b.length → leAt 2 2 b = b.length → b.length ≤ 1792 →
      (leAt 0 2 b = 1 → s.goes (.mbControlGo pg v b) (e.serveRead e.lc p m (if p == P.slcEvents then effEvents else effRead p))) ∧
      (leAt 0 2 b = 2 → p ≠ P.fwRecover → 4 ≤ (b.drop 16).length →
        s.goes (.mbControlGo pg v b) (e.serve e.lc p (leAt 0 4 (b.drop 16)) { m with body := (b.drop 16).drop 4 } true (effWrite p (leAt 0 4 (b.drop 16))))) ∧
      (leAt 0 2 b = 3 → ∀ f, commandEffects.find? (fun x => x.1 == p) = some (p, f) → s.goes (.mbControlGo pg v b) (e.serve e.lc p 0 m false f)) ∧
      (leAt 0 2 b = 5 → s.goes (.mbControlGo pg v b) (e.respondTo src id (Reply.err resAccess))) ∧
      (leAt 0 2 b = 6 → s.goes (.mbControlGo pg v b) (e.respondTo src id (Reply.data' (b.drop 16))))))

/-- Admission (R36, R43, R45, R49): the next number is taken where an in-flight entry and completion space are free, and else parked; the first check that
fails completes it; then translations, capacity and keys. What waits on a slice's re-issue list goes first (R410); a record whose pages do not
translate asks for them (R45, R60). -/
def Obligations.Admission : Prop :=
  (∀ (s : State) (qp : Nat) (rd : DescRead) (t : Stamp) (l : List Stamp),
    let i := s.dev.qpOwner qp
    let d := (s.dev.replayWaiting i).retireVoids qp
    let q := rd.fields
    let f := d.readHost qp rd
    let res := f.reservation qp rd.readable q
    let room : Prop := (∀ e ∈ (f.sliceSt i).reissue, e.qp ≠ qp) ∧ (f.disp.reqs.filter (fun e => e.2.slice == i)).length < f.num P.slcInflight i ∧
      f.reservedBytes qp + res + 16 + f.num P.qpInlineLimit qp ≤ f.num P.qpCqBytes qp
    qp < 65536 → s.dev.hostUp = true → (s.dev.qp qp).state = .active → (s.dev.qp qp).disabling = false → (s.dev.sliceSt i).state = .active → (d.qp qp).stamps = t :: l →
    (¬ room → s.goes (.descriptorReadComplete qp rd) (f.onQp qp (fun p => { p with parked := true }))) ∧
    (room →
      let due : Option Int := if !rd.readable || q.noDeadline then none else some (t.time + (q.deadlineUs * 100 : Nat))
      let r := f.disp.nextReq
      let e := (((f.enter qp i (f.qp qp).r t.seq t.time due rd res false).2.retire qp 1)).retireVoids qp
      (f.admissionStatus i rd q ≠ 0 → s.goes (.descriptorReadComplete qp rd) (e.complete r (Completion.ofStatus (f.admissionStatus i rd q)))) ∧
      (f.admissionStatus i rd q = 0 → s.goes (.descriptorReadComplete qp rd) (e.translateFor r rd.pagesTranslate)))) ∧
  (∀ (s : State) (r : Nat) (q : Request), s.dev.req? r = some q → s.dev.hostUp = true →
    let d := s.dev
    let key := inputKeyStatus q.desc q.input
    (q.released = false → q.phase = .waitTranslation →
      s.goes (.priResponse r false) ((d.complete r (Completion.ofStatus (if key ≠ 0 then key else 0x0105))).goOn) ∧
      (let e := d.translated (d.pasid q.slice) (d.outPages q.slice q.desc q.input)
       let plan := e.planOf q.slice q.desc q.input
       let w := e.onReq r (fun x => { x with phase := .waiting })
       ((∃ n, plan.outLen = some n ∧ w.capacityFor q.qp q.desc < n) → s.goes (.priResponse r true) (w.complete r (Completion.ofStatus (if key ≠ 0 then key else 0x0104)))) ∧
       ((∀ n, plan.outLen = some n → n ≤ w.capacityFor q.qp q.desc) →
         (w.prefetchStatus q.slice (w.keyNeeds q.slice q.desc q.input) ≠ 0 →
           s.goes (.priResponse r true) (w.complete r (Completion.ofStatus (w.prefetchStatus q.slice (w.keyNeeds q.slice q.desc q.input))))) ∧
         (w.prefetchStatus q.slice (w.keyNeeds q.slice q.desc q.input) = 0 → s.goes (.priResponse r true) w.prefetch)))) ∧
    (q.phase = .staged → (d.qp q.qp).staged.head? = some r →
      let miss := d.recordMisses q.qp q (q.completion.getD (Completion.ofStatus 0))
      (miss.1 ++ miss.2 ≠ [] → s.goes (.priResponse r true) (d.pagesCame (d.pasid q.slice) (miss.1 ++ miss.2))) ∧
      (miss.1 ≠ [] → s.goes (.priResponse r false) (d.onReq r (fun x => { x with completion := some (Completion.ofStatus 0x0105) }))) ∧
      (∀ p l, miss.1 = [] → miss.2 = p :: l → s.goes (.priResponse r false) (d.faultQp q.qp (4096 * p))))) ∧
  (∀ (s : State) (pasid page : Nat) (i : Nat × SliceSt), s.dev.hostUp = true → i ∈ s.dev.slices → i.2.state ≠ .free → s.dev.pasid i.1 = pasid →
    let got := s.dev.translated pasid [page]
    let owed := (got.host.qps.filter (fun e => e.2.creditOwed && e.2.state == .active)).map Prod.fst
    s.goes (.atsTranslationCompletion pasid page true)
      ((owed.foldl (fun e q => if (e.missingPages (e.qpOwner q) (e.num P.qpCreditAddr q) 8).isEmpty then e.writeCredit q else e) got).goOn) ∧
    s.goes (.atsTranslationCompletion pasid page false) (s.dev.emit (.priRequest pasid (4096 * page)))) ∧
  (∀ (s : State) (pasid n : Nat) (a : BitVec 64), s.dev.hostUp = true → 0 < n →
    let gone : Nat × Nat → Bool := fun t => t.1 == pasid && a.toNat / 4096 ≤ t.2 && t.2 ≤ (a.toNat + n - 1) / 4096
    s.goes (.atsInvalidation pasid a n) ((s.dev.onHost (fun h => { h with translations := h.translations.filter (fun t => !gone t) })).emit (.invalidationDone pasid)))

/-- Publication (R46 to R55, R60, R93): the first staged record of a ring is written, its output before it and its LENGTH word last, then the credit word
and the interrupt; without space it waits, and so it does for its translations; a record of an old generation and one of a FAULTED ring are lost and
counted; a failed write faults the ring. -/
def Obligations.Publication : Prop :=
  (∀ (s : State) (qp r : Nat) (l : List Nat) (q : Request), qp < 65536 → s.dev.hostUp = true → (s.dev.qp qp).staged = r :: l → s.dev.req? r = some q →
    let d := s.dev
    let p := d.qp qp
    let c := q.completion.getD (Completion.ofStatus 0)
    let n := c.output.length
    let body := if q.outHost then [] else c.output
    let size := 16 + 16 * ceilDiv body.length 16
    let left := d.num P.qpCqBytes qp - p.wpos
    let pad := if left < size then left else 0
    let space := pad + size + p.held ≤ d.num P.qpCqBytes qp
    let current := q.gen = d.num P.slcGeneration q.slice
    (¬ current → s.goes (.recordPublish qp) (((d.addNum P.slcSlagCount q.slice 1).onSlice q.slice (fun x => { x with resetDrops := x.resetDrops + 1 })).freeReq r)) ∧
    (current → p.state = .faulted → s.goes (.recordPublish qp) ((d.addNum P.qpLostRecordCount qp 1).freeReq r)) ∧
    (current → p.state = .active → ¬ space → p.waitCounted = true → s.goes (.recordPublish qp) d) ∧
    (current → p.state = .active → ¬ space → p.waitCounted = false →
      s.goes (.recordPublish qp) ((d.addNum P.qpCqSpaceWaitCount qp 1).onQp qp (fun p => { p with waitCounted := true }))) ∧
    (current → p.state = .active → space → d.recordMisses qp q c ≠ ([], []) → s.goes (.recordPublish qp) (d.askPages qp ((d.recordMisses qp q c).1 ++ (d.recordMisses qp q c).2))) ∧
    (current → p.state = .active → space → d.recordMisses qp q c = ([], []) →
      let padded := if pad = 0 then d else
        (d.fresh.2.putRecord qp pad (natLE 4 0 ++ natLE 2 0xFFFF ++ zeros 6 ++ (List.range (pad - 16)).map (Config.freeByte d.freeCtr))).afterRecord qp
      let e := if q.outHost && n > 0 then padded.emit (.hostWrite (some (padded.qpPasid qp)) BusAttr.plain q.desc.outPtr c.output) else padded
      let flags := e.recordFlags q
      let f := e.putRecord qp size (natLE 4 q.desc.tag ++ natLE 2 c.status ++ natLE 1 flags ++ natLE 1 (16 * c.engineClass + 4 * (c.quadB % 4) + c.quadA % 4) ++ natLE 4 n ++
        fitLen (16 * ceilDiv body.length 16) body)
      s.goes (.recordPublish qp) ((((f.recordSampled q flags).afterRecord qp).freeReq r).replayWaiting q.slice))) ∧
  (∀ (d : Dev) (q size : Nat) (tail : Bytes),
    let p := d.qp q
    let a := d.num P.qpCqBase q + p.wpos
    let wraps := p.wpos + size ≥ d.num P.qpCqBytes q
    d.putRecord q size tail = ((((d.emit (.hostWrite (some (d.qpPasid q)) BusAttr.plain (a + 4) tail)).emit (.hostWrite (some (d.qpPasid q)) BusAttr.plain a (natLE 4 (bnat p.phase * 2 ^ 31 + size)))).onQp q
      (fun p => { p with wpos := if wraps then 0 else p.wpos + size, phase := if wraps then !p.phase else p.phase, pubRecords := p.pubRecords + 1,
                         pubUnits := p.pubUnits + size / 16, unreleased := p.unreleased ++ [size / 16] })).sampleFill q)) ∧
  (∀ (s : State) (qp : Nat) (a : BitVec 64) (c : Bool), qp < 65536 → s.dev.hostUp = true → (s.dev.qp qp).state = .active →
    let d := (s.dev.onQp qp (fun p => { p with state := .faulted, parked := false, creditOwed := false })).event (s.dev.qpOwner qp) 2 qp a.toNat 0
    s.goes (.queueFault qp a c) ((d.qp qp).staged.foldl (fun e r => (e.addNum P.qpLostRecordCount qp 1).freeReq r) d)) ∧
  BusAttr.plain = { noSnoop := false, relaxed := false, idBased := false }

/-- Dispatch (R68, R69, R79, R82, R309, R344, R345, R354): a pass takes the ready requests in rank order, each to the unit of least estimated finish, ties
to the lower number; at an epoch boundary all pending changes happen together; a key load tests the ancestors again; a draw is taken once. Smith-core
threads (R68, R88, R89, R393): a request of the kinds that need one gets, when it is ready, the lowest free context of its slice's hearths with its
deadline; of the threads that want a core the earliest deadline comes first, infinity last, ties to the lower context; it takes an idle core that it
may use, else that of the running thread of latest deadline where its own is earlier, which is preempted, and else it waits. -/
def Obligations.Assignment : Prop :=
  (
  (∀ s : State, s.goes .assignmentPass ((s.dev.prefetch.ranked.foldl (fun e r => e.assign r) s.dev.prefetch).goOn).rolloutStep) ∧
  (∀ (d : Dev) (r : Nat) (q : Request), d.req? r = some q →
    (d.isReady r q = false → d.assign r = d) ∧
    (d.isReady r q = true → d.missing r q ≠ [] →
      let e := d.openThread r q
      (q.phase = .waiting → q.draw = none → ((e.opReq q).entropy = true ∨ q.desc.opcode = 0x5801) → e.num P.blwState 0 = blwExhausted → d.assign r = e.fail r 0x0502) ∧
      (e.num P.blwState 0 ≠ blwExhausted →
        (q.phase = .waiting → e.persistentUpdate q = true →
          (e.updateTurn q = .wait → d.assign r = e) ∧
          (∀ st out, e.updateTurn q = .done st out → d.assign r = e.complete r { Completion.ofStatus st with output := out, engineClass := 5 })) ∧
        (e.persistentUpdate q = false → e.signsStateful q = true →
          (∀ st, e.statefulTurn q = some (some st) → d.assign r = e.fail r st) ∧
          (e.statefulTurn q = some none → d.assign r = e.startReservation (handleObj q.desc.keyA) q)) ∧
        (e.persistentUpdate q = false → (e.signsStateful q = true → e.statefulTurn q = none) → (e.opReq q).cls ∈ [1, 2, 3, 4] → e.missing r q = [.first] →
          (e.choose q .first = none → d.assign r = e) ∧
          (∀ u, e.choose q .first = some u →
            let f := (e.give r .first u).shadow r q .first u
            d.assign r = if f.twice q then f.giveSecond r q u else f))))) ∧
  (∀ (d : Dev) (q : Request) (u : Nat), (d.opReq q).cls ∈ [1, 2, 3] → d.choose q .first = some u →
    let free := d.freeUnits q .first (if q.retried then (q.excluded.filter (· < nTiles)).getLast? else none)
    u ∈ free ∧ ∀ v ∈ free,
      let a := d.estimate q .first u
      let b := d.estimate q .first v
      a.1 * b.2 < b.1 * a.2 ∨ (a.1 * b.2 = b.1 * a.2 ∧ u ≤ v)) ∧
  (∀ s : State,
    let d := s.dev
    let l := d.disp.changes
    let e := (d.setNum P.dspEpoch 0 ((d.num P.dspEpoch 0 + 1) % 2 ^ 32)).onDisp (fun x => { x with changes := [] })
    (l = [] → s.goes .epochBoundary d) ∧
    (l ≠ [] → s.goes .epochBoundary (l.foldl (fun e c => if c.target = .inPool then e.join c.unit else e.depart c) e).rolloutStep)) ∧
  (∀ (d : Dev) (m : PoolMove), ((d.unit m.unit).pool ≠ .inPool → d.depart m = d) ∧
    ((d.unit m.unit).pool = .inPool →
      let e := d.putPool m.unit m.target m.edge
      (m.target = .draining → (e.unit m.unit).job = none → d.depart m = e.setPool m.unit .out m.edge) ∧
      ((m.target ≠ .draining ∨ (e.unit m.unit).job ≠ none) → d.depart m = e))) ∧
  (∀ (d : Dev) (u : Nat), ((d.unit u).pool ≠ .joining → d.join u = d) ∧
    ((d.unit u).pool = .joining → (nTiles ≤ u ∨ d.lib.rolloutState ≠ 1 ∨ d.lib.rolloutCurrent ≠ u) → d.join u = d.setPool u .inPool .host) ∧
    ((d.unit u).pool = .joining → u < nTiles → d.lib.rolloutState = 1 → d.lib.rolloutCurrent = u →
      d.join u = (d.extend 5 0x0A u (Sha2.sha384 (d.slotBytes u))).setPool u .inPool .host)) ∧
  (∀ (s : State) (u : Nat), u < nUnits →
    let d := s.dev
    (((d.unit u).scrubbing = true ∨ (d.unit u).refreshing = true ∨ d.loading u = none) → s.goes (.keyLoadDone u) d) ∧
    ((d.unit u).scrubbing = false → (d.unit u).refreshing = false → ∀ j x q, d.loading u = some j → d.job? j = some x → d.req? x.req = some q →
      let ns := (d.workNeeds q x.kind).map (fun n => handleObj n.handle)
      (ns.all d.ancestorsOk = false → s.goes (.keyLoadDone u) (if x.kind.isShadow then d.dropJob j else (d.failWork x.req x.kind.half 0x0203).goOn)) ∧
      (ns.all d.ancestorsOk = true → ∃ e : Dev, s.goes (.keyLoadDone u) e.startReady ∧ e.job? j = some { x with keyReady := true } ∧
        (∀ k, k ≠ j → e.job? k = d.job? k) ∧
        e.req? x.req = some { q with keyGens := if x.kind.isShadow then q.keyGens else q.keyGens ++ ns.flatMap (fun n => d.gensOf n q.slice) } ∧
        (∀ v, v ≠ u → e.unit v = d.unit v) ∧
        (classOf u ≠ 3 → ∀ n l, d.workKeys q x.kind = n :: l →
          ∃ h : KeyHeld, (e.unit u).key = some h ∧ h.node = n ∧ h.slice = q.slice ∧ h.order = x.order ∧ (∀ y, d.node? n = some y → h.gen = y.gen) ∧
            (e.unit u).keyReg.seeds.length = (if u < 128 then x.order else 1)) ∧
        (classOf u = 3 → (e.unit u).contexts.length ≤ 32 ∧ ((d.workKeys q x.kind).length ≤ 32 → ∀ n ∈ d.workKeys q x.kind,
          ∃ c ∈ (e.unit u).contexts, c.held.node = n ∧ c.held.slice = q.slice ∧ c.shares.length = 2 ∧ c.value = d.nodeKey n))))) ∧
  (∀ (s : State) (j : Nat) (x : Job) (q : Request), s.dev.job? j = some x → s.dev.req? x.req = some q →
    let d := s.dev
    let i := if q.desc.opcode = 0x5801 then 16 else if x.unit < nUnits then hearthOf x.unit else 0
    (x.drawReady = true → s.goes (.drbgDrawDone j) d.startReady) ∧
    (x.drawReady = false → q.draw.isSome = true → s.goes (.drbgDrawDone j) ((d.onJob j (fun x => { x with drawReady := true })).startReady)) ∧
    (x.drawReady = false → q.draw = none →
      (d.num P.blwState 0 = blwExhausted → s.goes (.drbgDrawDone j) ((d.fail x.req 0x0502).startReady)) ∧
      (d.num P.blwState 0 ≠ blwExhausted → d.generates i = false → s.goes (.drbgDrawDone j) d.startReady) ∧
      (d.num P.blwState 0 ≠ blwExhausted → d.generates i = true →
        let e := (d.generate i [] (d.drawLen q)).2
        s.goes (.drbgDrawDone j) (((e.onReq x.req (fun q => { q with draw := some (d.generate i [] (d.drawLen q)).1, stretched := q.stretched || decide (ageReseed < (d.inst i).age) })).onJob j
          (fun x => { x with drawReady := true })).startReady))))) ∧
  (
  (∀ (d : Dev) (r : Nat) (q : Request),
    let t : Thread := { owner := .request r, deadline := q.deadline, state := .ready }
    (d.needsThread q = true ↔ (d.opReq q).cls = 6 ∨ q.desc.opcode / 256 = 0x50 ∨ q.desc.opcode = 0x310E ∨ d.persistentUpdate q = true) ∧
    (d.needsThread q = false → d.openThread r q = d) ∧
    (∀ c, d.threadOf (.request r) = some c → d.openThread r q = d) ∧
    (∀ c, d.needsThread q = true → d.threadOf (.request r) = none → d.freeContext q.slice = some c →
      d.openThread r q = d.onDisp (fun x => { x with threads := tabSet c t x.threads }) ∧ 256 ≤ c ∧ c < 4096 ∧ tabGet? c d.disp.threads = none ∧
      (c - 256) / 240 ∈ d.threadHearths (some q.slice) ∧
      ∀ b, 256 ≤ b → b < c → (b - 256) / 240 ∈ d.threadHearths (some q.slice) → tabGet? b d.disp.threads ≠ none)) ∧
  (∀ (x y : Nat × Thread) (a b : Int), x.2.deadline = some a →
    (y.2.deadline = some b → (threadBefore x y = true ↔ a < b ∨ (a = b ∧ x.1 < y.1))) ∧ (y.2.deadline = none → threadBefore x y = true ∧ threadBefore y x = false)) ∧
  (∀ (l : List (Nat × Thread)) (e : Nat × Thread), firstThread l = some e → e ∈ l ∧ ∀ x ∈ l, threadBefore x e = false) ∧
  (∀ (d : Dev) (e : Nat × Thread),
    let cores := (d.threadHearths (d.threadSlice e.2)).filter (fun h => !d.dbg.halted.contains h)
    (∀ h ∈ cores, d.runningOn h = none → (∀ k ∈ cores, k < h → d.runningOn k ≠ none) → d.placeThread e = d.setThread e.1 (.running h)) ∧
    (∀ h ∈ cores, ∀ c t, d.runningOn h = some (c, t) → (∀ k ∈ cores, k ≠ h → ∃ x, d.runningOn k = some x ∧ threadBefore x (c, t) = true) →
      (∀ a, e.2.deadline = some a → (t.deadline = none ∨ ∃ b, t.deadline = some b ∧ a < b) →
        d.placeThread e = (d.setThread c .preempted).setThread e.1 (.running h)) ∧
      (∀ a b, e.2.deadline = some a → t.deadline = some b → b ≤ a → d.placeThread e = d) ∧
      (e.2.deadline = none → d.placeThread e = d))))

/-- A reported result meets its checks in this order (R90, R91, R94, R115): generation, key generations, excursion windows, rails at guard, comparison,
output space, output pages; the first that fails decides, and only then is it staged. A shadow result is compared with the serving unit's and released
to nobody. -/
def Obligations.ReleaseChecks : Prop :=
  (∀ (s : State) (j : Nat) (x : Job), s.dev.job? j = some x →
    let d := s.dev
    let e := if x.unit < nUnits then d.sample (1152 + x.unit) ((d.now - x.start : Nat) : Int) else d
    let scrub := match e.jobReq x with | some q => e.scrubsAfter q x.kind | none => false
    let f := e.onJob j (fun x => { x with reported := true })
    ((x.finished = false ∨ x.reported = true) → s.goes (.resultFinished j) d) ∧
    (x.finished = true → x.reported = false →
      (x.kind.isShadow = false → s.goes (.resultFinished j) ((f.tellShadows x scrub).goOn).rolloutStep) ∧
      (x.kind.isShadow = true → s.goes (.resultFinished j) (f.compareShadow j scrub).rolloutStep)) ∧
    ((x.held = false ∨ d.now < x.stop.getD 0 + ticksPerUs) → s.goes (.releaseHoldExpire j) d) ∧
    (x.held = true → x.stop.getD 0 + ticksPerUs ≤ d.now → s.goes (.releaseHoldExpire j) (d.onJob j (fun x => { x with held := false })).goOn)) ∧
  (∀ (d : Dev) (j : Nat) (x : Job) (scrub : Bool), d.job? j = some x →
    ((x.reported = false ∨ x.result = none ∨ x.expect = none) → d.compareShadow j scrub = d) ∧
    (∀ mine live, x.reported = true → x.result = some mine → x.expect = some live →
      let g := if scrub then (d.dropJob j).scrub x.unit else d.dropJob j
      let differs := mine.mismatch = true ∨ mine.status ≠ live.status ∨ mine.output ≠ live.output ∨ mine.secret ≠ live.secret
      (¬ differs → d.compareShadow j scrub = g.onUnit x.unit (fun y => { y with matched := y.matched + 1 })) ∧
      (differs → d.compareShadow j scrub =
        ((if x.unit < 160 then g.addNum P.dspShadowMismatchCount x.unit 1 else g).raiseUnit 0x0802 x.unit 0).unitOut x.unit .alarm))) ∧
  (∀ (d : Dev) (x : Job) (res : JobResult) (scrub : Bool), x.result = some res → res.mismatch = false → x.kind ≠ .second →
    d.tellShadows x scrub = ((d.jobsOf x.req).filter (fun e => e.2.kind.isShadow && e.2.kind.half == x.kind.half)).foldl
      (fun d e => (d.onJob e.1 (fun y => { y with expect := some res })).compareShadow e.1 scrub) d) ∧
  (∀ (d : Dev) (r : Nat) (q : Request) (e : Nat × Job) (res : JobResult), d.req? r = some q →
    let js := (d.jobsOf r).filter (fun e => !e.2.kind.isShadow && e.2.kind.half == 0)
    js.find? (fun e => e.2.kind != .second) = some e → e.2.result = some res → (d.opReq q).cls ≠ 6 →
    q.released = false → q.phase ≠ .waitTranslation → q.halfFail = none → (∀ h ∈ q.halves, h.1 ≠ 0) → (∀ f ∈ js, f.2.reported = true) →
    (d.twice q = false ∨ res.status ≠ 0 ∨ ∃ f ∈ js, f.2.kind = .second) →
    let second := (js.find? (fun e => e.2.kind == .second)).bind (fun e => e.2.result)
    let differs := res.mismatch = true ∨ ∃ y, second = some y ∧ (y.mismatch = true ∨ y.status ≠ res.status ∨ y.output ≠ res.output ∨ y.secret ≠ res.secret)
    (d.releaseAfter q = true → d.settleHalf r 0 = d) ∧
    (d.releaseAfter q = false →
      (q.gen ≠ d.num P.slcGeneration q.slice → d.settleHalf r 0 = d.dropReq r true) ∧
      (q.gen = d.num P.slcGeneration q.slice →
        (d.gensCurrent q.keyGens = false → d.settleHalf r 0 = d.fail r 0x0204) ∧
        (d.gensCurrent q.keyGens = true →
          ((∃ f ∈ js, d.inWindow f.2 = true) → d.settleHalf r 0 = d.withholdFor r js P.dspRetryCount01) ∧
          ((∀ f ∈ js, d.inWindow f.2 = false) → (∃ f ∈ js, d.inTileWindow f.2 = true) → d.settleHalf r 0 = d.withholdFor r js P.dspRetryCount02) ∧
          ((∀ f ∈ js, d.inWindow f.2 = false ∧ d.inTileWindow f.2 = false) →
            let early := (d.belowGuard = true ∨ e.2.held = true) ∧ ∃ f ∈ js, d.now < f.2.stop.getD 0 + ticksPerUs
            (early → d.settleHalf r 0 = d.onJob e.1 (fun x => { x with held := true })) ∧
            (¬ early →
              (differs → q.mismatches = 0 →
                let f := d.onReq r (fun q => { q with mismatches := q.mismatches + 1 })
                d.settleHalf r 0 = (js.foldl (fun f e => f.raiseUnit 0x0800 e.2.unit 0) f).withholdFor r js P.dspRetryCount03) ∧
              (differs → q.mismatches ≠ 0 →
                let f := js.foldl (fun f e => f.raiseUnit 0x0802 e.2.unit 0) (d.fail r 0x0401)
                d.settleHalf r 0 = js.foldl (fun f e => if e.2.unit < nUnits then f.unitOut e.2.unit .alarm else f) f) ∧
              (¬ differs → d.settleHalf r 0 = d.release r q res (classOf e.2.unit) (if e.2.unit < nUnits then quadOf e.2.unit else 0) 0))))))) ∧
  (∀ (d : Dev) (r : Nat) (q : Request) (res : JobResult) (cls qa qb : Nat),
    let n := if res.status = 0 then d.outBytes q res else 0
    let missing := if q.outHost then d.missingPages q.slice q.desc.outPtr n else []
    let left := ((d.jobsOf r).filter (fun e => !e.2.kind.isShadow)).foldl (fun f e => f.leave e (d.scrubsAfter q e.2.kind)) d
    (d.capacity q < n → d.release r q res cls qa qb = d.fail r 0x0104) ∧
    (n ≤ d.capacity q → missing ≠ [] → d.release r q res cls qa qb = missing.foldl (fun f p => f.emit (.priRequest (d.pasid q.slice) (4096 * p))) d) ∧
    (n ≤ d.capacity q → missing = [] → (res.status ≠ 0 ∨ (left.opReq q).makes = false) →
      d.release r q res cls qa qb =
        left.complete r { status := res.status, output := if res.status = 0 then res.output else [], engineClass := cls, quadA := qa, quadB := qb }))

/-- What the vault does by itself (R298, R305, R308, R311 to R317, R323, R328): a miss ends with the object resident or its requests failed; an
invalidation is acknowledged once no result past its check still uses the keys; updates commit in order, at most 64 at a time, and a group that could
not be written loses its reservations; orphans are reclaimed; a temper pass that overruns is counted. The keys above the objects (R296 to R298, R306,
R324, R325): the device root is formed from the fuses' secret and the ember key and stays only until it has unwrapped the master; a stored object
opens under the storage key of its slice root alone; the cache holds secret bytes as two shares. -/
def Obligations.VaultEvents : Prop :=
  (
  let arrived (n : Nat) (e : Dev) : Dev := e.onVault (fun v => { v with misses := v.misses.filter (· != n) })
  (∀ (s : State) (n : Nat) (ok : Bool),
    let d := s.dev
    (d.vault.misses.contains n = false → s.goes (.cacheMissDone n ok) d) ∧
    (d.vault.misses.contains n = true → d.node? n = none → s.goes (.cacheMissDone n ok) (arrived n d).prefetch) ∧
    (∀ x, d.vault.misses.contains n = true → d.node? n = some x →
      (ok = true → d.storedUnder x = true → s.goes (.cacheMissDone n ok) ((arrived n d).onVault (fun v => { v with roomless := v.roomless ++ [n] })).prefetch) ∧
      ((ok = false ∨ d.storedUnder x = false) →
        let e := (arrived n d).event x.slice 5 0xFFFF (mkHandle x.slice n x.tag) 0
        s.goes (.cacheMissDone n ok)
          (e.disp.reqs.foldl (fun f r => if !r.2.keysReady && !r.2.released && (f.reqObjs r.2).contains n then f.fail r.1 0x0206 else f) e).prefetch))) ∧
  (∀ (d : Dev) (n : Nat), d.vault.roomless = [n] →
    (d.bringIn n = none → d.fillRoom = d) ∧
    (∀ e, d.bringIn n = some e → (d.fillRoom.node? n).map Node.resident = some true ∧ d.fillRoom.vault.roomless = [])) ∧
  (∀ (s : State) (n : Nat) (i : Invalidation) (l : List Invalidation), s.dev.vault.invalidations = i :: l →
    let d := s.dev
    let mine := i.node = (if n < 2 ^ 28 then some n else none) ∧ (2 ^ 28 ≤ n → i.slice = n - 2 ^ 28)
    let past (e : Nat × Request) : Prop := e.2.released = true ∨ e.2.halves ≠ [] ∨ (e.2.phase = .committing ∧ ∀ j ∈ d.vault.invalidations, j.req ≠ some e.1)
    let inUse := ∃ e ∈ d.disp.reqs, past e ∧ some e.1 ≠ i.req ∧ ∃ g ∈ e.2.keyGens, g.1 ∈ i.affected
    let e := d.onVault (fun v => { v with invalidations := l })
    let waits (u : Update) : Bool := u.req == i.req && !u.acked
    (¬ mine ∨ inUse → s.goes (.invalidationAck n) d) ∧
    (mine → ¬ inUse →
      ((∃ u ∈ d.vault.updates, waits u = true) →
        s.goes (.invalidationAck n) (e.onVault (fun v => { v with updates := v.updates.map (fun u => if waits u then { u with acked := true } else u) }))) ∧
      ((∀ u ∈ d.vault.updates, waits u = false) → i.req = none → s.goes (.invalidationAck n) e) ∧
      (∀ r, (∀ u ∈ d.vault.updates, waits u = false) → i.req = some r → s.goes (.invalidationAck n) (e.complete r { Completion.ofStatus 0 with engineClass := 5 })))) ∧
  (∀ (s : State) (n : Nat), s.dev.vault.invalidations = [] → s.goes (.invalidationAck n) s.dev) ∧
  (∀ (s : State) (n : Nat) (written : Bool),
    let d := s.dev
    let group := (d.vault.updates.filter d.mayCommit).take (Nat.min n 64)
    let keys := group.filterMap (fun u => match u.kind with | .reserve k _ => some k | _ => none)
    let e := keys.foldl (fun f k => f.onNode k (fun x => { x with stateful := x.stateful.map (fun s => { s with reserving := false }) }))
      (d.onVault (fun v => { v with updates := v.updates.filter (fun u => !group.contains u || (match u.kind with | .reserve _ _ => false | _ => true)) }))
    (d.modes.mode.powered = false → s.goes (.journalCommitDone ⟨n, written⟩) d) ∧
    (d.modes.mode.powered = true → s.goes (.journalCommitDone ⟨n, true⟩) (d.commitSome Dev.applyOther (Nat.min n 64)).goOn) ∧
    (d.modes.mode.powered = true → s.goes (.journalCommitDone ⟨n, false⟩)
      (keys.foldl (fun f k => ((f.disp.reqs.filter (fun x => f.waitsForIndex x.1 x.2 k)).map Prod.fst).foldl (fun f r => f.fail r 0x0321) f) e).goOn)) ∧
  (∀ (d : Dev) (n : Nat),
    ((∀ u ∈ d.vault.updates, d.mayCommit u = false) → d.commitSome Dev.applyOther (n + 1) = d) ∧
    (∀ u, d.vault.updates.find? d.mayCommit = some u →
      (67108864 < d.vault.journalUsed + d.recordBytes u.kind → d.commitSome Dev.applyOther (n + 1) = d) ∧
      (d.vault.journalUsed + d.recordBytes u.kind ≤ 67108864 → d.commitSome Dev.applyOther (n + 1) =
        ((d.onVault (fun v => { v with updates := v.updates.eraseP d.mayCommit })).commitOne Dev.applyOther u).commitSome Dev.applyOther n))) ∧
  (∀ (d : Dev) (u : Update) (n : Nat) (x : Node), d.node? n = some x →
    let e := d.commitOne Dev.applyOther u
    (u.kind = .create [n] → d.creationStale u = false → e.node? n = some { x with pending := false, version := u.seq, stored := tabGet x.stored n u.sealed }) ∧
    (u.kind = .create [n] → d.creationStale u = true → e.node? n = none) ∧
    (u.kind = .restrict n → e.node? n = some { x with exportable := false, childExport := false, version := u.seq, stored := tabGet x.stored n u.sealed }) ∧
    (u.kind = .destroy n → e.node? n = some { x with version := u.seq, stored := tabGet x.stored n u.sealed }) ∧
    (∀ up, u.kind = .reserve n up → e.node? n = some { x with stateful := x.stateful.map (fun y => { y with committed := up, reserving := false, window := true }), stored := tabGet x.stored n u.sealed }) ∧
    (u.kind = .reclaim n → e.node? n = none)) ∧
  (∀ s : State, ∃ e : Dev, s.goes .reclaimTask e ∧ (∀ n ∈ s.dev.orphans, isVol n = true → e.node? n = none) ∧
    (∀ n ∈ s.dev.orphans, isVol n = false → e.node? n = s.dev.node? n ∧ (s.dev.modes.storeOpen = true → ∃ u ∈ e.vault.updates, u.kind = .reclaim n ∧ u.acked = true)) ∧
    (∀ n, n ∉ s.dev.orphans → e.node? n = s.dev.node? n)) ∧
  (∀ s : State,
    let d := s.dev
    let waits (n : Nat) : Bool := (d.vault.updates.flatMap (fun u => u.kind.nodes)).contains n
    s.goes .journalCompaction (d.onVault (fun v => { v with
      journalUsed := 0, journalHigh := false, marks := v.seqs
      store := v.store.filter (fun e => waits e.1) ++ v.nodes.filter (fun e => !isVol e.1 && !waits e.1) }))) ∧
  (∀ s : State,
    let d := s.dev
    let due := d.modes.mode.powered = true ∧ d.vault.temperDue ≤ d.now
    let e := d.onVault (fun v => { v with temperDue := d.now + d.num P.vltTemperMs 0 * 1000 * 100 })
    let running := ∃ x ∈ d.units, x.2.refreshing = true
    (¬ due → s.goes .temperPassStart d) ∧
    (due → running → s.goes .temperPassStart (e.addNum P.vltTemperOverrunCount 0 1)) ∧
    (due → ¬ running → s.goes .temperPassStart
      ((e.fresh.2.onVault (fun v => { v with nodes := v.nodes.map (fun y => (y.1, { y.2 with shares := remask d.freeCtr y.1 y.2.shares })) })).onUnits (tabMap (fun u x =>
        if u < nUnits ∧ (x.key ≠ none ∨ x.contexts ≠ []) then (if x.job = none then { x with refreshing := true } else { x with refreshDue := true }) else x)))) ∧
    (∀ (k i : Nat) (a b : Bytes), a.length = b.length → (remask k i [a, b]).foldl xorBytes (zeros a.length) = [a, b].foldl xorBytes (zeros a.length)))) ∧
  (
  (∀ (d : Dev) (a b : Bytes), d.backup.emberShares = [a, b] →
    let root := kmac256 d.pufSecret (xorBytes a b) "OQ7168-ROOT"
    let master := if d.lcState = 4 then none else unwrapKey root d.vault.masterWrapped
    let e := d.openStore
    e.modes.storeOpen = master.isSome ∧ e.vault.deviceRoot = (if master = none then some root else none) ∧ e.vault.master = master ∧
      e.vault.domainRoot = master.bind (fun m => unwrapKey m d.vault.domainWrapped) ∧
      ∀ i r, tabGet? i d.vault.roots = some r → (e.root i).key = (master.bind (fun m => unwrapKey m r.wrapped)).getD [] ∧ (e.root i).gen = r.gen) ∧
  (∀ d : Dev, d.backup.emberShares = [] → d.openStore.modes.storeOpen = false ∧ d.openStore.vault.deviceRoot = none ∧ d.openStore.vault.master = none) ∧
  (∀ d : Dev,
    let e := d.formTestRoot
    e.vault.testRoot = true ∧ e.modes.storeOpen = false ∧ e.vault.master = none ∧ e.vault.masterWrapped = d.vault.masterWrapped ∧
    e.vault.deviceRoot = some (kmac256 (slice 40 16 (d.oct P.dbgCert 0)) deviceIdentity "OQ7168-TEST")) ∧
  (∀ (d : Dev) (i : Nat), d.storageKey i = kmac256 (d.root i).key (natBE 2 i) "OQ7168-STORE") ∧
  (∀ (d : Dev) (iv : Bytes) (x : Node), iv.length = 12 → (d.root x.slice).held = true → (d.root x.slice).closed = false →
    d.storedUnder { x with stored := d.seal iv x } = true) ∧
  (∀ (d : Dev) (x : Node), ((d.root x.slice).held = false ∨ (d.root x.slice).closed = true) → d.storedUnder x = false) ∧
  (∀ (x : Node) (k : Nat), x.public = false → ∃ a b, (x.cached k).shares = [a, b] ∧ a.length = x.material.length ∧ b.length = x.material.length ∧ xorBytes a b = x.material) ∧
  (∀ (x : Node) (k : Nat), x.evicted.shares = [] ∧ (x.public = true → (x.cached k).shares = [])) ∧
  (∀ (d : Dev) (i : Nat) (s : Session),
    (i < 4096 → d.isHome i = true → (d.root i).held = true → s.peer = true →
      d.sendRoot i s = d.emit (.peer 5 i (natLE 8 (tabGet 0 i d.vault.seqs) ++ wrapKey s.transportKey (d.root i).key))) ∧
    ((d.isHome i = false ∨ s.peer = false) → d.sendRoot i s = d)))

/-- How a slice's reset, freeze and restore end (R401, R403 to R405, R409, R410): what remains is dropped, its written updates commit, its keys are
cleared and it is ACTIVE, or free where it is removed; at the drain limit what may not be cancelled is drained and the rest enters the re-issue list;
a restore is journaled at its mark. -/
def Obligations.SliceEvents : Prop :=
  (∀ (s : State) (i : Nat), i < 4096 →
    let d := s.dev
    let x := d.sliceSt i
    let a := d.commitWritten Dev.applyOther (fun u => u.slice == i && u.kind != .restoreImage && u.kind != .sliceRoot)
    let b := (a.disp.reqs.filter (fun e => e.2.slice == i)).foldl (fun f e => f.dropReq e.1 (e.2.phase == .staged || (f.jobsOf e.1).any (fun j => j.2.finished))) a
    let e := b.clearSliceKeys i
    let f := e.onSlice i (fun x => { x with state := .active })
    (x.state ≠ .resetting → s.goes (.sliceResetComplete i) d) ∧
    (x.state = .resetting → x.removal = false → s.goes (.sliceResetComplete i) (f.event i 6 0xFFFF (f.num P.slcGeneration i) (f.sliceSt i).resetDrops)) ∧
    (x.state = .resetting → x.removal = true → x.purge = false → s.goes (.sliceResetComplete i) (e.freeInstance i)) ∧
    (x.state = .resetting → x.removal = true → x.purge = true → s.goes (.sliceResetComplete i) ((e.freeInstance i).journal (sliceUpdate i .purgeRoot [] none)))) ∧
  (∀ (s : State) (i : Nat), i < 4096 →
    let d := s.dev
    let x := d.sliceSt i
    let due := x.state = .frozen ∧ x.limitPassed = false ∧ x.freezeStart + d.num P.slcDrainLimitUs i * 100 ≤ d.now
    let l := (latestFirst (d.disp.reqs.filter (fun e => e.2.slice == i))).reverse
    let flows := d.waitedOn l l.length ((l.filter (fun e => d.usesStateful e.2)).map Prod.fst)
    let kept := flows ++ (l.filter (fun e => !flows.contains e.1 && d.vault.updates.any (fun u => u.req == some e.1))).map Prod.fst
    (¬ due → s.goes (.freezeDrainLimit i) d) ∧
    (due → s.goes (.freezeDrainLimit i)
      (((l.foldl (fun f e => if kept.contains e.1 then f else f.cancel i e.1 e.2) (d.onSlice i (fun x => { x with limitPassed := true, drainedCount := kept.length }))).freezeSettled i).goOn))) ∧
  (∀ (d : Dev) (i r : Nat) (q : Request),
    let e := d.cancel i r q
    let y := d.sliceSt i
    let again : Reissue := { read := q.read, qp := q.qp, number := q.number, deadline := q.deadline, accept := q.accept, seq := 0 }
    e.req? r = none ∧ e.sliceSt i = { y with reissue := y.reissue ++ [again], cancelled := y.cancelled + 1 } ∧
      e.num P.slcCancelCount i = (d.num P.slcCancelCount i + 1) % 2 ^ 64) ∧
  (∀ (s : State) (i : Nat), i < 4096 →
    let d := s.dev
    ((d.sliceSt i).restoring = none → s.goes (.restoreReplMarkReached i) d) ∧
    (∀ im pasid, (d.sliceSt i).restoring = some (im, pasid) →
      let ready := im.replMark ≤ tabGet 0 i d.vault.seqs ∧ (∀ u ∈ d.vault.updates, ¬ (u.kind = .restoreImage ∧ u.slice = i)) ∧ d.modes.mode.powered = true ∧
        (d.msixFit i (argOf P.slcMsixCount im.params)).isSome = true
      (¬ ready → s.goes (.restoreReplMarkReached i) d) ∧
      (ready → s.goes (.restoreReplMarkReached i) (d.journal (sliceUpdate i .restoreImage [] none)))))

/-- Noise sources and their blocks (R333 to R338, R346, R348, R349): a start-up test is repeated once and then declares the source failed; a window's
block is SHA3-256 of its 80 bytes, held for the adaptive-proportion windows that overlap it, and then enters a pool of 64; every 41 identical bits
fail the repetition test, and the fourth failure within 65,536 windows fails the source. BLW_STATE changes with the kind of its edge, and out of
EXHAUSTED only once every instance has reseeded. -/
def Obligations.NoiseSources : Prop :=
  (∀ (s : State) (i : Nat) (raw : Bytes), i < 8 →
    let d := s.dev
    let x := d.noise i
    let live := x.started = true ∧ x.failed = false ∧ d.modes.mode.powered = true
    let fresh := x.started = false ∧ x.failed = false ∧ d.modes.mode.powered = true
    let proportion (w : List Bool) : Nat := if 793 ≤ (w.filter (· == w.headD false)).length then 1 else 0
    (¬ fresh → s.goes (.sourceStartupTestEnd i raw) d) ∧
    (fresh →
      let w := rawBits (fitLen 128 raw)
      let r := repetitionTest (0, false) w
      let bad := r.2 + proportion w
      let e := d.onNoise i (fun y => { y with run := r.1.1, last := r.1.2 })
      (bad = 0 → s.goes (.sourceStartupTestEnd i raw) (e.onNoise i (fun y => { y with started := true })).settleBellows.deliverAll) ∧
      (0 < bad → x.startupFails = 0 → s.goes (.sourceStartupTestEnd i raw) ((e.addNum P.blwHtFailCount i bad).onNoise i (fun y => { y with startupFails := 1 }))) ∧
      (0 < bad → x.startupFails ≠ 0 → s.goes (.sourceStartupTestEnd i raw) ((e.addNum P.blwHtFailCount i bad).declareFailed i).deliverAll)) ∧
    (∀ a b, ¬ live ∨ x.capturing = true → s.goes (.conditioningWindowEnd i a b) d) ∧
    (∀ a b, live → x.capturing = false →
      let raw := fitLen 40 a ++ fitLen 40 b
      let r := repetitionTest (x.run, x.last) (rawBits raw)
      let e := d.onNoise i (fun y => { y with windows := x.windows + 1, run := r.1.1, last := r.1.2 })
      (0 < r.2 → s.goes (.conditioningWindowEnd i a b) ((List.range r.2).foldl (fun e _ => e.testFailure i) e)) ∧
      (r.2 = 0 → s.goes (.conditioningWindowEnd i a b)
        (e.onNoise i (fun y => { y with heldBlocks := y.heldBlocks ++ [(x.windows, Keccak.sha3_256 raw)] })))) ∧
    (¬ live → s.goes (.adaptiveProportionWindowEnd i raw) d) ∧
    (live →
      let bad := proportion (rawBits (fitLen 128 raw))
      let lo := 1024 * x.apWindows
      let hi := 1024 * (x.apWindows + 1)
      let kept := if bad = 1 then x.heldBlocks.filter (fun b => !(640 * b.1 < hi && lo < 640 * (b.1 + 1))) else x.heldBlocks
      let ready := kept.filter (fun b => 640 * (b.1 + 1) ≤ hi)
      let left := kept.filter (fun b => !(640 * (b.1 + 1) ≤ hi))
      let e := (d.onNoise i (fun y => { y with apWindows := x.apWindows + 1, heldBlocks := left, capturing := false })).onBellows
        (fun b => { b with pool := (b.pool ++ ready.map Prod.snd).take 64 })
      s.goes (.adaptiveProportionWindowEnd i raw) (if bad = 1 then e.testFailure i else e).deliverAll)) ∧
  (∀ (n : Nat) (b : Bool), 0 < n → repetitionTest (0, false) (List.replicate n b) = ((n % 41, b), n / 41)) ∧
  (∀ (d : Dev) (i : Nat),
    let w := (d.noise i).windows
    let recent := (d.noise i).failures.filter (fun f => f + 65536 > w)
    let e := (d.addNum P.blwHtFailCount i 1).onNoise i (fun y => { y with failures := recent ++ [w] })
    ((d.noise i).failed = true → d.testFailure i = d) ∧
    ((d.noise i).failed = false → recent.length < 3 → d.testFailure i = e) ∧ ((d.noise i).failed = false → 3 ≤ recent.length → d.testFailure i = e.declareFailed i) ∧
    d.declareFailed i = ((((d.onNoise i (fun y => { y with failed := true, heldBlocks := [] })).onBellows (fun b => { b with
      sourceFailed := tabMod 0 i (· + 1) b.sourceFailed })).raiseUnit 0x0805 i i).settleBellows).exhaust) ∧
  (∀ (s : State) (n : Nat),
    let d := s.dev
    let due := d.num P.blwState 0 = blwStarting ∧ d.bellows.katPassed = false ∧ d.modes.mode.powered = true
    (¬ due → s.goes (.bellowsKatDone n) d) ∧
    (due → s.goes (.bellowsKatDone 0) (d.onBellows (fun b => { b with katPassed := true })).settleBellows.deliverAll) ∧
    (due → 0 < n → s.goes (.bellowsKatDone n) ((d.setNum P.blwFailCause 0 n).setBlw blwExhausted .alarm).exhaust)) ∧
  (∀ (s : State) (p : Nat), s.dev.bellows.retest = none → ∀ ok, s.goes (.retestDone p ok) s.dev) ∧
  (∀ (s : State) (p id mask : Nat) (src : Src), s.dev.bellows.retest = some (src, id, mask) →
    let d := s.dev
    let back := mask &&& p
    let failed := mask &&& (255 - back % 256)
    let returned (f : Dev) : Dev := (List.range 8).foldl (fun f i => if back.testBit i then f.onNoise i (fun _ => { NoiseSource.reset with started := true }) else f) f
    let bad := (returned ((d.onBellows (fun b => { b with retest := none, katPassed := false })).fresh.2.setNum P.blwFailCause 0 (Config.freeNat d.freeCtr % 18 + 1))).respondLate
      src id { result := resOk, detail := failed + 256, data := [] }
    let e := (returned (d.onBellows (fun b => { b with retest := none, katPassed := true })).fresh.2).respondLate src id { result := resOk, detail := failed, data := [] }
    s.goes (.retestDone p false) (bad.setBlw blwExhausted .alarm).exhaust ∧
    (e.sourcesUp = 0 → s.goes (.retestDone p true) e) ∧
    (e.sourcesUp ≠ 0 → e.num P.blwState 0 ≠ blwExhausted → s.goes (.retestDone p true) (e.setBlw e.blwServing .host)) ∧
    (e.sourcesUp ≠ 0 → e.num P.blwState 0 = blwExhausted →
      let calls := e.bellows.waiters.filter BlockWaiter.isCall
      let first := if (e.inst 0).seeded then (List.range 17).map BlockWaiter.inst else instantiationWaiters
      s.goes (.retestDone p true) (e.onBellows (fun b => { b with leaving := true, waiters := first ++ calls })).deliverAll)) ∧
  (∀ (d : Dev) (st : Nat) (k : EdgeKind),
    let e := d.setBlw st k
    let entered := st = blwExhausted ∧ d.num P.blwState 0 ≠ st
    e.num P.blwState 0 = st ∧ e.bellows.edge = (if d.num P.blwState 0 = st then d.bellows.edge else k) ∧
    (entered → e.bellows.exhausted = d.bellows.exhausted + 1) ∧ (¬ entered → e.bellows.exhausted = d.bellows.exhausted) ∧
    (d.sourcesUp = 8 → d.blwServing = blwReady) ∧ (d.sourcesUp = 0 → d.blwServing = blwExhausted) ∧
    (d.bellows.leaving = true → (∃ w ∈ d.bellows.waiters, w.isCall = false) → d.endLeaving = d) ∧
    (d.bellows.leaving = true → (∀ w ∈ d.bellows.waiters, w.isCall = true) →
      d.endLeaving = (d.onBellows (fun b => { b with leaving := false })).setBlw d.blwServing .host))

/-- DRBG instances and spark generators (R111, R250, R341, R342, R344, R351 to R354): a block is asked for 4,096 calls before the limit; at 2^16 the
instance reseeds, waits or stretches, at 2^32 it stops; a generator asks for a seed after 2^19 outputs and changes to it, or stalls, after 2^20; an
instruction that a stall holds up runs on with the seed. An instance is CTR_DRBG (PRESUMED, log 133): a call takes its output from the counter stream
and counts one; one block seeds nothing, two instantiate. -/
def Obligations.DrbgAndSpark : Prop :=
  let seedNow (b : Bytes) : Spark := { seeded := true, seed := b, count := 0, requested := false, next := none, stalled := false, counted := false }
  let update (c : CtrState) (data : Bytes) : CtrState :=
    let t := xorBytes (c.stream 48) data
    { key := t.take 32, v := t.drop 32 }
  (∀ (s : State) (i : Nat), i < 17 →
    let d := s.dev
    let x := d.inst i
    let asks := x.seeded = true ∧ 61440 ≤ x.age ∧ x.requested = false ∧ x.heldBlock = none
    let ask (e : Dev) : Dev := (e.onInst i (fun y => { y with requested := true })).onBellows (fun b => { b with waiters := b.waiters ++ [.inst i] })
    let due := x.seeded = true ∧ 65536 ≤ x.age
    (¬ asks → s.goes (.drbgBlockRequest i) d) ∧
    (asks → s.goes (.drbgBlockRequest i) (ask d).deliverAll) ∧
    (¬ due → s.goes (.drbgReseedDue i) d) ∧
    (due → ∀ b, x.heldBlock = some b → s.goes (.drbgReseedDue i) (d.onInst i (fun y =>
      { y with state := update y.state (drbgDf b), age := 0, heldBlock := none, requested := false, stopped := false }))) ∧
    (due → x.heldBlock = none →
      let e := if x.requested then d else ask d
      s.goes (.drbgReseedDue i) (e.onInst i (fun y => { y with stopped := decide (e.num P.blwShortageMode 0 = 0) })).deliverAll) ∧
    (x.age < 2 ^ 32 → s.goes (.drbgAgeLimit i) d) ∧
    (2 ^ 32 ≤ x.age → s.goes (.drbgAgeLimit i) (d.onInst i (fun y => { y with stopped := true }))) ∧
    (d.generates i = true ↔ x.seeded = true ∧ x.age < 2 ^ 32 ∧ (x.age < 65536 ∨ d.num P.blwShortageMode 0 ≠ 0))) ∧
  (∀ (s : State) (r : Nat),
    let d := s.dev
    let late (q : Request) := q.desc.opcode = 0x5801 ∧ q.released = false ∧ (∃ t, q.deadline = some t ∧ t ≤ (d.now : Int)) ∧ d.waitsForBlock r = true
    ((∀ q, d.req? r = some q → ¬ late q) → s.goes (.shortageDeadlineExpiry r) d) ∧
    (∀ q, d.req? r = some q → late q → s.goes (.shortageDeadlineExpiry r)
      (((d.onBellows (fun b => { b with waiters := b.waiters.filter (· != .call r) })).addNum P.blwShortWaitCount 0 1).fail r 0x0501))) ∧
  (∀ (s : State) (u : Nat), u < nUnits →
    let d := s.dev
    let k := (d.unit u).spark
    let put (f : Spark → Spark) : Dev := d.onUnit u (fun x => { x with spark := f x.spark })
    let asks := d.unitPowered u = true ∧ k.requested = false ∧ k.next = none ∧ (k.seeded = false ∨ 2 ^ 19 ≤ k.count)
    let given := d.unitPowered u = true ∧ d.generates (hearthOf u) = true ∧ (k.requested = true ∨ k.seeded = false)
    let seed := ((d.generate (hearthOf u) [] 32).1).stream 32
    let e := (d.generate (hearthOf u) [] 32).2
    (¬ asks → s.goes (.sparkSeedRequest u) d) ∧
    (asks → s.goes (.sparkSeedRequest u) (put (fun k => { k with requested := true }))) ∧
    (∀ f : Dev, (¬ given → f = d) → (given → (k.seeded = false ∨ k.stalled = true) → f = e.onUnit u (fun x => { x with spark := seedNow seed })) →
      (given → k.seeded = true → k.stalled = false → f = e.onUnit u (fun x => { x with spark := { x.spark with requested := false, next := some seed } })) →
      ((nTiles ≤ u ∨ (f.tile u).sparkWaiting = none ∨ f.sparkOut u = true) → s.goes (.sparkSeedArrive u) f) ∧
      (∀ word w op, u < nTiles → (f.tile u).sparkWaiting = some (word, w) → f.sparkOut u = false → tileWord word = some op →
        s.goes (.sparkSeedArrive u) ((f.onTile u (fun y => { y with sparkWaiting := none })).tileRun u word w op))) ∧
    ((k.seeded = false ∨ k.count < 2 ^ 20) → s.goes (.sparkSeedSwitch u) d) ∧
    (k.seeded = true → 2 ^ 20 ≤ k.count →
      (∀ b, k.next = some b → s.goes (.sparkSeedSwitch u) (put (fun _ => seedNow b))) ∧
      (k.next = none → k.stalled = true → s.goes (.sparkSeedSwitch u) d) ∧
      (k.next = none → k.stalled = false →
        let f := if (d.unit u).job = none then put (fun k => { k with stalled := true }) else (put (fun k => { k with stalled := true })).stallOn u
        let ends := f.num P.blwState 0 = blwExhausted ∧ 2 ^ 32 ≤ (f.inst (hearthOf u)).age
        (¬ ends → s.goes (.sparkSeedSwitch u) f) ∧
        (ends → (∀ j x, (f.unit u).job = some j → f.job? j ≠ some x) → s.goes (.sparkSeedSwitch u) f) ∧
        (ends → ∀ j x, (f.unit u).job = some j → f.job? j = some x → s.goes (.sparkSeedSwitch u) (f.fail x.req 0x0502))))) ∧
  (∀ (d : Dev) (i n : Nat) (add : Bytes),
    let x := d.inst i
    let r := d.generate i add n
    let c := if add.isEmpty then x.state else update x.state (drbgDf add)
    let y : Drbg := { x with age := x.age + 1, state := update { c with v := natBE 16 ((beNat c.v + ceilDiv n 16) % 2 ^ 128) } (if add.isEmpty then zeros 48 else drbgDf add) }
    let e := if 65536 ≤ x.age then d.addNum P.blwStretchCount 0 1 else d
    r.1 = c ∧ r.2 = e.onInst i (fun _ => match y.heldBlock with
      | some b => if 65536 ≤ y.age then { y with state := update y.state (drbgDf b), age := 0, heldBlock := none, requested := false, stopped := false } else y
      | none => y)) ∧
  (∀ (c : CtrState) (n : Nat), c.key.length = 32 → (c.stream n).length = n ∧ ∀ i, i < n →
    (c.stream n)[i]? = ((aes c.key).enc (natBE 16 ((beNat c.v + 1 + i / 16) % 2 ^ 128)))[i % 16]?) ∧
  (∀ (d : Dev) (i : Nat) (b : Bytes), (d.inst i).seeded = false → (d.inst i).heldBlock = none → d.giveBlock (.inst i) b = d.onInst i (fun x => { x with heldBlock := some b })) ∧
  (∀ (d : Dev) (i : Nat) (a b : Bytes), (d.inst i).seeded = false → (d.inst i).heldBlock = some a →
    d.giveBlock (.inst i) b = d.onInst i (fun _ => { Drbg.reset with
      seeded := true, state := update { key := zeros 32, v := zeros 16 } (drbgDf (a ++ b.drop 16 ++ (deviceIdentity ++ natLE 1 i))) })) ∧
  (∀ (d : Dev) (n : Nat), d.generates 0 = true → d.draw n = (((d.generate 0 [] n).1).stream n, (d.generate 0 [] n).2))

/-- The quench loop of a tile (R362 to R369, R373 to R376, R380): a probe starts when its credit is due or the tile idles; its samples enter 512 points of
each sensor after a clean microsecond; a full window gives the greatest statistic, which raises, holds or lowers the level, or finds the tile leaky. -/
def Obligations.QuenchLoop : Prop :=
  (∀ (s : State) (t : Nat), t < nTiles →
    let d := s.dev
    let q := d.q t
    let free := d.quenchRuns t = true ∧ d.tileFree t = true ∧ (d.unit t).spark.seeded = true
    let due := free ∧ d.probeDue t ≤ q.credit ∧ (d.unit t).pool ≠ .returning
    let idle := free ∧ ((d.flag P.qncIdleProbe 0 = true ∧ (d.unit t).pool ≠ .returning) ∨ q.calibrating = true)
    let len := q.length
    let held : KeyHeld := { node := 2 ^ 28, gen := d.vault.calibration, slice := 0xFFFF, order := if 5 ≤ d.level t then Nat.min 3 (q.lastOrder + 1) else q.lastOrder, form := 8 }
    let started (e : Dev) (k : Bool) : Dev :=
      let keyed := (e.draw 256).2.onVault (fun v => { v with calibrationKey := some (e.draw 256).1 })
      let c := if e.vault.calibrationKey.isSome then e else if e.vault.calibrationInput.isSome then keyed
        else (keyed.draw 64).2.onVault (fun v => { v with calibrationInput := some (keyed.draw 64).1 })
      let b := if (c.unit t).key = some held then c else c.loadShares t held (c.vault.calibrationKey.getD [])
      let random := Config.freeBool b.freeCtr
      (b.fresh.2.onQ t (fun q => { q with
        probing := true, idleProbe := k, probeEnded := none, length := probeLength q.lastOrder (d.level t), fixed := !random,
        input := if random then drawBytes b.freeCtr 64 else b.vault.calibrationInput.getD [] })).sparkDraw t (if random then 5 else 1)
    (¬ due → s.goes (.probeRun t) d) ∧
    (due → s.goes (.probeRun t) (started (d.onQ t (fun q => { q with credit := q.credit - d.probeDue t })) false)) ∧
    (¬ idle → s.goes (.idleProbeStart t) d) ∧
    (idle → s.goes (.idleProbeStart t) (started d true)) ∧
    (q.probing = false → s.goes (.probeEnd t) d) ∧
    (q.probing = true → s.goes (.probeEnd t) (((d.fresh.2.onQ t (fun q => { q with probing := false, probeEnded := some d.now })).sparkDraw t
      (if 1 ≤ d.level t then len else Config.freeNat d.freeCtr % (len + 1))).applyLevel t)) ∧
    ((q.probes < 16384 ∨ q.windowEnded = true) → s.goes (.quenchWindowEnd t) d) ∧
    (16384 ≤ q.probes → q.windowEnded = false →
      ((q.fixedCount < 4096 ∨ q.randomCount < 4096) → s.goes (.quenchWindowEnd t)
        ((d.addNum P.qncInvalidWindowCount t 1).onQ t (fun q => { q with probes := 0, fixedCount := 0, randomCount := 0, acc := [], base := [] }))) ∧
      (4096 ≤ q.fixedCount → 4096 ≤ q.randomCount → s.goes (.quenchWindowEnd t) (d.onQ t (fun q => { q with windowEnded := true }))))) ∧
  (∀ (s : State) (t : Nat) (p : ProbeSample), t < nTiles →
    let d := s.dev
    let q := d.q t
    let len := q.length
    (q.probeEnded = none → s.goes (.probeSampleCommit t p) d) ∧
    (∀ e, q.probeEnded = some e →
      let lost := q.windowEnded = true ∨ d.quenchRuns t = false ∨ d.probeDirty t (e - len / 16) e = true
      (d.now < e + 100 → s.goes (.probeSampleCommit t p) d) ∧
      (e + 100 ≤ d.now → lost → s.goes (.probeSampleCommit t p) (d.onQ t (fun q => { q with probeEnded := none }))) ∧
      (e + 100 ≤ d.now → ¬ lost → ∃ a b, s.goes (.probeSampleCommit t p) (d.onQ t (fun q =>
          { q with probeEnded := none, probes := q.probes + 1, fixedCount := q.fixedCount + bnat q.fixed, randomCount := q.randomCount + bnat (!q.fixed),
                   acc := a, base := b })) ∧
        ∀ n k c, n < 4 → k < 512 →
          let z : QAcc := { sum := 0, sumSq := 0 }
          let x := (pointSums len (p.codes.getD n [])).getD k 0
          let o := tabGet z (n, k, c) q.acc
          tabGet z (n, k, c) a = if c = q.fixed then { sum := o.sum + x, sumSq := o.sumSq + x * x } else o))) ∧
  (∀ q : QuenchSt,
    let z : QAcc := { sum := 0, sumSq := 0 }
    let value (n k : Nat) := welchSquare (tabGet z (n, k, true) q.acc) (tabGet z (n, k, false) q.acc) q.fixedCount q.randomCount
    let r := q.statistic
    let best := value r.2.1 r.2.2
    r.2.1 < 4 ∧ r.2.2 < 512 ∧ r.1 = hundredths best ∧
    ∀ n k, n < 4 → k < 512 → (value n k).1 * best.2 < best.1 * (value n k).2 ∨
      ((value n k).1 * best.2 = best.1 * (value n k).2 ∧ 512 * r.2.1 + r.2.2 ≤ 512 * n + k)) ∧
  (∀ (f r : QAcc) (nF nR : Nat),
    let dF := f.sumSq * nF - f.sum * f.sum
    let dR := r.sumSq * nR - r.sum * r.sum
    let diff := Int.natAbs ((f.sum * nR : Nat) - (r.sum * nF : Nat) : Int)
    let num := diff * diff * (nF - 1) * (nR - 1)
    let den := dF * nR * nR * (nR - 1) + dR * nF * nF * (nF - 1)
    let top := welchSquare f r nF nR = (9999 * 9999, 10000)
    (den = 0 → diff = 0 → welchSquare f r nF nR = (0, 1)) ∧ (den = 0 → diff ≠ 0 → top) ∧ (den ≠ 0 → 9999 * 9999 * den ≤ 10000 * num → top) ∧
    (den ≠ 0 → 10000 * num < 9999 * 9999 * den → welchSquare f r nF nR = (num, den))) ∧
  (∀ (s : State) (t : Nat) (w : WelchResult), t < nTiles →
    let d := s.dev
    let q := d.q t
    let r := q.statistic
    let e := (((((d.setNum P.qncTLast t r.1).setNum P.qncTWhere t (0x8000 + r.2.1 * 512 + r.2.2)).sample (1024 + t) (r.1 : Int)).updateBaseline t).onQ t
      (fun q => { q with probes := 0, fixedCount := 0, randomCount := 0, acc := [], base := [], windowEnded := false }))
    let level := q.pendingLevel.getD (e.level t)
    let goes (f : Dev) := s.goes (.welchStatisticDone t w) f
    let clean (n : Nat) : Dev := e.onQ t (fun q => { q with cleanCount := n })
    let leaks := e.num P.qncTTarget 0 ≤ r.1
    let top := e.num P.qncCeiling 0 ≤ level
    (q.windowEnded = false → goes d) ∧
    (q.windowEnded = true → q.calibrating = false →
      (leaks → ¬ top → goes ((clean 0).wantLevel t (level + 1))) ∧
      (leaks → top → goes ((clean 0).leaky t)) ∧
      (¬ leaks → e.num P.qncTAction 0 ≤ r.1 → goes (clean 0)) ∧
      (¬ leaks → r.1 < e.num P.qncTAction 0 → q.cleanCount < 7 → goes (clean (q.cleanCount + 1))) ∧
      (¬ leaks → r.1 < e.num P.qncTAction 0 → 7 ≤ q.cleanCount → goes (if e.num P.qncFloor 0 < level then (clean 0).wantLevel t (level - 1) else clean 0))) ∧
    (q.windowEnded = true → q.calibrating = true →
      (leaks → ¬ top → goes ((e.onQ t (fun q => { q with passes := 0 })).wantLevel t (level + 1))) ∧
      (leaks → top →
        let f := (((e.setNum P.qncLeaky t 1).addNum P.qncLeakyCount t 1).onQ t (fun q => { q with calibrating := false, passes := 0 })).raiseUnit 0x0803 t r.1
        goes (if (f.unit t).pool = .returning then (f.addNum P.tilReturnFailCount t 1).setPool t .out .alarm else f)) ∧
      (¬ leaks → q.passes = 0 → goes (e.onQ t (fun q => { q with passes := q.passes + 1 }))) ∧
      (¬ leaks → 1 ≤ q.passes → goes (e.calibrated t)))) ∧
  (∀ (d : Dev) (t l : Nat),
    (d.level t = l → d.setLevel t l = d) ∧
    (d.level t ≠ l →
      let e := (d.setNum P.qncLevel t l).raiseUnit 0x0804 t (d.level t + l * 256 + d.num P.qncTLast t * 65536 + d.num P.qncTWhere t * 2 ^ 32)
      d.setLevel t l = e.addNum (if d.level t < l then P.qncRaiseCount else P.qncLowerCount) t 1))

/-- What an alarm does by its class (R411, R427, R429, R432, R434, R438): it is logged with the class of its tick's response, from the backup log where it
stands there; A0 and A1 change no work; A2 takes the device to QUIESCED; A3 besides ends every unreleased request, clears every key register and loses
volatile objects, of a unit that runs at its next checkpoint; A4 erases the ember key first and seals, and no record is written after it. With main
power off the backup domain acts alone; in the tick in which it went an alarm is recorded still (R16). -/
def Obligations.AlarmResponses : Prop :=
  ∀ (d : Dev) (src det : Nat),
  let c := d.sourceClass src
  let e := d.raise src det
  (d.modes.mode.powered = true →
    (∃ a, tabGet? (d.tamper.logNext % 1024) e.tamper.log = some a ∧ a.source = src ∧ a.cls = c ∧ a.applied = d.applied c ∧ a.time = d.now ∧ a.stamp = d.time.stamp ∧ a.detail = det ∧
      a.acked = false ∧ a.test = false ∧ a.fromBackup = sourceBackup src ∧ a.blogSeq = (if sourceBackup src then some d.backup.logSeq else none)) ∧ e.tamper.logNext = d.tamper.logNext + 1 ∧
    (c ≤ 2 → e.disp = d.disp ∧ e.units = d.units ∧ e.vault = d.vault ∧ e.bellows = d.bellows ∧ e.tiles = d.tiles ∧ e.backup.ember = d.backup.ember) ∧
    (c ≤ 1 → e.modes = d.modes) ∧
    ((c = 2 ∨ c = 3) → (d.modes.mode = .service ∨ d.modes.mode = .partService) → d.modes.tickPower = false → e.modes.mode = .quiesced) ∧
    ((c = 2 ∨ c = 3) → d.modes.mode = .boot → e.modes.bootAlarm = true) ∧ ((c = 2 ∨ c = 3) → d.modes.mode = .debug → e.modes.hold = true) ∧
    (3 ≤ c →
      (∀ r q, e.req? r = some q → q.released = true ∨ ∃ j ∈ e.jobsOf r, j.2.runs = true ∧ j.2.abort.isSome = true) ∧
      (∀ u, u < nUnits → (d.unit u).pool ≠ .off → e.aborting u = false → (e.unit u).key = none ∧ (e.unit u).contexts = [] ∧ (e.unit u).scrubbing = true) ∧
      (∀ n, isVol n = true → e.node? n = none) ∧ (∀ i, e.inst i = Drbg.reset) ∧ (∀ u, u < nUnits → (e.unit u).spark.seeded = false) ∧
      e.num P.dbgRights 0 = 0 ∧ d.freeCtr ≤ e.vault.calibration) ∧
    (c = 3 → e.backup.ember = d.backup.ember) ∧
    (4 ≤ c → e.backup.ember = false ∧ e.backup.tamperOut = true ∧ (d.modes.tickPower = false → e.modes.mode = .sealed) ∧ e.modes.storeOpen = false ∧
      (∀ r q, e.req? r = some q → ∃ j ∈ e.jobsOf r, j.2.runs = true ∧ j.2.abort = some 0) ∧
      (d.num P.tmpA4Scrap 0 = 1 → e.lcy.burning.isSome = true))) ∧
  (d.modes.mode.powered = false →
    (sourceBackup src = false → d.modes.tickPower = false → e = d) ∧
    (sourceBackup src = false → d.modes.tickPower = true → e = (if 4 ≤ c then d.eraseEmber else d).recordAlarm src 0 c c det false) ∧
    (sourceBackup src = true → e.modes = d.modes ∧ e.disp = d.disp ∧ e.vault = d.vault ∧ e.backup.ember = (d.backup.ember && decide (c < 4)) ∧
      ∃ b l, e.backup.log = l ++ [b] ∧ b.source = src ∧ b.cls = c ∧ b.acked = false ∧ b.emberErased = decide (4 ≤ c) ∧ b.onCell = true ∧ b.copied = false ∧
        b.scrapPending = (decide (4 ≤ c) && d.flag P.tmpA4Scrap 0) ∧
        (d.backup.log.length < 32 → l = d.backup.log) ∧ (32 ≤ d.backup.log.length → l.length + 1 = d.backup.log.length))) ∧
  (let tick := d.tamper.response.1 = d.now
   (tick → d.applied c = Nat.max d.tamper.response.2 c) ∧ (¬ tick → d.applied c = c) ∧
   (d.joinResponse c).tamper.response = (d.now, d.applied c) ∧
   ∀ k a, tabGet? k d.tamper.log = some a → ∃ b, tabGet? k (d.joinResponse c).tamper.log = some b ∧ b.source = a.source ∧ b.cls = a.cls ∧
     (a.time = d.now → a.stamp = d.time.stamp → a.test = false → a.scope = 0 → d.applied c ≤ b.applied) ∧ (a.time ≠ d.now → b = a))

/-- Supplies, clocks, temperatures and glitches (R91, R381, R414 to R416, R419 to R423, R451): each crossing raises its source, opens and closes its own
excursion window, and is counted; a condition raises once until it re-arms; the third glitch of a tile in a second drains it, eight tiles in a
microsecond open a window for all. -/
def Obligations.SensorEvents : Prop :=
  let close (src stop : Nat) (w : Excursion) : Excursion := if w.source = src ∧ w.stop = none then { w with stop := some stop } else w
  let ended (d : Dev) : Prop := ∀ w ∈ d.tamper.windows, ∃ e, w.stop = some e ∧ e ≤ d.now
  (∀ (s : State) (r mv : Nat), r < 7 →
    let d := s.dev
    let x := d.rail r
    let read (e : Dev) : Dev := e.onRail r (fun y => { y with millivolts := mv })
    let burnt (e : Dev) : Dev := if (r = 0 ∨ r = 6) ∧ e.lcy.burning.isSome = true then e.onLcy (fun l => { l with burnStop := true }) else e
    (d.railWatched r = false → s.goes (.railBelowWarning r mv) d ∧ s.goes (.railWarning1ms r mv) d ∧ s.goes (.railOverVoltage r mv) d) ∧
    (x.lowSince.isSome = true → s.goes (.railBelowWarning r mv) d) ∧
    (d.railWatched r = true → x.lowSince = none →
      let a := (burnt (d.onRail r (fun y => { y with millivolts := mv, lowSince := some d.now, lowReported := false }))).addNum P.tmpExcursionCount r 1
      let recent := a.tamper.crossings.filter (fun t => d.now < t + 100000000) ++ [d.now]
      let b := a.onTamper (fun t => { t with crossings := recent, windows := t.windows ++ [{ source := 0x100 + r, start := d.now - 100, stop := none }], a1Hold := true })
      s.goes (.railBelowWarning r mv) (if recent.length = 16 then (b.raise (0x100 + r) mv).raise 0x140 mv else b.raise (0x100 + r) mv)) ∧
    (d.railWatched r = true → s.goes (.railOverVoltage r mv) ((read d).raise (0x120 + r) mv)) ∧
    (x.lowSince = none → s.goes (.railWarning1ms r mv) d ∧ s.goes (.railRecover r mv) d) ∧
    (∀ t, x.lowSince = some t →
      ((x.lowReported = true ∨ d.now < t + 100000) → s.goes (.railWarning1ms r mv) d) ∧
      (d.railWatched r = true → x.lowReported = false → t + 100000 ≤ d.now →
        s.goes (.railWarning1ms r mv) ((d.onRail r (fun y => { y with lowReported := true, millivolts := mv })).raise (0x110 + r) mv)) ∧
      (let a := d.onRail r (fun y => { y with millivolts := mv, lowSince := none, lowReported := false })
       let b := a.onMonitors (tabSet (2000 + r) ((a.monitor (2000 + r)).take d.now true 0 7 ((d.now - t : Nat) : Int)))
       s.goes (.railRecover r mv) (b.onTamper (fun y => { y with windows := y.windows.map (close (0x100 + r) (d.now + 500)) }))))) ∧
  (∀ (s : State) (r mv : Nat), r < 8 →
    let d := s.dev
    (d.modes.mode.powered = false → s.goes (.railSampleTick r mv) d) ∧
    (d.modes.mode.powered = true → r < 7 → s.goes (.railSampleTick r mv) ((d.onRail r (fun y => { y with millivolts := mv })).sample (1328 + r) (mv : Int))) ∧
    (d.modes.mode.powered = true → r = 7 → s.goes (.railSampleTick r mv) ((d.onPower (fun p => { p with vbatMillivolts := mv })).sample 1335 (mv : Int)))) ∧
  (∀ s : State,
    (¬ ended s.dev → s.goes .excursionWindowEnd s.dev) ∧ (ended s.dev → s.goes .excursionWindowEnd (s.dev.onTamper (fun t => { t with a1Hold := false })))) ∧
  (∀ (s : State) (c pm : Nat), c < 6 →
    let d := s.dev
    let bad := c ∈ d.tamper.clocksBad
    let opened := if bad then d else d.onTamper (fun t => { t with clocksBad := c :: t.clocksBad, windows := t.windows ++ [{ source := 0x200 + c, start := d.now - 100, stop := none }], a1Hold := true })
    (d.clockRuns c = false → s.goes (.clockMonitorWindow c pm) d ∧ s.goes (.clockShortCycle c) d) ∧
    (d.clockRuns c = true →
      s.goes (.clockShortCycle c) (d.raise (0x220 + c) 0) ∧
      (1080 < pm → s.goes (.clockMonitorWindow c pm) (opened.raise (0x200 + c) pm)) ∧ (pm < 920 → s.goes (.clockMonitorWindow c pm) (opened.raise (0x210 + c) pm)) ∧
      (920 ≤ pm → pm ≤ 1080 → ¬ bad → s.goes (.clockMonitorWindow c pm) d) ∧
      (920 ≤ pm → pm ≤ 1080 → bad →
        let a := d.onTamper (fun t => { t with clocksBad := t.clocksBad.filter (· != c), windows := t.windows.map (close (0x200 + c) d.now) })
        (¬ ended a → s.goes (.clockMonitorWindow c pm) a) ∧ (ended a → s.goes (.clockMonitorWindow c pm) (a.onTamper (fun t => { t with a1Hold := false })))))) ∧
  (∀ (s : State) (pm : Nat),
    let d := s.dev
    let off := d.watching = true ∧ d.time.crystalRuns = true ∧ (1150 < pm ∨ pm < 850)
    (¬ off → s.goes (.rcCrystalCheck pm) d) ∧ (off → s.goes (.rcCrystalCheck pm) (d.raise 0x230 pm))) ∧
  (∀ (s : State) (n : Nat) (x : Int), n < 20 →
    let d := s.dev
    let a := (d.sample (1336 + n) x).tempCondition (0x300 + n) x (decide (800 ≤ x)) (decide (x ≤ 760))
    let b := a.tempCondition (0x320 + n) x (decide (896 ≤ x)) (decide (x ≤ 856))
    (d.watching = false → s.goes (.temperatureSample n x) d) ∧
    (d.watching = true → s.goes (.temperatureSample n x) (b.tempCondition (0x340 + n) x (decide (x ≤ -240)) (decide (-200 ≤ x))))) ∧
  (∀ (d : Dev) (src : Nat) (x : Int) (beyond inside : Bool),
    let told := src ∈ d.tamper.tempReported
    (beyond = true → ¬ told → d.tempCondition src x beyond inside = (d.onTamper (fun t => { t with tempReported := src :: t.tempReported })).raise src (int64 x)) ∧
    (told → inside = true → d.tempCondition src x beyond inside = d.onTamper (fun t => { t with tempReported := t.tempReported.filter (· != src) })) ∧
    (told → inside = false → d.tempCondition src x beyond inside = d) ∧ (beyond = false → ¬ told → d.tempCondition src x beyond inside = d)) ∧
  (∀ (s : State) (t n code : Nat), t < nTiles →
    let d := s.dev
    let det := n + t * 256 + code * 65536
    let recent := (d.unit t).glitchTimes.filter (fun x => d.now < x + 100000000) ++ [d.now]
    let a := (d.onUnit t (fun u => { u with windows := u.windows ++ [(d.now - 100, d.now + 500)], glitchTimes := recent })).raiseUnit 0x0400 t det
    let b := if recent.length = 3 then (a.raiseUnit 0x0401 t det).drainUnit t .alarm else a
    let near := b.tamper.glitches.filter (fun g => b.now ≤ g.1 + 100 && g.2 != t) ++ [(b.now, t)]
    let first := near.foldl (fun m g => Nat.min m g.1) b.now
    let e := b.onTamper (fun x => { x with glitches := near })
    ((d.unitPowered t = false ∨ d.modes.mode.powered = false ∨ d.isGlitch t n code = false) → s.goes (.tileGlitch t n code) d) ∧
    (d.unitPowered t = true → d.modes.mode.powered = true → d.isGlitch t n code = true → near.length ≠ 8 → s.goes (.tileGlitch t n code) e) ∧
    (d.unitPowered t = true → d.modes.mode.powered = true → d.isGlitch t n code = true → near.length = 8 → s.goes (.tileGlitch t n code)
      ((e.onTamper (fun x => { x with windows := x.windows ++ [{ source := 0x402, start := first - 100, stop := some (b.now + 500) }], a1Hold := true })).raise 0x0402 8))) ∧
  (∀ (d : Dev) (t n code : Nat), n < 4 → code < 64 →
    let mu := leAt (4 * n) 2 (d.baseline t)
    let wide := d.num P.tmpGlitchK 0 * leAt (4 * n + 2) 2 (d.baseline t)
    (d.isGlitch t n code = true ↔
      (25600 * code + wide < 100 * mu ∧ 256 * (code + 3) < mu) ∨ (100 * mu + wide < 25600 * code ∧ mu + 768 < 256 * code)))

/-- The shield, the enclosure, the backup domain and the monitors' own tests (R417, R424, R425, R430, R431): patterns change with every sample; a switch
counts at the second sample running; a monitor under test raises nothing, and one whose second path does not trip is itself an alarm. -/
def Obligations.EnclosureEvents : Prop :=
  (∀ (s : State) (bad : Bool),
    let d := s.dev
    let e := d.fresh.2.onTamper (fun t => { t with shieldPattern := d.freeCtr, shieldFromDrbg := (d.inst 0).seeded })
    (d.watching = false → s.goes (.shieldPatternChange bad) d) ∧
    (d.watching = true → s.goes (.shieldPatternChange false) e ∧ s.goes (.shieldPatternChange true) (e.raise 0x0500 0))) ∧
  (∀ (s : State) (mesh : BitVec 8) (sw : BitVec 4),
    let d := s.dev
    let active := sw.toNat ^^^ (15 - d.num P.tmpSwitchPolarity 0 % 16)
    let was := d.backup.switchActive
    let e := d.fresh.2.onBackup (fun b => { b with meshPattern := d.freeCtr, switchActive := active })
    let tripped := (List.range 8).filter (fun p => mesh.toNat.testBit p && (d.num P.tmpMeshEnable 0).testBit p)
    let opened := (List.range 4).filter (fun w => active.testBit w && was.testBit w && (d.num P.tmpSwitchEnable 0).testBit w)
    (d.modes.mode = .off → s.goes (.enclosureSample mesh sw) d) ∧
    (d.modes.mode ≠ .off → s.goes (.enclosureSample mesh sw) (opened.foldl (fun f w => f.raise (0x710 + w) w) (tripped.foldl (fun f p => f.raise (0x700 + p) p) e)))) ∧
  (∀ (s : State) (mv : Nat) (x : Int),
    let d := s.dev
    let v := d.onPower (fun p => { p with vbatMillivolts := mv })
    (d.modes.mode = .off →
      s.goes (.vbatLowWarning mv) d ∧ s.goes (.vbatOverVoltage mv) d ∧ s.goes .backupCrystalStopped d ∧ s.goes (.backupTemperatureLow x) d) ∧
    (d.modes.mode ≠ .off →
      s.goes (.vbatLowWarning mv) (v.raise 0x0720 mv) ∧ s.goes (.vbatOverVoltage mv) (v.raise 0x0721 mv) ∧
      s.goes .backupCrystalStopped ((d.onTime (fun t => { t with crystalRuns := false })).raise 0x0722 0) ∧ s.goes (.backupTemperatureLow x) (d.raise 0x0723 (int64 x)))) ∧
  (∀ s : State,
    let d := s.dev
    let t := d.tamper
    let i := t.bistBackupNext % backupMonitors.length
    let j := t.bistNext % mainMonitors.length
    let dueBackup := i ≠ 0 ∨ t.bistBackupNext = 0 ∨ t.bistBackupStart + 2097152 ≤ d.time.stamp
    let dueMain := j ≠ 0 ∨ t.bistNext = 0 ∨ t.bistStart + d.num P.tmpBistPeriodS 0 * 100000000 ≤ d.now
    ((d.modes.mode = .off ∨ t.testing ≠ none) → s.goes (.monitorBistTick true) d ∧ s.goes (.monitorBistTick false) d) ∧
    (d.modes.mode.powered = false → s.goes (.monitorBistTick false) d) ∧
    (d.modes.mode ≠ .off → t.testing = none → s.goes (.monitorBistTick true)
      (if dueBackup then d.onTamper (fun t => { t with
        testing := backupMonitors[i]?, bistBackupNext := i + 1, bistBackupStart := if i = 0 then d.time.stamp else t.bistBackupStart }) else d)) ∧
    (d.modes.mode.powered = true → t.testing = none → s.goes (.monitorBistTick false)
      (if dueMain then d.onTamper (fun t => { t with testing := mainMonitors[j]?, bistNext := j + 1, bistStart := if j = 0 then d.now else t.bistStart }) else d))) ∧
  (∀ (s : State) (ok : Bool) (src : Nat),
    let d := s.dev
    (d.tamper.testing = none → s.goes (.monitorTestWindowEnd ok) d) ∧
    (∀ m, d.tamper.testing = some m →
      let a := d.onTamper (fun t => { t with testing := none })
      let b (v : Nat) : Dev := if sourceBackup m = false then a.recordAlarm m 0 0 0 v true
        else if d.modes.mode.powered then a.logCopied m 0 0 v false true else a.logBackup m 0 v false false true
      s.goes (.monitorTestWindowEnd true) (b 1) ∧ s.goes (.monitorTestWindowEnd false) ((b 0).raise (if sourceBackup m then 0x0724 else 0x0600) m)) ∧
    ((d.watching = false ∨ d.tamper.testing = some src) → s.goes (.pathDisagreement src) d) ∧
    (d.watching = true → d.tamper.testing ≠ some src → s.goes (.pathDisagreement src) (d.raise 0x0601 src)))

/-- Life cycle and debug by themselves (R446, R448, R451 to R454, R457, R462, R463): wipes and preparations end; a bit burns until it reads firm, the
first bit of F_SCR taking every A4 action; rights lapse at NOT_AFTER; JTAG shifts its registers in every state and reaches further only with the right
for it, and never a key register. -/
def Obligations.LifeCycleEvents : Prop :=
  (∀ s : State,
    let d := s.dev
    (d.lcy.wiping = false → s.goes .lcyWipesDone d) ∧
    (d.lcy.wiping = true →
      let e := (d.onVault (fun v => { v with nodes := [], roots := [], updates := [], retained := [], store := [], marks := [], master := none, domainRoot := none, masterWrapped := [], domainWrapped := [] })).onLcy
        (fun l => { l with wiping := false, prepared := some (4, d.now), userFlash := Memory.blank })
      s.goes .lcyWipesDone (e.logMode 1 e.lcState 4 0 1)) ∧
    ((∀ t a, d.lcy.prepared = some (t, a) → d.now ≤ a + 1000000000) → s.goes .lcyPrepareExpire d) ∧
    (∀ t a, d.lcy.prepared = some (t, a) → a + 1000000000 < d.now → s.goes .lcyPrepareExpire (d.onLcy (fun l => { l with prepared := none }))) ∧
    ((d.dbg.certActive = false ∨ d.time.stamp < d.dbg.notAfter) → s.goes .debugRightsExpiry d) ∧
    (d.dbg.certActive = true → d.dbg.notAfter ≤ d.time.stamp → s.goes .debugRightsExpiry (d.setNum P.dbgRights 0 0))) ∧
  (∀ (s : State) (again : Bool), s.dev.lcy.burning = none → s.goes (.otpBitDone again) s.dev) ∧
  (∀ (s : State) (again : Bool) (f k : Nat), s.dev.lcy.burning = some (f, k) →
    let d := s.dev
    let x := d.field f
    let y : OtpField := if again then { x with marginal := x.marginal ||| 2 ^ k }
      else { firm := x.firm ||| 2 ^ k, marginal := if x.marginal.testBit k then x.marginal - 2 ^ k else x.marginal }
    let a := d.onLcy (fun l => { l with fields := tabSet f y l.fields })
    let b := if f = 3 ∧ d.fcls 3 = .clear then a.respondA4 (if a.modes.mode = .boot ∨ a.modes.mode = .debug then .alarm else .host) 0x900 false else a
    let next := (List.range 16).find? (fun k => !y.firm.testBit k)
    (b.lcy.burnStop = true → s.goes (.otpBitDone again) (b.burnEnd f (if y.cls = .set then 0 else 1))) ∧
    (∀ n, b.lcy.burnStop = false → next = some n → s.goes (.otpBitDone again) (b.onLcy (fun l => { l with burning := some (f, n) }))) ∧
    (b.lcy.burnStop = false → next = none → s.goes (.otpBitDone again) (b.burnEnd f 0))) ∧
  (∀ (s : State) (tdi : List Bool),
    let d := s.dev
    let idcode := leNat (unitBytes 2 4)
    let status := d.lcState + 8 * d.tokensLeft
    (d.modes.mode.powered = false → s.goes (.jtagIdcode tdi) d ∧ s.goes (.jtagBypass tdi) d ∧ s.goes (.jtagLcStatus tdi) d) ∧
    (d.modes.mode.powered = true →
      s.goes (.jtagIdcode tdi) (d.emit (.tdo (((List.range 32).map idcode.testBit ++ tdi).take tdi.length))) ∧
      s.goes (.jtagBypass tdi) (d.emit (.tdo ((false :: tdi).take tdi.length))) ∧
      s.goes (.jtagLcStatus tdi) (d.emit (.tdo (((List.range 7).map status.testBit ++ tdi).take tdi.length))))) ∧
  (∀ (s : State) (a : JtagAccess),
    let d := s.dev
    let rights := d.rights
    let right : Option Nat := match a with
      | .smithHalt c => if c < 16 then some 1 else none
      | .smithStep c => if c < 16 then some 1 else none
      | .tileRead t ad => if t < 128 ∧ ad < 0x40000 then some 2 else none
      | .vectorRead t p v => if t < 128 ∧ p < 4 ∧ v < 32 then some 2 else none
      | .scalarRead t k => if t < 128 ∧ k < 32 then some 2 else none
      | .engineRead e ad => if e < 32 ∧ ad < 0x10000 then some 3 else none
      | .logRead _ => some 1
      | .smithAccess c _ => if c < 16 then some 1 else none
      | .hearthRead h ad => if h < 16 ∧ ad < 0x400000 then some 4 else none
      | .vaultRead _ => some 5
      | .flashRead ad => if ad < 0x20000000 then some 6 else none
      | .sensorTrace t => if t < 128 then some 7 else none
      | .boundaryScan => some 8
      | .keyRegisterRead _ => none
    let open' := rights.testBit 0 = true ∧ d.lcState ≠ 5 ∧ ∃ b, right = some b ∧ rights.testBit b = true
    let shows (n : Nat) : Prop := s.goes (.jtagDebugAccess a) (d.fresh.2.emit (.debugData ((List.range n).map (Config.freeByte d.fresh.1))))
    (¬ open' → s.goes (.jtagDebugAccess a) d) ∧
    (open' →
      (∀ c, a = .smithHalt c → s.goes (.jtagDebugAccess a) (d.onDebug (fun g => { g with halted := if g.halted.contains c then g.halted else c :: g.halted }))) ∧
      (∀ c, a = .smithStep c → s.goes (.jtagDebugAccess a) (d.onDebug (fun g => { g with halted := g.halted.filter (· != c) }))) ∧
      (∀ t ad, a = .tileRead t ad → s.goes (.jtagDebugAccess a) (d.emit (.debugData ((List.range 32).map (fun i => (d.tile t).mem.byte (ad + i)))))) ∧
      (∀ t p v, a = .vectorRead t p v → s.goes (.jtagDebugAccess a) (d.emit (.debugData ((d.tile t).vbytes p v)))) ∧
      (∀ t k, a = .scalarRead t k → s.goes (.jtagDebugAccess a) (d.emit (.debugData (natLE 8 ((d.tile t).sget (BitVec.ofNat 5 k)))))) ∧
      (∀ e ad, a = .engineRead e ad → s.goes (.jtagDebugAccess a) (d.emit (.debugData ((List.range 32).map (fun i => (d.unit (128 + e)).operand.byte (ad + i)))))) ∧
      (∀ c k, a = .smithAccess c k → shows 8) ∧
      (∀ h ad, a = .hearthRead h ad → shows 32) ∧
      (∀ k, a = .vaultRead k → shows 32) ∧
      (∀ ad, a = .flashRead ad →
        (0x16000000 ≤ ad ∧ ad < 0x1C000000 → s.goes (.jtagDebugAccess a) (d.emit (.debugData ((List.range 32).map (fun i => d.lcy.userFlash.byte (ad - 0x16000000 + i)))))) ∧
        (¬ (0x16000000 ≤ ad ∧ ad < 0x1C000000) → shows 32)) ∧
      (∀ t, a = .sensorTrace t → shows 4) ∧
      (∀ i, a = .logRead i → s.goes (.jtagDebugAccess a) (d.emit (.debugData (((d.boot.log)[i]?.map LogEntry.digest).getD [])))) ∧
      (a = .boundaryScan → s.goes (.jtagDebugAccess a) (d.emit (.debugData [])))))

/-- OTP is one-way (R442, R443): no life-cycle command, and no bit that ends, clears a bit that reads firmly 1 or takes an integrator key slot back,
whatever state they meet. -/
def Obligations.OtpOnlySets : Prop :=
  ∀ (s u : State) (c : Instr),
  (c = .lcyWipesDone ∨ c = .lcyPrepareExpire ∨ c = .debugRightsExpiry ∨ (∃ b, c = .otpBitDone b) ∨
    (∃ m, c = .lcyCmdPrepare m ∨ c = .lcyCmdBurn m ∨ c = .lcyCmdDbgKeyBurn m ∨ c = .lcyCmdDbgKeyRevoke m ∨ c = .dbgCmdNonce m ∨ c = .dbgCmdApply m ∨ c = .dbgCmdEnd m)) →
  exec c s = .next u →
  (∀ f k, (s.dev.field f).firm.testBit k = true → (u.dev.field f).firm.testBit k = true) ∧
  (∀ i, let a := tabGet KeySlot.reset i s.dev.lcy.keySlots
        let b := tabGet KeySlot.reset i u.dev.lcy.keySlots
        (a.burned = true → b.burned = true ∧ b.digest = a.digest) ∧ (a.revoked = true → b.revoked = true)) ∧
  s.dev.lcy.minSvn = u.dev.lcy.minSvn ∧ s.dev.lcy.bootState = u.dev.lcy.bootState

/-- Domains, pins and supplies (R12 to R15, R62, R241, R416, R417, R434, R435, R451, R482, R483, R485 to R487, R494 to R498, R552): a domain goes off once
it has drained and comes on in its order; each reset leaves what it leaves and is absorbed by one that contains it; a rail below reset takes every
main domain. -/
def Obligations.PowerEvents : Prop :=
  (∀ (s : State) (n : Nat), n < 21 →
    let d := s.dev
    let q := n % 4
    let drained := (∀ u ∈ domainUnits n, d.unitIdle u = true) ∧ (12 ≤ n → d.longBusy q = false) ∧ (n < 12 → d.domain (12 + q) ≠ .draining) ∧
      (8 ≤ n → n < 12 → d.domain (4 + q) ≠ .draining)
    let ramped := d.domain n = .ramping ∧ ((n < 8 ∨ 12 ≤ n) → d.domain (8 + q) ≠ .ramping) ∧ (12 ≤ n → d.domain (4 + q) ≠ .ramping)
    let on := d.setDomain n .on
    let closed := if n < 8 then on.onPower (fun p => { p with openSwitches := p.openSwitches.filter (fun t => unitDomain t != n) }) else on
    let woken := if 12 ≤ n then (quadTiles q).foldl (fun e t => e.onTile t (fun y => { y with lv := 0, lvSince := s.dev.now })) closed else closed
    ((n < 4 ∨ 15 < n) → s.goes (.domainDrained n) d ∧ s.goes (.domainRampDone n) d) ∧
    (4 ≤ n → n ≤ 15 →
      (d.domain n = .draining → drained → s.goes (.domainDrained n) (d.domainGone n)) ∧
      (d.domain n = .draining → ¬ drained → s.goes (.domainDrained n) d) ∧
      (d.domain n ≠ .draining → 8 ≤ n → s.goes (.domainDrained n) d) ∧
      (d.domain n ≠ .draining → n < 8 → s.goes (.domainDrained n)
        (((quadTiles q).filter (fun t => d.power.openSwitches.contains t && (d.unit t).pool != .off && d.unitIdle t)).foldl Dev.unitOff d).rolloutStep) ∧
      (¬ ramped → s.goes (.domainRampDone n) d) ∧
      (ramped → s.goes (.domainRampDone n) ((domainUnits n).foldl Dev.powerUnit woken)))) ∧
  (∀ (d : Dev) (n : Nat), 4 ≤ n → n ≤ 15 → (∀ u ∈ domainUnits n, (d.unit u).pool ≠ .inPool) → (d.domainGone n).domain n = .off ∧
    (8 ≤ n → n < 12 → ∀ h, h / 4 = n - 8 → tabGet? h (d.domainGone n).hearths = none) ∧
    ∀ u ∈ domainUnits n, ((d.domainGone n).unit u).pool = .off ∧ ((d.domainGone n).unit u).key = none ∧ ((d.domainGone n).unit u).contexts = []) ∧
  (∀ s : State,
    let d := s.dev
    let por := d.onPower (fun p => { p with porN := false })
    let cold := d.onPower (fun p => { p with coldRstN := false })
    (d.modes.mode.powered = false → s.goes .porNAssert por ∧ s.goes .coldRstN cold) ∧
    (d.modes.mode.powered = true →
      s.goes .porNAssert (por.coldReset 0 0 .power) ∧ s.goes .mainPowerApplied d ∧ s.goes .backupReset d ∧
      (d.modes.inReset = some 0 → s.goes .coldRstN (cold.onModes (fun m => { m with lastReset := 1, lastResetSource := 0 }))) ∧
      (d.modes.inReset ≠ some 0 → s.goes .coldRstN (cold.coldReset 1 0 .host))) ∧
    (d.modes.mode.powered = false → s.goes .mainPowerApplied ((d.onPower (fun p => { p with mainPower := true })).coldReset 0 d.powerSource .power)) ∧
    s.goes .porNRelease (d.onPower (fun p => { p with porN := true })) ∧ s.goes .coldRstNRelease (d.onPower (fun p => { p with coldRstN := true })) ∧
    s.goes .perstNRelease ((d.onPower (fun p => { p with perstN := true })).onHost (fun h => { h with linkReset := false })) ∧
    (∀ lost,
      let p := d.onPower (fun p => { p with perstN := false })
      (d.modes.mode.powered = false → s.goes (.perstN lost) p ∧ s.goes .pcieHotReset d) ∧
      (d.modes.mode.powered = true → s.goes (.perstN lost) ((p.onHost (fun h => { h with linkReset := true })).hostLinkReset (if lost then .power else .host)) ∧
        s.goes .pcieHotReset (d.hostLinkReset .host)))) ∧
  (∀ (d : Dev) (kind src : Nat) (k : EdgeKind), k ≠ .alarm →
    let e := d.coldReset kind src k
    e.modes.mode = .boot ∧ e.modes.inReset = some kind ∧ e.modes.lastReset = kind ∧ e.modes.lastResetSource = src ∧ e.modes.bootEdge = k ∧ e.modes.storeOpen = false ∧
    e.boot.step = 1 ∧ e.disp.reqs = [] ∧ e.disp.jobs = [] ∧ e.host.qps = [] ∧ e.host.nextSeq = 0 ∧ e.host.msix = [] ∧ e.mgmt.sessions = [] ∧ e.mgmt.tickets = [] ∧
    e.time.pllLocked = false ∧ e.bellows = BellowsSt.reset ∧ e.power.domains = [] ∧ (∀ u, u < nUnits → e.unit u = Unit.reset) ∧ (∀ n, isVol n = true → e.node? n = none) ∧
    e.lcy.fields = d.lcy.fields ∧ e.backup = d.backup) ∧
  (∀ (d : Dev) (k : EdgeKind),
    let e := d.hostLinkReset k
    ((d.modes.inReset = some 0 ∨ d.modes.inReset = some 1) → e = d.onModes (fun m => { m with lastReset := 3, lastResetSource := 0 })) ∧
    (d.modes.inReset ≠ some 0 → d.modes.inReset ≠ some 1 → e.modes.lastReset = 3 ∧ e.host.translations = [] ∧ e.host.functionMask = true ∧
      (∀ q, (e.qp q).state = .unconfigured) ∧ ∀ i, (d.sliceSt i).state ≠ .free → (e.sliceSt i).state = .resetting ∧ (e.sliceSt i).edge = k)) ∧
  (∀ s : State,
    let d := s.dev
    let into := d.onPower (fun p => { p with cell := true })
    let gone := d.onPower (fun p => { p with cell := false })
    (d.modes.mode = .off → s.goes .backupCellInserted (into.takeEdge .backup .power 0)) ∧ (d.modes.mode ≠ .off → s.goes .backupCellInserted into) ∧
    (d.power.cell = false → s.goes .backupCellRemoved d) ∧
    (d.power.cell = true → d.modes.mode.powered = true → s.goes .backupCellRemoved (gone.raise 0x0720 0)) ∧
    (d.modes.mode = .off → s.goes .backupReset d.backupReset ∧ (d.power.cell = true → s.goes .backupCellRemoved gone.backupReset)) ∧
    (d.modes.mode = .backup → s.goes .backupReset (d.takeEdge .off .power 0).backupReset ∧
      (d.power.cell = true → s.goes .backupCellRemoved (gone.takeEdge .off .power 0).backupReset)) ∧
    d.backupReset.backup.ember = false ∧ d.backupReset.backup.tamperOut = true ∧ d.backupReset.time.stamp = 0 ∧
    d.backupReset.backup.log.map (fun b => (b.source, b.seq)) = [(0x0720, 0)]) ∧
  (∀ (s : State) (r mv : Nat), r < 7 →
    let d := s.dev
    ((d.modes.mode.powered = false ∨ d.railWatched r = false) → s.goes (.railBelowReset r mv) d) ∧
    (d.modes.mode.powered = true → d.railWatched r = true → ∃ e : Dev, s.goes (.railBelowReset r mv) e ∧ e.modes.mode = (if d.power.cell then .backup else .off) ∧ e.power.mainPower = false ∧
      (∀ u, u < nUnits → (e.unit u).pool = .off ∧ (e.unit u).key = none) ∧ e.disp.reqs = [] ∧ e.disp.jobs = [] ∧ e.time.pllLocked = false ∧
      (∀ n, 4 ≤ n → n ≤ 20 → e.domain n = .off) ∧ e.backup.ember = d.backup.ember ∧
      (e.backup.log.getLast?).map (fun b => (b.source, b.cls, b.detail)) = some (0x0130 + r, 15, mv) ∧
      e.lcy.burning = none ∧ (∀ f, (e.field f).firm = (d.field f).firm) ∧
      ∀ f k, d.lcy.burning = some (f, k) → (d.field f).firm.testBit k = false → (e.field f).marginal.testBit k = true))

/-- Boot (R437, R466, R470, R471, R479, R490, R492): once the PLL has locked, device time starts from the stamp, a pending scrap or SCRAPPED halts, the
image selected runs, else the other bank, else the device waits for one; boot ends in the mode its findings give. -/
def Obligations.BootEvents : Prop :=
  (∀ s : State,
    let d := s.dev
    let may := d.modes.mode = .boot ∧ d.boot.step = 1 ∧ d.power.porN = true ∧ d.power.coldRstN = true ∧ d.time.pllLocked = false
    let t := d.time.stamp * 100000000 / 32768
    (¬ may → s.goes .pllLock d) ∧ (may → s.goes .pllLock ((d.onModes (fun m => { m with tickAlarms := 0, tickPower := false })).onTime (fun x => { x with pllLocked := true, dev := t, monEpoch := t })).bootRun)) ∧
  (∀ d : Dev,
    let e := d.bootRun
    let scrap := ∃ b ∈ d.backup.log, b.scrapPending = true
    let good (b : Nat) := d.bankStage1 b = true ∧ d.bankStage2 b = true
    let trial := d.num P.fwPendingBank 0 ≠ 0 ∧ d.boot.trial = false
    let active := d.num P.fwActiveBank 0
    let first := if d.num P.fwPendingBank 0 ≠ 0 ∧ d.boot.trial = false then d.num P.fwPendingBank 0 - 1 else active
    let second := if d.num P.fwPendingBank 0 ≠ 0 ∧ d.boot.trial = false then active else 1 - active
    let runs (b : Nat) (t f : Bool) := e.boot.running = b ∧ e.boot.trial = t ∧ e.boot.fallback = f ∧ e.boot.step = 8 ∧ e.boot.halted = false ∧ e.boot.recoveryWait = false ∧
      e.mgmt.answering = true ∧
      (d.sourceClass 0x0804 < 4 → 
        if d.vault.testRoot = true then e.modes.storeOpen = false
        else e.modes.storeOpen = (d.lcState != 4 && d.backup.ember && (unwrapKey (kmac256 d.pufSecret d.backup.emberKey "OQ7168-ROOT") d.vault.masterWrapped).isSome)) ∧
      (∀ b ∈ e.backup.log, b.copied = true)
    (scrap → e.boot.halted = true ∧ e.boot.step = 2 ∧ e.lcy.burning.isSome = true ∧ e.modes.inReset = none ∧ ∀ b ∈ e.backup.log, b.scrapPending = false) ∧
    (¬ scrap → d.lcState = 5 → e.boot.halted = true ∧ e.boot.step = 2 ∧ e.backup.ember = false ∧ e.backup.tamperOut = true ∧ e.modes.inReset = none) ∧
    (¬ scrap → d.lcState ≠ 5 →
      (good first → runs first (decide trial) false) ∧
      (¬ good first → good second → runs second false true) ∧
      (¬ good first → ¬ good second → e.boot.recoveryWait = true ∧ e.boot.step = 3 ∧ e.mgmt.answering = d.mgmt.answering ∧ e.modes.inReset = none))) ∧
  (∀ (s : State) (b : BootReport),
    let d := s.dev
    let due := d.boot.step = 8 ∧ d.boot.halted = false ∧ (d.modes.mode = .boot ∨ d.modes.mode = .sealed)
    let a := ((d.onModes (fun m => { m with storeOpen := m.storeOpen && b.storeTagOk })).bootUnits b.failedUnits).measureLoaded
    let e := (a.extend 7 0x0B 0 (zeros 48)).onBoot (fun x => { x with step := 11, trialDone := true })
    let debug := e.dbg.certActive = true ∨ (e.lcState = 1 ∧ e.lcy.bootState = 1)
    let k := d.modes.bootEdge
    (¬ due → s.goes (.bootComplete b) d) ∧
    (due → d.modes.mode = .sealed → s.goes (.bootComplete b) e) ∧
    (due → d.modes.mode = .boot →
      (debug → s.goes (.bootComplete b)
        ((e.formTestRoot.onModes (fun m => { m with hold := m.bootAlarm })).takeEdge .debug k 0)) ∧
      (¬ debug → e.modes.storeOpen = false → s.goes (.bootComplete b) ((e.takeEdge .sealed k 0).abortAll 0x0F01)) ∧
      (¬ debug → e.modes.storeOpen = true → e.modes.bootAlarm = true → s.goes (.bootComplete b) (e.takeEdge .quiesced .alarm 0)) ∧
      (¬ debug → e.modes.storeOpen = true → e.modes.bootAlarm = false → s.goes (.bootComplete b) (e.takeEdge e.serviceMode k 0)))) ∧
  (∀ (d : Dev) (l : List Nat) (u : Nat), u < nUnits → d.unitPowered u = true →
    ((d.unit u).pool = .returning → ((d.bootUnits l).unit u).pool = if u ∈ l then .out else .inPool) ∧
    ((d.unit u).pool = .joining → ((d.bootUnits l).unit u).pool = .inPool))

/-- Sessions by themselves (R501 to R509, R514): a HELLO within the limits is answered and a handshake begins, its keys formed from both key agreements;
FINISH under the client key grants the role its anchors give or fails without reply, and ACCEPT answers under the device key; this device's own
handshakes answer REPLY and stand at ACCEPT; what idles or lapses ends. -/
def Obligations.SessionEvents : Prop :=
  let keysOf (peer : Bool) (ikm nonces transcript : Bytes) : SessionKeys :=
    let o := hkdf 2 nonces ikm (ascii (if peer then "SCEGA-PEER-1" else "SCEGA-1") ++ Sha2.sha384 transcript) 72
    { clientKey := o.take 32, deviceKey := slice 32 32 o, clientSalt := slice 64 4 o, deviceSalt := slice 68 4 o }
  let header (kind session seq : Nat) : Bytes := natLE 2 0x5347 ++ natLE 1 kind ++ [0] ++ natLE 4 session ++ natLE 8 seq
  let tagOf (key salt : Bytes) (kind session seq : Nat) (ct : Bytes) : Bytes := (aes key).gcmTag (salt ++ natLE 8 seq) (header kind session seq) ct
  let sealed' (key salt : Bytes) (kind session : Nat) (p : Bytes) : Bytes :=
    let ct := (aes key).gcmData (salt ++ natLE 8 0) p
    ct ++ tagOf key salt kind session 0 ct
  (∀ (s : State) (h : Handshake),
    let d := s.dev
    let peer := h.role == 5
    let recent := d.mgmt.helloTimes.filter (fun t => d.now < t + 100000000)
    let e := d.onMgmt (fun g => { g with helloTimes := recent ++ [d.now] })
    let full := (if peer then 15 else 32) ≤ d.sessionCount peer
    let sound := h.version = 1 ∧ h.reserved = 0 ∧ 1 ≤ h.role ∧ h.role ≤ 5 ∧ h.nonce.length = 32 ∧ h.kem.length = (if peer then 1624 else 1216) ∧
      MlKem.ekOk (if peer then 3 else 2) (h.kem.take (if peer then 1568 else 1184)) = true
    ((d.scegaUp = false ∨ 16 ≤ recent.length) → s.goes (.hello h) d) ∧
    (d.scegaUp = true → recent.length < 16 →
      (full → s.goes (.hello h) e) ∧
      (¬ full → ¬ sound → s.goes (.hello h) (e.addNum P.netHsFailCount 0 1)) ∧
      (¬ full → sound →
        let n := d.mgmt.nextSession
        let drawn := (e.draw 152).1
        let body := (e.draw 152).2.replyBody h drawn peer
        let kem := MlKem.encaps (if peer then 3 else 2) (h.kem.take (if peer then 1568 else 1184)) (slice 32 32 drawn)
        let x := xdhAgree (shakeCurve peer) (slice 64 (xdhBytes (shakeCurve peer)) drawn) (h.kem.drop (if peer then 1568 else 1184))
        let k : Shake := { role := h.role, peer := peer, started := d.now, initiator := false, principal := none, hello := [], secret := [],
                           keys := keysOf peer (kem.2 ++ x) (h.nonce ++ drawn.take 32) (helloBytes h ++ body) }
        s.goes (.hello h) (((e.draw 152).2.onMgmt (fun g => { g with nextSession := n + 1, shakes := tabSet n k g.shakes })).emit (.shake 2 n body))))) ∧
  (∀ (s : State) (h : Handshake), tabGet? h.session s.dev.mgmt.shakes = none → s.goes (.finish h) s.dev ∧ s.goes (.reply h) s.dev ∧ s.goes (.accept h) s.dev) ∧
  (∀ (s : State) (h : Handshake) (k : Shake), tabGet? h.session s.dev.mgmt.shakes = some k →
    let d := s.dev
    let n := h.session
    let late := d.scegaUp = false ∨ k.started + 500000000 ≤ d.now
    let bad := d.replayed
    let failed := (d.onMgmt (fun g => { g with shakes := tabErase n g.shakes })).addNum P.netHsFailCount 0 1
    let sound := h.chainsWellFormed = true ∧ h.signaturesOk = true ∧ (d.num P.netPtpState 0 = 3 → h.datesValid = true)
    let verifies (key salt : Bytes) (kind : Nat) : Prop := h.seq < 2 ^ 32 ∧ h.tag = tagOf key salt kind n h.seq h.sealed
    let client := verifies k.keys.clientKey k.keys.clientSalt 3
    let device := verifies k.keys.deviceKey k.keys.deviceSalt 4
    let row := if k.peer then (if d.peerListed h then some 16 else none) else d.grant h k.role
    let opened (role r : Nat) (p : Bool) (id : Bytes) : Dev :=
      let x : Session := { role := role, peer := p, principal := id, anchorRow := r, started := d.now, lastRecord := d.now, nseq := 0, recent := [], sendSeq := 1, keys := k.keys }
      d.onMgmt (fun g => { g with shakes := tabErase n g.shakes, sessions := tabSet n x g.sessions })
    ((k.initiator = true ∨ late) → s.goes (.finish h) d) ∧
    (k.initiator = false → ¬ late →
      (¬ client → s.goes (.finish h) bad) ∧
      (client → ¬ (sound ∧ row.isSome = true) → s.goes (.finish h) failed) ∧
      (∀ r, client → sound → row = some r →
        s.goes (.finish h) ((opened k.role r k.peer (Sha2.sha256 h.leafKey)).emit (.shake 4 n (sealed' k.keys.deviceKey k.keys.deviceSalt 4 n (natLE 1 k.role ++ zeros 3 ++ natLE 4 (d.num P.scgIdleS 0))))))) ∧
    ((k.initiator = false ∨ k.principal.isSome = true ∨ late) → s.goes (.reply h) d) ∧
    (k.initiator = true → k.principal = none → ¬ late →
      (¬ (sound ∧ d.peerListed h = true ∧ h.kem.length = 1624 ∧ h.nonce.length = 32) → s.goes (.reply h) failed) ∧
      (sound → d.peerListed h = true → h.kem.length = 1624 → h.nonce.length = 32 →
        let transcript := k.hello ++ h.nonce ++ h.kem ++ h.sealed
        let dk := (MlKem.keygen 3 (k.secret.take 32) (slice 32 32 k.secret)).dk
        let keys := keysOf true ((MlKem.decaps 3 dk (h.kem.take 1568)).secret ++ xdhAgree 0x11 (k.secret.drop 64) (h.kem.drop 1568)) (slice 4 32 k.hello ++ h.nonce) transcript
        s.goes (.reply h) (((d.draw 32).2.onMgmt (fun g => { g with shakes := tabSet n { k with principal := some (Sha2.sha256 h.leafKey), keys := keys } g.shakes })).emit
          (.shake 3 n (sealed' keys.clientKey keys.clientSalt 3 n (d.finishBody transcript (d.draw 32).1)))))) ∧
    ((k.initiator = false ∨ k.principal = none ∨ late) → s.goes (.accept h) d) ∧
    (∀ id, k.initiator = true → k.principal = some id → ¬ late →
      (¬ device → s.goes (.accept h) bad) ∧ (device → s.goes (.accept h) (opened 5 16 true id)))) ∧
  (∀ (s : State) (n : Nat),
    let d := s.dev
    let old (t : Ticket) : Bool := t.number == n && decide (t.requested + 6000000000 ≤ d.now)
    (tabGet? n d.mgmt.sessions = none → s.goes (.close n) d ∧ s.goes (.sessionIdleTimeout n) d) ∧
    (∀ x, tabGet? n d.mgmt.sessions = some x →
      s.goes (.close n) (d.endSession n) ∧
      (d.now < x.lastRecord + d.num P.scgIdleS 0 * 100000000 → s.goes (.sessionIdleTimeout n) d) ∧
      (x.lastRecord + d.num P.scgIdleS 0 * 100000000 ≤ d.now → s.goes (.sessionIdleTimeout n) (d.endSession n))) ∧
    ((∀ k, tabGet? n d.mgmt.shakes = some k → d.now < k.started + 500000000) → s.goes (.handshakeTimeout n) d) ∧
    (∀ k, tabGet? n d.mgmt.shakes = some k → k.started + 500000000 ≤ d.now →
      s.goes (.handshakeTimeout n) ((d.onMgmt (fun g => { g with shakes := tabErase n g.shakes })).addNum P.netHsFailCount 0 1)) ∧
    s.goes (.dualTicketLapse n) (d.onMgmt (fun g => { g with tickets := g.tickets.filter (fun t => !old t) })))

/-- Between members of a group (R310, R311, R325, R327 to R330, R407, R409, R410): records that follow on are applied in order and acknowledged, an
acknowledgement sets the lag, homes, transport keys, purges and roots are taken as told; what does not fit is ignored. -/
def Obligations.PeerMessages : Prop :=
  (∀ (s : State) (n : Nat) (p : PeerMsg), (∀ x, tabGet? n s.dev.mgmt.sessions = some x → x.peer = false ∨ s.dev.scegaUp = false) → s.goes (.peer n p) s.dev) ∧
  (∀ (s : State) (n : Nat) (x : Session), tabGet? n s.dev.mgmt.sessions = some x → x.peer = true → s.dev.scegaUp = true →
    let d := s.dev.onMgmt (fun g => { g with sessions := tabSet n { x with lastRecord := s.dev.now } g.sessions })
    let sq (i : Nat) : Nat := tabGet 0 i d.vault.seqs
    let takes (i : Nat) : Prop := i < 4096 ∧ (d.isHome i = false ∨ (d.vault.recovering = true ∧ (d.root i).closed = true))
    (∀ i f (l : List ReplRecord),
      (¬ (takes i ∧ f = sq i + 1) → s.goes (.peer n (.records i f l)) d) ∧
      (takes i → f = sq i + 1 → s.goes (.peer n (.records i f l))
        (((l.foldl (fun e r => e.applyRecord i r) d).onVault (fun v => { v with seqs := tabSet i (tabGet 0 i v.seqs + l.length) v.seqs })).emit (.peer 4 i (natLE 8 (f + l.length - 1)))))) ∧
    (∀ i k to',
      let e := d.setNum P.vltReplLag (16 * i + k) ((sq i - to') % 2 ^ 32)
      let mine := i < 4096 ∧ k < 16 ∧ d.isHome i = true
      let done := if e.replLag i = 0 then e.onVault (fun v => { v with homeMoves := v.homeMoves.filter (· != i) }) else e
      (¬ mine → s.goes (.peer n (.applied i k to')) d ∧ s.goes (.peer n (.ackRecords i k to')) d) ∧
      (mine → s.goes (.peer n (.applied i k to')) done ∧ s.goes (.peer n (.ackRecords i k to')) done)) ∧
    (∀ i id, (i < 4096 ∧ d.groupMember id = true → s.goes (.peer n (.setHome i id)) (d.setOct P.vltSliceHome i id)) ∧
      (¬ (i < 4096 ∧ d.groupMember id = true) → s.goes (.peer n (.setHome i id)) d)) ∧
    (∀ nonce b,
      let known := ∃ t ∈ d.vault.transport, t.nonce = nonce
      (known → s.goes (.peer n (.transportKey nonce b)) d) ∧
      (¬ known → s.goes (.peer n (.transportKey nonce b)) (d.onVault (fun v => { v with transport := v.transport ++ [{ nonce := nonce, key := b, used := false }] })))) ∧
    (∀ i, (i < 4096 → s.goes (.peer n (.restored i)) (d.onSlice i (fun y => { y with stored := none }))) ∧ (4096 ≤ i → s.goes (.peer n (.restored i)) d) ∧
      (i < 4096 ∧ d.isHome i = false →
        s.goes (.peer n (.slicePurged i)) ((d.broadcast (d.ofSlice i)).onRoot i (fun r => { r with held := false, gen := (r.gen + 1) % 2 ^ 32, key := [], wrapped := [] }))) ∧
      (¬ (i < 4096 ∧ d.isHome i = false) → s.goes (.peer n (.slicePurged i)) d)) ∧
    (∀ i upTo b,
      (takes i → upTo ≤ sq i → s.goes (.peer n (.sliceRoot i upTo b)) (match unwrapKey x.transportKey b with
        | some k => d.onRoot i (fun r => { r with held := true, closed := false, key := k, wrapped := d.wrapRoot k })
        | none => d)) ∧
      ((¬ takes i ∨ sq i < upTo) → s.goes (.peer n (.sliceRoot i upTo b)) d))) ∧
  (∀ (d : Dev) (i m : Nat) (y : Node) (c : NodeChange), isVol m = false → objValid m = true → d.node? m = some y →
    (y.slice ≠ i → d.applyChange i (m, c) = d) ∧
    (y.slice = i →
      (d.applyChange i (m, .freed)).node? m = none ∧
      (d.applyChange i (m, .reserved)).node? m = some y ∧ m ∈ (d.applyChange i (m, .reserved)).vault.reserved ∧
      (∀ z : Node, ((d.applyChange i (m, .state z)).node? m).map (fun w => (w.slice, w.gen, w.destroyed, w.stored, w.stateful, w.shares)) =
        some (i, z.gen, z.destroyed, z.stored, none, y.shares)) ∧
      (∀ z : Node, z.gen ≠ y.gen → (∃ a ∈ d.below m, z.destroyed = true ∨ a ≠ m) →
        ∃ v ∈ (d.applyChange i (m, .state z)).vault.invalidations, v.node = some m ∧ v.req = none ∧ v.affected = (d.below m).filter (fun a => z.destroyed || a != m)))) ∧
  (∀ (d : Dev) (i g : Nat), (d.root i).gen ≠ g →
    ((d.applyRecord i ⟨[], g⟩).root i).gen = g ∧ ∃ v ∈ (d.applyRecord i ⟨[], g⟩).vault.invalidations, v.node = none ∧ v.slice = i ∧ v.affected = d.ofSlice i)

/-- SPDM and the management network (R472, R477, R499, R500, R516): each request is served at its stage of the connection, or answered with an error;
supervision frames, echoes, address resolution, time and discards as the parameters in force have them. -/
def Obligations.SpdmAndNetwork : Prop :=
  (∀ (s : State) (x : SpdmSrc) (b : Bytes) (c : Instr) (stage : Nat),
    (c, stage) ∈ [(Instr.getVersion x b, 0), (.getCapabilities x b, 1), (.negotiateAlgorithms x b, 2), (.getDigests x b, 3), (.getCertificate x b, 3), (.challenge x b, 3),
      (.getMeasurements x b, 3)] →
    let d := s.dev
    let v := leAt 0 1 b
    let error (ver code : Nat) : Dev := d.spdmSend x (natLE 1 ver ++ [0x7F] ++ natLE 1 code ++ natLE 1 0)
    (d.spdmHeard x = false → s.goes c d) ∧
    (d.spdmHeard x = true → d.boot.step < 8 → s.goes c (error v 0x42)) ∧
    (d.spdmHeard x = true → 8 ≤ d.boot.step → 0 < stage → v ≠ 0x12 → v ≠ 0x13 → s.goes c (error 0x12 0x41)) ∧
    (d.spdmHeard x = true → 8 ≤ d.boot.step → (v = 0x12 ∨ v = 0x13) → (d.spdmOf x).stage < stage → s.goes c (error v 0x04))) ∧
  (∀ (s : State) (x : SpdmSrc) (b : Bytes), s.dev.spdmHeard x = true → 8 ≤ s.dev.boot.step →
    let d := s.dev
    let y := d.spdmOf x
    let v := leAt 0 1 b
    let after (e : Dev) (z : SpdmSt) (r : Bytes) : Dev := (e.onMgmt (fun g => { g with spdm := tabSet x z g.spdm })).spdmSend x r
    let one (i : Nat) : Bytes := natLE 1 i ++ [1] ++ natLE 2 51 ++ [0] ++ natLE 2 48 ++ (if i = 9 then d.logDigest else d.slot (i - 1))
    let invalid := d.spdmSend x (natLE 1 v ++ [0x7F, 1, 0])
    (let r : Bytes := [0x10, 0x04, 0, 0, 0, 2] ++ natLE 2 0x1200 ++ natLE 2 0x1300
     s.goes (.getVersion x b) (after d { stage := 1, vca := b ++ r, trans := b ++ r, meas := [] } r)) ∧
    ((v = 0x12 ∨ v = 0x13) →
      (1 ≤ y.stage →
        let r := b.take 1 ++ [0x61, 0, 0] ++ (List.range 16).map (Config.freeByte d.freeCtr)
        s.goes (.getCapabilities x b) (after d.fresh.2 { y with stage := Nat.max 2 y.stage, vca := y.vca ++ (b ++ r), trans := y.trans ++ (b ++ r) } r)) ∧
      (2 ≤ y.stage →
        let r := b.take 1 ++ [0x63, 0, 0] ++ natLE 2 36 ++ [1, 0] ++ natLE 4 4 ++ natLE 4 0x80 ++ natLE 4 2 ++ zeros 16
        s.goes (.negotiateAlgorithms x b) (after d { y with stage := Nat.max 3 y.stage, vca := y.vca ++ (b ++ r), trans := y.trans ++ (b ++ r) } r)) ∧
      (3 ≤ y.stage →
        (let r := b.take 1 ++ [0x01, 0, 3] ++ Sha2.sha384 (d.certChain 0) ++ Sha2.sha384 (d.certChain 1)
         s.goes (.getDigests x b) (after d { y with trans := y.trans ++ (b ++ r) } r)) ∧
        (let k := leAt 2 1 b % 16
         let off := leAt 4 2 b
         let part := ((d.certChain k).drop off).take (leAt 6 2 b)
         let r := b.take 1 ++ [0x02] ++ natLE 1 k ++ [0] ++ natLE 2 part.length ++ natLE 2 ((d.certChain k).length - off - part.length) ++ part
         ((1 < k ∨ b.length < 8 ∨ (d.certChain k).length ≤ off) → s.goes (.getCertificate x b) invalid) ∧
         (k ≤ 1 → 8 ≤ b.length → off < (d.certChain k).length → s.goes (.getCertificate x b) (after d { y with trans := y.trans ++ (b ++ r) } r))) ∧
        (let sum := if leAt 3 1 b = 0 then [] else Sha2.sha384 ((List.range 9).flatMap (fun k => one (k + 1)))
         let r := b.take 1 ++ [0x03, 0, 1] ++ Sha2.sha384 (d.certChain 0) ++ (d.draw 32).1 ++ sum ++ natLE 2 0 ++ slice 36 8 b
         ((leAt 2 1 b ≠ 0 ∨ b.length < 36) → s.goes (.challenge x b) invalid) ∧
         (leAt 2 1 b = 0 → 36 ≤ b.length → s.goes (.challenge x b)
           (after (d.draw 32).2 { y with trans := y.vca } (r ++ d.signEc (ascii "responder-challenge_auth signing" ++ Sha2.sha384 (y.trans ++ b ++ r)))))) ∧
        (let signed := (leAt 2 1 b).testBit 0
         let k := leAt 3 1 b
         let l := if k = 0 then [] else if k = 255 then (List.range 9).map (· + 1) else [k]
         let blocks := l.flatMap one
         let bad := (9 < k ∧ k ≠ 255) ∨ (signed = true ∧ (b.length < 37 ∨ leAt 36 1 b % 16 ≠ 0))
         let r := b.take 1 ++ [0x60] ++ natLE 1 (if k = 0 then 9 else 0) ++ [0] ++ natLE 1 l.length ++ natLE 3 blocks.length ++ blocks ++ (d.draw 32).1 ++ natLE 2 0 ++
           (if v = 0x13 then slice (if signed then 37 else 4) 8 b else [])
         (bad → s.goes (.getMeasurements x b) invalid) ∧
         (¬ bad → signed = false → s.goes (.getMeasurements x b) (after (d.draw 32).2 { y with meas := y.meas ++ b ++ r } r)) ∧
         (¬ bad → signed = true → s.goes (.getMeasurements x b)
           (after (d.draw 32).2 { y with meas := [] } (r ++ d.signEc (ascii "responder-measurements signing" ++ Sha2.sha384 (y.vca ++ y.meas ++ b ++ r))))))))) ∧
  (∀ (s : State) (x : SpdmSrc) (b : Bytes),
    (s.dev.spdmHeard x = false → s.goes (.spdmUnsupportedRequest x b) s.dev) ∧
    (s.dev.spdmHeard x = true → s.goes (.spdmUnsupportedRequest x b) (s.dev.spdmSend x (natLE 1 (leAt 0 1 b) ++ [0x7F, 7] ++ natLE 1 (leAt 1 1 b))))) ∧
  (∀ (d : Dev) (x : SpdmSrc) (r : Bytes), (∀ n, x ≠ .scega n) → d.spdmSend x r = d.emit (.spdm x r)) ∧
  (∀ (d : Dev) (n : Nat) (r : Bytes) (z : Session), tabGet? n d.mgmt.sessions = some z →
    (z.sendSeq ≥ 2 ^ 32 → d.spdmSend (.scega n) r = d.endSession n) ∧
    (z.sendSeq < 2 ^ 32 → let v := d.spdmSend (.scega n) r
      v.out = d.out ++ [.spdm (.scega n) r] ∧ tabGet? n v.mgmt.sessions = some { z with sendSeq := z.sendSeq + 1, lastRecord := d.now } ∧
      v = { d with out := v.out, mgmt := { d.mgmt with sessions := v.mgmt.sessions } })) ∧
  (∀ s : State,
    let ticks := s.dev.modes.mode.powered = true ∧ s.dev.mgmt.answering = true
    (¬ ticks → s.goes .prpSupervisionTick s.dev) ∧
    (ticks → s.goes .prpSupervisionTick ((s.dev.onMgmt (fun g => { g with prpSent := g.prpSent + 1 })).emit (.frame 1 macAddress)))) ∧
  (∀ (s : State) (k : Nat),
    let d := s.dev
    ((∀ t, tabGet? k d.mgmt.reassemblies = some t → d.now < t + 100000000) → s.goes (.reassemblyTimeout k) d) ∧
    (∀ t, tabGet? k d.mgmt.reassemblies = some t → t + 100000000 ≤ d.now → s.goes (.reassemblyTimeout k) (d.onMgmt (fun g => { g with reassemblies := tabErase k g.reassemblies })))) ∧
  (∀ (s : State) (p : PtpSync),
    let d := s.dev
    let map := natLE 8 d.now ++ natLE 6 p.seconds ++ zeros 2 ++ natLE 4 p.nanoseconds ++ natLE 4 (int64 p.ratioPpb % 2 ^ 32) ++ natLE 1 p.port ++ zeros 7
    let runs := d.scegaUp = true ∧ d.num P.netPtpEnable 0 = 1 ∧ p.domain = d.num P.netPtpDomain 0
    (¬ runs → s.goes (.ptpSync p) d) ∧
    (runs → s.goes (.ptpSync p) (((d.setOct P.netPtpMap 0 map).setNum P.netPtpState 0 3).setNum P.netPtpErrorNs 0 (p.errorNs % 2 ^ 32)))) ∧
  (∀ (s : State) (f : Frame),
    let d := s.dev
    let own (a : Bytes) := a ∈ d.addresses
    let t := leAt 0 1 f.payload
    let target := slice 8 16 f.payload
    let listens := (f.udpPort = d.netNum P.netScegaPort ∨ ((f.udpPort = 319 ∨ f.udpPort = 320) ∧ d.num P.netPtpEnable 0 = 1)) ∧ (f.source.length ≠ 4 ∨ d.ipv4 = true)
    (d.scegaUp = false → s.goes (.icmpEchoRequest f) d ∧ s.goes (.neighborDiscovery f) d ∧ s.goes (.arpRequest f) d ∧ s.goes (.datagramDiscard f) d) ∧
    (d.scegaUp = true →
      (own f.destination → s.goes (.icmpEchoRequest f) (d.emit (.frame 2 (f.source ++ f.destination ++ f.payload)))) ∧
      (¬ own f.destination → s.goes (.icmpEchoRequest f) d) ∧
      (t = 135 → own target → s.goes (.neighborDiscovery f) (d.emit (.frame 3 (f.source ++ target ++ macAddress)))) ∧
      (t = 135 → ¬ own target → s.goes (.neighborDiscovery f) d) ∧
      (t ≠ 135 → (t ≠ 134 ∨ d.netNum P.netIpv6Mode ≠ 1) → s.goes (.neighborDiscovery f) d) ∧
      (t = 134 → d.netNum P.netIpv6Mode = 1 → slaacPrefix f.payload.length (f.payload.drop 16) = none → s.goes (.neighborDiscovery f) d) ∧
      (∀ p, t = 134 → d.netNum P.netIpv6Mode = 1 → slaacPrefix f.payload.length (f.payload.drop 16) = some p →
        s.goes (.neighborDiscovery f) (d.onMgmt (fun g => { g with slaac := p ++ interfaceId }))) ∧
      (d.ipv4 = true → f.destination = (d.netOct P.netIpv4Addr).take 4 → s.goes (.arpRequest f) (d.emit (.frame 4 (f.source ++ f.destination ++ macAddress)))) ∧
      ((d.ipv4 = false ∨ f.destination ≠ (d.netOct P.netIpv4Addr).take 4) → s.goes (.arpRequest f) d) ∧
      (listens → s.goes (.datagramDiscard f) d) ∧ (¬ listens → s.goes (.datagramDiscard f) (d.addNum P.netDiscardCount 0 1))))

/-- R510, R556 and the block's queue: a step runs the command at the front of the queue on the device with the rest of the queue; with none waiting, one
tick passes (the model's choice, assumption log 2): device time advances only while the main PLL is locked, and no edge has been taken in the new tick
(R16). -/
def Obligations.StepRunsFrontCommand : Prop :=
  (∀ (s : State) (c : Instr) (l : List Instr), s.pending = c :: l → step s = exec c { s with pending := l }) ∧
  (∀ s : State, s.pending = [] → ∃ u, step s = .next u ∧ u.pending = [] ∧ 
      u = { s with dev := { s.dev with time := u.dev.time, modes := { s.dev.modes with tickAlarms := 0, tickPower := false } } } ∧
    u.dev.now = (if s.dev.time.pllLocked then (s.dev.now + 1) % 2 ^ 64 else s.dev.now) ∧ u.dev.time.pllLocked = s.dev.time.pllLocked ∧
    (s.dev.time.crystalRuns = false → u.dev.time.stamp = s.dev.time.stamp) ∧
    (s.dev.time.stamp < 2 ^ 48 → s.dev.time.stamp ≤ u.dev.time.stamp ∧ u.dev.time.stamp < 2 ^ 48))

/-- Every command of the device's own numbers completes, and the queue drains (R9, R21, R389): a well-formed command at the front answers a next state and
leaves the rest of the queue; a whole queue of them runs to its end; a command for a part that does not exist faults with its number; none is refused. -/
def Obligations.QueueProgress : Prop :=
  (∀ (c : Instr) (s : State), c.wellFormed = true → ∃ u, exec c s = .next u ∧ u.pending = s.pending) ∧
  (∀ (c : Instr) (s : State) (p : Part) (n : Nat), c.part = some (p, n) → p.count ≤ n → exec c s = .fault (.noSuchPart n)) ∧
  (∀ (s u : State), (∀ c ∈ s.pending, c.wellFormed = true) → step s = .next u → ∀ c ∈ u.pending, c.wellFormed = true) ∧
  (∀ s : State, (∀ c ∈ s.pending, c.wellFormed = true) → ∃ u : State, Sys2Proof.core.run s.pending.length s = .next u ∧ u.pending = []) ∧
  (∀ (s : State) (r : Refusal), step s ≠ .refused r)

/-- What power-on reset leaves (R12, R24, R30, R57, R62, R121, R346, R379, R385, R396, R440, R443, R471, R490, R497, R498, R518): BOOT at step 1 with the
PLL not locked, every unit RETURNING, every queue pair unconfigured, every vector masked, no slice, session, request or key, every parameter at its
default, tile memories zero. -/
def Obligations.ResetState : Prop :=
  let s := State.reset
  let d := s.dev
  s.pending = [] ∧ d.modes.mode = .boot ∧ d.modes.inReset = some 0 ∧ d.boot.step = 1 ∧ d.time.pllLocked = false ∧ d.now = 0 ∧
  (∀ u, u < nUnits → (d.unit u).pool = .returning ∧ (d.unit u).key = none ∧ (d.unit u).job = none ∧ (d.unit u).spark.seeded = false) ∧
  (∀ n, 4 ≤ n → n < 20 → d.domain n = .on) ∧ d.domain 20 = .off ∧
  (∀ q, (d.qp q).state = .unconfigured ∧ (d.qp q).binding = none) ∧ (∀ v, (tabGet MsixEntry.reset v d.host.msix).masked = true ∧ (tabGet MsixEntry.reset v d.host.msix).pending = false) ∧
  (∀ p, tabGet Mailbox.reset p d.host.mailboxes = Mailbox.reset) ∧ (∀ i, (d.sliceSt i).state = .free) ∧ d.disp.reqs = [] ∧ d.disp.jobs = [] ∧ d.mgmt.sessions = [] ∧
  (∀ p row, d.num p row = catDefault p ∧ d.oct p row = []) ∧ d.num P.blwState 0 = blwStarting ∧ (∀ i, (d.inst i).seeded = false) ∧
  (∀ t a, (d.tile t).mem.byte a = 0) ∧ (∀ t, (d.tile t).mem.wf = true ∧ (d.tile t).pc = 0 ∧ (d.tile t).vl = 0 ∧ ∀ r, (d.tile t).sget r = 0) ∧
  (∀ n, d.node? n = none) ∧ d.lcState = 0 ∧ (∀ f, (d.field f).firm = 0 ∧ (d.field f).marginal = 0) ∧ d.tokensLeft = 8 ∧ d.readyPin = .low ∧ d.tamperPin = .high ∧ d.out = []

/-- R99, R116, R121: whatever a tile is told (every instruction, its faults and aborts, its scrubs, probes, glitches and steps), each tile's memory stays
in its one canonical form: addresses rising, and no cell equal to what its address reads as unlisted; so equal memories are equal data. -/
def Obligations.TileMemoryKeepsForm : Prop :=
  ∀ (s u : State) (c : Instr) (n : Nat), c.part = some (.tile, n) → (∀ t, (s.dev.tile t).mem.wf = true) → exec c s = .next u → ∀ t, (u.dev.tile t).mem.wf = true
end

