-- ==== Sys2Proof/Laws/Cipher.lean ====
section
/-! SUPPORT. The lengths of the ciphers' results: a block, a tag, a key, a counter-mode text; and that a tag verifies over what it was made for. -/

namespace Sys2Proof.Machine

@[simp] theorem length_natLE (n v : Nat) : (natLE n v).length = n := by
  induction n generalizing v with
  | zero => rfl
  | succ n ih => simp [natLE, ih]

@[simp] theorem length_natBE (n v : Nat) : (natBE n v).length = n := by simp [natBE]
@[simp] theorem length_zeros (n : Nat) : (zeros n).length = n := by simp [zeros]
@[simp] theorem length_fitLen (n : Nat) (b : Bytes) : (fitLen n b).length = n := by simp [fitLen]; omega
@[simp] theorem length_xorBytes (a b : Bytes) : (xorBytes a b).length = min a.length b.length := by simp [xorBytes]
@[simp] theorem length_xorN (a b : List Nat) : (xorN a b).length = min a.length b.length := by simp [xorN]
@[simp] theorem length_slice (o n : Nat) (b : Bytes) : (slice o n b).length = min n (b.length - o) := by simp [slice]

/-! ### Keccak -/

@[simp] theorem Keccak.length_round (s : Keccak.Lanes) (rc : Nat) : (Keccak.round s rc).length = 25 := by simp [Keccak.round]

theorem Keccak.length_rounds (n r : Nat) (s : Keccak.Lanes) (h : s.length = 25) : (Keccak.rounds n r s).length = 25 := by
  induction n generalizing r s with
  | zero => exact h
  | succ n ih => exact ih _ _ (Keccak.length_round _ _)

theorem Keccak.length_lanesOf (n : Nat) (b : Bytes) : (Keccak.lanesOf n b).length = n := by
  induction n generalizing b with
  | zero => rfl
  | succ n ih => simp [Keccak.lanesOf, ih]

theorem Keccak.length_absorb (r k : Nat) (s : Keccak.Lanes) (b : Bytes) (h : s.length = 25) : (Keccak.absorb r k s b).length = 25 := by
  induction k generalizing s b with
  | zero => exact h
  | succ k ih => exact ih _ _ (Keccak.length_rounds _ _ _ (by simp [Keccak.xorIn, Keccak.length_lanesOf, h]))

theorem Keccak.length_bytesOf (s : Keccak.Lanes) : (Keccak.bytesOf s).length = 8 * s.length := by
  induction s with
  | nil => rfl
  | cons a r ih => simp only [Keccak.bytesOf, List.flatMap_cons, List.length_append, length_natLE, List.length_cons] at *; omega

/-- A sponge of rate 136 gives the 32 bytes asked for. -/
theorem Keccak.length_sponge_32 (dom : Nat) (m : Bytes) : (Keccak.sponge 136 dom m 32).length = 32 := by
  have h : ceilDiv 32 136 = 1 := by decide
  simp only [Keccak.sponge, h, Keccak.squeeze, List.append_nil, List.length_take, Keccak.length_bytesOf]
  rw [Keccak.length_absorb _ _ _ _ (by simp)]; rfl

/-- A derived key has 256 bits. -/
@[simp] theorem length_kmac256 (key m : Bytes) (c : String) : (kmac256 key m c).length = 32 := by
  unfold kmac256 Keccak.kmac Keccak.cshake; split <;> exact Keccak.length_sponge_32 _ _

/-! ### AES under a 256-bit key -/

@[simp] theorem Aes.length_mixWith (m : List Nat) (s : Blk) : (Aes.mixWith m s).length = 16 := by simp [Aes.mixWith]
@[simp] theorem Aes.length_shiftRows (s : Blk) : (Aes.shiftRows s).length = 16 := by simp [Aes.shiftRows]

theorem length_sixteens (n : Nat) (l : List Nat) : (sixteens n l).length = n := by
  induction n generalizing l with
  | zero => rfl
  | succ n ih => simp [sixteens, ih]

theorem sixteens_len (n : Nat) (l : List Nat) (h : l.length = 16 * n) : ∀ b ∈ sixteens n l, b.length = 16 := by
  induction n generalizing l with
  | zero => simp [sixteens]
  | succ n ih =>
    simp only [sixteens, List.mem_cons]
    rintro b (rfl | hb)
    · simp; omega
    · exact ih _ (by simp; omega) b hb

theorem quads_len (n : Nat) (l : List Nat) (h : l.length = 4 * n) : (quads n l).length = n ∧ ∀ b ∈ quads n l, b.length = 4 := by
  induction n generalizing l with
  | zero => simp [quads]
  | succ n ih =>
    have := ih (l.drop 4) (by simp; omega)
    refine ⟨by simp [quads, this.1], ?_⟩
    simp only [quads, List.mem_cons]
    rintro b (rfl | hb)
    · simp; omega
    · exact this.2 b hb

/-- Every word of the key schedule has four bytes, and `n` more follow. -/
theorem Aes.expand_len (nk n i : Nat) (ws : List (List Nat)) (h0 : 0 < nk) (h : nk ≤ ws.length) (hw : ∀ w ∈ ws, w.length = 4) :
    (Aes.expand nk n i ws).length = n + ws.length ∧ ∀ w ∈ Aes.expand nk n i ws, w.length = 4 := by
  induction n generalizing i ws with
  | zero => simpa [Aes.expand] using hw
  | succ n ih =>
    obtain ⟨a, b, c, d, he⟩ : ∃ a b c d, ws.headD [] = [a, b, c, d] := by
      cases ws with
      | nil => simp at h; omega
      | cons x r =>
        match x, hw x (by simp) with
        | [a, b, c, d], _ => exact ⟨a, b, c, d, rfl⟩
    have hg : (ws.getD (nk - 1) []).length = 4 := by
      have hi : nk - 1 < ws.length := by omega
      simp only [List.getD, List.getElem?_eq_getElem hi, Option.getD_some]
      exact hw _ (List.getElem_mem _)
    have hx (t : List Nat) (ht : t.length = 4) :
        (Aes.expand nk n (i + 1) (List.zipWith (· ^^^ ·) (ws.getD (nk - 1) []) t :: ws)).length = n + 1 + ws.length ∧
        ∀ w ∈ Aes.expand nk n (i + 1) (List.zipWith (· ^^^ ·) (ws.getD (nk - 1) []) t :: ws), w.length = 4 := by
      have hl : ∀ w ∈ List.zipWith (· ^^^ ·) (ws.getD (nk - 1) []) t :: ws, w.length = 4 := by
        intro w hw'
        rcases List.mem_cons.1 hw' with rfl | h'
        · rw [List.length_zipWith, hg, ht]; rfl
        · exact hw w h'
      have := ih (i + 1) _ (by simp; omega) hl
      exact ⟨by rw [this.1]; simp; omega, this.2⟩
    simp only [Aes.expand, he]
    apply hx
    split
    · rfl
    · split <;> rfl

/-- Each of the 15 round keys of a 256-bit key has a block's length. -/
theorem Aes.roundKeys_len (key : List Nat) (h : key.length = 32) : (Aes.roundKeys key).length = 15 ∧ ∀ k ∈ Aes.roundKeys key, k.length = 16 := by
  have hq := quads_len 8 key h
  have he := Aes.expand_len 8 52 8 (quads 8 key).reverse (by decide) (by simp [hq.1]) (by simpa using hq.2)
  have hf (l : List (List Nat)) (hl : ∀ w ∈ l, w.length = 4) : l.flatten.length = 4 * l.length := by
    induction l with
    | nil => rfl
    | cons a r ih => simp only [List.flatten_cons, List.length_append, List.length_cons, ih (fun w hw => hl w (by simp [hw])), hl a (by simp)]; omega
  have h8 : key.length / 4 = 8 := by omega
  simp only [Aes.roundKeys, h8]
  refine ⟨length_sixteens _ _, sixteens_len _ _ ?_⟩
  rw [hf _ (by simpa using he.2)]
  simp [he.1, hq.1]

/-- A block encrypted under a 256-bit key is a block. -/
theorem aes_enc_len (key b : Bytes) (h : key.length = 32) : ((aes key).enc b).length = 16 := by
  have hk := Aes.roundKeys_len (nats key) (by simpa [nats] using h)
  generalize hr : Aes.roundKeys (nats key) = rk at hk
  have hlast : (rk.getLastD []).length = 16 := by
    cases rk with
    | nil => simp at hk
    | cons a r => rw [List.getLastD_eq_getLast?, List.getLast?_eq_some_getLast (by simp)]; exact hk.2 _ (List.getLast_mem _)
  simp only [aes, hr, Aes.encrypt, bytesN, List.length_map, length_xorN, Aes.length_shiftRows, hlast]; rfl

/-- A GCM tag has 16 bytes. -/
theorem gcmTag_len (key iv aad ct : Bytes) (h : key.length = 32) : ((aes key).gcmTag iv aad ct).length = 16 := by
  simp [Cipher.gcmTag, aes_enc_len key _ h]

/-- Cutting into blocks of 16. -/
theorem chunks_16 (k : Nat) (b : Bytes) (hb : b.length ≤ 16 * k) : (chunks 16 k b).flatten = b ∧ (chunks 16 k b).length = k ∧ ∀ x ∈ chunks 16 k b, x.length ≤ 16 := by
  induction k generalizing b with
  | zero => have : b = [] := List.eq_nil_of_length_eq_zero (by omega)
            simp [chunks, this]
  | succ k ih =>
    have := ih (b.drop 16) (by simp; omega)
    refine ⟨by simp [chunks, this.1], by simp [chunks, this.2.1], ?_⟩
    simp only [chunks, List.mem_cons]
    rintro x (rfl | hx)
    · rw [List.length_take]; omega
    · exact this.2.2 x hx

/-- Masking pieces of at most 16 bytes with whole blocks keeps their length. -/
theorem length_masked (g : Nat → Bytes) (hg : ∀ v, (g v).length = 16) (l : List Bytes) (r : List Nat) (hl : ∀ x ∈ l, x.length ≤ 16) (hr : l.length ≤ r.length) :
    ((l.zip r).flatMap (fun e => xorBytes e.1 (g e.2))).length = l.flatten.length := by
  induction l generalizing r with
  | nil => simp
  | cons x l ih =>
    cases r with
    | nil => simp at hr
    | cons k r =>
      have := hl x (by simp)
      simp only [List.zip_cons_cons, List.flatMap_cons, List.length_append, List.flatten_cons, length_xorBytes, hg,
        ih r (fun y hy => hl y (by simp [hy])) (by simpa using hr)]
      omega

/-- Counter mode keeps the length of its text. -/
theorem Cipher.ctr_len (c : Cipher) (w : Nat) (j b : Bytes) (hs : c.size = 16) (he : ∀ v, (c.enc (natBE 16 v)).length = 16) : (c.ctr w j b).length = b.length := by
  have h := chunks_16 (ceilDiv b.length 16) b (by simp only [ceilDiv]; omega)
  simp only [Cipher.ctr, Cipher.blocks, hs]
  rw [length_masked (fun k => c.enc (natBE 16 (beNat j / 2 ^ w * 2 ^ w + (beNat j + k) % 2 ^ w))) (fun _ => he _) _ _ h.2.2 (by simp [h.2.1]), h.1]

/-- A GCM ciphertext is as long as its text. -/
theorem gcmData_len (key iv b : Bytes) (h : key.length = 32) : ((aes key).gcmData iv b).length = b.length :=
  Cipher.ctr_len _ _ _ _ rfl (fun _ => aes_enc_len key _ h)

/-- What was sealed under a transport key verifies (R408). -/
theorem imageTagOk_seal (key header plain : Bytes) (h : key.length = 32) : imageTagOk key header (imageSeal key header plain) = true := by
  have hd : ((aes key).gcmTag (slice 72 12 header) header ((aes key).gcmData (slice 72 12 header) plain)).length = 16 :=
    gcmTag_len _ _ _ _ h
  simp [imageTagOk, imageSeal, hd]

/-- A stored object opens under the storage key it was sealed with (R298). -/
theorem storedUnder_seal (d : Dev) (iv : Bytes) (x : Node) (hi : iv.length = 12) (ho : (d.root x.slice).held = true) (hc : (d.root x.slice).closed = false) :
    d.storedUnder { x with stored := d.seal iv x } = true := by
  have hk : (d.storageKey x.slice).length = 32 := length_kmac256 _ _ _
  have ht (c : Bytes) : ((aes (d.storageKey x.slice)).gcmTag iv x.record c).length = 16 := gcmTag_len _ _ _ _ hk
  have hg : ((aes (d.storageKey x.slice)).gcmData iv x.blob).length = x.blob.length := gcmData_len _ _ _ hk
  have hb (b : Bytes) : ({ x with stored := b } : Node).blob = x.blob := rfl
  have hr (b : Bytes) : ({ x with stored := b } : Node).record = x.record := rfl
  simp only [Dev.storedUnder, Dev.tagVerifies, ho, hc, hb, hr, Dev.seal]
  generalize aes (d.storageKey x.slice) = a at *
  have h1 : (iv ++ (a.gcmData iv x.blob) ++ a.gcmTag iv x.record (a.gcmData iv x.blob)).take 12 = iv := by rw [List.append_assoc, List.take_append_of_le_length (by omega), List.take_of_length_le (by omega)]
  have h2 : (iv ++ (a.gcmData iv x.blob) ++ a.gcmTag iv x.record (a.gcmData iv x.blob)).drop 12 = a.gcmData iv x.blob ++ a.gcmTag iv x.record (a.gcmData iv x.blob) := by
    rw [List.append_assoc, ← hi, List.drop_left]
  rw [← List.drop_drop, h1, h2, ← hg, List.drop_left, List.take_left]
  simp [hi, ht]
  omega

end Sys2Proof.Machine
end

