-- ==== Sys2Proof/Laws/State.lean ====
section
/-! SUPPORT. One lemma per group of the device per group update, so that no proof unfolds a record update. -/

namespace Sys2Proof.Machine

variable (d : Dev)

@[simp] theorem Dev.onTime_time (g : TimeSt → TimeSt) : (d.onTime g).time = g d.time := rfl
@[simp] theorem Dev.onTime_modes (g : TimeSt → TimeSt) : (d.onTime g).modes = d.modes := rfl
@[simp] theorem Dev.onTime_power (g : TimeSt → TimeSt) : (d.onTime g).power = d.power := rfl
@[simp] theorem Dev.onTime_host (g : TimeSt → TimeSt) : (d.onTime g).host = d.host := rfl
@[simp] theorem Dev.onTime_disp (g : TimeSt → TimeSt) : (d.onTime g).disp = d.disp := rfl
@[simp] theorem Dev.onTime_units (g : TimeSt → TimeSt) : (d.onTime g).units = d.units := rfl
@[simp] theorem Dev.onTime_hearths (g : TimeSt → TimeSt) : (d.onTime g).hearths = d.hearths := rfl
@[simp] theorem Dev.onTime_slices (g : TimeSt → TimeSt) : (d.onTime g).slices = d.slices := rfl
@[simp] theorem Dev.onTime_tamper (g : TimeSt → TimeSt) : (d.onTime g).tamper = d.tamper := rfl
@[simp] theorem Dev.onTime_backup (g : TimeSt → TimeSt) : (d.onTime g).backup = d.backup := rfl
@[simp] theorem Dev.onTime_mgmt (g : TimeSt → TimeSt) : (d.onTime g).mgmt = d.mgmt := rfl
@[simp] theorem Dev.onTime_dict (g : TimeSt → TimeSt) : (d.onTime g).dict = d.dict := rfl
@[simp] theorem Dev.onTime_vault (g : TimeSt → TimeSt) : (d.onTime g).vault = d.vault := rfl
@[simp] theorem Dev.onTime_bellows (g : TimeSt → TimeSt) : (d.onTime g).bellows = d.bellows := rfl
@[simp] theorem Dev.onTime_tiles (g : TimeSt → TimeSt) : (d.onTime g).tiles = d.tiles := rfl
@[simp] theorem Dev.onTime_lib (g : TimeSt → TimeSt) : (d.onTime g).lib = d.lib := rfl
@[simp] theorem Dev.onTime_quench (g : TimeSt → TimeSt) : (d.onTime g).quench = d.quench := rfl
@[simp] theorem Dev.onTime_monitors (g : TimeSt → TimeSt) : (d.onTime g).monitors = d.monitors := rfl
@[simp] theorem Dev.onTime_lcy (g : TimeSt → TimeSt) : (d.onTime g).lcy = d.lcy := rfl
@[simp] theorem Dev.onTime_dbg (g : TimeSt → TimeSt) : (d.onTime g).dbg = d.dbg := rfl
@[simp] theorem Dev.onTime_boot (g : TimeSt → TimeSt) : (d.onTime g).boot = d.boot := rfl
@[simp] theorem Dev.onTime_out (g : TimeSt → TimeSt) : (d.onTime g).out = d.out := rfl
@[simp] theorem Dev.onTime_freeCtr (g : TimeSt → TimeSt) : (d.onTime g).freeCtr = d.freeCtr := rfl
@[simp] theorem Dev.onModes_modes (g : ModeSt → ModeSt) : (d.onModes g).modes = g d.modes := rfl
@[simp] theorem Dev.onModes_time (g : ModeSt → ModeSt) : (d.onModes g).time = d.time := rfl
@[simp] theorem Dev.onModes_power (g : ModeSt → ModeSt) : (d.onModes g).power = d.power := rfl
@[simp] theorem Dev.onModes_host (g : ModeSt → ModeSt) : (d.onModes g).host = d.host := rfl
@[simp] theorem Dev.onModes_disp (g : ModeSt → ModeSt) : (d.onModes g).disp = d.disp := rfl
@[simp] theorem Dev.onModes_units (g : ModeSt → ModeSt) : (d.onModes g).units = d.units := rfl
@[simp] theorem Dev.onModes_hearths (g : ModeSt → ModeSt) : (d.onModes g).hearths = d.hearths := rfl
@[simp] theorem Dev.onModes_slices (g : ModeSt → ModeSt) : (d.onModes g).slices = d.slices := rfl
@[simp] theorem Dev.onModes_tamper (g : ModeSt → ModeSt) : (d.onModes g).tamper = d.tamper := rfl
@[simp] theorem Dev.onModes_backup (g : ModeSt → ModeSt) : (d.onModes g).backup = d.backup := rfl
@[simp] theorem Dev.onModes_mgmt (g : ModeSt → ModeSt) : (d.onModes g).mgmt = d.mgmt := rfl
@[simp] theorem Dev.onModes_dict (g : ModeSt → ModeSt) : (d.onModes g).dict = d.dict := rfl
@[simp] theorem Dev.onModes_vault (g : ModeSt → ModeSt) : (d.onModes g).vault = d.vault := rfl
@[simp] theorem Dev.onModes_bellows (g : ModeSt → ModeSt) : (d.onModes g).bellows = d.bellows := rfl
@[simp] theorem Dev.onModes_tiles (g : ModeSt → ModeSt) : (d.onModes g).tiles = d.tiles := rfl
@[simp] theorem Dev.onModes_lib (g : ModeSt → ModeSt) : (d.onModes g).lib = d.lib := rfl
@[simp] theorem Dev.onModes_quench (g : ModeSt → ModeSt) : (d.onModes g).quench = d.quench := rfl
@[simp] theorem Dev.onModes_monitors (g : ModeSt → ModeSt) : (d.onModes g).monitors = d.monitors := rfl
@[simp] theorem Dev.onModes_lcy (g : ModeSt → ModeSt) : (d.onModes g).lcy = d.lcy := rfl
@[simp] theorem Dev.onModes_dbg (g : ModeSt → ModeSt) : (d.onModes g).dbg = d.dbg := rfl
@[simp] theorem Dev.onModes_boot (g : ModeSt → ModeSt) : (d.onModes g).boot = d.boot := rfl
@[simp] theorem Dev.onModes_out (g : ModeSt → ModeSt) : (d.onModes g).out = d.out := rfl
@[simp] theorem Dev.onModes_freeCtr (g : ModeSt → ModeSt) : (d.onModes g).freeCtr = d.freeCtr := rfl
@[simp] theorem Dev.onPower_power (g : PowerSt → PowerSt) : (d.onPower g).power = g d.power := rfl
@[simp] theorem Dev.onPower_time (g : PowerSt → PowerSt) : (d.onPower g).time = d.time := rfl
@[simp] theorem Dev.onPower_modes (g : PowerSt → PowerSt) : (d.onPower g).modes = d.modes := rfl
@[simp] theorem Dev.onPower_host (g : PowerSt → PowerSt) : (d.onPower g).host = d.host := rfl
@[simp] theorem Dev.onPower_disp (g : PowerSt → PowerSt) : (d.onPower g).disp = d.disp := rfl
@[simp] theorem Dev.onPower_units (g : PowerSt → PowerSt) : (d.onPower g).units = d.units := rfl
@[simp] theorem Dev.onPower_hearths (g : PowerSt → PowerSt) : (d.onPower g).hearths = d.hearths := rfl
@[simp] theorem Dev.onPower_slices (g : PowerSt → PowerSt) : (d.onPower g).slices = d.slices := rfl
@[simp] theorem Dev.onPower_tamper (g : PowerSt → PowerSt) : (d.onPower g).tamper = d.tamper := rfl
@[simp] theorem Dev.onPower_backup (g : PowerSt → PowerSt) : (d.onPower g).backup = d.backup := rfl
@[simp] theorem Dev.onPower_mgmt (g : PowerSt → PowerSt) : (d.onPower g).mgmt = d.mgmt := rfl
@[simp] theorem Dev.onPower_dict (g : PowerSt → PowerSt) : (d.onPower g).dict = d.dict := rfl
@[simp] theorem Dev.onPower_vault (g : PowerSt → PowerSt) : (d.onPower g).vault = d.vault := rfl
@[simp] theorem Dev.onPower_bellows (g : PowerSt → PowerSt) : (d.onPower g).bellows = d.bellows := rfl
@[simp] theorem Dev.onPower_tiles (g : PowerSt → PowerSt) : (d.onPower g).tiles = d.tiles := rfl
@[simp] theorem Dev.onPower_lib (g : PowerSt → PowerSt) : (d.onPower g).lib = d.lib := rfl
@[simp] theorem Dev.onPower_quench (g : PowerSt → PowerSt) : (d.onPower g).quench = d.quench := rfl
@[simp] theorem Dev.onPower_monitors (g : PowerSt → PowerSt) : (d.onPower g).monitors = d.monitors := rfl
@[simp] theorem Dev.onPower_lcy (g : PowerSt → PowerSt) : (d.onPower g).lcy = d.lcy := rfl
@[simp] theorem Dev.onPower_dbg (g : PowerSt → PowerSt) : (d.onPower g).dbg = d.dbg := rfl
@[simp] theorem Dev.onPower_boot (g : PowerSt → PowerSt) : (d.onPower g).boot = d.boot := rfl
@[simp] theorem Dev.onPower_out (g : PowerSt → PowerSt) : (d.onPower g).out = d.out := rfl
@[simp] theorem Dev.onPower_freeCtr (g : PowerSt → PowerSt) : (d.onPower g).freeCtr = d.freeCtr := rfl
@[simp] theorem Dev.onHost_host (g : HostSt → HostSt) : (d.onHost g).host = g d.host := rfl
@[simp] theorem Dev.onHost_time (g : HostSt → HostSt) : (d.onHost g).time = d.time := rfl
@[simp] theorem Dev.onHost_modes (g : HostSt → HostSt) : (d.onHost g).modes = d.modes := rfl
@[simp] theorem Dev.onHost_power (g : HostSt → HostSt) : (d.onHost g).power = d.power := rfl
@[simp] theorem Dev.onHost_disp (g : HostSt → HostSt) : (d.onHost g).disp = d.disp := rfl
@[simp] theorem Dev.onHost_units (g : HostSt → HostSt) : (d.onHost g).units = d.units := rfl
@[simp] theorem Dev.onHost_hearths (g : HostSt → HostSt) : (d.onHost g).hearths = d.hearths := rfl
@[simp] theorem Dev.onHost_slices (g : HostSt → HostSt) : (d.onHost g).slices = d.slices := rfl
@[simp] theorem Dev.onHost_tamper (g : HostSt → HostSt) : (d.onHost g).tamper = d.tamper := rfl
@[simp] theorem Dev.onHost_backup (g : HostSt → HostSt) : (d.onHost g).backup = d.backup := rfl
@[simp] theorem Dev.onHost_mgmt (g : HostSt → HostSt) : (d.onHost g).mgmt = d.mgmt := rfl
@[simp] theorem Dev.onHost_dict (g : HostSt → HostSt) : (d.onHost g).dict = d.dict := rfl
@[simp] theorem Dev.onHost_vault (g : HostSt → HostSt) : (d.onHost g).vault = d.vault := rfl
@[simp] theorem Dev.onHost_bellows (g : HostSt → HostSt) : (d.onHost g).bellows = d.bellows := rfl
@[simp] theorem Dev.onHost_tiles (g : HostSt → HostSt) : (d.onHost g).tiles = d.tiles := rfl
@[simp] theorem Dev.onHost_lib (g : HostSt → HostSt) : (d.onHost g).lib = d.lib := rfl
@[simp] theorem Dev.onHost_quench (g : HostSt → HostSt) : (d.onHost g).quench = d.quench := rfl
@[simp] theorem Dev.onHost_monitors (g : HostSt → HostSt) : (d.onHost g).monitors = d.monitors := rfl
@[simp] theorem Dev.onHost_lcy (g : HostSt → HostSt) : (d.onHost g).lcy = d.lcy := rfl
@[simp] theorem Dev.onHost_dbg (g : HostSt → HostSt) : (d.onHost g).dbg = d.dbg := rfl
@[simp] theorem Dev.onHost_boot (g : HostSt → HostSt) : (d.onHost g).boot = d.boot := rfl
@[simp] theorem Dev.onHost_out (g : HostSt → HostSt) : (d.onHost g).out = d.out := rfl
@[simp] theorem Dev.onHost_freeCtr (g : HostSt → HostSt) : (d.onHost g).freeCtr = d.freeCtr := rfl
@[simp] theorem Dev.onDisp_disp (g : DispSt → DispSt) : (d.onDisp g).disp = g d.disp := rfl
@[simp] theorem Dev.onDisp_time (g : DispSt → DispSt) : (d.onDisp g).time = d.time := rfl
@[simp] theorem Dev.onDisp_modes (g : DispSt → DispSt) : (d.onDisp g).modes = d.modes := rfl
@[simp] theorem Dev.onDisp_power (g : DispSt → DispSt) : (d.onDisp g).power = d.power := rfl
@[simp] theorem Dev.onDisp_host (g : DispSt → DispSt) : (d.onDisp g).host = d.host := rfl
@[simp] theorem Dev.onDisp_units (g : DispSt → DispSt) : (d.onDisp g).units = d.units := rfl
@[simp] theorem Dev.onDisp_hearths (g : DispSt → DispSt) : (d.onDisp g).hearths = d.hearths := rfl
@[simp] theorem Dev.onDisp_slices (g : DispSt → DispSt) : (d.onDisp g).slices = d.slices := rfl
@[simp] theorem Dev.onDisp_tamper (g : DispSt → DispSt) : (d.onDisp g).tamper = d.tamper := rfl
@[simp] theorem Dev.onDisp_backup (g : DispSt → DispSt) : (d.onDisp g).backup = d.backup := rfl
@[simp] theorem Dev.onDisp_mgmt (g : DispSt → DispSt) : (d.onDisp g).mgmt = d.mgmt := rfl
@[simp] theorem Dev.onDisp_dict (g : DispSt → DispSt) : (d.onDisp g).dict = d.dict := rfl
@[simp] theorem Dev.onDisp_vault (g : DispSt → DispSt) : (d.onDisp g).vault = d.vault := rfl
@[simp] theorem Dev.onDisp_bellows (g : DispSt → DispSt) : (d.onDisp g).bellows = d.bellows := rfl
@[simp] theorem Dev.onDisp_tiles (g : DispSt → DispSt) : (d.onDisp g).tiles = d.tiles := rfl
@[simp] theorem Dev.onDisp_lib (g : DispSt → DispSt) : (d.onDisp g).lib = d.lib := rfl
@[simp] theorem Dev.onDisp_quench (g : DispSt → DispSt) : (d.onDisp g).quench = d.quench := rfl
@[simp] theorem Dev.onDisp_monitors (g : DispSt → DispSt) : (d.onDisp g).monitors = d.monitors := rfl
@[simp] theorem Dev.onDisp_lcy (g : DispSt → DispSt) : (d.onDisp g).lcy = d.lcy := rfl
@[simp] theorem Dev.onDisp_dbg (g : DispSt → DispSt) : (d.onDisp g).dbg = d.dbg := rfl
@[simp] theorem Dev.onDisp_boot (g : DispSt → DispSt) : (d.onDisp g).boot = d.boot := rfl
@[simp] theorem Dev.onDisp_out (g : DispSt → DispSt) : (d.onDisp g).out = d.out := rfl
@[simp] theorem Dev.onDisp_freeCtr (g : DispSt → DispSt) : (d.onDisp g).freeCtr = d.freeCtr := rfl
@[simp] theorem Dev.onUnits_units (g : Tab Nat Unit → Tab Nat Unit) : (d.onUnits g).units = g d.units := rfl
@[simp] theorem Dev.onUnits_hearths (g : Tab Nat Unit → Tab Nat Unit) : (d.onUnits g).hearths = d.hearths := rfl
@[simp] theorem Dev.onUnits_time (g : Tab Nat Unit → Tab Nat Unit) : (d.onUnits g).time = d.time := rfl
@[simp] theorem Dev.onUnits_modes (g : Tab Nat Unit → Tab Nat Unit) : (d.onUnits g).modes = d.modes := rfl
@[simp] theorem Dev.onUnits_power (g : Tab Nat Unit → Tab Nat Unit) : (d.onUnits g).power = d.power := rfl
@[simp] theorem Dev.onUnits_host (g : Tab Nat Unit → Tab Nat Unit) : (d.onUnits g).host = d.host := rfl
@[simp] theorem Dev.onUnits_disp (g : Tab Nat Unit → Tab Nat Unit) : (d.onUnits g).disp = d.disp := rfl
@[simp] theorem Dev.onUnits_slices (g : Tab Nat Unit → Tab Nat Unit) : (d.onUnits g).slices = d.slices := rfl
@[simp] theorem Dev.onUnits_tamper (g : Tab Nat Unit → Tab Nat Unit) : (d.onUnits g).tamper = d.tamper := rfl
@[simp] theorem Dev.onUnits_backup (g : Tab Nat Unit → Tab Nat Unit) : (d.onUnits g).backup = d.backup := rfl
@[simp] theorem Dev.onUnits_mgmt (g : Tab Nat Unit → Tab Nat Unit) : (d.onUnits g).mgmt = d.mgmt := rfl
@[simp] theorem Dev.onUnits_dict (g : Tab Nat Unit → Tab Nat Unit) : (d.onUnits g).dict = d.dict := rfl
@[simp] theorem Dev.onUnits_vault (g : Tab Nat Unit → Tab Nat Unit) : (d.onUnits g).vault = d.vault := rfl
@[simp] theorem Dev.onUnits_bellows (g : Tab Nat Unit → Tab Nat Unit) : (d.onUnits g).bellows = d.bellows := rfl
@[simp] theorem Dev.onUnits_tiles (g : Tab Nat Unit → Tab Nat Unit) : (d.onUnits g).tiles = d.tiles := rfl
@[simp] theorem Dev.onUnits_lib (g : Tab Nat Unit → Tab Nat Unit) : (d.onUnits g).lib = d.lib := rfl
@[simp] theorem Dev.onUnits_quench (g : Tab Nat Unit → Tab Nat Unit) : (d.onUnits g).quench = d.quench := rfl
@[simp] theorem Dev.onUnits_monitors (g : Tab Nat Unit → Tab Nat Unit) : (d.onUnits g).monitors = d.monitors := rfl
@[simp] theorem Dev.onUnits_lcy (g : Tab Nat Unit → Tab Nat Unit) : (d.onUnits g).lcy = d.lcy := rfl
@[simp] theorem Dev.onUnits_dbg (g : Tab Nat Unit → Tab Nat Unit) : (d.onUnits g).dbg = d.dbg := rfl
@[simp] theorem Dev.onUnits_boot (g : Tab Nat Unit → Tab Nat Unit) : (d.onUnits g).boot = d.boot := rfl
@[simp] theorem Dev.onUnits_out (g : Tab Nat Unit → Tab Nat Unit) : (d.onUnits g).out = d.out := rfl
@[simp] theorem Dev.onUnits_freeCtr (g : Tab Nat Unit → Tab Nat Unit) : (d.onUnits g).freeCtr = d.freeCtr := rfl
@[simp] theorem Dev.onHearths_time (g : Tab Nat HearthMem → Tab Nat HearthMem) : (d.onHearths g).time = d.time := rfl
@[simp] theorem Dev.onHearths_modes (g : Tab Nat HearthMem → Tab Nat HearthMem) : (d.onHearths g).modes = d.modes := rfl
@[simp] theorem Dev.onHearths_power (g : Tab Nat HearthMem → Tab Nat HearthMem) : (d.onHearths g).power = d.power := rfl
@[simp] theorem Dev.onHearths_host (g : Tab Nat HearthMem → Tab Nat HearthMem) : (d.onHearths g).host = d.host := rfl
@[simp] theorem Dev.onHearths_disp (g : Tab Nat HearthMem → Tab Nat HearthMem) : (d.onHearths g).disp = d.disp := rfl
@[simp] theorem Dev.onHearths_units (g : Tab Nat HearthMem → Tab Nat HearthMem) : (d.onHearths g).units = d.units := rfl
@[simp] theorem Dev.onHearths_hearths (g : Tab Nat HearthMem → Tab Nat HearthMem) : (d.onHearths g).hearths = g d.hearths := rfl
@[simp] theorem Dev.onHearths_slices (g : Tab Nat HearthMem → Tab Nat HearthMem) : (d.onHearths g).slices = d.slices := rfl
@[simp] theorem Dev.onHearths_tamper (g : Tab Nat HearthMem → Tab Nat HearthMem) : (d.onHearths g).tamper = d.tamper := rfl
@[simp] theorem Dev.onHearths_backup (g : Tab Nat HearthMem → Tab Nat HearthMem) : (d.onHearths g).backup = d.backup := rfl
@[simp] theorem Dev.onHearths_mgmt (g : Tab Nat HearthMem → Tab Nat HearthMem) : (d.onHearths g).mgmt = d.mgmt := rfl
@[simp] theorem Dev.onHearths_dict (g : Tab Nat HearthMem → Tab Nat HearthMem) : (d.onHearths g).dict = d.dict := rfl
@[simp] theorem Dev.onHearths_vault (g : Tab Nat HearthMem → Tab Nat HearthMem) : (d.onHearths g).vault = d.vault := rfl
@[simp] theorem Dev.onHearths_bellows (g : Tab Nat HearthMem → Tab Nat HearthMem) : (d.onHearths g).bellows = d.bellows := rfl
@[simp] theorem Dev.onHearths_tiles (g : Tab Nat HearthMem → Tab Nat HearthMem) : (d.onHearths g).tiles = d.tiles := rfl
@[simp] theorem Dev.onHearths_lib (g : Tab Nat HearthMem → Tab Nat HearthMem) : (d.onHearths g).lib = d.lib := rfl
@[simp] theorem Dev.onHearths_quench (g : Tab Nat HearthMem → Tab Nat HearthMem) : (d.onHearths g).quench = d.quench := rfl
@[simp] theorem Dev.onHearths_monitors (g : Tab Nat HearthMem → Tab Nat HearthMem) : (d.onHearths g).monitors = d.monitors := rfl
@[simp] theorem Dev.onHearths_lcy (g : Tab Nat HearthMem → Tab Nat HearthMem) : (d.onHearths g).lcy = d.lcy := rfl
@[simp] theorem Dev.onHearths_dbg (g : Tab Nat HearthMem → Tab Nat HearthMem) : (d.onHearths g).dbg = d.dbg := rfl
@[simp] theorem Dev.onHearths_boot (g : Tab Nat HearthMem → Tab Nat HearthMem) : (d.onHearths g).boot = d.boot := rfl
@[simp] theorem Dev.onHearths_out (g : Tab Nat HearthMem → Tab Nat HearthMem) : (d.onHearths g).out = d.out := rfl
@[simp] theorem Dev.onHearths_freeCtr (g : Tab Nat HearthMem → Tab Nat HearthMem) : (d.onHearths g).freeCtr = d.freeCtr := rfl
@[simp] theorem Dev.onSlices_slices (g : Tab Nat SliceSt → Tab Nat SliceSt) : (d.onSlices g).slices = g d.slices := rfl
@[simp] theorem Dev.onSlices_time (g : Tab Nat SliceSt → Tab Nat SliceSt) : (d.onSlices g).time = d.time := rfl
@[simp] theorem Dev.onSlices_modes (g : Tab Nat SliceSt → Tab Nat SliceSt) : (d.onSlices g).modes = d.modes := rfl
@[simp] theorem Dev.onSlices_power (g : Tab Nat SliceSt → Tab Nat SliceSt) : (d.onSlices g).power = d.power := rfl
@[simp] theorem Dev.onSlices_host (g : Tab Nat SliceSt → Tab Nat SliceSt) : (d.onSlices g).host = d.host := rfl
@[simp] theorem Dev.onSlices_disp (g : Tab Nat SliceSt → Tab Nat SliceSt) : (d.onSlices g).disp = d.disp := rfl
@[simp] theorem Dev.onSlices_units (g : Tab Nat SliceSt → Tab Nat SliceSt) : (d.onSlices g).units = d.units := rfl
@[simp] theorem Dev.onSlices_hearths (g : Tab Nat SliceSt → Tab Nat SliceSt) : (d.onSlices g).hearths = d.hearths := rfl
@[simp] theorem Dev.onSlices_tamper (g : Tab Nat SliceSt → Tab Nat SliceSt) : (d.onSlices g).tamper = d.tamper := rfl
@[simp] theorem Dev.onSlices_backup (g : Tab Nat SliceSt → Tab Nat SliceSt) : (d.onSlices g).backup = d.backup := rfl
@[simp] theorem Dev.onSlices_mgmt (g : Tab Nat SliceSt → Tab Nat SliceSt) : (d.onSlices g).mgmt = d.mgmt := rfl
@[simp] theorem Dev.onSlices_dict (g : Tab Nat SliceSt → Tab Nat SliceSt) : (d.onSlices g).dict = d.dict := rfl
@[simp] theorem Dev.onSlices_vault (g : Tab Nat SliceSt → Tab Nat SliceSt) : (d.onSlices g).vault = d.vault := rfl
@[simp] theorem Dev.onSlices_bellows (g : Tab Nat SliceSt → Tab Nat SliceSt) : (d.onSlices g).bellows = d.bellows := rfl
@[simp] theorem Dev.onSlices_tiles (g : Tab Nat SliceSt → Tab Nat SliceSt) : (d.onSlices g).tiles = d.tiles := rfl
@[simp] theorem Dev.onSlices_lib (g : Tab Nat SliceSt → Tab Nat SliceSt) : (d.onSlices g).lib = d.lib := rfl
@[simp] theorem Dev.onSlices_quench (g : Tab Nat SliceSt → Tab Nat SliceSt) : (d.onSlices g).quench = d.quench := rfl
@[simp] theorem Dev.onSlices_monitors (g : Tab Nat SliceSt → Tab Nat SliceSt) : (d.onSlices g).monitors = d.monitors := rfl
@[simp] theorem Dev.onSlices_lcy (g : Tab Nat SliceSt → Tab Nat SliceSt) : (d.onSlices g).lcy = d.lcy := rfl
@[simp] theorem Dev.onSlices_dbg (g : Tab Nat SliceSt → Tab Nat SliceSt) : (d.onSlices g).dbg = d.dbg := rfl
@[simp] theorem Dev.onSlices_boot (g : Tab Nat SliceSt → Tab Nat SliceSt) : (d.onSlices g).boot = d.boot := rfl
@[simp] theorem Dev.onSlices_out (g : Tab Nat SliceSt → Tab Nat SliceSt) : (d.onSlices g).out = d.out := rfl
@[simp] theorem Dev.onSlices_freeCtr (g : Tab Nat SliceSt → Tab Nat SliceSt) : (d.onSlices g).freeCtr = d.freeCtr := rfl
@[simp] theorem Dev.onTamper_tamper (g : TamperSt → TamperSt) : (d.onTamper g).tamper = g d.tamper := rfl
@[simp] theorem Dev.onTamper_time (g : TamperSt → TamperSt) : (d.onTamper g).time = d.time := rfl
@[simp] theorem Dev.onTamper_modes (g : TamperSt → TamperSt) : (d.onTamper g).modes = d.modes := rfl
@[simp] theorem Dev.onTamper_power (g : TamperSt → TamperSt) : (d.onTamper g).power = d.power := rfl
@[simp] theorem Dev.onTamper_host (g : TamperSt → TamperSt) : (d.onTamper g).host = d.host := rfl
@[simp] theorem Dev.onTamper_disp (g : TamperSt → TamperSt) : (d.onTamper g).disp = d.disp := rfl
@[simp] theorem Dev.onTamper_units (g : TamperSt → TamperSt) : (d.onTamper g).units = d.units := rfl
@[simp] theorem Dev.onTamper_hearths (g : TamperSt → TamperSt) : (d.onTamper g).hearths = d.hearths := rfl
@[simp] theorem Dev.onTamper_slices (g : TamperSt → TamperSt) : (d.onTamper g).slices = d.slices := rfl
@[simp] theorem Dev.onTamper_backup (g : TamperSt → TamperSt) : (d.onTamper g).backup = d.backup := rfl
@[simp] theorem Dev.onTamper_mgmt (g : TamperSt → TamperSt) : (d.onTamper g).mgmt = d.mgmt := rfl
@[simp] theorem Dev.onTamper_dict (g : TamperSt → TamperSt) : (d.onTamper g).dict = d.dict := rfl
@[simp] theorem Dev.onTamper_vault (g : TamperSt → TamperSt) : (d.onTamper g).vault = d.vault := rfl
@[simp] theorem Dev.onTamper_bellows (g : TamperSt → TamperSt) : (d.onTamper g).bellows = d.bellows := rfl
@[simp] theorem Dev.onTamper_tiles (g : TamperSt → TamperSt) : (d.onTamper g).tiles = d.tiles := rfl
@[simp] theorem Dev.onTamper_lib (g : TamperSt → TamperSt) : (d.onTamper g).lib = d.lib := rfl
@[simp] theorem Dev.onTamper_quench (g : TamperSt → TamperSt) : (d.onTamper g).quench = d.quench := rfl
@[simp] theorem Dev.onTamper_monitors (g : TamperSt → TamperSt) : (d.onTamper g).monitors = d.monitors := rfl
@[simp] theorem Dev.onTamper_lcy (g : TamperSt → TamperSt) : (d.onTamper g).lcy = d.lcy := rfl
@[simp] theorem Dev.onTamper_dbg (g : TamperSt → TamperSt) : (d.onTamper g).dbg = d.dbg := rfl
@[simp] theorem Dev.onTamper_boot (g : TamperSt → TamperSt) : (d.onTamper g).boot = d.boot := rfl
@[simp] theorem Dev.onTamper_out (g : TamperSt → TamperSt) : (d.onTamper g).out = d.out := rfl
@[simp] theorem Dev.onTamper_freeCtr (g : TamperSt → TamperSt) : (d.onTamper g).freeCtr = d.freeCtr := rfl
@[simp] theorem Dev.onBackup_backup (g : BackupSt → BackupSt) : (d.onBackup g).backup = g d.backup := rfl
@[simp] theorem Dev.onBackup_time (g : BackupSt → BackupSt) : (d.onBackup g).time = d.time := rfl
@[simp] theorem Dev.onBackup_modes (g : BackupSt → BackupSt) : (d.onBackup g).modes = d.modes := rfl
@[simp] theorem Dev.onBackup_power (g : BackupSt → BackupSt) : (d.onBackup g).power = d.power := rfl
@[simp] theorem Dev.onBackup_host (g : BackupSt → BackupSt) : (d.onBackup g).host = d.host := rfl
@[simp] theorem Dev.onBackup_disp (g : BackupSt → BackupSt) : (d.onBackup g).disp = d.disp := rfl
@[simp] theorem Dev.onBackup_units (g : BackupSt → BackupSt) : (d.onBackup g).units = d.units := rfl
@[simp] theorem Dev.onBackup_hearths (g : BackupSt → BackupSt) : (d.onBackup g).hearths = d.hearths := rfl
@[simp] theorem Dev.onBackup_slices (g : BackupSt → BackupSt) : (d.onBackup g).slices = d.slices := rfl
@[simp] theorem Dev.onBackup_tamper (g : BackupSt → BackupSt) : (d.onBackup g).tamper = d.tamper := rfl
@[simp] theorem Dev.onBackup_mgmt (g : BackupSt → BackupSt) : (d.onBackup g).mgmt = d.mgmt := rfl
@[simp] theorem Dev.onBackup_dict (g : BackupSt → BackupSt) : (d.onBackup g).dict = d.dict := rfl
@[simp] theorem Dev.onBackup_vault (g : BackupSt → BackupSt) : (d.onBackup g).vault = d.vault := rfl
@[simp] theorem Dev.onBackup_bellows (g : BackupSt → BackupSt) : (d.onBackup g).bellows = d.bellows := rfl
@[simp] theorem Dev.onBackup_tiles (g : BackupSt → BackupSt) : (d.onBackup g).tiles = d.tiles := rfl
@[simp] theorem Dev.onBackup_lib (g : BackupSt → BackupSt) : (d.onBackup g).lib = d.lib := rfl
@[simp] theorem Dev.onBackup_quench (g : BackupSt → BackupSt) : (d.onBackup g).quench = d.quench := rfl
@[simp] theorem Dev.onBackup_monitors (g : BackupSt → BackupSt) : (d.onBackup g).monitors = d.monitors := rfl
@[simp] theorem Dev.onBackup_lcy (g : BackupSt → BackupSt) : (d.onBackup g).lcy = d.lcy := rfl
@[simp] theorem Dev.onBackup_dbg (g : BackupSt → BackupSt) : (d.onBackup g).dbg = d.dbg := rfl
@[simp] theorem Dev.onBackup_boot (g : BackupSt → BackupSt) : (d.onBackup g).boot = d.boot := rfl
@[simp] theorem Dev.onBackup_out (g : BackupSt → BackupSt) : (d.onBackup g).out = d.out := rfl
@[simp] theorem Dev.onBackup_freeCtr (g : BackupSt → BackupSt) : (d.onBackup g).freeCtr = d.freeCtr := rfl
@[simp] theorem Dev.onMgmt_mgmt (g : MgmtSt → MgmtSt) : (d.onMgmt g).mgmt = g d.mgmt := rfl
@[simp] theorem Dev.onMgmt_time (g : MgmtSt → MgmtSt) : (d.onMgmt g).time = d.time := rfl
@[simp] theorem Dev.onMgmt_modes (g : MgmtSt → MgmtSt) : (d.onMgmt g).modes = d.modes := rfl
@[simp] theorem Dev.onMgmt_power (g : MgmtSt → MgmtSt) : (d.onMgmt g).power = d.power := rfl
@[simp] theorem Dev.onMgmt_host (g : MgmtSt → MgmtSt) : (d.onMgmt g).host = d.host := rfl
@[simp] theorem Dev.onMgmt_disp (g : MgmtSt → MgmtSt) : (d.onMgmt g).disp = d.disp := rfl
@[simp] theorem Dev.onMgmt_units (g : MgmtSt → MgmtSt) : (d.onMgmt g).units = d.units := rfl
@[simp] theorem Dev.onMgmt_hearths (g : MgmtSt → MgmtSt) : (d.onMgmt g).hearths = d.hearths := rfl
@[simp] theorem Dev.onMgmt_slices (g : MgmtSt → MgmtSt) : (d.onMgmt g).slices = d.slices := rfl
@[simp] theorem Dev.onMgmt_tamper (g : MgmtSt → MgmtSt) : (d.onMgmt g).tamper = d.tamper := rfl
@[simp] theorem Dev.onMgmt_backup (g : MgmtSt → MgmtSt) : (d.onMgmt g).backup = d.backup := rfl
@[simp] theorem Dev.onMgmt_dict (g : MgmtSt → MgmtSt) : (d.onMgmt g).dict = d.dict := rfl
@[simp] theorem Dev.onMgmt_vault (g : MgmtSt → MgmtSt) : (d.onMgmt g).vault = d.vault := rfl
@[simp] theorem Dev.onMgmt_bellows (g : MgmtSt → MgmtSt) : (d.onMgmt g).bellows = d.bellows := rfl
@[simp] theorem Dev.onMgmt_tiles (g : MgmtSt → MgmtSt) : (d.onMgmt g).tiles = d.tiles := rfl
@[simp] theorem Dev.onMgmt_lib (g : MgmtSt → MgmtSt) : (d.onMgmt g).lib = d.lib := rfl
@[simp] theorem Dev.onMgmt_quench (g : MgmtSt → MgmtSt) : (d.onMgmt g).quench = d.quench := rfl
@[simp] theorem Dev.onMgmt_monitors (g : MgmtSt → MgmtSt) : (d.onMgmt g).monitors = d.monitors := rfl
@[simp] theorem Dev.onMgmt_lcy (g : MgmtSt → MgmtSt) : (d.onMgmt g).lcy = d.lcy := rfl
@[simp] theorem Dev.onMgmt_dbg (g : MgmtSt → MgmtSt) : (d.onMgmt g).dbg = d.dbg := rfl
@[simp] theorem Dev.onMgmt_boot (g : MgmtSt → MgmtSt) : (d.onMgmt g).boot = d.boot := rfl
@[simp] theorem Dev.onMgmt_out (g : MgmtSt → MgmtSt) : (d.onMgmt g).out = d.out := rfl
@[simp] theorem Dev.onMgmt_freeCtr (g : MgmtSt → MgmtSt) : (d.onMgmt g).freeCtr = d.freeCtr := rfl
@[simp] theorem Dev.onDict_dict (g : Dict → Dict) : (d.onDict g).dict = g d.dict := rfl
@[simp] theorem Dev.onDict_time (g : Dict → Dict) : (d.onDict g).time = d.time := rfl
@[simp] theorem Dev.onDict_modes (g : Dict → Dict) : (d.onDict g).modes = d.modes := rfl
@[simp] theorem Dev.onDict_power (g : Dict → Dict) : (d.onDict g).power = d.power := rfl
@[simp] theorem Dev.onDict_host (g : Dict → Dict) : (d.onDict g).host = d.host := rfl
@[simp] theorem Dev.onDict_disp (g : Dict → Dict) : (d.onDict g).disp = d.disp := rfl
@[simp] theorem Dev.onDict_units (g : Dict → Dict) : (d.onDict g).units = d.units := rfl
@[simp] theorem Dev.onDict_hearths (g : Dict → Dict) : (d.onDict g).hearths = d.hearths := rfl
@[simp] theorem Dev.onDict_slices (g : Dict → Dict) : (d.onDict g).slices = d.slices := rfl
@[simp] theorem Dev.onDict_tamper (g : Dict → Dict) : (d.onDict g).tamper = d.tamper := rfl
@[simp] theorem Dev.onDict_backup (g : Dict → Dict) : (d.onDict g).backup = d.backup := rfl
@[simp] theorem Dev.onDict_mgmt (g : Dict → Dict) : (d.onDict g).mgmt = d.mgmt := rfl
@[simp] theorem Dev.onDict_vault (g : Dict → Dict) : (d.onDict g).vault = d.vault := rfl
@[simp] theorem Dev.onDict_bellows (g : Dict → Dict) : (d.onDict g).bellows = d.bellows := rfl
@[simp] theorem Dev.onDict_tiles (g : Dict → Dict) : (d.onDict g).tiles = d.tiles := rfl
@[simp] theorem Dev.onDict_lib (g : Dict → Dict) : (d.onDict g).lib = d.lib := rfl
@[simp] theorem Dev.onDict_quench (g : Dict → Dict) : (d.onDict g).quench = d.quench := rfl
@[simp] theorem Dev.onDict_monitors (g : Dict → Dict) : (d.onDict g).monitors = d.monitors := rfl
@[simp] theorem Dev.onDict_lcy (g : Dict → Dict) : (d.onDict g).lcy = d.lcy := rfl
@[simp] theorem Dev.onDict_dbg (g : Dict → Dict) : (d.onDict g).dbg = d.dbg := rfl
@[simp] theorem Dev.onDict_boot (g : Dict → Dict) : (d.onDict g).boot = d.boot := rfl
@[simp] theorem Dev.onDict_out (g : Dict → Dict) : (d.onDict g).out = d.out := rfl
@[simp] theorem Dev.onDict_freeCtr (g : Dict → Dict) : (d.onDict g).freeCtr = d.freeCtr := rfl
@[simp] theorem Dev.onVault_vault (g : VaultSt → VaultSt) : (d.onVault g).vault = g d.vault := rfl
@[simp] theorem Dev.onVault_time (g : VaultSt → VaultSt) : (d.onVault g).time = d.time := rfl
@[simp] theorem Dev.onVault_modes (g : VaultSt → VaultSt) : (d.onVault g).modes = d.modes := rfl
@[simp] theorem Dev.onVault_power (g : VaultSt → VaultSt) : (d.onVault g).power = d.power := rfl
@[simp] theorem Dev.onVault_host (g : VaultSt → VaultSt) : (d.onVault g).host = d.host := rfl
@[simp] theorem Dev.onVault_disp (g : VaultSt → VaultSt) : (d.onVault g).disp = d.disp := rfl
@[simp] theorem Dev.onVault_units (g : VaultSt → VaultSt) : (d.onVault g).units = d.units := rfl
@[simp] theorem Dev.onVault_hearths (g : VaultSt → VaultSt) : (d.onVault g).hearths = d.hearths := rfl
@[simp] theorem Dev.onVault_slices (g : VaultSt → VaultSt) : (d.onVault g).slices = d.slices := rfl
@[simp] theorem Dev.onVault_tamper (g : VaultSt → VaultSt) : (d.onVault g).tamper = d.tamper := rfl
@[simp] theorem Dev.onVault_backup (g : VaultSt → VaultSt) : (d.onVault g).backup = d.backup := rfl
@[simp] theorem Dev.onVault_mgmt (g : VaultSt → VaultSt) : (d.onVault g).mgmt = d.mgmt := rfl
@[simp] theorem Dev.onVault_dict (g : VaultSt → VaultSt) : (d.onVault g).dict = d.dict := rfl
@[simp] theorem Dev.onVault_bellows (g : VaultSt → VaultSt) : (d.onVault g).bellows = d.bellows := rfl
@[simp] theorem Dev.onVault_tiles (g : VaultSt → VaultSt) : (d.onVault g).tiles = d.tiles := rfl
@[simp] theorem Dev.onVault_lib (g : VaultSt → VaultSt) : (d.onVault g).lib = d.lib := rfl
@[simp] theorem Dev.onVault_quench (g : VaultSt → VaultSt) : (d.onVault g).quench = d.quench := rfl
@[simp] theorem Dev.onVault_monitors (g : VaultSt → VaultSt) : (d.onVault g).monitors = d.monitors := rfl
@[simp] theorem Dev.onVault_lcy (g : VaultSt → VaultSt) : (d.onVault g).lcy = d.lcy := rfl
@[simp] theorem Dev.onVault_dbg (g : VaultSt → VaultSt) : (d.onVault g).dbg = d.dbg := rfl
@[simp] theorem Dev.onVault_boot (g : VaultSt → VaultSt) : (d.onVault g).boot = d.boot := rfl
@[simp] theorem Dev.onVault_out (g : VaultSt → VaultSt) : (d.onVault g).out = d.out := rfl
@[simp] theorem Dev.onVault_freeCtr (g : VaultSt → VaultSt) : (d.onVault g).freeCtr = d.freeCtr := rfl
@[simp] theorem Dev.onBellows_bellows (g : BellowsSt → BellowsSt) : (d.onBellows g).bellows = g d.bellows := rfl
@[simp] theorem Dev.onBellows_time (g : BellowsSt → BellowsSt) : (d.onBellows g).time = d.time := rfl
@[simp] theorem Dev.onBellows_modes (g : BellowsSt → BellowsSt) : (d.onBellows g).modes = d.modes := rfl
@[simp] theorem Dev.onBellows_power (g : BellowsSt → BellowsSt) : (d.onBellows g).power = d.power := rfl
@[simp] theorem Dev.onBellows_host (g : BellowsSt → BellowsSt) : (d.onBellows g).host = d.host := rfl
@[simp] theorem Dev.onBellows_disp (g : BellowsSt → BellowsSt) : (d.onBellows g).disp = d.disp := rfl
@[simp] theorem Dev.onBellows_units (g : BellowsSt → BellowsSt) : (d.onBellows g).units = d.units := rfl
@[simp] theorem Dev.onBellows_hearths (g : BellowsSt → BellowsSt) : (d.onBellows g).hearths = d.hearths := rfl
@[simp] theorem Dev.onBellows_slices (g : BellowsSt → BellowsSt) : (d.onBellows g).slices = d.slices := rfl
@[simp] theorem Dev.onBellows_tamper (g : BellowsSt → BellowsSt) : (d.onBellows g).tamper = d.tamper := rfl
@[simp] theorem Dev.onBellows_backup (g : BellowsSt → BellowsSt) : (d.onBellows g).backup = d.backup := rfl
@[simp] theorem Dev.onBellows_mgmt (g : BellowsSt → BellowsSt) : (d.onBellows g).mgmt = d.mgmt := rfl
@[simp] theorem Dev.onBellows_dict (g : BellowsSt → BellowsSt) : (d.onBellows g).dict = d.dict := rfl
@[simp] theorem Dev.onBellows_vault (g : BellowsSt → BellowsSt) : (d.onBellows g).vault = d.vault := rfl
@[simp] theorem Dev.onBellows_tiles (g : BellowsSt → BellowsSt) : (d.onBellows g).tiles = d.tiles := rfl
@[simp] theorem Dev.onBellows_lib (g : BellowsSt → BellowsSt) : (d.onBellows g).lib = d.lib := rfl
@[simp] theorem Dev.onBellows_quench (g : BellowsSt → BellowsSt) : (d.onBellows g).quench = d.quench := rfl
@[simp] theorem Dev.onBellows_monitors (g : BellowsSt → BellowsSt) : (d.onBellows g).monitors = d.monitors := rfl
@[simp] theorem Dev.onBellows_lcy (g : BellowsSt → BellowsSt) : (d.onBellows g).lcy = d.lcy := rfl
@[simp] theorem Dev.onBellows_dbg (g : BellowsSt → BellowsSt) : (d.onBellows g).dbg = d.dbg := rfl
@[simp] theorem Dev.onBellows_boot (g : BellowsSt → BellowsSt) : (d.onBellows g).boot = d.boot := rfl
@[simp] theorem Dev.onBellows_out (g : BellowsSt → BellowsSt) : (d.onBellows g).out = d.out := rfl
@[simp] theorem Dev.onBellows_freeCtr (g : BellowsSt → BellowsSt) : (d.onBellows g).freeCtr = d.freeCtr := rfl
@[simp] theorem Dev.onTiles_tiles (g : Tab Nat TileSt → Tab Nat TileSt) : (d.onTiles g).tiles = g d.tiles := rfl
@[simp] theorem Dev.onTiles_time (g : Tab Nat TileSt → Tab Nat TileSt) : (d.onTiles g).time = d.time := rfl
@[simp] theorem Dev.onTiles_modes (g : Tab Nat TileSt → Tab Nat TileSt) : (d.onTiles g).modes = d.modes := rfl
@[simp] theorem Dev.onTiles_power (g : Tab Nat TileSt → Tab Nat TileSt) : (d.onTiles g).power = d.power := rfl
@[simp] theorem Dev.onTiles_host (g : Tab Nat TileSt → Tab Nat TileSt) : (d.onTiles g).host = d.host := rfl
@[simp] theorem Dev.onTiles_disp (g : Tab Nat TileSt → Tab Nat TileSt) : (d.onTiles g).disp = d.disp := rfl
@[simp] theorem Dev.onTiles_units (g : Tab Nat TileSt → Tab Nat TileSt) : (d.onTiles g).units = d.units := rfl
@[simp] theorem Dev.onTiles_hearths (g : Tab Nat TileSt → Tab Nat TileSt) : (d.onTiles g).hearths = d.hearths := rfl
@[simp] theorem Dev.onTiles_slices (g : Tab Nat TileSt → Tab Nat TileSt) : (d.onTiles g).slices = d.slices := rfl
@[simp] theorem Dev.onTiles_tamper (g : Tab Nat TileSt → Tab Nat TileSt) : (d.onTiles g).tamper = d.tamper := rfl
@[simp] theorem Dev.onTiles_backup (g : Tab Nat TileSt → Tab Nat TileSt) : (d.onTiles g).backup = d.backup := rfl
@[simp] theorem Dev.onTiles_mgmt (g : Tab Nat TileSt → Tab Nat TileSt) : (d.onTiles g).mgmt = d.mgmt := rfl
@[simp] theorem Dev.onTiles_dict (g : Tab Nat TileSt → Tab Nat TileSt) : (d.onTiles g).dict = d.dict := rfl
@[simp] theorem Dev.onTiles_vault (g : Tab Nat TileSt → Tab Nat TileSt) : (d.onTiles g).vault = d.vault := rfl
@[simp] theorem Dev.onTiles_bellows (g : Tab Nat TileSt → Tab Nat TileSt) : (d.onTiles g).bellows = d.bellows := rfl
@[simp] theorem Dev.onTiles_lib (g : Tab Nat TileSt → Tab Nat TileSt) : (d.onTiles g).lib = d.lib := rfl
@[simp] theorem Dev.onTiles_quench (g : Tab Nat TileSt → Tab Nat TileSt) : (d.onTiles g).quench = d.quench := rfl
@[simp] theorem Dev.onTiles_monitors (g : Tab Nat TileSt → Tab Nat TileSt) : (d.onTiles g).monitors = d.monitors := rfl
@[simp] theorem Dev.onTiles_lcy (g : Tab Nat TileSt → Tab Nat TileSt) : (d.onTiles g).lcy = d.lcy := rfl
@[simp] theorem Dev.onTiles_dbg (g : Tab Nat TileSt → Tab Nat TileSt) : (d.onTiles g).dbg = d.dbg := rfl
@[simp] theorem Dev.onTiles_boot (g : Tab Nat TileSt → Tab Nat TileSt) : (d.onTiles g).boot = d.boot := rfl
@[simp] theorem Dev.onTiles_out (g : Tab Nat TileSt → Tab Nat TileSt) : (d.onTiles g).out = d.out := rfl
@[simp] theorem Dev.onTiles_freeCtr (g : Tab Nat TileSt → Tab Nat TileSt) : (d.onTiles g).freeCtr = d.freeCtr := rfl
@[simp] theorem Dev.onLib_lib (g : LibSt → LibSt) : (d.onLib g).lib = g d.lib := rfl
@[simp] theorem Dev.onLib_time (g : LibSt → LibSt) : (d.onLib g).time = d.time := rfl
@[simp] theorem Dev.onLib_modes (g : LibSt → LibSt) : (d.onLib g).modes = d.modes := rfl
@[simp] theorem Dev.onLib_power (g : LibSt → LibSt) : (d.onLib g).power = d.power := rfl
@[simp] theorem Dev.onLib_host (g : LibSt → LibSt) : (d.onLib g).host = d.host := rfl
@[simp] theorem Dev.onLib_disp (g : LibSt → LibSt) : (d.onLib g).disp = d.disp := rfl
@[simp] theorem Dev.onLib_units (g : LibSt → LibSt) : (d.onLib g).units = d.units := rfl
@[simp] theorem Dev.onLib_hearths (g : LibSt → LibSt) : (d.onLib g).hearths = d.hearths := rfl
@[simp] theorem Dev.onLib_slices (g : LibSt → LibSt) : (d.onLib g).slices = d.slices := rfl
@[simp] theorem Dev.onLib_tamper (g : LibSt → LibSt) : (d.onLib g).tamper = d.tamper := rfl
@[simp] theorem Dev.onLib_backup (g : LibSt → LibSt) : (d.onLib g).backup = d.backup := rfl
@[simp] theorem Dev.onLib_mgmt (g : LibSt → LibSt) : (d.onLib g).mgmt = d.mgmt := rfl
@[simp] theorem Dev.onLib_dict (g : LibSt → LibSt) : (d.onLib g).dict = d.dict := rfl
@[simp] theorem Dev.onLib_vault (g : LibSt → LibSt) : (d.onLib g).vault = d.vault := rfl
@[simp] theorem Dev.onLib_bellows (g : LibSt → LibSt) : (d.onLib g).bellows = d.bellows := rfl
@[simp] theorem Dev.onLib_tiles (g : LibSt → LibSt) : (d.onLib g).tiles = d.tiles := rfl
@[simp] theorem Dev.onLib_quench (g : LibSt → LibSt) : (d.onLib g).quench = d.quench := rfl
@[simp] theorem Dev.onLib_monitors (g : LibSt → LibSt) : (d.onLib g).monitors = d.monitors := rfl
@[simp] theorem Dev.onLib_lcy (g : LibSt → LibSt) : (d.onLib g).lcy = d.lcy := rfl
@[simp] theorem Dev.onLib_dbg (g : LibSt → LibSt) : (d.onLib g).dbg = d.dbg := rfl
@[simp] theorem Dev.onLib_boot (g : LibSt → LibSt) : (d.onLib g).boot = d.boot := rfl
@[simp] theorem Dev.onLib_out (g : LibSt → LibSt) : (d.onLib g).out = d.out := rfl
@[simp] theorem Dev.onLib_freeCtr (g : LibSt → LibSt) : (d.onLib g).freeCtr = d.freeCtr := rfl
@[simp] theorem Dev.onQuench_quench (g : Tab Nat QuenchSt → Tab Nat QuenchSt) : (d.onQuench g).quench = g d.quench := rfl
@[simp] theorem Dev.onQuench_time (g : Tab Nat QuenchSt → Tab Nat QuenchSt) : (d.onQuench g).time = d.time := rfl
@[simp] theorem Dev.onQuench_modes (g : Tab Nat QuenchSt → Tab Nat QuenchSt) : (d.onQuench g).modes = d.modes := rfl
@[simp] theorem Dev.onQuench_power (g : Tab Nat QuenchSt → Tab Nat QuenchSt) : (d.onQuench g).power = d.power := rfl
@[simp] theorem Dev.onQuench_host (g : Tab Nat QuenchSt → Tab Nat QuenchSt) : (d.onQuench g).host = d.host := rfl
@[simp] theorem Dev.onQuench_disp (g : Tab Nat QuenchSt → Tab Nat QuenchSt) : (d.onQuench g).disp = d.disp := rfl
@[simp] theorem Dev.onQuench_units (g : Tab Nat QuenchSt → Tab Nat QuenchSt) : (d.onQuench g).units = d.units := rfl
@[simp] theorem Dev.onQuench_hearths (g : Tab Nat QuenchSt → Tab Nat QuenchSt) : (d.onQuench g).hearths = d.hearths := rfl
@[simp] theorem Dev.onQuench_slices (g : Tab Nat QuenchSt → Tab Nat QuenchSt) : (d.onQuench g).slices = d.slices := rfl
@[simp] theorem Dev.onQuench_tamper (g : Tab Nat QuenchSt → Tab Nat QuenchSt) : (d.onQuench g).tamper = d.tamper := rfl
@[simp] theorem Dev.onQuench_backup (g : Tab Nat QuenchSt → Tab Nat QuenchSt) : (d.onQuench g).backup = d.backup := rfl
@[simp] theorem Dev.onQuench_mgmt (g : Tab Nat QuenchSt → Tab Nat QuenchSt) : (d.onQuench g).mgmt = d.mgmt := rfl
@[simp] theorem Dev.onQuench_dict (g : Tab Nat QuenchSt → Tab Nat QuenchSt) : (d.onQuench g).dict = d.dict := rfl
@[simp] theorem Dev.onQuench_vault (g : Tab Nat QuenchSt → Tab Nat QuenchSt) : (d.onQuench g).vault = d.vault := rfl
@[simp] theorem Dev.onQuench_bellows (g : Tab Nat QuenchSt → Tab Nat QuenchSt) : (d.onQuench g).bellows = d.bellows := rfl
@[simp] theorem Dev.onQuench_tiles (g : Tab Nat QuenchSt → Tab Nat QuenchSt) : (d.onQuench g).tiles = d.tiles := rfl
@[simp] theorem Dev.onQuench_lib (g : Tab Nat QuenchSt → Tab Nat QuenchSt) : (d.onQuench g).lib = d.lib := rfl
@[simp] theorem Dev.onQuench_monitors (g : Tab Nat QuenchSt → Tab Nat QuenchSt) : (d.onQuench g).monitors = d.monitors := rfl
@[simp] theorem Dev.onQuench_lcy (g : Tab Nat QuenchSt → Tab Nat QuenchSt) : (d.onQuench g).lcy = d.lcy := rfl
@[simp] theorem Dev.onQuench_dbg (g : Tab Nat QuenchSt → Tab Nat QuenchSt) : (d.onQuench g).dbg = d.dbg := rfl
@[simp] theorem Dev.onQuench_boot (g : Tab Nat QuenchSt → Tab Nat QuenchSt) : (d.onQuench g).boot = d.boot := rfl
@[simp] theorem Dev.onQuench_out (g : Tab Nat QuenchSt → Tab Nat QuenchSt) : (d.onQuench g).out = d.out := rfl
@[simp] theorem Dev.onQuench_freeCtr (g : Tab Nat QuenchSt → Tab Nat QuenchSt) : (d.onQuench g).freeCtr = d.freeCtr := rfl
@[simp] theorem Dev.onMonitors_monitors (g : Tab Nat MonRecord → Tab Nat MonRecord) : (d.onMonitors g).monitors = g d.monitors := rfl
@[simp] theorem Dev.onMonitors_time (g : Tab Nat MonRecord → Tab Nat MonRecord) : (d.onMonitors g).time = d.time := rfl
@[simp] theorem Dev.onMonitors_modes (g : Tab Nat MonRecord → Tab Nat MonRecord) : (d.onMonitors g).modes = d.modes := rfl
@[simp] theorem Dev.onMonitors_power (g : Tab Nat MonRecord → Tab Nat MonRecord) : (d.onMonitors g).power = d.power := rfl
@[simp] theorem Dev.onMonitors_host (g : Tab Nat MonRecord → Tab Nat MonRecord) : (d.onMonitors g).host = d.host := rfl
@[simp] theorem Dev.onMonitors_disp (g : Tab Nat MonRecord → Tab Nat MonRecord) : (d.onMonitors g).disp = d.disp := rfl
@[simp] theorem Dev.onMonitors_units (g : Tab Nat MonRecord → Tab Nat MonRecord) : (d.onMonitors g).units = d.units := rfl
@[simp] theorem Dev.onMonitors_hearths (g : Tab Nat MonRecord → Tab Nat MonRecord) : (d.onMonitors g).hearths = d.hearths := rfl
@[simp] theorem Dev.onMonitors_slices (g : Tab Nat MonRecord → Tab Nat MonRecord) : (d.onMonitors g).slices = d.slices := rfl
@[simp] theorem Dev.onMonitors_tamper (g : Tab Nat MonRecord → Tab Nat MonRecord) : (d.onMonitors g).tamper = d.tamper := rfl
@[simp] theorem Dev.onMonitors_backup (g : Tab Nat MonRecord → Tab Nat MonRecord) : (d.onMonitors g).backup = d.backup := rfl
@[simp] theorem Dev.onMonitors_mgmt (g : Tab Nat MonRecord → Tab Nat MonRecord) : (d.onMonitors g).mgmt = d.mgmt := rfl
@[simp] theorem Dev.onMonitors_dict (g : Tab Nat MonRecord → Tab Nat MonRecord) : (d.onMonitors g).dict = d.dict := rfl
@[simp] theorem Dev.onMonitors_vault (g : Tab Nat MonRecord → Tab Nat MonRecord) : (d.onMonitors g).vault = d.vault := rfl
@[simp] theorem Dev.onMonitors_bellows (g : Tab Nat MonRecord → Tab Nat MonRecord) : (d.onMonitors g).bellows = d.bellows := rfl
@[simp] theorem Dev.onMonitors_tiles (g : Tab Nat MonRecord → Tab Nat MonRecord) : (d.onMonitors g).tiles = d.tiles := rfl
@[simp] theorem Dev.onMonitors_lib (g : Tab Nat MonRecord → Tab Nat MonRecord) : (d.onMonitors g).lib = d.lib := rfl
@[simp] theorem Dev.onMonitors_quench (g : Tab Nat MonRecord → Tab Nat MonRecord) : (d.onMonitors g).quench = d.quench := rfl
@[simp] theorem Dev.onMonitors_lcy (g : Tab Nat MonRecord → Tab Nat MonRecord) : (d.onMonitors g).lcy = d.lcy := rfl
@[simp] theorem Dev.onMonitors_dbg (g : Tab Nat MonRecord → Tab Nat MonRecord) : (d.onMonitors g).dbg = d.dbg := rfl
@[simp] theorem Dev.onMonitors_boot (g : Tab Nat MonRecord → Tab Nat MonRecord) : (d.onMonitors g).boot = d.boot := rfl
@[simp] theorem Dev.onMonitors_out (g : Tab Nat MonRecord → Tab Nat MonRecord) : (d.onMonitors g).out = d.out := rfl
@[simp] theorem Dev.onMonitors_freeCtr (g : Tab Nat MonRecord → Tab Nat MonRecord) : (d.onMonitors g).freeCtr = d.freeCtr := rfl
@[simp] theorem Dev.onLcy_lcy (g : LcySt → LcySt) : (d.onLcy g).lcy = g d.lcy := rfl
@[simp] theorem Dev.onLcy_time (g : LcySt → LcySt) : (d.onLcy g).time = d.time := rfl
@[simp] theorem Dev.onLcy_modes (g : LcySt → LcySt) : (d.onLcy g).modes = d.modes := rfl
@[simp] theorem Dev.onLcy_power (g : LcySt → LcySt) : (d.onLcy g).power = d.power := rfl
@[simp] theorem Dev.onLcy_host (g : LcySt → LcySt) : (d.onLcy g).host = d.host := rfl
@[simp] theorem Dev.onLcy_disp (g : LcySt → LcySt) : (d.onLcy g).disp = d.disp := rfl
@[simp] theorem Dev.onLcy_units (g : LcySt → LcySt) : (d.onLcy g).units = d.units := rfl
@[simp] theorem Dev.onLcy_hearths (g : LcySt → LcySt) : (d.onLcy g).hearths = d.hearths := rfl
@[simp] theorem Dev.onLcy_slices (g : LcySt → LcySt) : (d.onLcy g).slices = d.slices := rfl
@[simp] theorem Dev.onLcy_tamper (g : LcySt → LcySt) : (d.onLcy g).tamper = d.tamper := rfl
@[simp] theorem Dev.onLcy_backup (g : LcySt → LcySt) : (d.onLcy g).backup = d.backup := rfl
@[simp] theorem Dev.onLcy_mgmt (g : LcySt → LcySt) : (d.onLcy g).mgmt = d.mgmt := rfl
@[simp] theorem Dev.onLcy_dict (g : LcySt → LcySt) : (d.onLcy g).dict = d.dict := rfl
@[simp] theorem Dev.onLcy_vault (g : LcySt → LcySt) : (d.onLcy g).vault = d.vault := rfl
@[simp] theorem Dev.onLcy_bellows (g : LcySt → LcySt) : (d.onLcy g).bellows = d.bellows := rfl
@[simp] theorem Dev.onLcy_tiles (g : LcySt → LcySt) : (d.onLcy g).tiles = d.tiles := rfl
@[simp] theorem Dev.onLcy_lib (g : LcySt → LcySt) : (d.onLcy g).lib = d.lib := rfl
@[simp] theorem Dev.onLcy_quench (g : LcySt → LcySt) : (d.onLcy g).quench = d.quench := rfl
@[simp] theorem Dev.onLcy_monitors (g : LcySt → LcySt) : (d.onLcy g).monitors = d.monitors := rfl
@[simp] theorem Dev.onLcy_dbg (g : LcySt → LcySt) : (d.onLcy g).dbg = d.dbg := rfl
@[simp] theorem Dev.onLcy_boot (g : LcySt → LcySt) : (d.onLcy g).boot = d.boot := rfl
@[simp] theorem Dev.onLcy_out (g : LcySt → LcySt) : (d.onLcy g).out = d.out := rfl
@[simp] theorem Dev.onLcy_freeCtr (g : LcySt → LcySt) : (d.onLcy g).freeCtr = d.freeCtr := rfl
@[simp] theorem Dev.onDebug_dbg (g : DebugSt → DebugSt) : (d.onDebug g).dbg = g d.dbg := rfl
@[simp] theorem Dev.onDebug_time (g : DebugSt → DebugSt) : (d.onDebug g).time = d.time := rfl
@[simp] theorem Dev.onDebug_modes (g : DebugSt → DebugSt) : (d.onDebug g).modes = d.modes := rfl
@[simp] theorem Dev.onDebug_power (g : DebugSt → DebugSt) : (d.onDebug g).power = d.power := rfl
@[simp] theorem Dev.onDebug_host (g : DebugSt → DebugSt) : (d.onDebug g).host = d.host := rfl
@[simp] theorem Dev.onDebug_disp (g : DebugSt → DebugSt) : (d.onDebug g).disp = d.disp := rfl
@[simp] theorem Dev.onDebug_units (g : DebugSt → DebugSt) : (d.onDebug g).units = d.units := rfl
@[simp] theorem Dev.onDebug_hearths (g : DebugSt → DebugSt) : (d.onDebug g).hearths = d.hearths := rfl
@[simp] theorem Dev.onDebug_slices (g : DebugSt → DebugSt) : (d.onDebug g).slices = d.slices := rfl
@[simp] theorem Dev.onDebug_tamper (g : DebugSt → DebugSt) : (d.onDebug g).tamper = d.tamper := rfl
@[simp] theorem Dev.onDebug_backup (g : DebugSt → DebugSt) : (d.onDebug g).backup = d.backup := rfl
@[simp] theorem Dev.onDebug_mgmt (g : DebugSt → DebugSt) : (d.onDebug g).mgmt = d.mgmt := rfl
@[simp] theorem Dev.onDebug_dict (g : DebugSt → DebugSt) : (d.onDebug g).dict = d.dict := rfl
@[simp] theorem Dev.onDebug_vault (g : DebugSt → DebugSt) : (d.onDebug g).vault = d.vault := rfl
@[simp] theorem Dev.onDebug_bellows (g : DebugSt → DebugSt) : (d.onDebug g).bellows = d.bellows := rfl
@[simp] theorem Dev.onDebug_tiles (g : DebugSt → DebugSt) : (d.onDebug g).tiles = d.tiles := rfl
@[simp] theorem Dev.onDebug_lib (g : DebugSt → DebugSt) : (d.onDebug g).lib = d.lib := rfl
@[simp] theorem Dev.onDebug_quench (g : DebugSt → DebugSt) : (d.onDebug g).quench = d.quench := rfl
@[simp] theorem Dev.onDebug_monitors (g : DebugSt → DebugSt) : (d.onDebug g).monitors = d.monitors := rfl
@[simp] theorem Dev.onDebug_lcy (g : DebugSt → DebugSt) : (d.onDebug g).lcy = d.lcy := rfl
@[simp] theorem Dev.onDebug_boot (g : DebugSt → DebugSt) : (d.onDebug g).boot = d.boot := rfl
@[simp] theorem Dev.onDebug_out (g : DebugSt → DebugSt) : (d.onDebug g).out = d.out := rfl
@[simp] theorem Dev.onDebug_freeCtr (g : DebugSt → DebugSt) : (d.onDebug g).freeCtr = d.freeCtr := rfl
@[simp] theorem Dev.onBoot_boot (g : BootSt → BootSt) : (d.onBoot g).boot = g d.boot := rfl
@[simp] theorem Dev.onBoot_time (g : BootSt → BootSt) : (d.onBoot g).time = d.time := rfl
@[simp] theorem Dev.onBoot_modes (g : BootSt → BootSt) : (d.onBoot g).modes = d.modes := rfl
@[simp] theorem Dev.onBoot_power (g : BootSt → BootSt) : (d.onBoot g).power = d.power := rfl
@[simp] theorem Dev.onBoot_host (g : BootSt → BootSt) : (d.onBoot g).host = d.host := rfl
@[simp] theorem Dev.onBoot_disp (g : BootSt → BootSt) : (d.onBoot g).disp = d.disp := rfl
@[simp] theorem Dev.onBoot_units (g : BootSt → BootSt) : (d.onBoot g).units = d.units := rfl
@[simp] theorem Dev.onBoot_hearths (g : BootSt → BootSt) : (d.onBoot g).hearths = d.hearths := rfl
@[simp] theorem Dev.onBoot_slices (g : BootSt → BootSt) : (d.onBoot g).slices = d.slices := rfl
@[simp] theorem Dev.onBoot_tamper (g : BootSt → BootSt) : (d.onBoot g).tamper = d.tamper := rfl
@[simp] theorem Dev.onBoot_backup (g : BootSt → BootSt) : (d.onBoot g).backup = d.backup := rfl
@[simp] theorem Dev.onBoot_mgmt (g : BootSt → BootSt) : (d.onBoot g).mgmt = d.mgmt := rfl
@[simp] theorem Dev.onBoot_dict (g : BootSt → BootSt) : (d.onBoot g).dict = d.dict := rfl
@[simp] theorem Dev.onBoot_vault (g : BootSt → BootSt) : (d.onBoot g).vault = d.vault := rfl
@[simp] theorem Dev.onBoot_bellows (g : BootSt → BootSt) : (d.onBoot g).bellows = d.bellows := rfl
@[simp] theorem Dev.onBoot_tiles (g : BootSt → BootSt) : (d.onBoot g).tiles = d.tiles := rfl
@[simp] theorem Dev.onBoot_lib (g : BootSt → BootSt) : (d.onBoot g).lib = d.lib := rfl
@[simp] theorem Dev.onBoot_quench (g : BootSt → BootSt) : (d.onBoot g).quench = d.quench := rfl
@[simp] theorem Dev.onBoot_monitors (g : BootSt → BootSt) : (d.onBoot g).monitors = d.monitors := rfl
@[simp] theorem Dev.onBoot_lcy (g : BootSt → BootSt) : (d.onBoot g).lcy = d.lcy := rfl
@[simp] theorem Dev.onBoot_dbg (g : BootSt → BootSt) : (d.onBoot g).dbg = d.dbg := rfl
@[simp] theorem Dev.onBoot_out (g : BootSt → BootSt) : (d.onBoot g).out = d.out := rfl
@[simp] theorem Dev.onBoot_freeCtr (g : BootSt → BootSt) : (d.onBoot g).freeCtr = d.freeCtr := rfl

end Sys2Proof.Machine
end

