-- ==== Sys2Proof/Laws/Tab.lean ====
section
/-! SUPPORT. Reading a table after a write, and the canonical form of addressed memory, which every memory operation keeps. -/

namespace Sys2Proof.Machine

variable {κ α : Type} [DecidableEq κ]

@[simp] theorem tabGet?_nil (k : κ) : tabGet? k ([] : Tab κ α) = none := rfl

@[simp] theorem tabGet_nil (z : α) (k : κ) : tabGet z k ([] : Tab κ α) = z := rfl

theorem tabGet?_set (k j : κ) (v : α) (t : Tab κ α) : tabGet? j (tabSet k v t) = if k = j then some v else tabGet? j t := by
  induction t with
  | nil => simp [tabSet, tabGet?]
  | cons e r ih => by_cases h : e.1 = k <;> by_cases g : k = j <;> simp_all [tabSet, tabGet?]

@[simp] theorem tabGet?_set_same (k : κ) (v : α) (t : Tab κ α) : tabGet? k (tabSet k v t) = some v := by simp [tabGet?_set]

theorem tabGet?_set_other {k j : κ} (h : k ≠ j) (v : α) (t : Tab κ α) : tabGet? j (tabSet k v t) = tabGet? j t := by simp [tabGet?_set, h]

theorem tabGet_set (z : α) (k j : κ) (v : α) (t : Tab κ α) : tabGet z j (tabSet k v t) = if k = j then v else tabGet z j t := by
  simp only [tabGet, tabGet?_set]; split <;> rfl

@[simp] theorem tabGet_set_same (z : α) (k : κ) (v : α) (t : Tab κ α) : tabGet z k (tabSet k v t) = v := by simp [tabGet_set]

theorem tabGet_set_other (z : α) {k j : κ} (h : k ≠ j) (v : α) (t : Tab κ α) : tabGet z j (tabSet k v t) = tabGet z j t := by simp [tabGet_set, h]

theorem tabGet_mod (z : α) (k j : κ) (f : α → α) (t : Tab κ α) : tabGet z j (tabMod z k f t) = if k = j then f (tabGet z k t) else tabGet z j t :=
  tabGet_set z k j _ t

theorem tabGet?_erase (k j : κ) (t : Tab κ α) : tabGet? j (tabErase k t) = if k = j then none else tabGet? j t := by
  induction t with
  | nil => simp [tabErase]
  | cons e r ih =>
    unfold tabErase at *
    by_cases h : e.1 = k <;> by_cases g : k = j <;> by_cases i : e.1 = j <;> simp_all [tabGet?]

theorem tabGet?_map (f : κ → α → α) (k : κ) (t : Tab κ α) : tabGet? k (tabMap f t) = (tabGet? k t).map (f k) := by
  induction t with
  | nil => rfl
  | cons e r ih =>
    simp only [tabMap, List.map_cons, tabGet?] at *
    by_cases h : e.1 = k <;> simp [h, ih]

/-! ### Addressed memory -/

theorem cellsAbove_mono {lo hi : Nat} (h : lo ≤ hi) : ∀ l : List Host.Cell, cellsAbove hi l = true → cellsAbove lo l = true
  | [], _ => rfl
  | c :: r, e => by simp [cellsAbove] at *; exact ⟨by omega, e.2⟩

theorem cellsAbove_le {lo : Nat} : ∀ {l : List Host.Cell}, cellsAbove lo l = true → ∀ c ∈ l, lo ≤ c.1
  | [], _, _, h => by cases h
  | d :: r, e, c, h => by
    simp [cellsAbove] at e
    cases List.mem_cons.1 h with
    | inl h => subst h; exact e.1
    | inr h => have := cellsAbove_le e.2 c h; omega

theorem cellsAbove_filter (p : Host.Cell → Bool) {lo : Nat} : ∀ {l : List Host.Cell}, cellsAbove lo l = true → cellsAbove lo (l.filter p) = true
  | [], _ => rfl
  | c :: r, e => by
    simp [cellsAbove] at e
    have i := cellsAbove_filter p e.2
    by_cases h : p c
    · simp [h, cellsAbove, e.1, i]
    · simp [h]; exact cellsAbove_mono (by omega) _ i

theorem cellsAbove_put (a : Nat) (b : BitVec 8) {lo : Nat} (h : lo ≤ a) : ∀ {l : List Host.Cell}, cellsAbove lo l = true → cellsAbove lo (putCell a b l) = true := by
  intro l
  induction l generalizing lo with
  | nil => intro _; simp [putCell, cellsAbove, h]
  | cons c r ih =>
    intro e
    simp [cellsAbove] at e
    unfold putCell
    split
    · simp [cellsAbove, h, e.2]; omega
    · split
      · subst_vars; simp [cellsAbove, h, e.2]
      · simp [cellsAbove, e.1, ih (lo := c.1 + 1) (by omega) e.2]

theorem mem_putCell {a : Nat} {b : BitVec 8} {c : Host.Cell} : ∀ {l : List Host.Cell}, c ∈ putCell a b l → c = (a, b) ∨ c ∈ l
  | [], h => by simpa [putCell] using h
  | d :: r, h => by
    unfold putCell at h
    split at h
    · simpa using h
    · split at h
      · simp at h; rcases h with h | h <;> simp [h]
      · simp at h
        rcases h with h | h
        · simp [h]
        · rcases mem_putCell h with h | h <;> simp [h]

/-- Writing a byte keeps the canonical form. -/
theorem Memory.wf_put {m : Memory} (h : m.wf = true) (a : Nat) (b : BitVec 8) : (m.put a b).wf = true := by
  simp only [Memory.wf, Bool.and_eq_true, List.all_eq_true, decide_eq_true_eq] at h
  unfold Memory.put
  split
  · simp only [Memory.wf, Bool.and_eq_true, List.all_eq_true, decide_eq_true_eq]
    exact ⟨cellsAbove_filter _ h.1, fun c hc => h.2 c (List.mem_filter.1 hc).1⟩
  · rename_i n
    simp only [Memory.wf, Bool.and_eq_true, List.all_eq_true, decide_eq_true_eq]
    refine ⟨cellsAbove_put a b (Nat.zero_le a) h.1, fun c hc => ?_⟩
    rcases mem_putCell hc with e | e
    · subst e; exact n
    · exact h.2 c e

/-- Writing bytes keeps the canonical form. -/
theorem Memory.wf_write : ∀ (l : List (BitVec 8)) {m : Memory} (_ : m.wf = true) (a : Nat), (m.write a l).wf = true
  | [], _, h, _ => h
  | b :: r, _, h, a => Memory.wf_write r (Memory.wf_put h a b) (a + 1)

/-- Memory with nothing listed has the form. -/
@[simp] theorem Memory.wf_empty (z : Option Nat) : ({ scrub := z, cells := [] } : Memory).wf = true := rfl

theorem get_putCell (a x : Nat) (b : BitVec 8) : ∀ l : List Host.Cell, tabGet? x (putCell a b l) = if a = x then some b else tabGet? x l := by
  intro l
  induction l with
  | nil => simp [putCell, tabGet?]
  | cons c r ih =>
    unfold putCell
    split
    · simp [tabGet?]
    · split
      · subst_vars; by_cases g : c.1 = x <;> simp [tabGet?, g]
      · by_cases g : c.1 = x <;> by_cases k : a = x <;> simp_all [tabGet?]

@[simp] theorem Memory.put_fill (m : Memory) (a : Nat) (b : BitVec 8) : (m.put a b).fill = m.fill := by
  funext x; unfold Memory.put; split <;> rfl

/-- A byte written is the byte read there; every other byte stays. -/
theorem Memory.byte_put (m : Memory) (a x : Nat) (b : BitVec 8) : (m.put a b).byte x = if a = x then b else m.byte x := by
  unfold Memory.byte
  rw [Memory.put_fill]
  unfold Memory.put
  split
  · rename_i e
    show (tabGet? x (tabErase a m.cells)).getD _ = _
    rw [tabGet?_erase]
    split
    · rename_i g; subst g; simp [e]
    · rfl
  · show (tabGet? x (putCell a b m.cells)).getD _ = _
    rw [get_putCell]
    split <;> rfl

/-- Bytes written are read back in place; every byte outside them stays. -/
theorem Memory.byte_write (x : Nat) : ∀ (l : List (BitVec 8)) (m : Memory) (a : Nat),
    (m.write a l).byte x = if a ≤ x ∧ x < a + l.length then l.getD (x - a) 0 else m.byte x
  | [], m, a => by
    have h : ¬ (a ≤ x ∧ x < a + ([] : List (BitVec 8)).length) := by simp only [List.length_nil]; omega
    rw [if_neg h]; unfold Memory.write; rfl
  | b :: r, m, a => by
    rw [Memory.write, Memory.byte_write x r (m.put a b) (a + 1), Memory.byte_put]
    by_cases e : a = x
    · subst e
      have k : ¬ (a + 1 ≤ a ∧ a < a + 1 + r.length) := by omega
      rw [if_neg k]; simp
    · by_cases g : a + 1 ≤ x ∧ x < a + 1 + r.length
      · have k : x - a = (x - (a + 1)) + 1 := by omega
        have l : a ≤ x ∧ x < a + (r.length + 1) := by omega
        rw [if_pos g, List.length_cons, if_pos l, k]; rfl
      · have k : ¬ (a ≤ x ∧ x < a + (r.length + 1)) := by omega
        simp only [List.length_cons, if_neg g, if_neg e, if_neg k]

@[simp] theorem Memory.read_length (m : Memory) (a n : Nat) : (m.read a n).length = n := by simp [Memory.read]

end Sys2Proof.Machine
end

