-- ==== Sys2Proof/Laws/Ops.lean ====
section
/-! SUPPORT. What each shared operation on the device can do: reading a numbered part after a write of it, running a command, and the part numbers that do
not exist. -/

namespace Sys2Proof.Machine

/-! ### Numbered parts -/

theorem Dev.num_setNum (d : Dev) (p q : Param) (r i v : Nat) : (d.setNum p r v).num q i = if p = q ∧ r = i then v else d.num q i := by
  show tabGet _ (q, i) (tabSet (p, r) v d.dict.nums) = _
  rw [tabGet_set]; simp [Prod.ext_iff]; rfl

@[simp] theorem Dev.num_setNum_same (d : Dev) (p : Param) (r v : Nat) : (d.setNum p r v).num p r = v := by simp [Dev.num_setNum]

theorem Dev.oct_setOct (d : Dev) (p q : Param) (r i : Nat) (v : Bytes) : (d.setOct p r v).oct q i = if p = q ∧ r = i then v else d.oct q i := by
  show tabGet _ (q, i) (tabSet (p, r) v d.dict.octs) = _
  rw [tabGet_set]; simp [Prod.ext_iff]; rfl

@[simp] theorem Dev.oct_setNum (d : Dev) (p q : Param) (r i v : Nat) : (d.setNum p r v).oct q i = d.oct q i := rfl
@[simp] theorem Dev.num_setOct (d : Dev) (p q : Param) (r i : Nat) (v : Bytes) : (d.setOct p r v).num q i = d.num q i := rfl

theorem Dev.unit_onUnit (d : Dev) (u v : Nat) (f : Unit → Unit) : (d.onUnit u f).unit v = if u = v then f (d.unit u) else d.unit v :=
  tabGet_set _ u v _ _

theorem Dev.qp_onQp (d : Dev) (q p : Nat) (f : Qp → Qp) : (d.onQp q f).qp p = if q = p then f (d.qp q) else d.qp p := tabGet_set _ q p _ _

theorem Dev.sliceSt_onSlice (d : Dev) (i j : Nat) (f : SliceSt → SliceSt) : (d.onSlice i f).sliceSt j = if i = j then f (d.sliceSt i) else d.sliceSt j :=
  tabGet_set _ i j _ _

theorem Dev.tile_onTile (d : Dev) (t u : Nat) (f : TileSt → TileSt) : (d.onTile t f).tile u = if t = u then f (d.tile t) else d.tile u :=
  tabGet_set _ t u _ _

theorem Dev.rail_onRail (d : Dev) (r k : Nat) (f : RailSt → RailSt) : (d.onRail r f).rail k = if r = k then f (d.rail r) else d.rail k :=
  tabGet_set _ r k _ _

theorem Dev.noise_onNoise (d : Dev) (i k : Nat) (f : NoiseSource → NoiseSource) : (d.onNoise i f).noise k = if i = k then f (d.noise i) else d.noise k :=
  tabGet_set _ i k _ _

theorem Dev.inst_onInst (d : Dev) (i k : Nat) (f : Drbg → Drbg) : (d.onInst i f).inst k = if i = k then f (d.inst i) else d.inst k :=
  tabGet_set _ i k _ _

theorem Dev.q_onQ (d : Dev) (t u : Nat) (f : QuenchSt → QuenchSt) : (d.onQ t f).q u = if t = u then f (d.q t) else d.q u := tabGet_set _ t u _ _

theorem Dev.root_onRoot (d : Dev) (i k : Nat) (f : SliceRoot → SliceRoot) : (d.onRoot i f).root k = if i = k then f (d.root i) else d.root k :=
  tabGet_set _ i k _ _

theorem Dev.node?_onNode (d : Dev) (n k : Nat) (f : Node → Node) : (d.onNode n f).node? k = if n = k then (d.node? n).map f else d.node? k := by
  unfold Dev.onNode
  cases h : d.node? n with
  | none => by_cases e : n = k <;> simp_all
  | some x =>
    show tabGet? k (tabSet n (f x) d.vault.nodes) = _
    rw [tabGet?_set]; rfl

theorem Dev.req?_onReq (d : Dev) (r k : Nat) (f : Request → Request) : (d.onReq r f).req? k = if r = k then (d.req? r).map f else d.req? k := by
  unfold Dev.onReq
  cases h : d.req? r with
  | none => by_cases e : r = k <;> simp_all
  | some x =>
    show tabGet? k (tabSet r (f x) d.disp.reqs) = _
    rw [tabGet?_set]; rfl

theorem Dev.job?_onJob (d : Dev) (j k : Nat) (f : Job → Job) : (d.onJob j f).job? k = if j = k then (d.job? j).map f else d.job? k := by
  unfold Dev.onJob
  cases h : d.job? j with
  | none => by_cases e : j = k <;> simp_all
  | some x =>
    show tabGet? k (tabSet j (f x) d.disp.jobs) = _
    rw [tabGet?_set]; rfl

/-! ### Running a command -/

theorem State.run_eq (s : State) (f : Dev → Dev) : s.run f = .next (s.withDev (f s.dev)) := rfl

theorem State.runPart_lt {s : State} {n count : Nat} (h : n < count) (f : Dev → Dev) : s.runPart n count f = .next (s.withDev (f s.dev)) := by
  simp [State.runPart, h, State.run_eq]

theorem State.runPart_ge {s : State} {n count : Nat} (h : count ≤ n) (f : Dev → Dev) : s.runPart n count f = .fault (.noSuchPart n) := by
  simp [State.runPart, Nat.not_lt.2 h]

@[simp] theorem State.withDev_dev (s : State) (d : Dev) : (s.withDev d).dev = d := rfl
@[simp] theorem State.withDev_pending (s : State) (d : Dev) : (s.withDev d).pending = s.pending := rfl
@[simp] theorem State.withDev_self (s : State) : s.withDev s.dev = s := rfl

end Sys2Proof.Machine
end

