-- ==== Sys2Proof/Laws/Manage.lean ====
section
/-! SUPPORT. What serving a request can do, once for all commands of the dictionary. -/

namespace Sys2Proof.Machine

/-- A granted request has its effect, and is answered where the effect answers. -/
theorem Dev.serve_granted {d : Dev} {p : Param} {m : Msg} (h : d.granted p m = true) (offset : Nat) (w : Bool) (eff : Effect) :
    d.serve d.lc p offset m w eff =
      match eff d m with
      | (some r, e) => e.respondTo m.src m.reqId.toNat r
      | (none, e) => e.hears m.src := by
  unfold Dev.granted at h
  unfold Dev.serve
  simp only [Bool.and_eq_true] at h
  obtain ⟨⟨⟨h1, h2⟩, h3⟩, h4⟩ := h
  have e2 : d.repeated m.src m.reqId.toNat = none := Option.isNone_iff_eq_none.1 h2
  have e3 : (d.alone d.lc m.src && p != P.scgAnchors) = false := by
    cases ha : d.alone d.lc m.src <;> simp_all
  simp only [h1, e2, e3, Bool.not_true, Bool.false_eq_true, if_false]
  cases hc : catFind p with
  | none => simp [hc] at h4
  | some r =>
    simp only [hc, Bool.and_eq_true] at h4
    obtain ⟨h5, h6⟩ := h4
    have e5 : (!r.rowOk m.row.toNat && r.kind != .cmd) = false := by
      cases hr : r.rowOk m.row.toNat
      · simp [hr] at h5; simp [h5]
      · simp
    simp only [e5, Bool.false_eq_true, if_false]
    cases hd : d.mayDo d.lc m.src p (r.index m.row.toNat) true m.body with
    | none => simp [hd] at h6
    | some dual =>
      simp only [hd] at h6
      have e6 : (dual && !d.alone d.lc m.src) = false := by
        cases dual <;> simp_all
      refine Eq.trans (if_neg (by simp [e6])) ?_
      cases eff d m with
      | mk a e => cases a <;> rfl

/-- A sender the device does not hear changes nothing. -/
theorem Dev.serve_unheard {d : Dev} {m : Msg} (h : d.heard m.src = false) (lc : Nat) (p : Param) (offset : Nat) (w : Bool) (eff : Effect) :
    d.serve lc p offset m w eff = d := by
  simp [Dev.serve, h]

/-- What a granted request leaves, for every command that serves its parameter. -/
theorem serve_exec {c : Msg → Instr} {p : Param} {off : Msg → Nat} {w : Bool} {eff : Effect}
    (h : ∀ m s, exec (c m) s = s.run (fun d => d.serve d.lc p (off m) m w eff)) {s : State} {m : Msg} (g : s.dev.granted p m = true) :
    exec (c m) s = .next (s.withDev (match eff s.dev m with
      | (some r, e) => e.respondTo m.src m.reqId.toNat r
      | (none, e) => e.hears m.src)) := by
  rw [h, State.run_eq, Dev.serve_granted g]

/-- What the CONFIRM of a ticket leaves: the effect of its action on the device without the ticket. -/
theorem confirm_exec {s : State} {k : Msg} {t : Ticket} (h : s.dev.confirms k t = true) :
    exec (.confirm k) s = .next (s.withDev (match effectOf t.param t.offset (s.dev.confirmed k t) { t.msg with src := k.src, reqId := k.reqId } with
      | (some r, e) => e.respondTo k.src k.reqId.toNat r
      | (none, e) => e.hears k.src)) := by
  unfold Dev.confirms at h
  simp only [Bool.and_eq_true, decide_eq_true_eq, beq_iff_eq] at h
  obtain ⟨⟨⟨⟨⟨⟨h1, h2⟩, h3⟩, h4⟩, h5⟩, h6⟩, h7⟩ := h
  have e2 : s.dev.repeated k.src k.reqId.toNat = none := Option.isNone_iff_eq_none.1 h2
  have e3 : s.dev.alone s.dev.lc k.src = false := by simpa using h3
  cases hs : k.src with
  | slicePage i => simp [hs] at h7
  | devicePage => simp [hs] at h7
  | session n =>
    rw [hs] at h1 e2 e3 h7
    cases hx : tabGet? n s.dev.mgmt.sessions with
    | none => simp [hx] at h7
    | some x =>
      simp only [hx, Bool.and_eq_true, bne_iff_ne, ne_eq, Bool.not_eq_true', beq_iff_eq] at h7
      obtain ⟨⟨h8, h9⟩, h10⟩ := h7
      show (s.run (fun d => Sys2Proof.Machine.confirm k d)) = _
      rw [State.run_eq]
      have : Sys2Proof.Machine.confirm k s.dev = s.dev.runTicket t k := by
        unfold Sys2Proof.Machine.confirm
        simp only [hs, h1, e2, hx, e3, h8, h9, h4, Bool.not_true, Bool.false_eq_true, if_false, bne_self_eq_false, Bool.or_self]
        have h6' : s.dev.mgmt.tickets.find? (fun t => t.number == leAt 0 4 k.body && decide (s.dev.now ≤ t.requested + ticketTicks)) = some t := h6
        rw [h6']
        simp [h10, h5]
      rw [this]
      unfold Dev.runTicket Dev.confirmed
      simp only [hs]
      all_goals (cases effectOf t.param t.offset _ _ with | mk a e => cases a <;> rfl)

/-- A command whose effect is its entry in the table of effects runs as the effect says, granted or confirmed. -/
theorem runs_of {c : Msg → Instr} {p : Param} {off : Msg → Nat} {w : Bool} {eff : Effect} {pre : Dev → Msg → Prop}
    {post : State → Dev → Msg → Host.Outcome State Fault Refusal} (h : ∀ m s, exec (c m) s = s.run (fun d => d.serve d.lc p (off m) m w eff))
    (q : dualControlled p = true → effectOf p 0 = eff)
    (e : ∀ s d m, pre d m → post s d m = .next (s.withDev (match eff d m with
      | (some r, u) => u.respondTo m.src m.reqId.toNat r
      | (none, u) => u.hears m.src))) : Runs c p pre post := by
  refine ⟨fun s m g a => ?_, fun s k t hp hk ht ho a => ?_⟩
  · rw [serve_exec h g, e _ _ _ a]
  · rw [confirm_exec hk, ht, ho, q hp, e _ _ _ a]

/-- An effect that answers OK makes a command that accepts. -/
theorem accepts_of {c : Msg → Instr} {p : Param} {off : Msg → Nat} {w : Bool} {eff : Effect} {pre : Dev → Msg → Prop} {post : Dev → Msg → Dev}
    (h : ∀ m s, exec (c m) s = s.run (fun d => d.serve d.lc p (off m) m w eff)) (q : dualControlled p = true → effectOf p 0 = eff)
    (e : ∀ d m, pre d m → eff d m = (some Reply.ok, post d m)) : Accepts c p pre post :=
  runs_of h q (fun s d m a => by rw [e d m a]; rfl)

/-- An effect that answers with data makes a command that returns them. -/
theorem returns_of {c : Msg → Instr} {p : Param} {off : Msg → Nat} {w : Bool} {eff : Effect} {pre : Dev → Msg → Prop} {data : Dev → Msg → Bytes}
    {post : Dev → Msg → Dev} (h : ∀ m s, exec (c m) s = s.run (fun d => d.serve d.lc p (off m) m w eff)) (q : dualControlled p = true → effectOf p 0 = eff)
    (e : ∀ d m, pre d m → eff d m = (some (Reply.data' (data d m)), post d m)) : Returns c p pre data post :=
  runs_of h q (fun s d m a => by rw [e d m a]; rfl)

/-- An effect that does not answer makes a command that defers. -/
theorem defers_of {c : Msg → Instr} {p : Param} {off : Msg → Nat} {w : Bool} {eff : Effect} {pre : Dev → Msg → Prop} {post : Dev → Msg → Dev}
    (h : ∀ m s, exec (c m) s = s.run (fun d => d.serve d.lc p (off m) m w eff)) (q : dualControlled p = true → effectOf p 0 = eff)
    (e : ∀ d m, pre d m → eff d m = (none, post d m)) : Defers c p pre post :=
  runs_of h q (fun s d m a => by rw [e d m a])

/-- An effect that only answers makes a command that refuses. -/
theorem refuses_of {c : Msg → Instr} {p : Param} {off : Msg → Nat} {w : Bool} {eff : Effect} {pre : Dev → Msg → Prop} {r : Reply}
    (h : ∀ m s, exec (c m) s = s.run (fun d => d.serve d.lc p (off m) m w eff)) (q : dualControlled p = true → effectOf p 0 = eff)
    (e : ∀ d m, pre d m → eff d m = (some r, d)) : Refuses c p pre r :=
  runs_of h q (fun s d m a => by rw [e d m a]; rfl)

end Sys2Proof.Machine
end

