-- ==== Sys2Proof/Laws/Tile.lean ====
section
/-! SUPPORT. What one instruction of a tile can do. -/

namespace Sys2Proof.Machine

/-- Good words are all that is read. -/
theorem good_words {w : WordCheck} (h : w.all wordGood = true) : w.takeWhile wordGood = w ∧ w.dropWhile wordGood = [] := by
  induction w with
  | nil => exact ⟨rfl, rfl⟩
  | cons x l ih =>
    simp only [List.all_cons, Bool.and_eq_true] at h
    simp [h.1, ih h.2]

/-- Counting corrected words and taking an index of free values commute. -/
theorem count_fresh (d : Dev) (t n : Nat) : d.fresh.2.countCorrected t n = (d.countCorrected t n).fresh.2 := by
  unfold Dev.countCorrected; split <;> rfl

/-- An instruction of a ready tile whose words are good runs, with one free index used; one that draws from a stalled spark generator waits. -/
theorem run_tile {s : State} {t n : Nat} {w : WordCheck} {op : TileOp} (h : s.tileReady t) (g : w.all wordGood = true) :
    s.runPart t nTiles (fun d => d.tileRun t n w op) =
      .next (if s.dev.sparkOut t && (op (s.dev.tileCtx t) (s.dev.tile t)).draws then s.sparkStall t n w
        else { s with dev := (s.reads t w).dev.fresh.2.tileEnd t n (op (s.dev.tileCtx t) (s.dev.tile t)) }) := by
  obtain ⟨h1, h2⟩ := h
  obtain ⟨a, b⟩ := good_words g
  simp only [State.runPart, State.run, h1, Dev.tileRun, h2, if_true, Bool.not_true, Bool.false_eq_true, if_false, Dev.tileWords, a, b, State.reads, count_fresh]
  split <;> rfl

/-- A checked instruction ends in its first fault, completes, or waits. -/
theorem run_checked {s : State} {t n : Nat} {w : WordCheck} {op : TileOp} {l : List (Bool × Nat)} {z : TileSt} {cyc sp : Nat} (h : s.tileReady t)
    (g : w.all wordGood = true) (e : op (s.dev.tileCtx t) (s.dev.tile t) = checked l (s.dev.tile t) (z.next cyc sp)) :
    s.runPart t nTiles (fun d => d.tileRun t n w op) = .next (s.tileOutcome t n w l z cyc sp) := by
  rw [run_tile h g, e]
  unfold checked State.tileOutcome firstFault
  cases l.find? (fun c => c.1) with
  | none =>
    simp only [TileSt.next, TileOut.draws, Option.map_none, decide_eq_true_eq, Bool.and_eq_true, and_comm]
    rfl
  | some c => simp [TileOut.draws, State.programFault]; rfl

/-- One past its checks completes, or waits. -/
theorem run_ok {s : State} {t n : Nat} {w : WordCheck} {op : TileOp} {z : TileSt} {cyc sp : Nat} (h : s.tileReady t) (g : w.all wordGood = true)
    (e : op (s.dev.tileCtx t) (s.dev.tile t) = z.next cyc sp) : s.runPart t nTiles (fun d => d.tileRun t n w op) = .next (s.completes t n w z cyc sp) :=
  run_checked (l := []) h g e

/-- One that stops ends its operation. -/
theorem run_stop {s : State} {t n : Nat} {w : WordCheck} {op : TileOp} {st : Nat} (h : s.tileReady t) (g : w.all wordGood = true)
    (e : op (s.dev.tileCtx t) (s.dev.tile t) = .stop (s.dev.tile t) st) : s.runPart t nTiles (fun d => d.tileRun t n w op) = .next (s.fails t n w st) := by
  rw [run_tile h g, e]
  simp [TileOut.draws, State.fails, State.programFault]
  rfl

/-- The same of a vector instruction. -/
theorem run_vchecked {s : State} {t n : Nat} {w : WordCheck} {op : TileOp} {l : List (Bool × Nat)} {z : TileSt} {cyc sp : Nat} (h : s.tileReady t)
    (g : w.all wordGood = true) (e : op (s.dev.tileCtx t) (s.dev.tile t) = vchecked l (s.dev.tile t) (z.next cyc sp)) :
    s.runPart t nTiles (fun d => d.tileRun t n w op) = .next (s.vectorOutcome t n w l z cyc sp) := by
  unfold vchecked at e
  unfold State.vectorOutcome
  dsimp only
  by_cases c : (s.dev.tile t).vstart < (s.dev.tile t).vl
  · rw [if_neg (by omega)] at e
    rw [if_pos c]; exact run_checked h g e
  · rw [if_pos (by omega)] at e
    rw [if_neg c]; exact run_checked h g e

/-- Two outcomes with the same first fault and the same tile are the same. -/
theorem out_congr {s : State} {t n : Nat} {w : WordCheck} {l l' : List (Bool × Nat)} {z z' : TileSt} {cyc sp : Nat} (e : firstFault l = firstFault l') (ez : z = z') :
    (Host.Outcome.next (s.tileOutcome t n w l z cyc sp) : Host.Outcome State Fault Refusal) = .next (s.tileOutcome t n w l' z' cyc sp) := by
  subst ez; unfold State.tileOutcome; rw [e]

end Sys2Proof.Machine
end

