-- ==== Sys2Proof/Tests/Slice0.lean ====
section
/-! SUPPORT. Small tests of one command each, with expected values worked out from the spec, and for the statements concrete states and operands that
meet their hypotheses. -/

namespace Sys2Proof.Tests

set_option Elab.async false

open Sys2Proof.Machine

/-! ### States -/

/-- The machine after reset with its device changed. -/
def dev (f : Dev → Dev) : State := { State.reset with dev := f Dev.reset }

/-- The device that a command leaves. -/
def after (c : Instr) (s : State) : Dev := match exec c s with | .next u => u.dev | .fault _ => s.dev | .refused _ => s.dev

/-- Fields of format V with no public B. -/
def vf (d a b : BitVec 5) : VFields := { d := d, a := a, b := b, pb := false }
/-- Fields of format M with no planes of its own. -/
def mf (d a b : BitVec 5) : MFields := { d := d, a := a, b := b, sp := false }
/-- Fields of format L. -/
def lf (d a b : BitVec 5) : LFields := { d := d, a := a, b := b, pb := false }

/-- Tile 0 with its state changed. -/
def tile (f : TileSt → TileSt) : State := dev (fun d => d.onTile 0 f)

/-- A request of an opcode. -/
def req (op : Nat) : Request :=
  { slice := 0, qp := 0, number := 0, seq := 0, accept := 0, deadline := none, gen := 0,
    desc := { opcode := op, flags := 0, profile := 0, tag := 0, deadlineUs := 0, flow := 0, byte15 := 0, keyA := 0, keyB := 0, inPtr := 0, inLen := 0,
              outCap := 64, outPtr := 0, aux := 0 }
    input := [1, 2, 3, 4, 5, 6, 7, 8]
    read := { readable := true, desc := [], list := [], input := [], inputReadable := true, pagesTranslate := true }
    policy := { maskDefault := 0, strikeSign := 0, strikeKem := 0, strikeHammer := 0, childExport := false, statefulBlock := 0, statefulLow := 0 }
    reserved := 0, phase := .inService, keysReady := true, draw := none, retried := false, shadowed := false, stretched := false, mismatches := 0,
    unitFaults := 0, excluded := [], keyGens := [], index := none, halfFail := none, halves := [], released := false, reissued := false, completion := none, asked := false }

/-- A job of request 7 begun on a unit. -/
def job (u : Nat) : Job :=
  { req := 7, kind := .first, unit := u, epoch := 0, start := 0, stop := none, order := 0, keyReady := true, drawReady := true, result := none, abort := none,
    held := false, finished := false, begun := some 0, reported := false, expect := none, copy := none }

/-- Job 3, of request 7, runs on a unit. -/
def working (u : Nat) (x : Job) (q : Request) : State :=
  dev (fun d => (d.onDisp (fun y => { y with reqs := [(7, q)], jobs := [(3, x)] })).onUnit u (fun y => { y with pool := .inPool, job := some 3 }))

/-! ### Well-formed commands -/

theorem test_wellFormed_takes : (Instr.sadd 127 ⟨vf 1 2 3, []⟩).wellFormed = true ∧ (Instr.keyLoadDone 175).wellFormed = true ∧
    (Instr.sqDoorbell 4095 0 1).wellFormed = true ∧ (Instr.railBelowReset 6 0).wellFormed = true ∧ (Instr.confirm ⟨.devicePage, 0, 0, []⟩).wellFormed = true := by
  decide

theorem test_wellFormed_refuses_parts : (Instr.sadd 128 ⟨vf 1 2 3, []⟩).wellFormed = false ∧ (Instr.keyLoadDone 176).wellFormed = false ∧
    (Instr.sqDoorbell 4096 0 1).wellFormed = false ∧ (Instr.msixUnmask (some 8192)).wellFormed = false ∧ (Instr.recordPublish 65536).wellFormed = false ∧
    (Instr.sliceResetComplete 4096).wellFormed = false ∧ (Instr.sourceStartupTestEnd 8 []).wellFormed = false ∧ (Instr.drbgReseedDue 17).wellFormed = false ∧
    (Instr.monWindowExpire 1373).wellFormed = false ∧ (Instr.domainDrained 21).wellFormed = false ∧ (Instr.railBelowReset 7 0).wellFormed = false ∧
    (Instr.railSampleTick 8 0).wellFormed = false ∧ (Instr.clockShortCycle 6).wellFormed = false ∧ (Instr.temperatureSample 20 0).wellFormed = false := by
  decide

/-! ### Tiles: results -/

theorem test_sadd_wraps : ((after (.sadd 0 ⟨vf 1 2 3, []⟩) (tile (fun y => { y with s := [(2, 2 ^ 64 - 1), (3, 2)] }))).tile 0).sget 1 = 1 := by decide +kernel

theorem test_s0_reads_zero : ((after (.sadd 0 ⟨vf 0 2 3, []⟩) (tile (fun y => { y with s := [(2, 5), (3, 2)] }))).tile 0).sget 0 = 0 := by decide +kernel

theorem test_ssra_signs : ((after (.ssra 0 ⟨vf 1 2 3, []⟩) (tile (fun y => { y with s := [(2, 2 ^ 63), (3, 4)] }))).tile 0).sget 1 = 0xF800000000000000 := by
  decide +kernel

theorem test_slih_lane : ((after (.slih 0 ⟨{ d := 1, a := 2, imm := 0xABCD }, []⟩) (tile (fun y => { y with s := [(1, 0x1111222233334444)] }))).tile 0).sget 1 =
    0x1111ABCD33334444 := by decide +kernel

theorem test_beq_not_taken : ((after (.beq 0 ⟨{ a := 1, b := 2, off := 7 }, []⟩) (tile (fun y => { y with pc := 8, s := [(1, 5)] }))).tile 0).pc = 12 := by decide +kernel

theorem test_jal_outside_code : (((after (.jal 0 ⟨(-1), []⟩) (working 0 (job 0) (req 0x1131))).job? 3).bind Job.result).map JobResult.status = some 0x080B := by
  decide +kernel

theorem test_sld_little_endian : ((after (.sld 0 { d := 1, a := 0, imm := 8 } [])
    (tile (fun y => { y with mem := y.mem.write 8 [1, 2, 0, 0, 0, 0, 0, 0x80] }))).tile 0).sget 1 = 0x8000000000000201 := by decide +kernel

theorem test_sst_at_the_end : ((after (.sst 0 ⟨{ d := 1, a := 2, imm := -8 }, []⟩) (tile (fun y => { y with s := [(1, 0x0102), (2, 0x40000)] }))).tile 0).mem =
    { scrub := none, cells := [(0x3FFF8, 2), (0x3FFF9, 1)] } := by decide +kernel

theorem test_vsetvli_caps : ((after (.vsetvli 0 ⟨{ d := 1, a := 0, imm := 100 }, []⟩) (tile id)).tile 0).sget 1 = 16 := by decide +kernel

theorem test_vmmul_reduces :
    (((after (.vmmul 0 false ⟨vf 3 1 2, []⟩) (tile (fun y => { y with vl := 1, m := [(0, ⟨0, 3329, 0⟩)], v := [((0, 1), natLE 64 3328), ((0, 2), natLE 64 3328)] }))).tile 0).elem
      0 3 0) = 1 := by decide +kernel

theorem test_vziplo :
    let z := tile (fun y => { y with vl := 4, v := [((0, 1), [10, 0, 0, 0, 11, 0, 0, 0] ++ zeros 56), ((0, 2), [20, 0, 0, 0, 21, 0, 0, 0] ++ zeros 56)] })
    (List.range 4).map (fun i => ((after (.vziplo 0 ⟨vf 3 1 2, []⟩) z).tile 0).elem 0 3 i) = [10, 20, 11, 21] := by decide +kernel

theorem test_gfmul_aes : gfMul { kind := 1, value := 0x8001B, aux := 0 } 0x57 0x83 = 0xC1 := by decide +kernel

theorem test_sha256_abc : (Sha2.sha256 [0x61, 0x62, 0x63]).take 4 = [0xBA, 0x78, 0x16, 0xBF] := by decide +kernel

theorem test_tileDone : ((after (.tileDone 0 ⟨vf 0 1 0, []⟩) (dev (fun _ => (working 0 (job 0) (req 0x1131)).dev.onTile 0 (fun y => { y with s := [(1, 3)], staged := [9, 8] })))).job? 3).bind
    Job.result = some { status := 0, output := [9, 8, 0], mismatch := false, secret := [] } := by decide +kernel

theorem test_illegal_ends : ((after (.illegalInstruction 0 0) (working 0 (job 0) (req 0x1131))).job? 3).bind Job.result =
    some { status := 0x0801, output := [], mismatch := false, secret := [] } := by decide +kernel

/-! ### Tiles: hypotheses -/

theorem witness_ScalarInstructions : State.reset.tileReady 0 ∧ State.reset.tileReady 127 ∧ (7 < 8) ∧
    (let at' := 0x3FFF8; (0x3FFF7 < at' ∨ at' + 8 ≤ 0x3FFF7) ∧ (0x40000 < at' ∨ at' + 8 ≤ 0x40000)) := by unfold State.tileReady; decide +kernel

theorem witness_BranchesAndScalarZero : State.reset.tileReady 127 ∧ ∃ y : TileSt, (y.sset 0 5) = y ∧ (y.sset 31 5).sget 31 = 5 :=
  ⟨by unfold State.tileReady; decide +kernel, TileSt.reset, by decide +kernel, by decide +kernel⟩

theorem witness_VectorElements :
    let y := { TileSt.reset with vl := 16 }
    (15 < 64 / y.ebytes) ∧ (mf 31 0 0).sp = false ∧ (mf 31 0 0).d.toNat + subFields 0 - 1 ≤ 31 ∧ y.vstart ≤ 15 ∧ 15 < y.vl ∧ 0 < subFields 0 := by decide

/-- ScalarInstructions, VectorInteger, VectorModularAndField, PermutationsAndButterflies, VectorMemoryInstructions and SystemInstructions ask for a ready
tile and words that are good: none erroneous, or two erroneous symbols at most. -/
theorem witness_ready_tiles : (∀ t < 128, State.reset.tileReady t) ∧ ([] : WordCheck).all wordGood = true ∧ ([⟨.slot 7, 0, 2, 0⟩, ⟨.registerFile, 0, 1, 0⟩] : WordCheck).all wordGood = true := by
  unfold State.tileReady; decide +kernel

theorem witness_SystemInstructions_running : (working 5 (job 5) (req 0x1131)).tileReady 5 ∧
    ((working 5 (job 5) (req 0x1131)).dev.running 5).map (fun r => r.2.1.abort) = some none := by unfold State.tileReady; decide +kernel

theorem witness_VectorMemoryInstructions_checked_words :
    (opVload 0 (mf 1 0 0) (State.reset.dev.tileCtx 0) (State.reset.dev.tile 0) matches .ok _ _ _) = true ∧
    (opSld { d := 1, a := 0, imm := 0 } (State.reset.dev.tileCtx 0) (State.reset.dev.tile 0) matches .ok _ _ _) = true ∧
    (opKlv (vf 1 0 0) (State.reset.dev.tileCtx 0) { State.reset.dev.tile 0 with vtype := 2 } matches .ok _ _ _) = true ∧
    State.reset.tileReady 0 ∧ wordGood ⟨.tileMemory, 3, 3, 2⟩ = false ∧ wordGood ⟨.registerFile, 0, 5, 5⟩ = false ∧ ([⟨.tileMemory, 4, 2, 0⟩] : WordCheck).all wordGood = true ∧
    ¬ (State.reset.dev.sparkOut 0 = true ∧ (opSld { d := 1, a := 0, imm := 0 } (State.reset.dev.tileCtx 0) (State.reset.dev.tile 0)).draws = true) ∧
    faultFirst (iWord 0x0A { d := 1, a := 0, imm := 0 }) 0 (opSld { d := 1, a := 0, imm := 0 }) (State.reset.dev.tileCtx 0) (State.reset.dev.tile 0) = false ∧
    faultFirst (iWord 0x0A { d := 1, a := 0, imm := 1 }) 0 (opSld { d := 1, a := 0, imm := 1 }) (State.reset.dev.tileCtx 0) (State.reset.dev.tile 0) = true := by
  unfold State.tileReady; decide +kernel

theorem witness_LongVector : State.reset.tileReady 0 ∧ (State.reset.dev.tile 0).lv = 0 := by unfold State.tileReady; decide +kernel

theorem witness_LongVectorPower :
    let gated := tile (fun y => { y with lv := 1 })
    let waiting := tile (fun y => { y with lv := 3, lvWaiting := some (13, lf 1 2 3, []) })
    let clocked := dev (fun d => (d.setNum P.vecAutogate 0 1).onTime (fun t => { t with dev := 1024 }))
    let auto := dev (fun d => (d.onPower (fun p => { p with domains := [(12, .autoOff)] })).onTile 0 (fun y => { y with lv := 2 }))
    (gated.dev.tile 0).lvWaiting = none ∧ (gated.dev.tile 0).lv ≠ 0 ∧
    (waiting.dev.tile 0).lv ≠ 0 ∧ (waiting.dev.tile 0).lvWaiting = some (13, lf 1 2 3, []) ∧ waiting.dev.domain (12 + quadOf 0) ≠ .autoOff ∧
    (auto.dev.tile 0).lv ≠ 0 ∧ (auto.dev.tile 0).lvWaiting = none ∧ auto.dev.domain (12 + quadOf 0) = .autoOff ∧
    clocked.dev.num P.vecAutogate 0 ≠ 0 ∧ (clocked.dev.tile 0).lv = 0 ∧ clocked.dev.num P.vecIdleCycles 0 ≤ 16 * (clocked.dev.now - (clocked.dev.tile 0).lvSince) ∧ (State.reset.dev.tile 0).lvWaiting = none ∧ (State.reset.dev.tile 0).lv = 0 ∧
    State.reset.dev.num P.vecAutogate 0 = 0 ∧ gated.dev.issues 0 = true := by decide +kernel

/-- POWER: every unit of quadrant 3 is gated and has idled again. -/
theorem witness_LongVectorPower_off :
    let s := dev (fun d => (quadTiles 3).foldl (fun x u => x.onTile u (fun y => { y with lv := 1, lvSince := 0 })) ((d.setNum P.vecAutogate 0 2).onTime (fun t => { t with dev := 1024 })))
    s.dev.num P.vecAutogate 0 = 2 ∧ (s.dev.tile 127).lvWaiting = none ∧ s.dev.domain (12 + quadOf 127) = .on ∧
    (∀ u ∈ quadTiles (quadOf 127), (s.dev.tile u).lv = 1 ∧ s.dev.num P.vecIdleCycles 0 ≤ 16 * (s.dev.now - (s.dev.tile u).lvSince)) := by decide +kernel

/-- A Keccak core of rate 136, absorbing, masked where asked. -/
def core (masked squeezing : Bool) : KeccakCore := { rate := 136, masked := masked, squeezing := squeezing, pos := 0, planes := [List.replicate 25 0] }
/-- A SHA-256 core. -/
def sha (masked finished : Bool) : ShaCore := { variant := 1, masked := masked, finished := finished, planes := [List.replicate 8 0], pend := [[]], len := 0 }

theorem witness_StagingAndKeyOperands :
    let y := { TileSt.reset with vtype := 2, keccak := [(0, core true false), (1, core false false)], sha2 := some (sha true false) }
    let s := tile (fun _ => y)
    s.tileReady 0 ∧ firstFault [(y.shr || decide ((vf 0 1 0).d.toNat > 1), 0x0801), (decide ((s.dev.tileCtx 0).keyForm < 8) && decide (y.msel.value = 0), 0x0805),
      (decide (y.sget 1 + y.sget 0 > (s.dev.tileCtx 0).keyLen), 0x0807)] = none ∧ 8 ≤ (s.dev.tileCtx 0).keyForm ∧
    (s.dev.tileCtx 0).keySeeds.length = (s.dev.tileCtx 0).order ∧
    (∃ x, y.core? 0 = some x ∧ x.squeezing = false ∧ x.masked = true) ∧ (∃ x, y.core? 1 = some x ∧ x.masked = false) ∧
    (∃ x, y.sha2 = some x ∧ x.finished = false ∧ x.masked = true) ∧
    firstFault [(y.shr || decide ((vf 2 1 0).d.toNat > 1), 0x0801)] = some 0x0801 :=
  by
  unfold State.tileReady
  refine ⟨?_, ?_, ?_, ?_, ⟨core true false, ?_⟩, ⟨core false false, ?_⟩, ⟨sha true false, ?_⟩, ?_⟩ <;> decide +kernel

theorem witness_HashCores :
    let y := { TileSt.reset with keccak := [(0, core false false)], sha2 := some (sha false true) }
    let s := tile (fun _ => y)
    s.tileReady 0 ∧ y.core? 1 = none ∧ y.core? 0 = some (core false false) ∧ y.long = false ∧
    firstFault [(decide ((vf 1 0 0).d.toNat > 1), 0x0801), (y.lvssBad (s.dev.tileCtx 0), 0x0804), (y.outOf (s.dev.tileCtx 0) (y.sget 0) (y.sget 0), 0x0802)] = none ∧
    (vf 0 1 2).d = 0 ∧ TileSt.reset.sha2 = none ∧ y.sha2 = some (sha false true) := by unfold State.tileReady; decide +kernel

theorem witness_Samplers :
    let z (n eta : Nat) (masked : Bool) := { TileSt.reset with vl := 8, s := [(1, n), (2, eta)], m := [(0, ⟨0, 3329, 0⟩)], keccak := [(0, core masked true)] }
    let ok (y : TileSt) : Bool := decide (firstFault [(y.long, 0x0804), (decide (y.ew ≠ 16) && decide (y.ew ≠ 32), 0x0804),
      (decide (y.msel.value = 0) || decide (y.msel.kind ≠ 0) || (decide (y.ew = 16) && decide (y.msel.value ≥ 2 ^ 15)), 0x0805)] = none)
    ok (z 8 2 false) = true ∧ (z 8 2 false).core? 0 = some (core false true) ∧ (z 8 2 false).sget 1 ≤ (z 8 2 false).vl ∧ ok (z 9 4 true) = true ∧
    (z 9 4 true).core? 0 = some (core true true) ∧ (z 9 4 true).vl < (z 9 4 true).sget 1 ∧ (z 0 3 true).sget 2 = 3 ∧
    (z 0 256 false).sget 2 % 256 = 0 ∧ (z 0 255 false).sget 2 % 256 ≠ 0 ∧ (z 0 255 false).sget 3 + 1024 ≤ 0x40000 := by decide +kernel

theorem witness_MaskedGadgets :
    let y := { TileSt.reset with vtype := 2, vl := 16, m := [(0, ⟨0, 3329, 0⟩)] }
    (tile (fun _ => y)).tileReady 0 ∧ y.shr = false ∧ (vf 1 2 3).pb = false ∧ y.long = false ∧ y.vstart < y.vl ∧ y.unbool ((tile (fun _ => y)).dev.tileCtx 0) 1 0 < 3329 ∧
    15 < 64 / y.ebytes ∧ 3329 ≤ 2 ^ y.ew := by unfold State.tileReady; decide +kernel

theorem witness_OperationEndsAndFaults :
    let s (n : Nat) := dev (fun _ => (working 0 (job 0) (req 0x1131)).dev.onTile 0 (fun y => { y with s := [(1, n)] }))
    let stopped (g : Nat) := working 0 { job 0 with abort := some 0x0703 } { req 0x1131 with gen := g }
    (s 64).tileReady 0 ∧ ((s 64).dev.tile 0).sget 1 ≤ ((s 64).dev.tileCtx 0).outCap ∧ ((s 65).dev.tileCtx 0).outCap < ((s 65).dev.tile 0).sget 1 ∧
    0x10 ≤ ((s 0x10).dev.tile 0).sget 1 % 256 ∧ ((s 0x0F).dev.tile 0).sget 1 % 256 < 0x10 ∧
    (s 64).dev.running 0 = some (3, job 0, req 0x1131) ∧ (job 0).abort = none ∧
    (stopped 0).dev.running 0 = some (3, { job 0 with abort := some 0x0703 }, req 0x1131) ∧ (req 0x1131).gen = (stopped 0).dev.num P.slcGeneration 0 ∧
    (job 0).unit = 0 ∧ (s 64).dev.issues 0 = true ∧ tileWord 0 = none ∧ (stopped 0).dev.issues 0 = true ∧
    ((((stopped 0).dev.scrub 0).dropJob 3).jobsOf 7).any (fun e => e.2.runs) = false ∧ 32000 ≤ { (s 64).dev.tile 0 with sinceChkpt := 32000 }.sinceChkpt ∧ ((s 64).dev.tile 0).sinceChkpt < 32000 ∧
    ((s 64).dev.tile 0).sparkWaiting = none ∧ { (s 64).dev.tile 0 with cycles := 1 }.cycles ≠ 0 ∧
    (stopped 1).tileReady 0 ∧ 1 ≠ (stopped 1).dev.num P.slcGeneration 0 := by unfold State.tileReady; decide +kernel

/-- Past its ceiling of 100 cycles: tile 0 runs an integrator's microprogram in its first slot. -/
theorem witness_cycle_ceiling :
    let e : MpEntry := { opcode := 0x7001, entry := 0, eflags := 0, keyUse := 0, ceil := [100], maxIn := 0, maxOut := 0 }
    let m : Microprogram := { mpId := 0x100, version := 2, svn := 3, authority := 2, orders := 1, flags := 0, measurement := [], table := [e], code := [], tables := [], kat := [] }
    let s := dev (fun _ => ((working 0 (job 0) (req 0x7001)).dev.onLib (fun l => { l with library := [m], config := [(0, [(0x100, 2)])] })).onTile 0 (fun y => { y with cycles := 101 }))
    s.dev.running 0 = some (3, job 0, req 0x7001) ∧ s.dev.runningMp 0 = some m ∧ m.entry? (req 0x7001).desc.opcode = some e ∧ e.ceil.getD (job 0).order 0 < (s.dev.tile 0).cycles := by
  decide +kernel

theorem witness_TileMemoryKeepsForm : (∀ t < 128, (State.reset.dev.tile t).mem.wf = true) ∧ (Instr.vst 0 ⟨mf 1 2 3, []⟩).part = some (.tile, 0) ∧
    (exec (.vst 0 ⟨mf 1 2 3, []⟩) State.reset matches .next _) = true := by decide +kernel

/-! ### Management: hypotheses -/

/-- A session of a role. -/
def session (role : Nat) (name : Byte) : Session :=
  { role := role, peer := false, principal := [name], anchorRow := 0, started := 0, lastRecord := 0, nseq := 0, recent := [], sendSeq := 0, keys := SessionKeys.none }

/-- The device after boot, in SERVICE and MAKER, with an observer, an operator, two officers and a maker as sessions 1 to 5. -/
def up : Dev :=
  { Dev.reset with
    modes := { Dev.reset.modes with mode := .service, storeOpen := true, inReset := none }
    boot := { Dev.reset.boot with step := 11 }
    time := { Dev.reset.time with pllLocked := true, dev := 1000000 }
    mgmt := { Dev.reset.mgmt with answering := true, sessions := [(1, session 1 1), (2, session 2 2), (3, session 3 3), (4, session 3 4), (5, session 4 5)] } }

/-- The same in INTEGRATOR (2), FIELDED (3) or RETURNED (4), with an anchor set. -/
def upIn (lc : Nat) : Dev :=
  let set' : OtpField := { firm := 0xFFFF, marginal := 0 }
  { (up.setOct P.scgAnchors 0 [1]) with lcy := { up.lcy with bootState := lc, fields := [(0, set'), (1, set'), (2, set')].take (lc - 1) } }

/-- A request of the operator (2), an officer (3) or the maker (5). -/
def msg (who : Nat) (body : Bytes) (row : BitVec 32 := 0) : Msg := { src := .session who, reqId := 9, row := row, body := body }

/-- A device on which officer 3 has asked for the action and officer 4 confirms it. -/
def asked (d : Dev) (p : Param) (m : Msg) : Dev :=
  d.onMgmt (fun g => { g with tickets := [{ number := 5, param := p, offset := 0, origin := 3, msg := m, requested := 1000000, digest := zeros 48 }] })
/-- The CONFIRM of officer 4. -/
def consent : Msg := msg 4 (natLE 4 5 ++ zeros 48)
/-- The request meets its effect: granted, or, under dual control, confirmed. -/
def heardOut (d : Dev) (p : Param) (m : Msg) : Bool :=
  d.granted p m || (dualControlled p && (match (asked d p m).mgmt.tickets with | t :: _ => (asked d p m).confirms consent t | [] => false))

theorem test_life_cycle_states : up.lcState = 0 ∧ (upIn 2).lcState = 2 ∧ (upIn 3).lcState = 3 ∧ (upIn 4).lcState = 4 := by decide +kernel

/-- Every command and write of the dictionary has a sender that may use it, or two officers that may. -/
theorem witness_RequestsGranted :
    ([P.blwCmdSourceRetest, P.attCmdQuote, P.fwCmdStageBegin, P.fwCmdStageEnd, P.fwCmdActivate, P.fwCmdConfirm, P.fwCmdCancel, P.fwCmdCommitSvn, P.vltCmdInit,
      P.vltCmdRecover, P.vltCmdSetHome, P.lcyCmdPrepare, P.lcyCmdBurn, P.lcyCmdDbgKeyBurn, P.lcyCmdDbgKeyRevoke, P.dbgCmdNonce, P.dbgCmdEnd, P.mpgInstall, P.mpgRemove,
      P.mpgCmdRollout, P.modCmdQuiesce, P.modCmdResume, P.modCmdZeroise, P.modCmdRecoveryDone, P.pwrStateCmd, P.pwrDomainCmd, P.pwrTileCmd, P.rstCmdWarm,
      P.rstCmdCold, P.scgCmdClose, P.netCmdApply, P.slcCmdCreate, P.slcCmdReset, P.slcCmdRemove, P.slcCmdFreeze, P.slcCmdThaw, P.slcCmdSave, P.slcCmdRestore,
      P.slcCmdImageFetch, P.slcCmdImageDiscard, P.tmpCmdBist, P.tmpCmdAck, P.tmpCmdTamperClear, P.tilCmdOut, P.tilCmdReturn, P.tilCmdReset, P.hamCmdOut, P.fulCmdOut,
      P.qpEnable, P.qpDisable, P.qpDestroy, P.monCmdArm, P.monCmdSnap, P.monCmdSnapRange, P.scgAnchors, P.tmpClass, P.tmpMeshEnable, P.tmpSwitchEnable,
      P.tmpA4Scrap, P.qncFloor, P.qncCeiling, P.qncDutyExp, P.qncMode, P.qpIrqLevel, P.mpgMinSvn, P.monBase, P.monChOwner] : List Param).all
      (fun p => heardOut (upIn 3) p (msg 3 [])) = true ∧ heardOut up P.blwRawCapture (msg 5 []) = true ∧ heardOut up P.fwStageData (msg 5 []) = true := by
  decide +kernel

theorem witness_RequestsRefused :
    let m := msg 2 []
    WriteRow P.monBase .monBase ∧ CommandRow P.modCmdQuiesce .modCmdQuiesce ∧ up.heard (.session 6) = false ∧ up.heard m.src = true ∧
    (up.onMgmt (fun g => { g with sessions := [(2, { session 2 2 with recent := [(9, [1])] })] })).repeated m.src 9 = some [1] ∧
    ({ upIn 2 with dict := Dev.reset.dict }).alone 2 (.session 3) = true ∧ up.alone 0 m.src = false ∧
    (catFind P.monBase).map (fun r => r.rowOk 1373) = some false ∧ (catFind P.monBase).map (fun r => r.rowOk 1372) = some true ∧
    up.mayDo 0 (.session 1) P.modCmdQuiesce 0 true [] = none ∧ up.mayDo 0 (.session 3) P.modCmdZeroise 0 true [] = some true ∧
    up.mgmt.tickets.length < 16 ∧ 16 ≤ (up.onMgmt (fun g => { g with tickets := List.replicate 16 ⟨1, 0, 0, 0, m, 0, []⟩ })).mgmt.tickets.length := by
  refine ⟨by unfold WriteRow; simp, by unfold CommandRow; simp, ?_⟩; decide +kernel

theorem witness_SessionsAndConfirmations :
    let ask := asked up P.modCmdZeroise (msg 3 [])
    up.granted P.scgCmdClose (msg 5 (natLE 4 2)) = true ∧ (tabGet? 2 up.mgmt.sessions).isSome = true ∧ tabGet? 9 up.mgmt.sessions = none ∧
    up.granted P.scgAnchors (msg 5 (zeros 97)) = true ∧ (zeros 97).length = 97 ∧ 97 < (zeros 98).length ∧ heardOut (upIn 3) P.netCmdApply (msg 3 []) = true ∧
    ask.heard consent.src = true ∧ ask.repeated consent.src 9 = none ∧ tabGet? 4 ask.mgmt.sessions = some (session 3 4) ∧
    ({ upIn 2 with dict := Dev.reset.dict }).alone 2 consent.src = true ∧ ask.alone ask.lc consent.src = false ∧ consent.body.length = 52 ∧
    (ask.mgmt.tickets.find? (fun t => t.number == leAt 0 4 consent.body && ask.now ≤ t.requested + 60 * ticksPerS)).map Ticket.param = some P.modCmdZeroise ∧
    (up.mgmt.tickets.find? (fun t => t.number == leAt 0 4 consent.body && up.now ≤ t.requested + 60 * ticksPerS)) = none ∧
    ask.principalOf 3 = [3] ∧ (session 3 4).principal ≠ [3] ∧ consent.body.drop 4 = zeros 48 ∧ (msg 3 consent.body).src = .session 3 ∧ [(1 : Byte)] ≠ zeros 48 := by
  decide +kernel

/-- At the last moment of a ticket's minute it is found; one tick later it is not. -/
theorem witness_ticket_minute :
    let ask (n : Nat) := { asked up P.modCmdZeroise (msg 3 []) with time := { up.time with dev := 1000000 + n } }
    (ask 6000000000).confirms consent (((ask 0).mgmt.tickets)[0]?.getD ⟨0, 0, 0, 0, consent, 0, []⟩) = true ∧
    (ask 6000000001).confirms consent (((ask 0).mgmt.tickets)[0]?.getD ⟨0, 0, 0, 0, consent, 0, []⟩) = false := by decide +kernel

theorem witness_Responses :
    up.mgmt.awaiting = [] ∧ tabGet? 2 up.mgmt.sessions = some (session 2 2) ∧ (session 2 2).sendSeq < 2 ^ 32 ∧
    { session 2 2 with sendSeq := 2 ^ 32 }.sendSeq ≥ 2 ^ 32 ∧ up.heard (.session 2) = true ∧ up.repeated (.session 2) 9 = none ∧ up.alone up.lc (.session 2) = false := by
  decide +kernel

/-- Slice 7 exists, of queue pair 5. -/
def sliced : Dev := (up.onSlices (fun _ => [(7, { SliceSt.reset with state := .active })])).setNum P.qpSlice 5 7
/-- Queue pair 5 in a state. -/
def queued (st : QpState) : Dev := sliced.onQp 5 (fun p => { p with state := st })

theorem witness_ParameterWrites :
    let p := 0xB00700
    up.granted p (msg 5 [1, 0]) = true ∧ (catFind p).map (fun r => (r.kind.fixedLen, r.lo, r.hi)) = some (some 2, 1, 3600) ∧ p / 0x100000 ≠ 15 ∧
    (writeEffects.find? (fun e => e.1 == p)).isNone = true ∧ commandEffects.any (fun e => e.1 == p) = false ∧ leNat [(0 : Byte), 0] < 1 ∧ 3600 < leNat [(0x11 : Byte), 0x0E] ∧
    leNat [(0x10 : Byte), 0x0E] = 3600 ∧ up.settingBad p 3600 = none ∧
    up.granted 0x101300 (msg 5 []) = true ∧ (catFind 0x101300).map CatRow.kind = some (.octets 17) ∧
    (queued .disabled).granted P.qpSqEntries (msg 5 [16, 0, 0, 0] 5) = true ∧ (catFind P.qpSqEntries).map (fun r => (r.kind.fixedLen, r.index 5)) = some (some 4, 5) ∧
    ((queued .disabled).qp 5).state = .disabled ∧ ((queued .faulted).qp 5).state = .faulted ∧
    sliced.granted P.slcMaskDefault (msg 5 [1] 7) = true ∧ policyParams.contains P.slcMaskDefault = true ∧ sliced.sliceExists 7 = true ∧
    sliced.granted P.slcInflight (msg 5 [1, 0] 7) = true ∧ resourceParams.contains P.slcInflight = true ∧ (∀ q ∈ sliced.qpsOf 7, (sliced.qp q).state ≠ .active) ∧
    (queued .active).qpsOf 7 = [5] ∧ ((queued .active).qp 5).state = .active ∧ (sliced.sliceBad 7 ((P.slcPasid, 0) :: sliced.argsOf 7)).isSome = true := by decide +kernel

theorem witness_ModeCommands :
    let quiet (d : Dev) (m : Mode) : Dev := { d with modes := { d.modes with mode := m } }
    up.granted P.modCmdQuiesce (msg 2 []) = true ∧ up.ready = true ∧ (quiet up .sealed).ready = false ∧ (quiet up .quiesced).power.inS2 = false ∧
    (quiet up .quiesced).granted P.modCmdResume (msg 2 []) = true ∧ heardOut (quiet up .sealed) P.modCmdZeroise (msg 3 []) = true ∧
    heardOut (quiet up .sealed) P.modCmdRecoveryDone (msg 3 []) = true ∧ up.granted P.rstCmdWarm (msg 2 []) = true ∧
    (up.respondTo (.session 2) 9 Reply.ok).contained 2 = false ∧ (({ up with modes := { up.modes with inReset := some 1 } }).respondTo (.session 2) 9 Reply.ok).contained 2 = true ∧
    (({ up with modes := { up.modes with inReset := some 0 } }).respondTo (.session 2) 9 Reply.ok).contained 1 = true := by decide +kernel

/-- The device after boot in QUIESCED. -/
def quiesced : Dev := { up with modes := { up.modes with mode := .quiesced } }

theorem witness_PowerCommands :
    let m (n on : Nat) : Msg := msg 2 (natLE 4 (2 ^ (n - 1)) ++ natLE 1 on)
    let doms (m : Msg) : List Nat := ((List.range 32).filter (fun b => (leAt 0 4 m.body).testBit b)).map (· + 1)
    quiesced.granted P.pwrStateCmd (msg 2 [2]) = true ∧ (∀ n ∈ quadDomains, quiesced.domainBusy n = false) ∧ (∀ t < nTiles, quiesced.tileBusy t = false) ∧
    quiesced.power.inS2 = false ∧ up.modes.mode ≠ .quiesced ∧
    doms (m 4 0) = [4] ∧ doms (m 15 1) = [15] ∧ doms (m 20 1) = [20] ∧ doms (m 3 1) = [3] ∧ (m 15 1).body.length = 5 ∧ up.domainSet 4 = true ∧
    up.dependency (fun k => if k == 4 then false else up.domainSet k) (fun t => if unitDomain t == 4 then false else up.switchClosed t) [] = false ∧
    (let off := up.setDomain 15 .off
     off.domainSet 15 = false ∧ off.dependency (fun k => if k == 15 then true else off.domainSet k) (fun t => if unitDomain t == 15 then true else off.switchClosed t) [15] = false) ∧
    up.domain 20 = .off ∧ up.lcy.burning = none ∧ up.dependency (fun k => if k == 20 then true else up.domainSet k) up.switchClosed [] = false ∧
    ((List.range nTiles).filter (fun t => (leAt 0 16 (zeros 15 ++ [0x80])).testBit t)) = [127] ∧ up.domain (hearthDomain (quadOf 127)) = .on := by decide +kernel

theorem witness_UnitsOutAndBack :
    let put (u : Nat) (p : PoolState) := up.onUnit u (fun x => { x with pool := p })
    up.granted P.tilCmdOut (msg 2 [] 127) = true ∧ up.granted P.hamCmdOut (msg 2 [] 31) = true ∧ up.granted P.fulCmdReset (msg 2 [] 15) = true ∧
    ((put 127 .inPool).unit (0 + 127)).pool = .inPool ∧ ((put 159 .out).unit (128 + 31)).pool = .out ∧ ((put 175 .off).unit (160 + 15)).pool = .off ∧
    up.modes.inReset = none ∧ Dev.reset.modes.inReset.isSome = true ∧ 127 < nUnits ∧ up.modes.mode ≠ .boot ∧ (up.unit 0).pool = .returning ∧ up.unitPowered 0 = true ∧
    (up.unit 0).returnStep < 3 ∧ (up.unit 130).returnStep < 2 ∧ (up.q 0).calibrating = false ∧ ((put 1 .probation).unit 1).probationStart + 1000000 ≤ up.now ∧
    up.now < ((put 1 .probation).unit 1).probationStart + 5000000 ∧ (up.unit 0).scrubbing = false ∧ (up.unit 0).refreshing = false ∧
    up.modes.mode.powered = true ∧ 128 ≤ 159 ∧ up.running 0 = none ∧
    (working 130 { job 130 with abort := some 0x0703 } (req 0x3001)).dev.running 130 = some (3, { job 130 with abort := some 0x0703 }, req 0x3001) ∧
    (req 0x3001).gen = (working 130 (job 130) (req 0x3001)).dev.num P.slcGeneration 0 := by decide +kernel

/-- The argument of SLC_CMD_CREATE for slice 9. -/
def newSlice : Bytes :=
  natLE 2 9 ++ natLE 2 1 ++ natLE 4 5 ++ natLE 4 64 ++ natLE 2 1 ++ natLE 2 0xFFFF ++ natLE 4 1 ++ natLE 4 0 ++ natLE 4 1 ++ natLE 4 1000 ++ natLE 8 10 ++ natLE 4 256 ++
    [0, 2, 1, 1, 1, 0, 0, 0, 0] ++ zeros 11

theorem witness_SliceCommands :
    let frozen := sliced.onSlice 7 (fun x => { x with state := .frozen })
    newSlice.length = 64 ∧ leAt 0 2 newSlice = 9 ∧ allZero (newSlice.drop 53) = true ∧ sliced.granted P.slcCmdCreate (msg 3 newSlice) = true ∧ sliced.sliceExists 9 = false ∧
    (sliced.sliceSt 9).restoring = none ∧ sliced.creating = false ∧ up.sliceBad 9 (createArgs newSlice) = none ∧ (up.root 9).held = false ∧ up.modes.storeOpen = true ∧
    ((up.onRoot 9 (fun r => { r with held := true })).root 9).held = true ∧ up.sliceBad 9 (createArgs (newSlice.take 4 ++ zeros 60)) = some P.slcPasid ∧
    sliced.granted P.slcCmdReset (msg 2 [] 7) = true ∧ (sliced.sliceSt 7).state = .active ∧ (frozen.sliceSt 7).state = .frozen ∧ sliced.modes.inReset = none ∧
    sliced.granted P.slcCmdRemove (msg 3 [0] 7) = true ∧ heardOut sliced P.slcCmdRemove (msg 3 [1] 7) = true ∧ sliced.granted P.slcCmdFreeze (msg 3 [] 7) = true ∧
    frozen.granted P.slcCmdThaw (msg 3 [] 7) = true ∧ frozen.saving 7 = false ∧
    (frozen.onVault (fun v => { v with updates := [sliceUpdate 7 .storeImage [] none] })).saving 7 = true ∧ sliced.granted P.slcCmdImageFetch (msg 3 (zeros 16) 7) = true ∧
    heardOut sliced P.slcCmdImageDiscard (msg 3 [] 7) = true := by decide +kernel

theorem witness_SliceEventsReadAndMigration :
    let peer := { session 5 7 with peer := true, principal := List.replicate 32 7 }
    let d := { sliced with mgmt := { sliced.mgmt with sessions := (8, peer) :: sliced.mgmt.sessions } }
    let e := (d.setOct P.vltGroupMembers 0 (List.replicate 32 7)).onSlice 7 (fun x => { x with state := .frozen, frozenDrained := true })
    sliced.heard (.session 2) = true ∧ (catFind P.slcEvents).map (fun r => r.rowOk 7) = some true ∧ sliced.mayDo sliced.lc (.session 2) P.slcEvents 7 false (zeros 8) = some false ∧
    sliced.mayDo sliced.lc (.slicePage 8) P.slcEvents 7 false (zeros 8) = none ∧ e.granted P.slcCmdSave (msg 3 (zeros 48) 7) = true ∧ e.saving 7 = false ∧
    (e.sliceSt 7).state = .frozen ∧ (e.sliceSt 7).frozenDrained = true ∧ e.modes.storeOpen = true ∧ e.reachable (List.replicate 32 7) = true ∧ e.reachable (zeros 32) = false ∧
    e.granted P.slcCmdRestore (msg 3 (zeros 20) 7) = true := by decide +kernel

/-- An image of slice 7 for this device, with an empty body. -/
def imageHere : SliceImage :=
  { slice := 7, source := zeros 32, dest := deviceIdentity, nonce := zeros 16, gen := 1, home := true, replMark := 0,
    params := [(P.slcQpCount, 1), (P.slcInflight, 1), (P.slcHearthSet, 1)],
    qps := [], reissue := [], channels := [], stateful := [], volatiles := [], bodyLen := 0, body := [] }

/-- An image sealed under a key committed here passes every check of R409. -/
theorem witness_restore_accepted (d : Dev) (h : d.vault.transport = [⟨zeros 16, zeros 32, false⟩]) (h1 : d.sliceExists 7 = false) (h2 : (d.sliceSt 7).restoring = none)
    (h3 : d.sliceBad 7 ((P.slcPasid, 5) :: imageHere.params) = none) :
    d.imageBar ⟨imageHere.header, imageSeal (zeros 32) imageHere.header [], imageHere⟩ 144 5 = none := by
  have hl : (imageSeal (zeros 32) imageHere.header []).length = 16 := by
    rw [imageSeal, List.length_append, gcmTag_len _ _ _ _ rfl, gcmData_len _ _ _ rfl]; rfl
  have ht : d.transportKey (slice 72 16 imageHere.header) = some (zeros 32) := by
    rw [Dev.transportKey, h]; rfl
  have hd : slice 40 32 imageHere.header = deviceIdentity := rfl
  have hf : (imageHere.header.length != 128 || leAt 0 4 imageHere.header != 0x4F515349 || leAt 4 2 imageHere.header != 1 || decide (leAt 6 2 imageHere.header ≥ 4096) ||
      decide (leAt 90 1 imageHere.header > 1) || leAt 91 1 imageHere.header != 0 || !allZero (slice 104 24 imageHere.header) || 16 != leAt 92 4 imageHere.header + 16 ||
      decide (128 + 16 > 144)) = false := rfl
  have hs : leAt 6 2 imageHere.header = 7 := rfl
  have hk : imageTagOk (zeros 32) imageHere.header (imageSeal (zeros 32) imageHere.header []) = true := imageTagOk_seal _ _ _ rfl
  simp only [Dev.imageBar, hl, hf, hd, ht, Option.getD_some, hk]
  simp [hs, h1, h2, h3]

theorem witness_restore : ∃ d : Dev, d.granted P.slcCmdRestore (msg 3 (zeros 8 ++ natLE 8 144 ++ natLE 4 5) 7) = true ∧
    d.imageBar ⟨imageHere.header, imageSeal (zeros 32) imageHere.header [], imageHere⟩ 144 5 = none :=
  ⟨up.onVault (fun v => { v with transport := [⟨zeros 16, zeros 32, false⟩] }), by decide +kernel,
    witness_restore_accepted _ rfl (by decide +kernel) (by decide +kernel) (by decide +kernel)⟩

theorem witness_MicroprogramAndVaultCommands :
    let m (n : Nat) : Microprogram := { mpId := 0x100, version := n, svn := 3, authority := 1, orders := 1, flags := 0, measurement := [], table := [], code := [], tables := [], kat := [] }
    let lib := up.onLib (fun l => { l with library := [m 2], target := [(127, [(0x100, 2)])] })
    let in' := { up with modes := { up.modes with mode := .sealed } }
    heardOut up P.mpgInstall (msg 3 []) = true ∧ up.mpBar up.lib.container = some "FORMAT" ∧ heardOut lib P.mpgRemove (msg 3 (natLE 4 0x100 ++ natLE 4 2)) = true ∧
    (lib.mp? 0x100 2).isSome = true ∧ lib.mp? 0x100 3 = none ∧ lib.mpInUse 0x100 2 = false ∧
    (lib.onLib (fun l => { l with config := [(5, [(0x100, 2)])] })).mpInUse 0x100 2 = true ∧ heardOut lib P.mpgMinSvn (msg 3 (natLE 4 9) 0x100) = true ∧
    lib.num P.mpgMinSvn 0x100 ≤ 9 ∧ 0 < (lib.setNum P.mpgMinSvn 0x100 1).num P.mpgMinSvn 0x100 ∧ up.granted P.mpgCmdRollout (msg 3 (zeros 15 ++ [0x80])) = true ∧
    ((List.range nTiles).filter (fun t => (leNat (zeros 15 ++ [0x80])).testBit t)) = [127] ∧ up.lib.rolloutState ≠ 1 ∧ (up.unit 127).pool ≠ .off ∧
    lib.slotsOk (tabGet (lib.slots 127) 127 lib.lib.target) = true ∧ heardOut in' P.vltCmdInit (msg 3 []) = true ∧ in'.lcState < 4 ∧
    heardOut { upIn 4 with modes := in'.modes } P.vltCmdRecover (msg 3 []) = true ∧ 4 ≤ (upIn 4).lcState ∧
    heardOut up P.vltCmdSetHome (msg 3 (natLE 2 4095 ++ zeros 32)) = true ∧ (up.setOct P.vltGroupMembers 3 (zeros 32 ++ [1])).groupMember (zeros 32) = true ∧
    up.groupMember (zeros 32) = false := by decide +kernel

theorem witness_TamperCommands :
    let d := upIn 3
    heardOut d P.tmpMeshEnable (msg 3 [0xFF]) = true ∧ 3 ≤ d.lcState ∧ (d.setNum P.tmpMeshEnable 0 1).num P.tmpMeshEnable 0 &&& 0xFE ≠ 1 ∧
    (d.setNum P.tmpMeshEnable 0 1).num P.tmpMeshEnable 0 &&& 0xFF = 1 ∧ up.lcState < 3 ∧ 0x0F < leNat [(0x10 : Byte)] ∧ heardOut d P.tmpSwitchEnable (msg 3 [0x10]) = true ∧
    heardOut d P.tmpA4Scrap (msg 3 [0]) = true ∧ heardOut d P.tmpClass (msg 3 [4] 0x700) = true ∧ sourceListed 0x700 = true ∧ sourceFloor 0x700 ≤ 4 ∧
    0 < sourceFloor 0x100 + 1 ∧ up.granted P.tmpCmdBist (msg 2 []) = true ∧ up.tamper.testing = none ∧ up.modes.mode.powered = true ∧
    heardOut up P.tmpCmdTamperClear (msg 3 []) = true ∧ up.backup.reprovisioned = false ∧ up.granted P.tmpCmdAck (msg 2 (zeros 4)) = true ∧ up.tamper.logNext ≤ 0 ∧
    0 < (after (.tileGlitch 0 0 0) { State.reset with dev := up.setOct P.qncBaseline 0 (natLE 2 8192 ++ zeros 14) }).tamper.logNext := by decide +kernel

theorem witness_LifeCycleAndDebugCommands :
    let d := quiesced.setDomain 20 .on
    let at' := 1000000
    let ready := d.onLcy (fun l => { l with prepared := some (2, at') })
    let keyed := { upIn 2 with power := (up.setDomain 20 .on).power }
    let seeded := up.onInst 0 (fun x => { x with seeded := true })
    seeded.granted P.dbgCmdNonce (msg 3 []) = true ∧ (tabGet Drbg.reset 0 seeded.bellows.instances).seeded = true ∧
    (seeded.setNum P.blwState 0 1).num P.blwState 0 = 1 ∧ (tabGet Drbg.reset 0 up.bellows.instances).seeded = false ∧
    up.granted P.dbgCmdApply (msg 5 []) = true ∧ tabGet? 5 up.mgmt.sessions = some (session 4 5) ∧ up.certBar (up.oct P.dbgCert 0) = some ("FORMAT", 1) ∧
    up.granted P.dbgCmdEnd (msg 3 []) = true ∧ up.dbg.certActive = false ∧
    d.granted P.lcyCmdPrepare (msg 5 [2]) = true ∧ d.transitionBar (msg 5 [2]) 2 = none ∧ d.transitionBar (msg 5 [3]) 3 = some (Reply.err resAccess) ∧
    d.transitionBar (msg 5 [6]) 6 = some (Reply.err resRange) ∧ d.lcy.wiping = false ∧ d.lcy.prepared = none ∧
    ready.granted P.lcyCmdBurn (msg 5 [2]) = true ∧ ready.lcy.prepared = some (2, at') ∧ ready.now ≤ at' + 10 * ticksPerS ∧ ready.transitionField 2 = some 0 ∧
    heardOut keyed P.lcyCmdDbgKeyBurn (msg 3 ([3] ++ zeros 48)) = true ∧ keyed.lcState = 2 ∧ keyed.lcy.bootState = 2 ∧ keyed.domain 20 = .on ∧
    (tabGet KeySlot.reset 3 keyed.lcy.keySlots).burned = false ∧ heardOut keyed P.lcyCmdDbgKeyRevoke (msg 3 [0]) = true ∧ (upIn 4).lcState ≠ 3 := by decide +kernel

/-- The wipes of RETURNED start from FIELDED (R448, R452). -/
theorem witness_prepare_returned :
    let d := { upIn 3 with modes := quiesced.modes, power := (up.setDomain 20 .on).power }
    heardOut d P.lcyCmdPrepare (msg 3 [4]) = true ∧ d.transitionBar (msg 4 [4]) 4 = none ∧ d.lcy.burning = none := by decide +kernel

theorem witness_FirmwareCommands :
    let staging := up.onBoot (fun b => { b with staging := some 8, staged := [1, 2] })
    let trial := up.onBoot (fun b => { b with trial := true, trialDone := true })
    let wait := { up with boot := { up.boot with recoveryWait := true, step := 3 } }
    up.granted P.fwCmdStageBegin (msg 5 (natLE 4 32505856)) = true ∧ leNat (natLE 4 32505856) = 32505856 ∧ trial.boot.trial = true ∧
    staging.granted P.fwStageData (msg 5 (natLE 4 2 ++ [3])) = true ∧ leAt 0 4 (natLE 4 2 ++ [(3 : Byte)]) = staging.boot.staged.length ∧ up.boot.staging = none ∧
    up.granted P.fwStageData (msg 5 (zeros 4)) = true ∧ staging.granted P.fwCmdStageEnd (msg 5 []) = true ∧ staging.boot.staged.length ≠ 8 ∧
    (up.setNum P.fwBankState 1 1).num P.fwBankState (1 - up.boot.running) = 1 ∧ trial.boot.trialDone = true ∧ up.boot.trial = false ∧
    (up.setNum P.fwPendingBank 0 2).num P.fwPendingBank 0 ≠ 0 ∧ (up.setDomain 20 .on).domain 20 = .on ∧
    wait.granted P.fwRecover { src := .devicePage, reqId := 1, row := 0, body := zeros 100 } = true ∧ wait.boot.recoveryWait = true ∧ (zeros 96).length < imageLength (zeros 96) ∧
    up.granted P.attCmdQuote (msg 1 (zeros 32)) = true ∧ 8 ≤ up.boot.step := by decide +kernel

theorem witness_EntropyAndQuenchCommands :
    let failed := up.onNoise 7 (fun x => { x with failed := true })
    failed.granted P.blwCmdSourceRetest (msg 3 (natLE 4 0x80)) = true ∧ (∀ i < 8, (0x80 : Nat).testBit i = true → (failed.noise i).failed = true) ∧ failed.bellows.retest = none ∧
    (up.noise 7).failed = false ∧ leNat (natLE 4 256) = 256 ∧ up.granted P.blwRawCapture (msg 5 (natLE 1 7 ++ natLE 4 1000000)) = true ∧
    leAt 1 4 (natLE 1 7 ++ natLE 4 1000000) = 1000000 ∧ up.lcState = 0 ∧ up.granted P.qncFloor (msg 5 [7]) = true ∧ up.num P.qncFloor 0 ≤ up.num P.qncCeiling 0 ∧
    up.num P.qncCeiling 0 ≤ 7 ∧ up.granted P.qncCeiling (msg 5 [7]) = true ∧ up.granted P.qncDutyExp (msg 5 [6]) = true ∧ leNat [(13 : Byte)] > 12 ∧
    up.granted P.qncMode (msg 5 [1]) = true := by decide +kernel

theorem witness_Monitors :
    let arm := (up.setNum P.monCapture 1372 1).setNum P.monWindow 1372 100
    arm.granted P.monCmdArm (msg 2 [] 1372) = true ∧ arm.num P.monCapture 1372 = 1 ∧ arm.num P.monWindow 1372 ≠ 0 ∧ up.num P.monCapture 0 ≠ 1 ∧
    up.granted P.monCmdSnap (msg 2 [] 0) = true ∧ up.granted P.monCmdSnapRange (msg 2 (natLE 2 1371 ++ natLE 2 2)) = true ∧ leAt 0 2 (natLE 2 1371 ++ natLE 2 2) + 1 < nMonitors ∧
    nMonitors < leAt 0 2 (natLE 2 1372 ++ natLE 2 2) + 2 ∧ up.granted P.monBase (msg 2 (zeros 8) 1372) = true ∧ up.granted P.monWidthExp (msg 2 [40] 0) = true ∧
    (up.setNum P.monBinmode 0 0).num P.monBinmode 0 ≠ 1 ∧ up.num P.monBinmode 0 = 1 ∧ up.granted P.monBinmode (msg 2 [0] 0) = true ∧ up.num P.monWidthExp 0 ≤ 40 ∧
    up.granted P.monChSource (msg 2 [3] 1023) = true ∧ up.granted P.monChFilter (msg 2 (zeros 8) 1023) = true ∧ up.num P.monChOwner 1023 = 0xFFFF ∧
    (sliced.setNum P.monChOwner 3 7).num P.monChOwner 3 ≠ 0xFFFF ∧ sliced.ownsQp 7 5 = true ∧ sliced.granted P.monChOwner (msg 3 (natLE 2 7) 3) = true ∧
    leNat (natLE 2 7) = 7 ∧ sliced.sliceExists 7 = true ∧ sliced.sliceExists 8 = false ∧ (up.onMonitors (tabSet 1372 MonRecord.reset)).monitorHeld 1372 = MonRecord.reset ∧
    (let late := up.onMonitors (tabSet 1372 { MonRecord.reset with window := 100 })
     let now := up.sample 0 7
     (late.monitorHeld 1372).running = true ∧ (late.monitorHeld 1372).expired late.now = true ∧ (now.monitor 0).armedDone = false ∧ (now.monitor 0).tick = now.now ∧
     (now.monitor 0).tickSamples = [7] ∧ ((now.snap 0).2.monitor 0).count = 1 ∧ ((up.onMonitors (tabSet 0 { MonRecord.reset with limit := 1 })).monitor 0).limit = 1) ∧
    (sliced.setNum P.monChOwner 3 7).num P.monChSource 3 ≠ 3 := by decide +kernel

theorem witness_QueuePairCommands :
    let m := msg 2 [] 5
    let full := [(P.qpSqEntries, 16), (P.qpCqBytes, 4096), (P.qpCreditStep, 1), (P.qpMsixVector, 0xFFFF)].foldl (fun d x => d.setNum x.1 5 x.2) (queued .disabled)
    let bound := full.onQp 5 (fun p => { p with binding := some (0, 0) })
    bound.granted P.qpEnable m = true ∧ (bound.qp 5).state = .disabled ∧ bound.host.linkReset = false ∧ bound.qpOwner 5 = 7 ∧ (bound.sliceSt 7).state = .active ∧
    bound.qpBad 5 = none ∧ (bound.setNum P.qpSqEntries 5 17).qpBad 5 = some P.qpSqEntries ∧ ((queued .active).qp 5).state ≠ .disabled ∧
    (queued .active).granted P.qpDisable m = true ∧ (∀ e ∈ (queued .active).disp.reqs, e.2.qp ≠ 5) ∧ (queued .disabled).granted P.qpDestroy m = true ∧
    (bound.onQp 5 (fun p => { p with state := .active })).granted P.qpIrqLevel (msg 2 (natLE 4 256) 5) = true ∧ leNat (natLE 4 256) ≤ bound.num P.qpCqBytes 5 / 16 ∧
    bound.num P.qpCqBytes 5 / 16 < leNat (natLE 4 257) ∧ sliced.granted P.qpIrqLevel (msg 2 (natLE 4 1) 5) = true ∧ (sliced.qp 5).state = .unconfigured := by decide +kernel

/-! ### The host, the dispatcher and the units: hypotheses -/

/-- One conjunct for each kind of unit: the computation is under way there, with the row's opcode. -/
theorem witness_operations :
    let at' (u op : Nat) : Bool := decide (((working u (job u) (req op)).dev.job? 3 = some (job u)) ∧ (working u (job u) (req op)).dev.req? 7 = some (req op) ∧
      (job u).begun.isSome = true ∧ (job u).finished = false ∧ (job u).abort = none ∧ (req op).desc.opcode = op)
    (([(0, 0x1011), (0, 0x1131), (5, 0x1213), (0, 0x6011), (127, 0x6026), (0, 0x1813), (0, 0x1904), (0, 0x1A04), (0, 0x2015), (0, 0x2114), (128, 0x3001),
       (159, 0x310F), (128, 0x3304), (160, 0x4001), (175, 0x4042), (160, 0x4822)] : List (Nat × Nat)).all (fun x => at' x.1 x.2)) = true ∧
    famOp 0x10 5 (req 0x1015).desc.opcode = true ∧ opIn [0x6011, 0x6013, 0x6015] (req 0x6015).desc.opcode = true ∧ opIs 0x4822 (req 0x4822).desc.opcode = true ∧
    (let s := working 0 { job 0 with order := 1 } (req 0x1012)
     let sown := s.dev.onUnit 0 (fun u => { u with spark := { u.spark with seeded := true } })
     s.dev.drawsSpark (req 0x1012) { job 0 with order := 1 } = true ∧ s.dev.sparkOut 0 = true ∧ sown.sparkOut 0 = false ∧ s.dev.drawsSpark (req 0x1012) (job 0) = false) := by
  decide +kernel

/-- A persistent node of slice 0 under its root. -/
def node : Node :=
  { slice := 0, tag := 1, parent := none, source := none, level := 1, cls := 1, alg := 0, gen := 2, pgen := 4, sgen := 0, version := 0, exportable := true, childExport := true,
    seedForm := false, destroyed := false, pending := false, material := [1, 2, 3, 4], pub := [], tree := [], params := [], resident := true, shares := [], used := 0, stateful := none, stored := [] }
/-- A request of an opcode whose KEY_A is object 5 of slice 0. -/
def keyed (op : Nat) : Request := { req op with desc := { (req op).desc with keyA := 5 * 2 ^ 24 + 1 } }
/-- The vault holds node 5, and a vault operation of that opcode is under way. -/
def vaulted (q : Request) : State :=
  dev (fun _ => ((working vaultUnit (job vaultUnit) q).dev.onVault (fun v => { v with nodes := [(5, node)] })).onRoot 0 (fun r => { r with held := true, gen := 4 }))

theorem witness_KeyManagementAndPlacement :
    let d := (vaulted (keyed 0x5004)).dev
    d.vaultJob 3 0x5004 = some (7, keyed 0x5004) ∧ d.vault.invalidations = [] ∧ handleObj (keyed 0x5004).desc.keyA = 5 ∧ d.ancestorsOk 5 = true ∧
    ({ d with vault := { d.vault with roots := [] } }).ancestorsOk 5 = false ∧ d.node? 5 = some node ∧ node.gen < 2 ^ 32 - 1 ∧
    (vaulted (req 0x5005)).dev.vaultJob 3 0x5005 = some (7, req 0x5005) ∧ (req 0x5005).desc.keyA = 0 ∧ (d.root 0).gen < 2 ^ 32 - 1 ∧ isVol 5 = false ∧ isVol (2 ^ 27) = true ∧
    (vaulted (keyed 0x5006)).dev.vaultJob 3 0x5006 = some (7, keyed 0x5006) ∧ lowOp 0x2106 = 6 ∧ lowOp 0x2107 = 7 ∧ (keyed 0x2106).desc.opcode / 256 = 0x21 ∧
    (job portUnit).unit = portUnit ∧ (req 0x5801).desc.opcode = 0x5801 ∧ d.num P.blwState 0 ≠ blwExhausted ∧
    (d.setNum P.blwState 0 blwExhausted).num P.blwState 0 = blwExhausted := by decide +kernel

/-- Queue pair 5 of slice 7 bound to slot 3 of page 0, active, with room for 16 descriptors. -/
def active : Dev :=
  ([(P.qpSqEntries, 16), (P.qpCqBytes, 4096), (P.qpCreditStep, 1), (P.qpMsixVector, 0xFFFF), (P.qpInlineLimit, 4096)].foldl (fun d x => d.setNum x.1 5 x.2) (queued .active)).onQp 5
    (fun p => { p with binding := some (0, 3) })

theorem witness_HostWrites :
    let p := active.qp 5
    active.hostUp = true ∧ active.boundTo 0 3 = some 5 ∧ active.boundTo 4095 0 = none ∧ p.state = .active ∧ p.b < active.credit 5 ∧
    ((0 + 2 ^ 32 - p.b % 2 ^ 32) % 2 ^ 32 = 0) ∧ (2 ^ 31 ≤ (2 ^ 31 + 2 ^ 32 - p.b % 2 ^ 32) % 2 ^ 32) ∧
    p.b + 16 - Nat.max p.b (active.credit 5) = 0 ∧ 0 < p.b + 17 - Nat.max p.b (active.credit 5) ∧
    (active.onQp 5 (fun p => { p with b := 16 })).credit 5 ≤ 16 ∧
    (let q := { p with unreleased := [2, 3] }; 1 ≤ q.unreleased.length ∧ (q.unreleased.take 1).foldl (· + ·) 0 = 2 ∧ (q.unreleased.take 2).foldl (· + ·) 0 = 5) ∧
    (queued .disabled).sliceExists 8 = false ∧ (tabGet MsixEntry.reset 8191 active.host.msix).pending = false ∧
    ({ p with unreleased := [2, 3], pubRecords := 2 }).fill = 2 ∧ (∀ i, i < 2 → (([2, 3] : List Nat).take i).foldl (· + ·) 0 ≠ 5) ∧
    (match barPlace 4 0x20400 with | .reserved => true | _ => false) = true ∧ (match barPlace 4 0x203FF with | .reserved => true | _ => false) = false ∧
    (tabGet MsixEntry.reset 8191 { active.host with msix := [(8191, { address := 0, data := 0, masked := true, pending := true })] }.msix).pending = true ∧
    ({ active.host with functionMask := false, msix := [(8191, { address := 0, data := 0, masked := true, pending := true })] }).functionMask = false := by decide +kernel

theorem witness_MailboxPages :
    let b := natLE 2 1 ++ natLE 2 16 ++ natLE 4 9 ++ natLE 4 P.slcEvents ++ natLE 4 7
    sliced.hostUp = true ∧ 8 ≤ sliced.boot.step ∧ sliced.boot.halted = false ∧ sliced.boot.recoveryWait = false ∧ sliced.sliceExists 7 = true ∧ sliced.sliceExists 8 = false ∧
    (1 : BitVec 32).getLsbD 0 = true ∧ (2 : BitVec 32).getLsbD 0 = false ∧ (tabGet Mailbox.reset 8 sliced.host.mailboxes).busy = false ∧ b.length = 16 ∧ leAt 2 2 b = 16 ∧
    leAt 0 2 b = 1 ∧ leAt 8 3 b = P.slcEvents ∧ (commandEffects.find? (fun x => x.1 == P.modCmdQuiesce)).map Prod.fst = some P.modCmdQuiesce := by decide +kernel

/-- What the host memory holds for a descriptor of opcode 0: nothing the device knows. -/
def reading (readable : Bool) : DescRead :=
  { readable := readable, desc := zeros 64, list := [], input := [], inputReadable := true, pagesTranslate := true }

theorem witness_Admission :
    let stamp : Stamp := { void := false, time := 5, seq := 1 }
    let posted := (active.setNum P.slcInflight 7 1).onQp 5 (fun p => { p with b := 1, stamps := [stamp] })
    let q := (reading true).fields
    ((posted.replayWaiting 7).retireVoids 5 |>.qp 5).stamps = [stamp] ∧ (((posted.replayWaiting 7).retireVoids 5).readHost 5 (reading true) |>.sliceSt 7).reissue = [] ∧
    5 < 65536 ∧ posted.hostUp = true ∧ (posted.qp 5).state = .active ∧ (posted.qp 5).disabling = false ∧ (posted.sliceSt 7).state = .active ∧ (posted.qp 5).stamps = [stamp] ∧
    stamp.void = false ∧ posted.qpOwner 5 = 7 ∧ ((posted.disp.reqs.filter (fun e => e.2.slice == 7)).length < posted.num P.slcInflight 7) ∧
    posted.reservedBytes 5 + posted.reservation 5 true q + 16 + posted.num P.qpInlineLimit 5 ≤ posted.num P.qpCqBytes 5 + 65536 ∧
    posted.admissionStatus 7 (reading true) q ≠ 0 ∧ posted.admissionStatus 7 (reading false) q = 0x0106 ∧
    ({ req 0x4031 with phase := .waitTranslation }).phase = .waitTranslation ∧ (active.slices.headD (0, SliceSt.reset)).2.state ≠ .free ∧
    active.pasid 7 = 0 := by decide +kernel

theorem witness_Publication :
    let c : Completion := { status := 0, output := [1, 2], engineClass := 3, quadA := 0, quadB := 0 }
    let q := { req 0x4031 with slice := 7, qp := 5, phase := .staged, released := true, completion := some c }
    let d := (active.onDisp (fun y => { y with reqs := [(7, q)] })).onQp 5 (fun p => { p with staged := [7] })
    d.hostUp = true ∧ (d.qp 5).staged = [7] ∧ d.req? 7 = some q ∧ q.gen = d.num P.slcGeneration 7 ∧ 1 ≠ d.num P.slcGeneration 7 ∧ (d.qp 5).state = .active ∧
    (d.onHost (fun h => { h with translations := [(0, 0), (0, 1)] })).recordMisses 5 q c = ([], []) ∧ d.recordMisses 5 q c ≠ ([], []) ∧
    16 + 16 * ceilDiv 2 16 ≤ d.num P.qpCqBytes 5 ∧ d.num P.qpCqBytes 5 < 32 + 4080 ∧ ((queued .faulted).qp 5).state = .faulted := by decide +kernel

/-- Request 7, an ECDSA key generation, waits, and big-number engine 128 is in the pool. -/
def waiting : Dev :=
  (up.onDisp (fun y => { y with reqs := [(7, { req 0x3101 with phase := .waiting })] })).onUnit 128 (fun x => { x with pool := .inPool, spark := { x.spark with seeded := true } })

theorem witness_Assignment :
    let w := { req 0x3101 with phase := .waiting }
    let d := waiting.onInst 0 (fun x => { x with seeded := true })
    let e := d.openThread 7 w
    d.req? 7 = some w ∧ d.isReady 7 { w with released := true } = false ∧ d.isReady 7 w = true ∧ d.missing 7 w = [.first] ∧ w.draw = none ∧ (e.opReq w).entropy = true ∧
    (e.opReq w).cls = 2 ∧ e.persistentUpdate w = false ∧ e.signsStateful w = false ∧ e.missing 7 w = [.first] ∧ e.choose w .first = some 128 ∧ up.choose w .first = none ∧
    e.num P.blwState 0 ≠ blwExhausted ∧ ((d.setNum P.blwState 0 blwExhausted).openThread 7 w).num P.blwState 0 = blwExhausted ∧ d.disp.changes = [] ∧
    (d.onDisp (fun y => { y with changes := [{ unit := 0, target := .draining, edge := .host }] })).disp.changes ≠ [] ∧ (d.unit 0).pool ≠ .joining ∧
    ((d.onUnit 3 (fun x => { x with pool := .joining })).unit 3).pool = .joining ∧ d.lib.rolloutState ≠ 1 ∧ d.loading 0 = none ∧
    (working 128 { job 128 with keyReady := false } (req 0x3101)).dev.loading 128 = some 3 ∧ (working 0 (job 0) (req 0x1131)).dev.job? 3 = some (job 0) ∧
    (job 0).drawReady = true ∧ (working 0 (job 0) (req 0x1131)).dev.generates 0 = false ∧ d.generates 0 = true := by decide +kernel

theorem witness_ReleaseChecks :
    let good : JobResult := { status := 0, output := [], mismatch := false, secret := [] }
    let x := { job 160 with result := some good, finished := true, reported := true, stop := some 5 }
    let d := (working 160 x (req 0x4031)).dev
    d.job? 3 = some x ∧ ({ x with reported := false }).reported = false ∧ d.req? 7 = some (req 0x4031) ∧
    (d.jobsOf 7).filter (fun e => !e.2.kind.isShadow && e.2.kind.half == 0) = [(3, x)] ∧ x.kind = .first ∧ (d.opReq (req 0x4031)).cls ≠ 6 ∧ (req 0x4031).phase ≠ .waitTranslation ∧
    d.twice (req 0x4031) = false ∧ d.releaseAfter (req 0x4031) = false ∧ (req 0x4031).gen = d.num P.slcGeneration 0 ∧ d.gensCurrent (req 0x4031).keyGens = true ∧
    d.inWindow x = false ∧ d.inTileWindow x = false ∧ d.belowGuard = false ∧
    (let y := { x with kind := .shadow, expect := some { good with output := [1] } }
     let shadowed := d.onDisp (fun z => { z with jobs := z.jobs ++ [(4, y)] })
     shadowed.job? 4 = some y ∧ y.kind.isShadow = true ∧ y.result = some good ∧ y.expect = some { good with output := [1] } ∧ y.reported = true) ∧
    (req 0x4031).halfFail = none ∧ (req 0x4031).halves = [] ∧ x.held = false ∧ ({ x with held := true }).stop.getD 0 + ticksPerUs ≤ 1000 ∧
    (d.onTamper (fun t => { t with windows := [{ source := 0x100, start := 0, stop := none }] })).inWindow x = true ∧ d.capacity (req 0x4031) < 65 ∧ 0 ≤ d.capacity (req 0x4031) := by
  decide +kernel

theorem witness_VaultEvents :
    let d := (vaulted (keyed 0x5004)).dev
    let miss := d.onVault (fun v => { v with misses := [5], nodes := [(5, { node with resident := false })] })
    let inv : Invalidation := { node := some 5, slice := 0, affected := [5], req := none }
    miss.vault.misses.contains 5 = true ∧ miss.node? 5 = some { node with resident := false } ∧ d.node? 6 = none ∧ (miss.onVault (fun v => { v with roomless := [5] })).vault.roomless = [5] ∧
    (miss.bringIn 5).isSome = true ∧ (d.onVault (fun v => { v with invalidations := [inv] })).vault.invalidations = [inv] ∧ (5 < 2 ^ 28) ∧
    d.modes.mode.powered = true ∧ (∀ u ∈ d.vault.updates, d.mayCommit u = false) ∧
    (let u := sliceUpdate 0xFFFF .sliceRoot [] none; (d.onVault (fun v => { v with updates := [u] })).vault.updates.find? d.mayCommit = some u ∧
      d.vault.journalUsed + d.recordBytes u.kind ≤ 67108864) ∧
    ({ d with vault := { d.vault with roots := [] } }).orphans = [5] ∧ isVol 5 = false := by decide +kernel

theorem witness_SliceEvents :
    let put (st : SliceState) := sliced.onSlice 7 (fun x => { x with state := st, freezeStart := 0 })
    ((put .resetting).sliceSt 7).state = .resetting ∧ ((put .active).sliceSt 7).state ≠ .resetting ∧ ((put .resetting).sliceSt 7).removal = false ∧
    ((put .frozen).sliceSt 7).state = .frozen ∧ ((put .frozen).sliceSt 7).limitPassed = false ∧ 0 + ((put .frozen).setNum P.slcDrainLimitUs 7 10000).num P.slcDrainLimitUs 7 * 100 ≤ sliced.now ∧
    (sliced.sliceSt 7).restoring = none := by decide +kernel

/-! ### Entropy, quench, tamper, life cycle, power and sessions: hypotheses -/

theorem witness_NoiseSources :
    let live := up.onNoise 7 (fun x => { x with started := true })
    let bel := up.setNum P.blwState 0 blwStarting
    (up.noise 7).started = false ∧ (up.noise 7).failed = false ∧ up.modes.mode.powered = true ∧ (up.noise 7).startupFails = 0 ∧
    ((up.onNoise 7 (fun x => { x with startupFails := 1 })).noise 7).startupFails ≠ 0 ∧ (live.noise 7).started = true ∧ (live.noise 7).capturing = false ∧
    (zeros 80).length = 80 ∧ ([1, 2, 3] : List Nat).length ≤ 3 ∧ bel.num P.blwState 0 = blwStarting ∧ bel.bellows.katPassed = false ∧ up.bellows.retest = none ∧
    (let d := live.onBellows (fun b => { b with retest := some (.session 3, 9, 0x80) })
     d.bellows.retest = some (.session 3, 9, 0x80) ∧ d.num P.blwState 0 ≠ blwExhausted ∧ d.sourcesUp ≠ 8) := by decide +kernel

theorem witness_DrbgAndSpark :
    let inst (n : Nat) := up.onInst 16 (fun x => { x with seeded := true, age := n })
    let late := { req 0x5801 with deadline := some 5 }
    let spark (n : Nat) := (up.onInst 0 (fun x => { x with seeded := true })).onUnit 0 (fun x => { x with spark := { Spark.reset with seeded := true, count := n, requested := true } })
    ((inst 61440).inst 16).age = 61440 ∧ ((inst 61439).inst 16).age < 61440 ∧ ((inst 65536).inst 16).heldBlock = none ∧ ((inst (2 ^ 32)).inst 16).age = 2 ^ 32 ∧
    (inst 65535).generates 16 = true ∧ (inst (2 ^ 32)).generates 16 = false ∧
    late.desc.opcode = 0x5801 ∧ late.released = false ∧ (5 : Int) ≤ (up.now : Int) ∧
    ((up.onBellows (fun b => { b with waiters := [.call 7] })).waitsForBlock 7) = true ∧ up.unitPowered 0 = true ∧ (up.unit 0).spark.seeded = false ∧
    (spark 0).generates (hearthOf 0) = true ∧ ((spark (2 ^ 20)).unit 0).spark.count = 2 ^ 20 ∧ ((spark (2 ^ 20)).unit 0).spark.next = none := by decide +kernel

theorem witness_QuenchLoop :
    let d := (up.onUnit 5 (fun x => { x with pool := .inPool, spark := { x.spark with seeded := true } })).onQ 5 (fun q => { q with credit := 2 ^ 40 })
    let w (a b : Nat) := up.onQ 5 (fun q => { q with probes := 16384, fixedCount := a, randomCount := b })
    d.quenchRuns 5 = true ∧ d.tileFree 5 = true ∧ d.probeDue 5 ≤ (d.q 5).credit ∧ (d.unit 5).pool ≠ .returning ∧ (up.q 5).probing = false ∧
    ((up.onQ 5 (fun q => { q with calibrating := true })).q 5).calibrating = true ∧ 16384 ≤ ((w 4096 4096).q 5).probes ∧ ((w 4095 12289).q 5).fixedCount < 4096 ∧
    ((w 4096 4096).q 5).windowEnded = false ∧ (up.q 5).probeEnded = none ∧ (up.onQ 5 (fun q => { q with probeEnded := some 999900 })).now = 999900 + 100 ∧
    d.probeDirty 5 999000 999900 = false ∧ d.num P.qncTTarget 0 ≤ d.num P.qncTTarget 0 ∧ d.num P.qncTAction 0 < d.num P.qncTTarget 0 ∧ (d.level 5 = 2 ∨ d.level 5 ≠ 2) := by
  decide +kernel

theorem witness_AlarmResponses :
    up.modes.mode.powered = true ∧ up.sourceClass 0x400 ≤ 1 ∧ up.sourceClass 0x100 ≤ 2 ∧ up.sourceClass 0x700 = 4 ∧ (up.setNum P.tmpClass 0x700 3).sourceClass 0x700 = 3 ∧
    (up.setNum P.tmpClass 0x700 2).sourceClass 0x700 = 2 ∧ up.modes.mode = .service ∧ Dev.reset.modes.mode = .boot ∧ sourceBackup 0x700 = true ∧ sourceBackup 0x6FF = false ∧
    sourceBackup 0x800 = false ∧ ({ up with modes := { up.modes with mode := .backup } }).modes.mode.powered = false ∧ up.backup.log.length < 32 ∧
    (up.unit 0).pool ≠ .off ∧ up.num P.tmpA4Scrap 0 ≤ 1 := by decide +kernel

theorem witness_SensorEvents :
    let low := up.onRail 6 (fun y => { y with lowSince := some 900000 })
    up.railWatched 0 = true ∧ up.railWatched 6 = false ∧ (up.setDomain 20 .on).railWatched 6 = true ∧ (up.rail 0).lowSince = none ∧ (low.rail 6).lowSince = some 900000 ∧
    (low.rail 6).lowReported = false ∧ 900000 + 100000 ≤ low.now ∧ up.tamper.clocksBad = [] ∧ up.clockRuns 5 = true ∧ ({ up with time := Dev.reset.time }).clockRuns 5 = false ∧
    up.tamper.windows = [] ∧ up.time.crystalRuns = true ∧ up.unitPowered 127 = true ∧ up.tamper.tempReported = [] ∧ (0x300 + 19 : Nat) ∉ up.tamper.tempReported ∧
    (let b := up.setOct P.qncBaseline 127 (natLE 2 8192 ++ natLE 2 256 ++ zeros 12)
     b.isGlitch 127 0 23 = true ∧ b.isGlitch 127 0 24 = false ∧ b.isGlitch 127 0 40 = false ∧ b.isGlitch 127 0 41 = true ∧ b.isGlitch 127 1 4 = true ∧ b.isGlitch 127 1 3 = false) := by
  decide +kernel

theorem witness_EnclosureEvents :
    up.modes.mode ≠ .off ∧ up.tamper.testing = none ∧ (up.onTamper (fun t => { t with testing := some 0x100 })).tamper.testing = some 0x100 ∧
    ({ up with modes := { up.modes with mode := .backup } }).modes.mode.powered = false := by decide +kernel

theorem witness_LifeCycleEvents :
    let cert := { up with dbg := { nonce := none, certActive := true, notAfter := 5, halted := [] }, time := { up.time with stamp := 5 } }
    let burn := up.onLcy (fun l => { l with burning := some (3, 15), fields := [(3, { firm := 0x7FFF, marginal := 0 })] })
    let test := { up with lcy := { up.lcy with bootState := 1, fields := [(4, { firm := 0xFFFF, marginal := 0 })] } }
    (up.onLcy (fun l => { l with wiping := true })).lcy.wiping = true ∧ (up.onLcy (fun l => { l with prepared := some (2, 1) })).lcy.prepared = some (2, 1) ∧
    ((0 : Nat) + 1000000000 < 1000000001) ∧ cert.dbg.certActive = true ∧ cert.dbg.notAfter ≤ cert.time.stamp ∧ up.lcy.burning = none ∧ burn.lcy.burning = some (3, 15) ∧
    burn.lcy.burnStop = false ∧ burn.fcls 3 ≠ .clear ∧ up.fcls 3 = .clear ∧ test.lcState = 1 ∧ test.rights.testBit 0 = true ∧ test.rights.testBit 2 = true ∧
    up.rights.testBit 0 = false ∧ up.modes.mode.powered = true := by decide +kernel

theorem witness_OtpOnlySets : (exec (.otpBitDone false) (dev (fun d => d.onLcy (fun l => { l with burning := some (0, 0), fields := [(1, { firm := 3, marginal := 4 })] }))) matches
    .next _) = true ∧ ((after (.otpBitDone false) (dev (fun d => d.onLcy (fun l => { l with burning := some (0, 0) })))).field 0).firm = 1 := by decide +kernel

theorem witness_PowerEvents :
    let off := { up with modes := { up.modes with mode := .off } }
    ((up.setDomain 12 .draining).domain 12 = .draining) ∧ (∀ u ∈ domainUnits 12, up.unitIdle u = true) ∧ up.longBusy 0 = false ∧ (up.setDomain 4 .ramping).domain 4 = .ramping ∧
    (up.setDomain 4 .ramping).domain 8 ≠ .ramping ∧ up.domain 4 ≠ .draining ∧ off.modes.mode.powered = false ∧ Dev.reset.modes.inReset = some 0 ∧ up.modes.inReset ≠ some 0 ∧
    (∀ u ∈ domainUnits 12, (up.unit u).pool ≠ .inPool) ∧ (∀ u ∈ domainUnits 4, (up.unit u).pool ≠ .inPool) ∧ EdgeKind.power ≠ .alarm ∧ up.modes.mode.powered = true ∧
    up.power.cell = true ∧ up.railWatched 0 = true ∧ (sliced.sliceSt 7).state ≠ .free := by decide +kernel

theorem witness_BootEvents :
    let d := Dev.reset
    let ended := { d with boot := { d.boot with step := 8 } }
    let scrap : BlogEntry := { stamp := 0, source := 0x700, cls := 4, acked := false, scrapPending := true, emberErased := true, onCell := true, test := false, seq := 0, detail := 0, copied := false }
    d.modes.mode = .boot ∧ d.boot.step = 1 ∧ d.power.porN = true ∧ d.power.coldRstN = true ∧ d.time.pllLocked = false ∧
    (∃ b ∈ (d.onBackup (fun b => { b with log := [scrap] })).backup.log, b.scrapPending = true) ∧ (upIn 4).lcState ≠ 5 ∧
    (d.onLcy (fun l => { l with fields := [(3, { firm := 1, marginal := 0 })] })).lcState = 5 ∧ ended.boot.step = 8 ∧ ended.boot.halted = false ∧ d.bankStage1 0 = true ∧ d.bankStage2 0 = true ∧
    d.bankStage1 1 = false ∧ (d.setNum P.fwPendingBank 0 2).num P.fwPendingBank 0 - 1 = 1 ∧ d.num P.fwActiveBank 0 = 0 ∧
    (d.onBoot (fun b => { b with banks := [(0, { image := [] })] })).bankStage1 0 = false ∧ (d.unit 5).pool = .returning ∧ ((d.onUnit 6 (fun x => { x with pool := .joining })).unit 6).pool = .joining ∧ d.unitPowered 5 = true := by decide +kernel

/-- A handshake for session n. -/
def shake (n role : Nat) : Handshake :=
  { session := n, role := role, version := 1, reserved := 0, nonce := zeros 32, kem := zeros (if role == 5 then 1624 else 1216), leafKey := [], rootMlDsa := [], rootP384 := [],
    chainsWellFormed := true, datesValid := true, signaturesOk := true, seq := 0, sealed := [], tag := [] }

theorem witness_SessionEvents :
    let k (init : Bool) : Shake := { role := 3, peer := false, started := 1000000, initiator := init, principal := none, hello := [], secret := [], keys := SessionKeys.none }
    let d := up.onMgmt (fun g => { g with shakes := [(8, k false), (9, k true), (10, { k true with principal := some [1] })] })
    up.scegaUp = true ∧ Dev.reset.scegaUp = false ∧ up.mgmt.helloTimes.length < 16 ∧ up.sessionCount false = 5 ∧ up.sessionCount true = 0 ∧
    (shake 0 5).kem.length = 1624 ∧ (shake 0 1).kem.length = 1216 ∧ ¬ (1 ≤ (shake 0 0).role) ∧ tabGet? 8 up.mgmt.shakes = none ∧
    tabGet? 8 d.mgmt.shakes = some (k false) ∧ tabGet? 9 d.mgmt.shakes = some (k true) ∧ d.now < (k false).started + 500000000 ∧
    (shake 8 3).chainsWellFormed = true ∧ d.num P.netPtpState 0 ≠ 3 ∧ ((upIn 2).setOct P.scgAnchors 0 []).grant (shake 8 3) 3 = none ∧
    ({ (upIn 2) with dict := up.dict, mgmt := Dev.reset.mgmt }).grant (shake 8 3) 3 = some 16 ∧ d.peerListed (shake 9 5) = false ∧
    up.now < (session 2 2).lastRecord + up.num P.scgIdleS 0 * 100000000 ∧ MlKem.ekOk 2 ((shake 0 1).kem.take 1184) = true ∧ MlKem.ekOk 3 ((shake 0 5).kem.take 1568) = true ∧
    MlKem.ekOk 2 (0xFF :: 0xFF :: zeros 1182) = false := by decide +kernel

/-- A FINISH, or an ACCEPT, whose tag verifies under the keys of its handshake. -/
theorem witness_SessionEvents_sealed (k : SessionKeys) : ∃ f a : Handshake, f.session = 8 ∧ f.seq < 2 ^ 32 ∧ recordVerifies f k.clientKey k.clientSalt 3 = true ∧
    a.session = 10 ∧ a.seq < 2 ^ 32 ∧ recordVerifies a k.deviceKey k.deviceSalt 4 = true :=
  ⟨{ shake 8 3 with tag := recordTag k.clientKey k.clientSalt 3 8 0 [] }, { shake 10 5 with tag := recordTag k.deviceKey k.deviceSalt 4 10 0 [] }, rfl, show (0 : Nat) < 2 ^ 32 by decide, by simp [recordVerifies, shake],
    rfl, show (0 : Nat) < 2 ^ 32 by decide, by simp [recordVerifies, shake]⟩

theorem witness_PeerMessages :
    let x := { session 5 7 with peer := true }
    let d := { up with mgmt := { up.mgmt with sessions := [(8, x)] } }
    tabGet? 8 d.mgmt.sessions = some x ∧ x.peer = true ∧ d.scegaUp = true ∧ tabGet 0 4095 d.vault.seqs = 0 ∧ d.groupMember (zeros 32) = false ∧
    (d.setOct P.vltGroupMembers 15 (zeros 32 ++ [1])).groupMember (zeros 32) = true ∧ (∀ t ∈ d.vault.transport, t.nonce ≠ zeros 16) ∧ (d.root 3).held = false ∧
    ((d.onRoot 3 (fun r => { r with held := true, closed := true })).root 3).closed = true := by decide +kernel

theorem witness_SpdmAndNetwork :
    let at' (n : Nat) := up.onMgmt (fun g => { g with spdm := [(.mctp, { stage := n, vca := [], trans := [], meas := [] })] })
    up.spdmHeard .mctp = true ∧ Dev.reset.spdmHeard .mctp = true ∧ Dev.reset.boot.step < 8 ∧ up.spdmHeard (.scega 9) = false ∧ 8 ≤ up.boot.step ∧ (up.spdmOf .mctp).stage < 1 ∧
    3 ≤ ((at' 3).spdmOf .mctp).stage ∧ leAt 0 1 [(0x13 : Byte), 0xE1, 0, 0] = 0x13 ∧ up.mgmt.answering = true ∧ tabGet? 4 up.mgmt.reassemblies = none ∧
    tabGet? 4 (up.onMgmt (fun g => { g with reassemblies := [(4, 0)] })).mgmt.reassemblies = some 0 ∧ (up.setNum P.netPtpEnable 0 1).num P.netPtpEnable 0 = 1 ∧ (up.setNum P.netPtpEnable 0 1).scegaUp = true ∧ (up.setNum P.netPtpEnable 0 1).num P.netPtpDomain 0 = 0 ∧ up.scegaUp = true ∧
    slaacPrefix 0 [] = none ∧ leAt 0 1 ([135] ++ zeros 23 : Bytes) = 135 := by decide +kernel

/-! ### The whole block: hypotheses -/

theorem witness_StepRunsFrontCommand : ({ State.reset with pending := [.assignmentPass] }).pending = .assignmentPass :: [] ∧ State.reset.pending = [] ∧
    State.reset.dev.time.stamp < 2 ^ 48 := by decide

theorem witness_QueueProgress : (∀ c ∈ [Instr.sadd 127 ⟨vf 1 2 3, []⟩, .assignmentPass], c.wellFormed = true) ∧ (Instr.sadd 128 ⟨vf 1 2 3, []⟩).part = some (.tile, 128) ∧
    Part.tile.count ≤ 128 := by decide

theorem test_noSuchPart : (exec (.sadd 128 ⟨vf 1 2 3, []⟩) State.reset matches .fault (.noSuchPart 128)) = true := by decide +kernel

theorem test_idle_tick : (match step (dev (fun d => { d with time := { d.time with pllLocked := true } })) with | .next u => u.dev.now | _ => 7) = 1 := by decide +kernel

end Sys2Proof.Tests
end

section
/-! SUPPORT. What any command can do to the queue and how it can stop, and from it the progress of the queue (O57). -/

namespace Sys2Proof.Machine

/-- A command with no part changes the device alone; one that names a part does so where the part exists, and faults with its number where it does not. -/
def EndsByPart (c : Instr) (s : State) : Prop :=
  match c.part with
  | none => ∃ d, exec c s = .next (s.withDev d)
  | some (p, n) => ∃ d, exec c s = if n < p.count then .next (s.withDev d) else .fault (.noSuchPart n)

/-- Every arm of `exec` is one call of `State.run` or `State.runPart`, with the count of `Part.count`. -/
theorem exec_endsByPart (c : Instr) (s : State) : EndsByPart c s := by
  cases c with
  | _ => exact ⟨_, rfl⟩

theorem exec_wellFormed {c : Instr} (h : c.wellFormed = true) (s : State) : ∃ d, exec c s = .next (s.withDev d) := by
  have e := exec_endsByPart c s
  unfold EndsByPart at e
  unfold Instr.wellFormed at h
  cases hp : c.part with
  | none => simpa only [hp] using e
  | some x =>
    simp only [hp, decide_eq_true_eq] at h
    simpa only [hp, h, if_true] using e

theorem exec_noSuchPart {c : Instr} {p : Part} {n : Nat} (hp : c.part = some (p, n)) (hn : p.count ≤ n) (s : State) :
    exec c s = .fault (.noSuchPart n) := by
  have e := exec_endsByPart c s
  simp only [EndsByPart, hp, Nat.not_lt.2 hn, if_false] at e
  exact e.choose_spec

/-- A command changes the device alone, or faults on the number of its part. -/
theorem exec_cases (c : Instr) (s : State) : (∃ d, exec c s = .next (s.withDev d)) ∨ ∃ n, exec c s = .fault (.noSuchPart n) := by
  by_cases w : c.wellFormed = true
  · exact .inl (exec_wellFormed w s)
  · cases hp : c.part with
    | none => simp [Instr.wellFormed, hp] at w
    | some x => exact .inr ⟨x.2, exec_noSuchPart (p := x.1) hp (by simpa [Instr.wellFormed, hp] using w) s⟩

/-- A command that answers leaves the queue as it was. -/
theorem exec_next_pending {c : Instr} {s u : State} (h : exec c s = .next u) : u.pending = s.pending := by
  obtain ⟨d, hd⟩ | ⟨n, hn⟩ := exec_cases c s
  · rw [hd] at h
    injection h with hu
    exact hu ▸ rfl
  · exact nomatch hn.symm.trans h

theorem exec_ne_refused (c : Instr) (s : State) (r : Refusal) : exec c s ≠ .refused r := by
  intro h
  obtain ⟨d, hd⟩ | ⟨n, hn⟩ := exec_cases c s
  · exact nomatch hd.symm.trans h
  · exact nomatch hn.symm.trans h

theorem step_nil {s : State} (h : s.pending = []) : step s = .next (idle s) := by
  unfold step; rw [h]

theorem step_cons {s : State} {c : Instr} {l : List Instr} (h : s.pending = c :: l) : step s = exec c { s with pending := l } := by
  unfold step; rw [h]

/-- A step that answers leaves the queue without its front. -/
theorem step_next_pending {s u : State} (h : step s = .next u) : u.pending = s.pending.tail := by
  cases hp : s.pending with
  | nil =>
    rw [step_nil hp] at h
    injection h with hu
    exact hu ▸ hp
  | cons c l =>
    rw [step_cons hp] at h
    exact exec_next_pending h

/-- A queue of well-formed commands runs to its end, one command a step. -/
theorem run_drains (l : List Instr) (s : State) (hs : s.pending = l) (hw : ∀ c ∈ l, c.wellFormed = true) :
    ∃ u : State, Sys2Proof.core.run l.length s = .next u ∧ u.pending = [] := by
  induction l generalizing s with
  | nil => exact ⟨s, rfl, hs⟩
  | cons c l ih =>
    obtain ⟨d, hd⟩ := exec_wellFormed (hw c (by simp)) { s with pending := l }
    obtain ⟨u, hu, he⟩ := ih (State.withDev { s with pending := l } d) rfl (fun x hx => hw x (by simp [hx]))
    refine ⟨u, ?_, he⟩
    have hstep : Sys2Proof.core.step s = .next (State.withDev { s with pending := l } d) := (step_cons hs).trans hd
    simpa only [List.length_cons, Host.Core.run, hstep] using hu

/-- Settles O57: every arm of `exec` runs on the device alone (`exec_endsByPart`), and the queue shrinks by its front. -/
theorem queueProgress : Obligations.QueueProgress := by
  refine ⟨fun c s h => ?_, fun c s p n hp hn => exec_noSuchPart hp hn s, fun s u hw h c hc => ?_, fun s hw => run_drains _ s rfl hw, fun s r h => ?_⟩
  · obtain ⟨d, hd⟩ := exec_wellFormed h s
    exact ⟨_, hd, rfl⟩
  · rw [step_next_pending h] at hc
    exact hw c (List.mem_of_mem_tail hc)
  · cases hp : s.pending with
    | nil => rw [step_nil hp] at h; exact nomatch h
    | cons c l => rw [step_cons hp] at h; exact exec_ne_refused c _ r h

end Sys2Proof.Machine
end

section
/-! SUPPORT. What is read of each numbered part right after reset: nothing has been written, so every read is the default of its table (O58). -/

namespace Sys2Proof.Machine

@[simp] theorem Dev.reset_node? (n : Nat) : Dev.reset.node? n = none := rfl
@[simp] theorem Dev.reset_num (p : Param) (row : Nat) : Dev.reset.num p row = catDefault p := rfl
@[simp] theorem Dev.reset_oct (p : Param) (row : Nat) : Dev.reset.oct p row = [] := rfl
theorem Dev.reset_domain (n : Nat) : Dev.reset.domain n = if n == 20 then .off else .on := rfl

theorem TileSt.reset_sget (r : BitVec 5) : TileSt.reset.sget r = 0 := by
  unfold TileSt.sget
  split <;> rfl

theorem catDefault_blwState : catDefault P.blwState = blwStarting := by decide

/-- With every OTP field clear the life cycle is at its first state and no test token is used (R443, R444). -/
theorem Dev.reset_lifeCycle : Dev.reset.lcState = 0 ∧ Dev.reset.tokensLeft = 8 := by decide

/-- Settles O58: the groups of `Dev.reset` by definition, the numbered parts by their defaults. -/
theorem resetState : Obligations.ResetState := by
  refine ⟨rfl, rfl, rfl, rfl, rfl, rfl, fun _ _ => ⟨rfl, rfl, rfl, rfl⟩, fun n _ hn => ?_, rfl, fun _ => ⟨rfl, rfl⟩, fun _ => ⟨rfl, rfl⟩, fun _ => rfl, fun _ => rfl,
    rfl, rfl, rfl, fun p row => ⟨Dev.reset_num p row, Dev.reset_oct p row⟩, (Dev.reset_num _ _).trans catDefault_blwState, fun _ => rfl, fun _ _ => rfl,
    fun _ => ⟨rfl, rfl, rfl, TileSt.reset_sget⟩, Dev.reset_node?, Dev.reset_lifeCycle.1, fun _ => ⟨rfl, rfl⟩, Dev.reset_lifeCycle.2, rfl, rfl, rfl⟩
  have h20 : (n == 20) = false := beq_false_of_ne (by omega)
  exact (Dev.reset_domain n).trans (by rw [h20]; rfl)

end Sys2Proof.Machine
end

section
/-! SUPPORT. What the mode, reset and power commands do, branch by branch, and from it O21 (R15, R325, R413, R484, R485, R488, R494). -/

namespace Sys2Proof.Machine

variable {d : Dev} {m : Msg}

/-- An argument of the length asked for reaches the effect. -/
theorem withArg_of_length {n : Nat} {eff : Effect} (h : m.body.length = n) : withArg n eff d m = eff d m := by
  simp [withArg, h]

theorem withArg_of_nil {eff : Effect} (h : m.body = []) : withArg 0 eff d m = eff d m := withArg_of_length (by rw [h]; rfl)

/-! ### Modes and resets -/

theorem effQuiesce_ready (hb : m.body = []) (h : d.ready = true) : effQuiesce d m = accept (d.takeEdge .quiesced .host 0) := by
  unfold effQuiesce
  rw [withArg_of_nil hb, if_pos h]

theorem effQuiesce_not_ready (hb : m.body = []) (h : d.ready = false) : effQuiesce d m = deny d (Reply.err resState) := by
  unfold effQuiesce
  rw [withArg_of_nil hb, if_neg (by simp [h])]

theorem effResume_quiesced (hb : m.body = []) (h : d.modes.mode = .quiesced) (h2 : d.power.inS2 = false) :
    effResume d m = accept (d.takeEdge d.serviceMode .host 0) := by
  unfold effResume
  rw [withArg_of_nil hb, if_neg (by simp [h]), if_neg (by simp [h, h2])]

theorem effResume_hold (hb : m.body = []) (h : d.modes.mode = .debug) (hh : d.modes.hold = true) :
    effResume d m = accept (d.onModes (fun x => { x with hold := false })) := by
  unfold effResume
  rw [withArg_of_nil hb, if_pos (by simp [h, hh])]

theorem effZeroise_running (hb : m.body = []) (h : d.ready = true ∨ d.modes.mode = .quiesced) :
    effZeroise d m = accept (((d.joinResponse 4).recordAlarm 0x900 0 4 4 0 false).respondA4 .host 0x900 true) := by
  unfold effZeroise
  rw [withArg_of_nil hb, if_pos (by simpa using h)]

theorem effZeroise_not_running (hb : m.body = []) (h : d.ready = false) (hq : d.modes.mode ≠ .quiesced) : effZeroise d m = deny d (Reply.err resState) := by
  unfold effZeroise
  rw [withArg_of_nil hb, if_neg (by simp [h, hq])]

theorem effRecoveryDone_sealed (hb : m.body = []) (hs : d.modes.mode = .sealed) (hr : d.vault.recovered = true) (hl : d.lcState ≠ 4) :
    effRecoveryDone d m = (none, (((d.respondTo m.src m.reqId.toNat Reply.ok).onVault (fun v => { v with recovered := false })).onModes
      (fun x => { x with bootEdge := .host })).warmWork .host) := by
  unfold effRecoveryDone
  rw [withArg_of_nil hb, if_neg (by simp [hs, hr, hl])]

theorem effRecoveryDone_refused (hb : m.body = []) (h : d.modes.mode ≠ .sealed ∨ d.vault.recovered = false ∨ d.lcState = 4) :
    effRecoveryDone d m = deny d (Reply.err resState) := by
  unfold effRecoveryDone
  rw [withArg_of_nil hb, if_pos (by simpa [or_assoc] using h)]

theorem effWarm_eq (hb : m.body = []) : effWarm d m = (none, if (d.respondTo m.src m.reqId.toNat Reply.ok).contained 2 then (d.respondTo m.src m.reqId.toNat Reply.ok).absorbed 2
    else (d.respondTo m.src m.reqId.toNat Reply.ok).warmReset) := by
  unfold effWarm
  rw [withArg_of_nil hb]

theorem effCold_eq (hb : m.body = []) : effCold d m = (none, if (d.respondTo m.src m.reqId.toNat Reply.ok).contained 1 then (d.respondTo m.src m.reqId.toNat Reply.ok).absorbed 1
    else (d.respondTo m.src m.reqId.toNat Reply.ok).coldReset 1 0 .host) := by
  unfold effCold
  rw [withArg_of_nil hb]

/-! ### PWR_STATE_CMD -/

/-- No domain of a quadrant and no tile's switch is being switched (R485). -/
def Dev.calm (d : Dev) : Prop := (∀ n ∈ quadDomains, d.domainBusy n = false) ∧ (∀ t, t < nTiles → d.tileBusy t = false)

theorem Dev.calm_iff : d.calm ↔ (quadDomains.any d.domainBusy || (List.range nTiles).any d.tileBusy) = false := by
  simp [Dev.calm]

/-- What PWR_STATE_CMD does once nothing is being switched. -/
theorem effPwrState_calm {v : Byte} (hb : m.body = [v]) (hv : v.toNat ≤ 2) (h : d.calm) : effPwrState d m =
    if v.toNat == 2 then
      if d.modes.mode != .quiesced then deny d (Reply.err resState)
      else if d.power.inS2 then accept d
      else accept ((d.onPower (fun p => { p with inS2 := true, beforeS2 := quadDomains.filter d.domainSet })).switchDomains (quadDomains.filter d.domainSet) false)
    else if d.power.inS2 then
      if d.modes.mode != .quiesced then deny d (Reply.err resState)
      else accept ((d.onPower (fun p => { p with inS2 := false, beforeS2 := [] })).switchDomains (if v.toNat == 0 then quadDomains else d.power.beforeS2) true)
    else if v.toNat == 1 then deny d (Reply.err resState)
    else
      let e := ((List.range nTiles).filter (fun t => d.domainSet (unitDomain t) && d.power.openSwitches.contains t)).foldl Dev.closeTile d
      accept (e.switchDomains (quadDomains.filter (fun n => !e.domainSet n)) true) := by
  have hn : leNat m.body = v.toNat := by simp [hb, leNat]
  unfold effPwrState
  rw [withArg_of_length (by rw [hb]; rfl)]
  simp only [hn, if_neg (show ¬ v.toNat > 2 by omega), Dev.calm_iff.1 h, Bool.false_eq_true, if_false]

theorem effPwrState_busy (hb : m.body.length = 1) (hv : leNat m.body ≤ 2) (h : ¬ d.calm) : effPwrState d m = deny d (Reply.err resBusy) := by
  rw [Dev.calm_iff, Bool.not_eq_false] at h
  unfold effPwrState
  rw [withArg_of_length hb]
  simp only [if_neg (show ¬ leNat m.body > 2 by omega), h, if_true]

/-! ### PWR_DOMAIN_CMD and PWR_TILE_CMD -/

/-- The domains that the bits of a mask name, counted from 1 (R485). -/
def maskDomains (m : Msg) : List Nat := ((List.range 32).filter (fun b => (leAt 0 4 m.body).testBit b)).map (· + 1)

/-- The tiles that a mask names (R485). -/
def maskTiles (m : Msg) : List Nat := (List.range nTiles).filter (fun t => (leAt 0 16 m.body).testBit t)

theorem unitDomain_tile {t : Nat} (h : t < nTiles) : unitDomain t = 4 + t / 32 := by
  simp [unitDomain, blockOf, show t < 128 from h, Block.powerDomain]

theorem mem_quadTiles {q t : Nat} (hq : q < 4) (ht : t ∈ quadTiles q) : t < nTiles := by
  simp only [quadTiles, List.mem_map, List.mem_range] at ht
  obtain ⟨i, hi, rfl⟩ := ht
  unfold nTiles; omega

/-- DEPENDENCY looks at the switches of the device's own tiles alone. -/
theorem Dev.dependency_congr {isOn f g : Nat → Bool} {l : List Nat} (h : ∀ t, t < nTiles → f t = g t) : d.dependency isOn f l = d.dependency isOn g l := by
  have hq : ∀ q, q < 4 → (quadTiles q).any f = (quadTiles q).any g := fun q hq =>
    Bool.eq_iff_iff.2 (by
      simp only [List.any_eq_true]
      exact exists_congr fun t => and_congr_right fun ht => by rw [h t (mem_quadTiles hq ht)])
  unfold Dev.dependency
  congr 1
  refine Bool.eq_iff_iff.2 ?_
  simp only [List.any_eq_true, List.mem_range]
  exact exists_congr fun q => and_congr_right fun hlt => by rw [hq q hlt]

theorem quadDomains_filter_one : ∀ n < 16, 4 ≤ n → quadDomains.filter [n].contains = [n] ∧ quadDomains.reverse.filter [n].contains = [n] := by decide

theorem Dev.switchDomains_one {n : Nat} (h4 : 4 ≤ n) (h15 : n ≤ 15) (d : Dev) :
    d.switchDomains [n] true = d.setDomain n .ramping ∧ d.switchDomains [n] false = d.switchOff n := by
  obtain ⟨hon, hoff⟩ := quadDomains_filter_one n (by omega) h4
  simp [Dev.switchDomains, hon, hoff, show ¬ 20 = n by omega]

theorem Dev.switchDomains_otp (d : Dev) (on : Bool) : d.switchDomains [20] on = d.setDomain 20 (if on then .on else .off) := by
  have hq : quadDomains.filter [20].contains = [] ∧ quadDomains.reverse.filter [20].contains = [] := by decide
  cases on <;> simp [Dev.switchDomains, hq]

theorem effPwrDomain_range (hb : m.body.length = 5)
    (h : leAt 4 1 m.body > 1 ∨ maskDomains m = [] ∨ ∃ n ∈ maskDomains m, ¬ ((4 ≤ n ∧ n ≤ 15) ∨ n = 20)) : effPwrDomain d m = deny d (Reply.range P.pwrDomainCmd) := by
  unfold effPwrDomain
  rw [withArg_of_length hb]
  have hbad (n : Nat) : (!((decide (4 ≤ n) && decide (n ≤ 15)) || n == 20)) = true ↔ ¬ ((4 ≤ n ∧ n ≤ 15) ∨ n = 20) := by
    simp only [Bool.not_eq_true', Bool.or_eq_false_iff, Bool.and_eq_false_iff, decide_eq_false_iff_not, beq_eq_false_iff_ne]; omega
  refine if_pos ?_
  simp only [Bool.or_eq_true, decide_eq_true_eq, List.isEmpty_iff, List.any_eq_true, hbad, or_assoc]
  exact h

/-- PWR_DOMAIN_CMD for one domain that is free to be switched and is not yet as the command has it. -/
theorem effPwrDomain_one {n : Nat} {on : Bool} (hb : m.body.length = 5) (hm : maskDomains m = [n]) (hv : leAt 4 1 m.body = on.toNat)
    (hn : (4 ≤ n ∧ n ≤ 15) ∨ n = 20) (hS : n = 20 ∨ d.power.inS2 = false) (hbusy : d.domainBusy n = false)
    (htile : ∀ t, t < nTiles → unitDomain t = n → d.tileBusy t = false) (hburn : n = 20 → d.lcy.burning = none)
    (hwant : (if n == 20 then (d.domain n == .on) != on else d.domainSet n != on) = true)
    (hdep : d.dependency (fun k => if k == n then on else d.domainSet k) (fun t => if unitDomain t == n then on else d.switchClosed t)
      (if on then [n].filter (fun k => 12 ≤ k && k ≤ 15) else []) = false) :
    effPwrDomain d m = accept (d.switchDomains [n] on) := by
  have hon : (leAt 4 1 m.body == 1) = on := by cases on <;> simp [hv]
  have hl : leAt 4 1 m.body ≤ 1 := by cases on <;> simp [hv]
  have hw : [n].filter (fun n => if n == 20 then (d.domain n == .on) != on else d.domainSet n != on) = [n] := List.filter_eq_self.2 (by simpa using hwant)
  have hc (k : Nat) : [n].contains k = (k == n) := by rw [List.contains_cons, List.contains_nil, Bool.or_false]
  have hbt : (List.range nTiles).any (fun t => [n].contains (unitDomain t) && d.tileBusy t) = false := by
    simpa [hc] using htile
  have hb20 : ([n].contains 20 && d.lcy.burning.isSome) = false := by
    simp only [hc, Bool.and_eq_false_iff, beq_eq_false_iff_ne, ne_eq]
    by_cases h20 : 20 = n
    · exact .inr (by rw [hburn h20.symm]; rfl)
    · exact .inl h20
  have hs2 : (d.power.inS2 && [n].any (· != 20)) = false := by
    rcases hS with h | h
    · rw [h]; exact Bool.and_false _
    · rw [h]; exact Bool.false_and _
  unfold effPwrDomain
  rw [withArg_of_length hb]
  unfold maskDomains at hm
  simp only [hm, hon, hw]
  rw [if_neg (by simp; omega), if_neg (by rw [hs2]; exact Bool.false_ne_true), if_neg (by rw [hbt, hb20]; simpa using hbusy), if_neg ?_]
  simpa only [hc, Bool.not_eq_true] using hdep

/-- The same for OTP, which powers no tile, so that no switch counts with it. -/
theorem effPwrDomain_otp {on : Bool} (hb : m.body.length = 5) (hm : maskDomains m = [20]) (hv : leAt 4 1 m.body = on.toNat)
    (hd : d.domain 20 = if on then .off else .on) (hburn : d.lcy.burning = none)
    (hdep : d.dependency (fun k => if k == 20 then on else d.domainSet k) d.switchClosed [] = false) :
    effPwrDomain d m = accept (d.setDomain 20 (if on then .on else .off)) := by
  have hne : ∀ t, t < nTiles → unitDomain t ≠ 20 := fun t ht => by rw [unitDomain_tile ht]; unfold nTiles at ht; omega
  have hsw : ∀ t, t < nTiles → (if unitDomain t == 20 then on else d.switchClosed t) = d.switchClosed t := fun t ht => if_neg (by simpa using hne t ht)
  have hvec : (if on then [20].filter (fun k => 12 ≤ k && k ≤ 15) else []) = ([] : List Nat) := by cases on <;> rfl
  rw [effPwrDomain_one hb hm hv (.inr rfl) (.inl rfl) (by cases on <;> simp [Dev.domainBusy, hd]) (fun t ht h => absurd h (hne t ht)) (fun _ => hburn)
    (by cases on <;> simp [hd]) (by rw [hvec, Dev.dependency_congr hsw]; exact hdep), Dev.switchDomains_otp]

theorem effPwrTile_range (hb : m.body.length = 17) (h : leAt 16 1 m.body > 1 ∨ maskTiles m = []) : effPwrTile d m = deny d (Reply.range P.pwrTileCmd) := by
  unfold effPwrTile
  rw [withArg_of_length hb]
  refine if_pos ?_
  simp only [Bool.or_eq_true, decide_eq_true_eq, List.isEmpty_iff]
  exact h

/-- PWR_TILE_CMD acts on the tiles of its mask whose switches are not yet as it has them. -/
theorem effPwrTile_accepts {close : Bool} (hb : m.body.length = 17) (hv : leAt 16 1 m.body = close.toNat) (hne : maskTiles m ≠ [])
    (hbusy : ∀ t ∈ maskTiles m, d.domainBusy (unitDomain t) = false ∧ d.tileBusy t = false)
    (hdep : close = true → ∀ t ∈ maskTiles m, d.domain (unitDomain t) = .on ∧ d.domain (hearthDomain (quadOf t)) = .on) :
    effPwrTile d m = accept (((maskTiles m).filter (fun t => d.switchClosed t != close)).foldl (if close then Dev.closeTile else Dev.openTile) d) := by
  have hc : (leAt 16 1 m.body == 1) = close := by cases close <;> simp [hv]
  have hl : ¬ leAt 16 1 m.body > 1 := by cases close <;> simp [hv]
  unfold effPwrTile
  rw [withArg_of_length hb]
  unfold maskTiles at *
  simp only [hc]
  rw [if_neg (by simpa [hl] using hne), if_neg (by simpa using hbusy), if_neg ?_]
  · cases close <;> rfl
  · cases close with
    | false => simp
    | true =>
      simp only [Bool.true_and, List.any_eq_true, List.mem_filter (p := fun t => d.switchClosed t != true), not_exists, not_and]
      intro t ht
      obtain ⟨h1, h2⟩ := hdep rfl t ht.1
      simp [h1, h2]

theorem Dev.domainBusy_of_on {n : Nat} (h : d.domain n = .on) : d.domainBusy n = false := by simp [Dev.domainBusy, h]

end Sys2Proof.Machine
end

section
/-! SUPPORT. The mode, reset and power commands as the statement has them (O21). -/

namespace Sys2Proof.Machine

/-- Settles O21: each command runs its effect, and the effect is read off branch by branch. -/
theorem modeAndPowerCommands : Obligations.ModeAndPowerCommands := by
  refine ⟨⟨?quiesce, ?quiesceNot, ?resume, ?resumeHold, ?zeroise, ?zeroiseNot, ?recovery, ?recoveryNot, ?warm, ?cold, ?warmIn, ?coldIn⟩,
    ?s2, ?s1, ?s0, ?s0Up, ?s2Not, ?s1Not, ?busy, ?domRange, ?domOff, ?domOn, ?otpOn, ?otpOff, ?tileRange, ?tileOpen, ?tileClose⟩
  case quiesce => exact accepts_of (fun _ _ => rfl) (fun _ => rfl) fun _ _ ⟨hb, h⟩ => effQuiesce_ready hb h
  case quiesceNot => exact refuses_of (fun _ _ => rfl) (fun _ => rfl) fun _ _ ⟨hb, h⟩ => effQuiesce_not_ready hb h
  case resume => exact accepts_of (fun _ _ => rfl) (fun _ => rfl) fun _ _ ⟨hb, hq, hs⟩ => effResume_quiesced hb hq hs
  case resumeHold => exact accepts_of (fun _ _ => rfl) (fun _ => rfl) fun _ _ ⟨hb, hd, hh⟩ => effResume_hold hb hd hh
  case zeroise => exact accepts_of (fun _ _ => rfl) (fun _ => rfl) fun _ _ ⟨hb, h⟩ => effZeroise_running hb h
  case zeroiseNot => exact refuses_of (fun _ _ => rfl) (fun _ => rfl) fun _ _ ⟨hb, h, hq⟩ => effZeroise_not_running hb h hq
  case recovery => exact defers_of (fun _ _ => rfl) (fun _ => rfl) fun _ _ ⟨hb, hs, hr, hl⟩ => effRecoveryDone_sealed hb hs hr hl
  case recoveryNot => exact refuses_of (fun _ _ => rfl) (fun _ => rfl) fun _ _ ⟨hb, h⟩ => effRecoveryDone_refused hb h
  case warm => exact defers_of (fun _ _ => rfl) (fun _ => rfl) fun _ _ ⟨hb, h⟩ => (effWarm_eq hb).trans (by rw [if_neg (by simp [h])])
  case cold => exact defers_of (fun _ _ => rfl) (fun _ => rfl) fun _ _ ⟨hb, h⟩ => (effCold_eq hb).trans (by rw [if_neg (by simp [h])])
  case warmIn => exact defers_of (fun _ _ => rfl) (fun _ => rfl) fun _ _ ⟨hb, h⟩ => (effWarm_eq hb).trans (by rw [if_pos h]; rfl)
  case coldIn => exact defers_of (fun _ _ => rfl) (fun _ => rfl) fun _ _ ⟨hb, h⟩ => (effCold_eq hb).trans (by rw [if_pos h]; rfl)
  case s2 => exact accepts_of (fun _ _ => rfl) (fun _ => rfl) fun _ _ ⟨hb, hc, hq, hs⟩ => (effPwrState_calm hb (by decide) hc).trans (by simp [hq, hs]; rfl)
  case s1 => exact accepts_of (fun _ _ => rfl) (fun _ => rfl) fun _ _ ⟨hb, hc, hq, hs⟩ => (effPwrState_calm hb (by decide) hc).trans (by simp [hq, hs]; rfl)
  case s0 => exact accepts_of (fun _ _ => rfl) (fun _ => rfl) fun _ _ ⟨hb, hc, hq, hs⟩ => (effPwrState_calm hb (by decide) hc).trans (by simp [hq, hs]; rfl)
  case s0Up => exact accepts_of (fun _ _ => rfl) (fun _ => rfl) fun _ _ ⟨hb, hc, hs⟩ => (effPwrState_calm hb (by decide) hc).trans (by simp [hs]; rfl)
  case s2Not => exact refuses_of (fun _ _ => rfl) (fun _ => rfl) fun _ _ ⟨hb, hc, hq⟩ => (effPwrState_calm hb (by decide) hc).trans (by simp [hq]; rfl)
  case s1Not => exact refuses_of (fun _ _ => rfl) (fun _ => rfl) fun _ _ ⟨hb, hc, hs⟩ => (effPwrState_calm hb (by decide) hc).trans (by simp [hs]; rfl)
  case busy => exact refuses_of (fun _ _ => rfl) (fun _ => rfl) fun _ _ ⟨hb, hv, hc⟩ => effPwrState_busy hb hv hc
  case domRange => exact refuses_of (fun _ _ => rfl) (fun _ => rfl) fun _ _ ⟨hb, h⟩ => effPwrDomain_range hb h
  case domOff =>
    exact fun n h4 h15 => accepts_of (fun _ _ => rfl) (fun _ => rfl) fun d m ⟨hb, hm, hv, hs, hbusy, hset, ht, hdep⟩ =>
      (effPwrDomain_one (on := false) hb hm hv (.inl ⟨h4, h15⟩) (.inr hs) hbusy ht (by omega) (by simp [hset]; omega) hdep).trans
        (by rw [(Dev.switchDomains_one h4 h15 d).2]; rfl)
  case domOn =>
    exact fun n h4 h15 => accepts_of (fun _ _ => rfl) (fun _ => rfl) fun d m ⟨hb, hm, hv, hs, hbusy, hset, ht, hdep⟩ =>
      (effPwrDomain_one (on := true) hb hm hv (.inl ⟨h4, h15⟩) (.inr hs) hbusy ht (by omega) (by simp [hset]; omega) hdep).trans
        (by rw [(Dev.switchDomains_one h4 h15 d).1]; rfl)
  case otpOn => exact accepts_of (fun _ _ => rfl) (fun _ => rfl) fun _ _ ⟨hb, hm, hv, hd, hburn, hdep⟩ => effPwrDomain_otp (on := true) hb hm hv hd hburn hdep
  case otpOff => exact accepts_of (fun _ _ => rfl) (fun _ => rfl) fun _ _ ⟨hb, hm, hv, hd, hburn, hdep⟩ => effPwrDomain_otp (on := false) hb hm hv hd hburn hdep
  case tileRange => exact refuses_of (fun _ _ => rfl) (fun _ => rfl) fun _ _ ⟨hb, h⟩ => effPwrTile_range hb h
  case tileOpen =>
    exact accepts_of (fun _ _ => rfl) (fun _ => rfl) fun d m ⟨hb, hv, hne, hbusy⟩ =>
      (effPwrTile_accepts (close := false) hb hv hne hbusy nofun).trans (by simp [maskTiles, accept])
  case tileClose =>
    exact accepts_of (fun _ _ => rfl) (fun _ => rfl) fun d m ⟨hb, hv, hne, h⟩ =>
      (effPwrTile_accepts (close := true) hb hv hne (fun t ht => ⟨Dev.domainBusy_of_on (h t ht).2.1, (h t ht).1⟩) (fun _ t ht => (h t ht).2)).trans
        (by simp [maskTiles, accept])

end Sys2Proof.Machine
end

section
/-! SUPPORT. What a mode edge and a pool change leave as it was: the notifications touch the sessions and the output alone (R14, R15, R81, R515). -/

namespace Sys2Proof.Machine

/-- Counting a record changes the sessions alone. -/
theorem Dev.countRecord_frame (d : Dev) (n : Nat) : ∃ g, (d.countRecord n).2 = { d with mgmt := g } := by
  unfold Dev.countRecord
  split
  · exact ⟨_, rfl⟩
  · split <;> exact ⟨_, rfl⟩

theorem Dev.notifyOne_frame (d : Dev) (n kind : Nat) (data : Bytes) : ∃ g o, d.notifyOne n kind data = { d with mgmt := g, out := o } := by
  obtain ⟨g, hg⟩ := d.countRecord_frame n
  unfold Dev.notifyOne
  rcases hc : d.countRecord n with ⟨b, e⟩
  rw [hc] at hg
  cases b with
  | false => exact ⟨g, d.out, hg⟩
  | true =>
    subst hg
    dsimp only
    split <;> exact ⟨_, _, rfl⟩

theorem Dev.notifyAll_frame (d : Dev) (p : Nat → Bool) (kind : Nat) (data : Bytes) : ∃ g o, d.notifyAll p kind data = { d with mgmt := g, out := o } := by
  unfold Dev.notifyAll
  generalize d.mgmt.sessions = l
  induction l generalizing d with
  | nil => exact ⟨_, _, rfl⟩
  | cons e r ih =>
    rw [List.foldl_cons]
    split
    · obtain ⟨g, o, h⟩ := d.notifyOne_frame e.1 kind data
      obtain ⟨g', o', h'⟩ := ih (d.notifyOne e.1 kind data)
      exact ⟨g', o', h'.trans (by rw [h])⟩
    · exact ih d

/-- An edge that is taken changes the mode, its log and its tick, and what notifications change. -/
theorem Dev.takeEdge_taken (d : Dev) (next : Mode) (k : EdgeKind) (cause : Nat) (h : k = .alarm → d.modes.tickPower = false) :
    ∃ l a p g o, d.takeEdge next k cause =
      { d with modes := { d.modes with mode := next, inReset := if next == .boot then d.modes.inReset else none, log := l, tickAlarms := a, tickPower := p }, mgmt := g, out := o } := by
  have hk : (k == .alarm && d.modes.tickPower) = false := by cases k <;> simp_all
  unfold Dev.takeEdge Dev.logMode
  rw [if_neg (by simp [hk])]
  dsimp only
  obtain ⟨g, o, hn⟩ := Dev.notifyAll_frame _ _ _ _
  exact ⟨_, _, _, g, o, hn⟩

/-- An edge changes the modes, and what notifications change; the record of the last reset it keeps. -/
theorem Dev.takeEdge_frame (d : Dev) (next : Mode) (k : EdgeKind) (cause : Nat) :
    ∃ m g o, d.takeEdge next k cause = { d with modes := m, mgmt := g, out := o } ∧ m.lastReset = d.modes.lastReset := by
  by_cases h : k = .alarm ∧ d.modes.tickPower = true
  · exact ⟨_, _, _, by unfold Dev.takeEdge; rw [if_pos (by simp [h.1, h.2])], rfl⟩
  · obtain ⟨l, a, p, g, o, e⟩ := d.takeEdge_taken next k cause (by simpa using h)
    exact ⟨_, g, o, e, rfl⟩

theorem Dev.settleService_frame (d : Dev) (k : EdgeKind) (cause : Nat) :
    ∃ m g o, d.settleService k cause = { d with modes := m, mgmt := g, out := o } ∧ m.lastReset = d.modes.lastReset := by
  unfold Dev.settleService
  split
  · split
    · exact d.takeEdge_frame _ _ _
    · exact ⟨_, _, _, rfl, rfl⟩
  · split
    · exact d.takeEdge_frame _ _ _
    · exact ⟨_, _, _, rfl, rfl⟩
  · exact ⟨_, _, _, rfl, rfl⟩

/-- A unit in a new pool state, with the kind of the edge that drained it or took it OUT (R81). -/
def Unit.moved (x : Unit) (p : PoolState) (k : EdgeKind) : Unit :=
  { x with pool := p, drainEdge := if p == .draining then k else x.drainEdge, outEdge := if p == .out then k else x.outEdge }

/-- A pool state that changes now changes the unit, and what the edge of the mode changes. -/
theorem Dev.putPool_frame (d : Dev) (u : Nat) (p : PoolState) (k : EdgeKind) :
    ∃ m g o, d.putPool u p k = { d.onUnit u (fun x => x.moved p k) with modes := m, mgmt := g, out := o } ∧ m.lastReset = d.modes.lastReset := by
  unfold Dev.putPool
  change ∃ m g o, (let e := d.onUnit u (fun x => x.moved p k); if u < 160 && (p == .inPool || e.modes.mode == .service) then e.settleService k (0x10000 + u) else e) = _ ∧ _
  generalize he : d.onUnit u _ = e
  have hm : e.modes = d.modes := he ▸ rfl
  rw [← hm]
  dsimp only
  split
  · exact Dev.settleService_frame _ _ _
  · exact ⟨_, _, _, rfl, rfl⟩

/-- Outside the pool a unit takes its new pool state now (R82). -/
theorem Dev.setPool_of_not_inPool {d : Dev} {u : Nat} {p : PoolState} {k : EdgeKind} (h : (d.unit u).pool ≠ .inPool) : d.setPool u p k = d.putPool u p k := by
  unfold Dev.setPool
  rw [if_neg (by simp [h])]

end Sys2Proof.Machine
end

section
/-! SUPPORT. Units that go OFF, and what a drained domain leaves (R108, R241, R486). -/

namespace Sys2Proof.Machine

/-- Off, with nothing in its key register and contexts (R108, R486). -/
def Unit.isOff (x : Unit) : Prop := x.pool = .off ∧ x.key = none ∧ x.contexts = []

theorem Dev.unit_clearKey_same (d : Dev) (u : Nat) :
    ((d.clearKey u).unit u).pool = (d.unit u).pool ∧ ((d.clearKey u).unit u).key = none ∧ ((d.clearKey u).unit u).contexts = [] := by
  simp only [Dev.clearKey, Dev.sparkDraw, Dev.dropKey, Dev.unit_onUnit, if_true]
  exact ⟨rfl, trivial, trivial⟩

theorem Dev.unit_clearKey_other (d : Dev) {u v : Nat} (h : u ≠ v) : (d.clearKey u).unit v = d.unit v := by
  simp only [Dev.clearKey, Dev.sparkDraw, Dev.dropKey, Dev.unit_onUnit, if_neg h]
  rfl

/-- The pool state given, the rest of the unit but its edges as it was; every other unit as it was. -/
theorem Dev.unit_putPool (d : Dev) (u v : Nat) (p : PoolState) (k : EdgeKind) : (d.putPool u p k).unit v =
    if u = v then (d.unit u).moved p k else d.unit v := by
  obtain ⟨m, g, o, h, -⟩ := d.putPool_frame u p k
  rw [h]
  show (d.onUnit u (fun x => x.moved p k)).unit v = _
  rw [Dev.unit_onUnit]

variable {d : Dev} {u v : Nat}

theorem Dev.unitOff_frame (h : (d.unit u).pool ≠ .inPool) :
    ∃ us m g o n, d.unitOff u = { d with units := us, modes := m, mgmt := g, out := o, freeCtr := n } := by
  obtain ⟨m, g, o, e, -⟩ := (d.clearKey u).putPool_frame u .off .host
  exact ⟨_, m, g, o, _, (Dev.setPool_of_not_inPool ((d.unit_clearKey_same u).1 ▸ h)).trans e⟩

theorem Dev.unit_unitOff_same (h : (d.unit u).pool ≠ .inPool) : ((d.unitOff u).unit u).isOff := by
  obtain ⟨hp, hk, hc⟩ := d.unit_clearKey_same u
  unfold Dev.unitOff
  rw [Dev.setPool_of_not_inPool (hp ▸ h), Dev.unit_putPool, if_pos rfl]
  exact ⟨rfl, hk, hc⟩

theorem Dev.unit_unitOff_other (h : (d.unit u).pool ≠ .inPool) (hv : u ≠ v) : (d.unitOff u).unit v = d.unit v := by
  unfold Dev.unitOff
  rw [Dev.setPool_of_not_inPool ((d.unit_clearKey_same u).1 ▸ h), Dev.unit_putPool, if_neg hv, Dev.unit_clearKey_other d hv]

/-- Units outside the pool go OFF one after the other; the others stay, and so do the groups that hold neither units nor modes. -/
theorem Dev.unitsOff (l : List Nat) (d : Dev) (h : ∀ u ∈ l, (d.unit u).pool ≠ .inPool) :
    (∃ us m g o n, l.foldl Dev.unitOff d = { d with units := us, modes := m, mgmt := g, out := o, freeCtr := n }) ∧
    (∀ u ∈ l, ((l.foldl Dev.unitOff d).unit u).isOff) ∧ ∀ v, v ∉ l → (l.foldl Dev.unitOff d).unit v = d.unit v := by
  induction l generalizing d with
  | nil => exact ⟨⟨_, _, _, _, _, rfl⟩, by simp, fun _ _ => rfl⟩
  | cons a r ih =>
    have ha : (d.unit a).pool ≠ .inPool := h a (by simp)
    have hr : ∀ u ∈ r, ((d.unitOff a).unit u).pool ≠ .inPool := fun u hu => by
      by_cases e : a = u
      · rw [← e, (Dev.unit_unitOff_same ha).1]; decide
      · rw [Dev.unit_unitOff_other ha e]; exact h u (by simp [hu])
    obtain ⟨⟨us, m, g, o, n, hf⟩, hoff, hkeep⟩ := ih (d.unitOff a) hr
    obtain ⟨us', m', g', o', n', hf'⟩ := Dev.unitOff_frame ha
    rw [List.foldl_cons]
    refine ⟨⟨us, m, g, o, n, hf.trans (by rw [hf'])⟩, fun u hu => ?_, fun v hv => ?_⟩
    · by_cases e : u ∈ r
      · exact hoff u e
      · have hua : u = a := (List.mem_cons.1 hu).resolve_right e
        rw [hkeep u e, hua]
        exact Dev.unit_unitOff_same ha
    · obtain ⟨hva, hvr⟩ := not_or.1 (mt List.mem_cons.2 hv)
      rw [hkeep v hvr, Dev.unit_unitOff_other ha (Ne.symm hva)]

/-- A table filtered by its keys lists no key that the filter drops. -/
theorem tabGet?_filter_of_not {α : Type} {p : Nat → Bool} {k : Nat} (h : p k = false) (t : Tab Nat α) : tabGet? k (t.filter (fun e => p e.1)) = none := by
  induction t with
  | nil => rfl
  | cons e r ih =>
    rw [List.filter_cons]
    split
    · rename_i he
      rw [tabGet?, if_neg (fun hk => by rw [hk, h] at he; exact nomatch he)]
      exact ih
    · exact ih

/-- Changing tiles alone changes no other group. -/
theorem Dev.foldl_onTile_frame (l : List Nat) (d : Dev) (f : Dev → TileSt → TileSt) : ∃ ts, l.foldl (fun d t => d.onTile t (f d)) d = { d with tiles := ts } := by
  induction l generalizing d with
  | nil => exact ⟨_, rfl⟩
  | cons a r ih =>
    obtain ⟨ts, h⟩ := ih (d.onTile a (f d))
    exact ⟨ts, h⟩

theorem Dev.foldl_onTile_groups (l : List Nat) (d : Dev) (f : Dev → TileSt → TileSt) :
    let e := l.foldl (fun d t => d.onTile t (f d)) d
    e.units = d.units ∧ e.power = d.power ∧ e.hearths = d.hearths := by
  obtain ⟨ts, h⟩ := Dev.foldl_onTile_frame l d f
  rw [h]
  exact ⟨rfl, rfl, rfl⟩

/-- Of the groups that hold the units, the domains and the hearths, a drained domain changes after its units only the placements of its hearths. -/
theorem Dev.domainGone_groups (d : Dev) (n : Nat) :
    let e := (domainUnits n).foldl Dev.unitOff (d.setDomain n .off)
    (d.domainGone n).units = e.units ∧ (d.domainGone n).power.domains = e.power.domains ∧
    (8 ≤ n → n < 12 → (d.domainGone n).hearths = e.hearths.filter (fun x => x.1 / 4 != n - 8)) := by
  intro e
  have htiles (f : Dev) := Dev.foldl_onTile_groups (quadTiles (n - 12)) f (fun d y => { y with lv := 2, lvSince := d.now })
  unfold Dev.domainGone
  refine ⟨?_, ?_, fun h8 h12 => ?_⟩
  · simp only [apply_ite Dev.units, (htiles _).1, Dev.onPower_units, Dev.onHearths_units, ite_self]; rfl
  · simp only [apply_ite Dev.power, apply_ite PowerSt.domains, (htiles _).2.1, Dev.onPower_power, Dev.onHearths_power, ite_self]; rfl
  · have h48 : (decide (4 ≤ n) && decide (n < 8)) = false := by simp; omega
    simp only [apply_ite Dev.hearths, (htiles _).2.2, h48, h8, h12, Dev.onHearths_hearths, ite_self, decide_true, Bool.and_self, Bool.false_eq_true, if_true, if_false]; rfl

/-- A domain that has gone is off, its units OFF and keyless; a hearth domain's placements are gone (R241, R486). -/
theorem Dev.domainGone_spec (d : Dev) (n : Nat) (h : ∀ u ∈ domainUnits n, (d.unit u).pool ≠ .inPool) :
    (d.domainGone n).domain n = .off ∧ (8 ≤ n → n < 12 → ∀ k, k / 4 = n - 8 → tabGet? k (d.domainGone n).hearths = none) ∧
    ∀ u ∈ domainUnits n, ((d.domainGone n).unit u).isOff := by
  obtain ⟨⟨us, m, g, o, c, hf⟩, hoff, -⟩ := Dev.unitsOff (domainUnits n) (d.setDomain n .off) h
  obtain ⟨hu, hd, hh⟩ := d.domainGone_groups n
  refine ⟨?_, fun h8 h12 k hk => ?_, fun u hm => ?_⟩
  · show tabGet _ n (d.domainGone n).power.domains = _
    rw [hd, hf]
    exact tabGet_set_same _ _ _ _
  · rw [hh h8 h12]
    exact tabGet?_filter_of_not (p := fun k => k / 4 != n - 8) (by simp [hk]) _
  · show (tabGet _ u (d.domainGone n).units).isOff
    rw [hu]
    exact hoff u hm

end Sys2Proof.Machine
end

section
/-! SUPPORT. What the resets of the main domains clear and keep (R62, R306, R495 to R498). -/

namespace Sys2Proof.Machine

/-- A relation that is reflexive and transitive, and holds of each step, holds of a whole pass over a list. -/
theorem foldl_rel {α : Type} {R : Dev → Dev → Prop} (hr : ∀ d, R d d) (ht : ∀ {a b c}, R a b → R b c → R a c) {f : Dev → α → Dev}
    (hf : ∀ d x, R d (f d x)) (l : List α) (d : Dev) : R d (l.foldl f d) := by
  induction l generalizing d with
  | nil => exact hr d
  | cons x r ih => exact ht (hf d x) (ih (f d x))

/-- An event of a slice touches the slices, the pending bits of the vectors and the output; with it a note on a stateful key touches the nodes. -/
def EventOnly (d e : Dev) : Prop :=
  ∃ sl ms ns o, e = { d with slices := sl, host := { d.host with msix := ms }, vault := { d.vault with nodes := ns }, out := o }

theorem EventOnly.refl (d : Dev) : EventOnly d d := ⟨_, _, _, _, rfl⟩

theorem EventOnly.trans {a b c : Dev} (h : EventOnly a b) (g : EventOnly b c) : EventOnly a c := by
  obtain ⟨sl, ms, ns, o, rfl⟩ := h
  obtain ⟨sl', ms', ns', o', rfl⟩ := g
  exact ⟨sl', ms', ns', o', rfl⟩

theorem EventOnly.interrupt (d : Dev) (v : Nat) : EventOnly d (d.interrupt v) := by
  unfold Dev.interrupt
  dsimp only
  split <;> exact ⟨_, _, _, _, rfl⟩

theorem EventOnly.event (d : Dev) (i code queue d0 d1 : Nat) : EventOnly d (d.event i code queue d0 d1) := by
  have hs (f : SliceSt → SliceSt) : EventOnly d (d.onSlice i f) := ⟨_, _, _, _, rfl⟩
  unfold Dev.event
  dsimp only
  split
  · exact hs _
  · split
    · exact (hs _).trans (EventOnly.interrupt _ _)
    · exact hs _

theorem EventOnly.onNodes (d : Dev) (f : Tab Nat Node → Tab Nat Node) : EventOnly d (d.onVault (fun v => { v with nodes := f v.nodes })) := ⟨_, _, _, _, rfl⟩

theorem EventOnly.noteLow (d : Dev) (l : List Nat) (low : Option Nat) : EventOnly d (d.noteLow l low) := by
  refine foldl_rel EventOnly.refl EventOnly.trans (fun d e => ?_) _ _
  dsimp only
  split
  · split
    · exact (EventOnly.onNodes d _).trans (EventOnly.event _ _ _ _ _ _)
    · exact EventOnly.refl d
  · exact EventOnly.refl d

theorem EventOnly.abandonWindows (d : Dev) (p : Node → Bool) : EventOnly d (d.abandonWindows p) :=
  (EventOnly.onNodes d _).trans (EventOnly.noteLow _ _ _)

@[simp] theorem Dev.abandonWindows_groups (d : Dev) (p : Node → Bool) :
    (d.abandonWindows p).modes = d.modes ∧ (d.abandonWindows p).power = d.power ∧ (d.abandonWindows p).time = d.time ∧ (d.abandonWindows p).disp = d.disp ∧
    (d.abandonWindows p).units = d.units ∧ (d.abandonWindows p).backup = d.backup ∧ (d.abandonWindows p).lcy = d.lcy ∧
    (d.abandonWindows p).host.qps = d.host.qps ∧ (d.abandonWindows p).host.nextSeq = d.host.nextSeq := by
  obtain ⟨sl, ms, ns, o, h⟩ := EventOnly.abandonWindows d p
  rw [h]
  exact ⟨rfl, rfl, rfl, rfl, rfl, rfl, rfl, rfl, rfl⟩

/-- What any reset of the main domains clears. -/
@[simp] theorem Dev.clearMain_cleared (d : Dev) :
    d.clearMain.disp.reqs = [] ∧ d.clearMain.disp.jobs = [] ∧ d.clearMain.host.qps = [] ∧ d.clearMain.host.nextSeq = 0 ∧
    d.clearMain.mgmt.sessions = [] ∧ d.clearMain.mgmt.tickets = [] ∧ d.clearMain.modes.storeOpen = false := by
  simp [Dev.clearMain, Dev.closeStore, Dev.keepRows]

/-- What it keeps. -/
@[simp] theorem Dev.clearMain_kept (d : Dev) :
    d.clearMain.modes.mode = d.modes.mode ∧ d.clearMain.modes.lastReset = d.modes.lastReset ∧ d.clearMain.modes.lastResetSource = d.modes.lastResetSource ∧
    d.clearMain.modes.bootEdge = d.modes.bootEdge ∧ d.clearMain.modes.tickPower = d.modes.tickPower ∧
    d.clearMain.lcy.fields = d.lcy.fields ∧ d.clearMain.lcy.burning = d.lcy.burning ∧
    d.clearMain.backup = d.backup ∧ d.clearMain.power = d.power := by
  simp [Dev.clearMain, Dev.closeStore, Dev.keepRows]

/-- Rolling an update back touches the vault and the placements of its nodes. -/
def VaultOnly (d e : Dev) : Prop := ∃ v hm, e = { d with vault := v, hearths := hm }

theorem VaultOnly.refl (d : Dev) : VaultOnly d d := ⟨_, _, rfl⟩

theorem VaultOnly.trans {a b c : Dev} (h : VaultOnly a b) (g : VaultOnly b c) : VaultOnly a c := by
  obtain ⟨v, hm, rfl⟩ := h
  obtain ⟨v', hm', rfl⟩ := g
  exact ⟨v', hm', rfl⟩

theorem VaultOnly.onNode (d : Dev) (n : Nat) (f : Node → Node) : VaultOnly d (d.onNode n f) := by
  unfold Dev.onNode
  split <;> exact ⟨_, _, rfl⟩

theorem VaultOnly.rollBack (d : Dev) (u : Update) : VaultOnly d (d.rollBack u) := by
  unfold Dev.rollBack
  split
  · exact foldl_rel VaultOnly.refl VaultOnly.trans (fun d n => ⟨_, _, rfl⟩) _ _
  · exact VaultOnly.onNode _ _ _
  · exact VaultOnly.onNode _ _ _
  · exact ⟨_, _, rfl⟩
  · exact VaultOnly.onNode _ _ _
  · exact VaultOnly.refl d

theorem VaultOnly.rollBackAll (d : Dev) : VaultOnly d d.rollBackAll :=
  (foldl_rel VaultOnly.refl VaultOnly.trans VaultOnly.rollBack _ _).trans ⟨_, _, rfl⟩

/-- What a reset without a warm start takes beyond that: the clocks, the bellows, the power settings and the function's table go, and the rest stays. -/
theorem Dev.clearCold_groups (d : Dev) :
    d.clearCold.modes = d.modes ∧ d.clearCold.disp = d.disp ∧ d.clearCold.mgmt = d.mgmt ∧ d.clearCold.lcy = d.lcy ∧ d.clearCold.backup = d.backup ∧
    d.clearCold.host.qps = d.host.qps ∧ d.clearCold.host.nextSeq = d.host.nextSeq ∧ d.clearCold.host.msix = [] ∧ d.clearCold.bellows = BellowsSt.reset ∧
    d.clearCold.power.domains = [] ∧ d.clearCold.power.openSwitches = [] ∧ d.clearCold.time.pllLocked = false := by
  obtain ⟨v, hm, h⟩ := VaultOnly.rollBackAll d
  simp [Dev.clearCold, h, Dev.keepRows, Dev.loseVolatile]

/-- No volatile object is left (R306). -/
theorem Dev.clearCold_node?_vol (d : Dev) {n : Nat} (hn : isVol n = true) : d.clearCold.node? n = none := by
  have hv (t : Tab Nat Node) (f : Node → Node) : tabGet? n ((t.filter (fun e => !isVol e.1)).map (fun e => (e.1, f e.2))) = none := by
    rw [show (t.filter (fun e => !isVol e.1)).map (fun e => (e.1, f e.2)) = tabMap (fun _ => f) (t.filter (fun e => !isVol e.1)) from rfl,
      tabGet?_map, tabGet?_filter_of_not (p := fun k => !isVol k) (by simp [hn])]
    rfl
  exact hv d.rollBackAll.vault.nodes (fun x => { x with resident := false, shares := [] })

end Sys2Proof.Machine
end

section
/-! SUPPORT. What a power-on or cold reset leaves (R494, R497). -/

namespace Sys2Proof.Machine

/-- With no queue pair configured and the bellows starting, bringing the instances back touches the slices, the dictionary, the journal, the translations
and the free values alone. -/
def BackOnly (d e : Dev) : Prop :=
  d.host.qps = [] → d.bellows = BellowsSt.reset →
    ∃ sl c us ts n, e = { d with slices := sl, dict := c, vault := { d.vault with updates := us }, host := { d.host with translations := ts }, freeCtr := n }

theorem BackOnly.refl (d : Dev) : BackOnly d d := fun _ _ => ⟨_, _, _, _, _, rfl⟩

theorem BackOnly.trans {a b c : Dev} (h : BackOnly a b) (g : BackOnly b c) : BackOnly a c := by
  intro hq hb
  obtain ⟨sl, di, us, ts, n, rfl⟩ := h hq hb
  exact g hq hb

theorem BackOnly.setNum (d : Dev) (p : Param) (r v : Nat) : BackOnly d (d.setNum p r v) := fun _ _ => ⟨_, _, _, _, _, rfl⟩

theorem BackOnly.onSlice (d : Dev) (i : Nat) (f : SliceSt → SliceSt) : BackOnly d (d.onSlice i f) := fun _ _ => ⟨_, _, _, _, _, rfl⟩

theorem BackOnly.freeInstance (d : Dev) (i : Nat) : BackOnly d (d.freeInstance i) := by
  intro hq hb
  have hn : d.qpsOf i = [] := by simp [Dev.qpsOf, hq]
  unfold Dev.freeInstance
  rw [hn]
  exact ⟨_, _, _, _, _, rfl⟩

/-- The journal draws free bytes while no generator is seeded (R346). -/
theorem BackOnly.journal (d : Dev) (u : Update) : BackOnly d (d.journal u) := by
  intro _ hb
  have hg : d.generates 0 = false := by simp [Dev.generates, Dev.inst, hb, BellowsSt.reset, Drbg.reset]
  unfold Dev.journal Dev.draw
  simp only [hg, Bool.false_eq_true, if_false]
  exact ⟨_, _, _, _, _, rfl⟩

theorem BackOnly.slicesBack (d : Dev) (k : EdgeKind) : BackOnly d (d.slicesBack k) := by
  refine foldl_rel BackOnly.refl BackOnly.trans (fun d i => ?_) _ _
  dsimp only
  split
  · exact BackOnly.onSlice d i _
  · split
    · split
      · exact ((BackOnly.setNum d _ _ _).trans (BackOnly.freeInstance _ i)).trans (BackOnly.journal _ _)
      · exact (BackOnly.setNum d _ _ _).trans (BackOnly.freeInstance _ i)
    · exact (BackOnly.setNum d _ _ _).trans (BackOnly.onSlice _ i _)

/-- Reading a table made of a list of keys. -/
theorem tabGet?_map_key {α : Type} (f : Nat → α) (k : Nat) (l : List Nat) : tabGet? k (l.map (fun u => (u, f u))) = if k ∈ l then some (f k) else none := by
  induction l with
  | nil => rfl
  | cons a r ih =>
    rw [List.map_cons, tabGet?, ih]
    by_cases h : a = k
    · simp [h]
    · simp [h, Ne.symm h]

theorem tabGet_map_key {α : Type} (z : α) (f : Nat → α) {k : Nat} {l : List Nat} (h : k ∈ l) : tabGet z k (l.map (fun u => (u, f u))) = f k := by
  rw [tabGet, tabGet?_map_key, if_pos h, Option.getD_some]

/-- No unit of the pool is in the OTP domain (R9). -/
theorem unitDomain_ne_otp {u : Nat} (hu : u < nUnits) : unitDomain u ≠ 20 := by
  unfold nUnits at hu
  unfold unitDomain blockOf
  split
  · simp only [Block.powerDomain]; omega
  · split <;> simp only [Block.powerDomain] <;> omega

/-- With every domain on and every tile's switch closed, every unit is as a reset leaves it (R497). -/
theorem Dev.unit_unitsBack (d : Dev) (hd : d.power.domains = []) (hs : d.power.openSwitches = []) {u : Nat} (hu : u < nUnits) : d.unitsBack.unit u = Unit.reset := by
  have hon : d.domain (unitDomain u) = .on := by
    unfold Dev.domain
    rw [hd, tabGet_nil, if_neg (by simpa using unitDomain_ne_otp hu)]
  unfold Dev.unit Dev.unitsBack
  rw [Dev.onUnits_units, tabGet_map_key _ _ (List.mem_range.2 hu), hs]
  simp [hon, Unit.reset]

/-- What a cold reset clears before the instances come back. -/
theorem Dev.clearCold_clearMain_unitsBack (d : Dev) :
    let b := d.clearMain.clearCold.unitsBack
    b.modes = d.clearMain.modes ∧ b.disp = d.clearMain.disp ∧ b.mgmt = d.clearMain.mgmt ∧ b.lcy.fields = d.lcy.fields ∧ b.backup = d.backup ∧
    b.host.qps = [] ∧ b.host.nextSeq = 0 ∧ b.host.msix = [] ∧ b.bellows = BellowsSt.reset ∧ b.power.domains = [] ∧ b.time.pllLocked = false ∧
    (∀ u, u < nUnits → b.unit u = Unit.reset) ∧ ∀ n, isVol n = true → b.node? n = none := by
  obtain ⟨hmodes, hdisp, hmgmt, hlcy, hbackup, hqps, hseq, hmsix, hbellows, hdomains, hswitches, hpll⟩ := d.clearMain.clearCold_groups
  obtain ⟨-, -, -, -, -, hfields, -, hcell, -⟩ := d.clearMain_kept
  obtain ⟨-, -, hnoQps, hzero, -, -, -⟩ := d.clearMain_cleared
  exact ⟨hmodes, hdisp, hmgmt, (congrArg LcySt.fields hlcy).trans hfields, hbackup.trans hcell, hqps.trans hnoQps, hseq.trans hzero, hmsix, hbellows, hdomains, hpll,
    fun u hu => Dev.unit_unitsBack _ hdomains hswitches hu, fun n hn => d.clearMain.clearCold_node?_vol hn⟩

/-- What a cold reset makes of the device `d` that its mode edge leaves (R494, R497). -/
structure ColdStart (d e : Dev) (kind : Nat) : Prop where
  mode : e.modes.mode = d.modes.mode
  inReset : e.modes.inReset = some kind
  lastReset : e.modes.lastReset = d.modes.lastReset
  lastResetSource : e.modes.lastResetSource = d.modes.lastResetSource
  bootEdge : e.modes.bootEdge = d.modes.bootEdge
  storeOpen : e.modes.storeOpen = false
  step : e.boot.step = 1
  reqs : e.disp.reqs = []
  jobs : e.disp.jobs = []
  qps : e.host.qps = []
  nextSeq : e.host.nextSeq = 0
  msix : e.host.msix = []
  sessions : e.mgmt.sessions = []
  tickets : e.mgmt.tickets = []
  pllLocked : e.time.pllLocked = false
  bellows : e.bellows = BellowsSt.reset
  domains : e.power.domains = []
  units : ∀ u, u < nUnits → e.unit u = Unit.reset
  volatile : ∀ n, isVol n = true → e.node? n = none
  fields : e.lcy.fields = d.lcy.fields
  backup : e.backup = d.backup

theorem coldStart_of_clears (d : Dev) (kind : Nat) (k : EdgeKind) : ColdStart d ((d.clearMain.clearCold.unitsBack.slicesBack k).bootBegin kind) kind := by
  obtain ⟨hmodes, hdisp, hmgmt, hfields, hbackup, hqps, hseq, hmsix, hbellows, hdomains, hpll, hunits, hvol⟩ := d.clearCold_clearMain_unitsBack
  obtain ⟨hreqs, hjobs, -, -, hsessions, htickets, hstore⟩ := d.clearMain_cleared
  obtain ⟨hmode, hlast, hsource, hedge, -, -, -, -, -⟩ := d.clearMain_kept
  generalize d.clearMain.clearCold.unitsBack = b at *
  obtain ⟨sl, c, us, ts, n, hback⟩ := BackOnly.slicesBack b k hqps hbellows
  rw [hback]
  exact {
    mode := (congrArg ModeSt.mode hmodes).trans hmode
    inReset := rfl
    lastReset := (congrArg ModeSt.lastReset hmodes).trans hlast
    lastResetSource := (congrArg ModeSt.lastResetSource hmodes).trans hsource
    bootEdge := (congrArg ModeSt.bootEdge hmodes).trans hedge
    storeOpen := (congrArg ModeSt.storeOpen hmodes).trans hstore
    step := rfl
    reqs := (congrArg DispSt.reqs hdisp).trans hreqs
    jobs := (congrArg DispSt.jobs hdisp).trans hjobs
    qps := hqps
    nextSeq := hseq
    msix := hmsix
    sessions := (congrArg MgmtSt.sessions hmgmt).trans hsessions
    tickets := (congrArg MgmtSt.tickets hmgmt).trans htickets
    pllLocked := hpll
    bellows := hbellows
    domains := hdomains
    units := hunits
    volatile := hvol
    fields := hfields
    backup := hbackup }

/-- A cold reset starts from its mode edge, which no power event of its tick displaces (R16). -/
theorem Dev.coldReset_start (d : Dev) (kind src : Nat) (k : EdgeKind) (hk : k ≠ .alarm) :
    ∃ x : Dev, ColdStart x (d.coldReset kind src k) kind ∧ x.modes.mode = .boot ∧ x.modes.lastReset = kind ∧ x.modes.lastResetSource = src ∧ x.modes.bootEdge = k ∧
      x.lcy = d.lcy ∧ x.backup = d.backup := by
  refine ⟨(d.onModes (fun m => { m with bootEdge := k, lastReset := kind, lastResetSource := src })).takeEdge .boot k src, coldStart_of_clears _ kind k, ?_⟩
  obtain ⟨l, a, p, g, o, h⟩ := (d.onModes (fun m => { m with bootEdge := k, lastReset := kind, lastResetSource := src })).takeEdge_taken .boot k src (fun h => absurd h hk)
  rw [h]
  exact ⟨rfl, rfl, rfl, rfl, rfl, rfl⟩

end Sys2Proof.Machine
end

section
/-! SUPPORT. What a rail below reset and a reset of the backup domain leave (R416, R433 to R435, R451). -/

namespace Sys2Proof.Machine

/-- An entry of the backup log goes behind those that stay; of the dictionary only the count of lost entries may change. -/
theorem Dev.logBackup_frame (d : Dev) (s cls detail : Nat) (erased scrap test : Bool) :
    ∃ c l x n, d.logBackup s cls detail erased scrap test = { d with dict := c, backup := { d.backup with log := l ++ [x], logSeq := n } } ∧
      x.source = s ∧ x.cls = cls ∧ x.detail = detail := by
  unfold Dev.logBackup
  dsimp only
  generalize ((decide (d.backup.log.length ≥ 32)) && !d.backup.log.any BlogEntry.acked) = lost
  cases lost <;> exact ⟨_, _, _, _, rfl, rfl, rfl, rfl⟩

/-- A bit being burned is left marginal, and the one above it may be (R451). -/
def Dev.burnCut (d : Dev) : Dev :=
  match d.lcy.burning with
  | none => d
  | some (f, k) =>
    let (n, d) := d.fresh
    let x := d.field f
    let m := x.marginal ||| (if x.firm.testBit k then 0 else 2 ^ k)
    let above := Config.freeBool n && k + 1 < 16
    d.onLcy (fun l => { l with fields := tabSet f { x with marginal := if above then m ||| 2 ^ (k + 1) else m } l.fields, burning := none, burnStop := false, scrapNext := false })

/-- Every main domain is off, every unit with it (R416). -/
def Dev.unpowered (d : Dev) (r mv : Nat) : Dev :=
  let d := ((d.clearMain).onUnits (fun _ => (List.range nUnits).map (fun u => (u, { Unit.reset with pool := .off })))).onTime (fun t => { t with pllLocked := false })
  let d := d.onPower (fun p => { p with mainPower := false, rails := tabSet r { RailSt.reset with millivolts := mv } p.rails,
                                        domains := (List.range 20).map (fun n => (n + 1, if n == 1 then .on else .off)) })
  d.onHost (fun h => { h with linkReset := !d.power.perstN })

/-- The power-forced edge follows, and the backup domain records the rail (R15, R433). -/
def Dev.mainOff (d : Dev) (r mv : Nat) : Dev :=
  ((d.unpowered r mv).takeEdge (if (d.unpowered r mv).power.cell then .backup else .off) .power (0x130 + r)).logBackup (0x130 + r) 15 mv false false false

theorem railBelowReset_watched {d : Dev} {r : Nat} (mv : Nat) (hp : d.modes.mode.powered = true) (hw : d.railWatched r = true) :
    railBelowReset r mv d = d.burnCut.mainOff r mv := by
  have h : (!d.modes.mode.powered || !d.railWatched r) = false := by simp [hp, hw]
  unfold railBelowReset
  rw [h]
  rfl

theorem railBelowReset_unwatched {d : Dev} {r : Nat} (mv : Nat) (h : d.modes.mode.powered = false ∨ d.railWatched r = false) : railBelowReset r mv d = d := by
  unfold railBelowReset
  rw [if_pos (by simpa using h)]

/-- No bit is being burned any more; the firm bits stand, and the one that was being burned is marginal where it is not firm. -/
theorem Dev.burnCut_spec (d : Dev) :
    d.burnCut.modes = d.modes ∧ d.burnCut.power = d.power ∧ d.burnCut.backup = d.backup ∧ d.burnCut.lcy.burning = none ∧
    (∀ f, (d.burnCut.field f).firm = (d.field f).firm) ∧
    ∀ f k, d.lcy.burning = some (f, k) → (d.field f).firm.testBit k = false → (d.burnCut.field f).marginal.testBit k = true := by
  unfold Dev.burnCut
  cases hb : d.lcy.burning with
  | none => exact ⟨rfl, rfl, rfl, hb, fun _ => rfl, fun _ _ h => nomatch h⟩
  | some b =>
    obtain ⟨f, k⟩ := b
    dsimp only
    refine ⟨rfl, rfl, rfl, rfl, fun g => ?_, fun g j hg hfirm => ?_⟩
    · show (tabGet OtpField.reset g (tabSet f _ d.lcy.fields)).firm = _
      rw [tabGet_set]
      split
      · rename_i h; rw [← h]; rfl
      · rfl
    · obtain ⟨rfl, rfl⟩ : f = g ∧ k = j := by simpa using hg
      show (tabGet OtpField.reset f (tabSet f _ d.lcy.fields)).marginal.testBit k = true
      rw [tabGet_set_same]
      have hf : (d.fresh.2.field f).firm.testBit k = false := hfirm
      simp only [hf]
      split <;> simp

theorem domains_off : ∀ n < 21, 4 ≤ n → tabGet? n ((List.range 20).map (fun n => (n + 1, if n == 1 then DomainState.on else .off))) = some .off := by decide

theorem Dev.unit_unpowered (d : Dev) (r mv : Nat) {u : Nat} (hu : u < nUnits) : (d.unpowered r mv).unit u = { Unit.reset with pool := .off } :=
  tabGet_map_key Unit.reset (fun _ => { Unit.reset with pool := .off }) (List.mem_range.2 hu)

theorem Dev.domain_unpowered (d : Dev) (r mv : Nat) {n : Nat} (h4 : 4 ≤ n) (h20 : n ≤ 20) : (d.unpowered r mv).domain n = .off := by
  show tabGet _ n ((List.range 20).map (fun n => (n + 1, if n == 1 then DomainState.on else .off))) = _
  rw [tabGet, domains_off n (by omega) h4, Option.getD_some]

/-- The mode edge and the backup log touch neither the units, the domains and the queues nor OTP. -/
theorem Dev.mainOff_frame (d : Dev) (r mv : Nat) : ∃ l a p g o c b x n,
    d.mainOff r mv = { d.unpowered r mv with
      modes := { (d.unpowered r mv).modes with mode := if (d.unpowered r mv).power.cell then .backup else .off, inReset := none, log := l, tickAlarms := a, tickPower := p }
      mgmt := g, out := o, dict := c, backup := { (d.unpowered r mv).backup with log := b ++ [x], logSeq := n } } ∧
    x.source = 0x130 + r ∧ x.cls = 15 ∧ x.detail = mv := by
  unfold Dev.mainOff
  generalize d.unpowered r mv = e
  have hne : ((if e.power.cell then Mode.backup else .off) == .boot) = false := by cases e.power.cell <;> rfl
  obtain ⟨l, a, p, g, o, hedge⟩ := e.takeEdge_taken (if e.power.cell then .backup else .off) .power (0x130 + r) nofun
  rw [hedge, hne]
  obtain ⟨c, b, x, n, hlog, hx⟩ := Dev.logBackup_frame _ (0x130 + r) 15 mv false false false
  exact ⟨l, a, p, g, o, c, b, x, n, hlog, hx⟩

theorem Dev.mainOff_spec (d : Dev) (r mv : Nat) :
    let e := d.mainOff r mv
    e.modes.mode = (if d.power.cell then .backup else .off) ∧ e.power.mainPower = false ∧ (∀ u, u < nUnits → (e.unit u).pool = .off ∧ (e.unit u).key = none) ∧
    e.disp.reqs = [] ∧ e.disp.jobs = [] ∧ e.time.pllLocked = false ∧ (∀ n, 4 ≤ n → n ≤ 20 → e.domain n = .off) ∧ e.backup.ember = d.backup.ember ∧
    (e.backup.log.getLast?).map (fun b => (b.source, b.cls, b.detail)) = some (0x0130 + r, 15, mv) ∧ e.lcy.burning = d.lcy.burning ∧ e.lcy.fields = d.lcy.fields := by
  obtain ⟨hreqs, hjobs, -, -, -, -, -⟩ := d.clearMain_cleared
  obtain ⟨-, -, -, -, -, hfields, hburning, hbackup, hpower⟩ := d.clearMain_kept
  obtain ⟨l, a, p, g, o, c, b, x, n, hframe, hsource, hcls, hdetail⟩ := d.mainOff_frame r mv
  have hcell : (d.unpowered r mv).power.cell = d.power.cell := by show d.clearMain.power.cell = _; rw [hpower]
  intro e
  have he : e = _ := hframe
  clear_value e
  subst he
  refine ⟨?_, rfl, fun u hu => ?_, hreqs, hjobs, rfl, fun n h4 h20 => d.domain_unpowered r mv h4 h20, ?_, ?_, hburning, hfields⟩
  · show (if (d.unpowered r mv).power.cell then Mode.backup else .off) = _
    rw [hcell]
  · have hunit := d.unit_unpowered r mv hu
    exact ⟨congrArg Unit.pool hunit, congrArg Unit.key hunit⟩
  · show d.clearMain.backup.ember = _
    rw [hbackup]
  · show ((b ++ [x]).getLast?).map _ = _
    rw [List.getLast?_concat, Option.map_some, hsource, hcls, hdetail]

/-- What a reset of the backup domain leaves (R435). -/
theorem Dev.backupReset_spec (d : Dev) :
    d.backupReset.backup.ember = false ∧ d.backupReset.backup.tamperOut = true ∧ d.backupReset.time.stamp = 0 ∧
    d.backupReset.backup.log.map (fun b => (b.source, b.seq)) = [(0x0720, 0)] := ⟨rfl, rfl, rfl, rfl⟩

end Sys2Proof.Machine
end

section
/-! SUPPORT. What a host link reset leaves (R62, R402, R494). Every operation that a slice reset is made of keeps the record of the reset, the translations, the
function's mask and the state of the other slices. -/

namespace Sys2Proof.Machine

/-- `e` has of `d` the record of the last reset, the translations, the function's mask and every slice's state with its edge. -/
structure LinkKept (d e : Dev) : Prop where
  lastReset : e.modes.lastReset = d.modes.lastReset
  translations : e.host.translations = d.host.translations
  functionMask : e.host.functionMask = d.host.functionMask
  slice : ∀ i, (e.sliceSt i).state = (d.sliceSt i).state ∧ (e.sliceSt i).edge = (d.sliceSt i).edge

namespace LinkKept

theorem refl (d : Dev) : LinkKept d d := ⟨rfl, rfl, rfl, fun _ => ⟨rfl, rfl⟩⟩

theorem trans {a b c : Dev} (h : LinkKept a b) (g : LinkKept b c) : LinkKept a c :=
  ⟨g.lastReset.trans h.lastReset, g.translations.trans h.translations, g.functionMask.trans h.functionMask,
    fun i => ⟨(g.slice i).1.trans (h.slice i).1, (g.slice i).2.trans (h.slice i).2⟩⟩

theorem foldl {α : Type} {f : Dev → α → Dev} (h : ∀ d x, LinkKept d (f d x)) (l : List α) (d : Dev) : LinkKept d (l.foldl f d) := foldl_rel refl trans h l d

/-- An operation that leaves the modes, the slices, the translations and the function's mask alone. -/
theorem unchanged {d e : Dev} (hm : e.modes = d.modes) (ht : e.host.translations = d.host.translations) (hf : e.host.functionMask = d.host.functionMask)
    (hs : e.slices = d.slices) : LinkKept d e :=
  ⟨congrArg ModeSt.lastReset hm, ht, hf, fun i => by unfold Dev.sliceSt; rw [hs]; exact ⟨rfl, rfl⟩⟩

/-! ### Groups -/

theorem onDisp (d : Dev) (f : DispSt → DispSt) : LinkKept d (d.onDisp f) := unchanged rfl rfl rfl rfl
theorem onUnit (d : Dev) (u : Nat) (f : Unit → Unit) : LinkKept d (d.onUnit u f) := unchanged rfl rfl rfl rfl
theorem onVault (d : Dev) (f : VaultSt → VaultSt) : LinkKept d (d.onVault f) := unchanged rfl rfl rfl rfl
theorem onMgmt (d : Dev) (f : MgmtSt → MgmtSt) : LinkKept d (d.onMgmt f) := unchanged rfl rfl rfl rfl
theorem setNum (d : Dev) (p : Param) (r v : Nat) : LinkKept d (d.setNum p r v) := unchanged rfl rfl rfl rfl
theorem emit (d : Dev) (x : Emit) : LinkKept d (d.emit x) := unchanged rfl rfl rfl rfl
theorem onQp (d : Dev) (q : Nat) (f : Qp → Qp) : LinkKept d (d.onQp q f) := unchanged rfl rfl rfl rfl
theorem dropPlacements (d : Dev) (p : Nat → Nat → Bool) : LinkKept d (d.dropPlacements p) := unchanged rfl rfl rfl rfl

theorem onSlice (d : Dev) (i : Nat) (f : SliceSt → SliceSt) (h : ∀ s, (f s).state = s.state ∧ (f s).edge = s.edge) : LinkKept d (d.onSlice i f) where
  lastReset := rfl
  translations := rfl
  functionMask := rfl
  slice j := by
    rw [Dev.sliceSt_onSlice]
    split
    · rename_i e; rw [← e]; exact h _
    · exact ⟨rfl, rfl⟩

/-! ### Events, notifications and answers -/

theorem interrupt (d : Dev) (v : Nat) : LinkKept d (d.interrupt v) := by
  unfold Dev.interrupt
  dsimp only
  split <;> exact unchanged rfl rfl rfl rfl

theorem event (d : Dev) (i code queue d0 d1 : Nat) : LinkKept d (d.event i code queue d0 d1) := by
  unfold Dev.event
  dsimp only
  split
  · exact onSlice d i _ fun _ => ⟨rfl, rfl⟩
  · split
    · refine trans ?_ (interrupt _ _)
      exact onSlice d i _ fun _ => ⟨rfl, rfl⟩
    · exact onSlice d i _ fun _ => ⟨rfl, rfl⟩

theorem abandonWindows (d : Dev) (p : Node → Bool) : LinkKept d (d.abandonWindows p) := by
  refine (onVault d _).trans (foldl (fun d e => ?_) _ _)
  dsimp only
  split
  · split
    · exact (onVault d _).trans (event _ _ _ _ _ _)
    · exact refl d
  · exact refl d

theorem countRecord (d : Dev) (n : Nat) : LinkKept d (d.countRecord n).2 := by
  obtain ⟨g, h⟩ := d.countRecord_frame n
  rw [h]; exact unchanged rfl rfl rfl rfl

theorem notifyOne (d : Dev) (n kind : Nat) (data : Bytes) : LinkKept d (d.notifyOne n kind data) := by
  obtain ⟨g, o, h⟩ := d.notifyOne_frame n kind data
  rw [h]; exact unchanged rfl rfl rfl rfl

theorem respondTo (d : Dev) (src : Src) (id : Nat) (r : Reply) : LinkKept d (d.respondTo src id r) := by
  have ht : LinkKept d (d.tellOrigin src id r) := by
    unfold Dev.tellOrigin
    split
    · exact refl d
    · exact (onMgmt d _).trans (notifyOne _ _ _ _)
  refine ht.trans ?_
  unfold Dev.respondTo
  generalize d.tellOrigin src id r = e
  dsimp only
  split
  · rename_i n
    have hc := countRecord e n
    split
    · rename_i x hx; rw [hx] at hc; exact hc
    · rename_i x hx; rw [hx] at hc; exact hc.trans ((emit x _).trans (onMgmt _ _))
  · exact unchanged rfl rfl rfl rfl
  · exact unchanged rfl rfl rfl rfl

theorem respondLate (d : Dev) (src : Src) (id : Nat) (r : Reply) : LinkKept d (d.respondLate src id r) := by
  have h := respondTo d src id r
  unfold Dev.respondLate
  dsimp only
  split
  · split
    · exact h.trans (onMgmt _ _)
    · exact h
  · exact h

/-! ### Units, jobs and requests -/

theorem setPool (d : Dev) (u : Nat) (p : PoolState) (k : EdgeKind) : LinkKept d (d.setPool u p k) := by
  unfold Dev.setPool
  split
  · split
    · exact refl d
    · exact unchanged rfl rfl rfl rfl
  · obtain ⟨m, g, o, h, hl⟩ := d.putPool_frame u p k
    rw [h]
    exact ⟨hl, rfl, rfl, fun _ => ⟨rfl, rfl⟩⟩

theorem scrub (d : Dev) (u : Nat) : LinkKept d (d.scrub u) := by
  have hm : LinkKept d (d.scrubMemory u) := by
    unfold Dev.scrubMemory
    split
    · exact refl d
    · dsimp only; split <;> exact unchanged rfl rfl rfl rfl
  unfold Dev.scrub
  split
  · exact hm.trans (unchanged rfl rfl rfl rfl)
  · exact hm

theorem dropJob (d : Dev) (j : Nat) : LinkKept d (d.dropJob j) := by
  unfold Dev.dropJob
  split
  · exact refl d
  · dsimp only
    split
    · exact onDisp d _
    · split
      · split
        · exact ((onDisp d _).trans (onUnit _ _ _)).trans (setPool _ _ _ _)
        · exact (onDisp d _).trans (onUnit _ _ _)
      · exact onDisp d _

theorem onReq (d : Dev) (r : Nat) (f : Request → Request) : LinkKept d (d.onReq r f) := by
  unfold Dev.onReq
  split
  · exact refl d
  · exact unchanged rfl rfl rfl rfl

theorem onJob (d : Dev) (j : Nat) (f : Job → Job) : LinkKept d (d.onJob j f) := by
  unfold Dev.onJob
  split
  · exact refl d
  · exact unchanged rfl rfl rfl rfl

theorem dropJobs (d : Dev) (r : Nat) : LinkKept d (d.dropJobs r) := foldl (α := Nat × Job) (fun d e => (scrub d e.2.unit).trans (dropJob _ _)) _ _

theorem complete (d : Dev) (r : Nat) (c : Completion) : LinkKept d (d.complete r c) := by
  unfold Dev.complete
  split
  · exact refl d
  · split
    · exact refl d
    · exact (onReq d r _).trans (onQp _ _ _)

theorem abortReq (d : Dev) (r st : Nat) : LinkKept d (d.abortReq r st) := by
  unfold Dev.abortReq
  dsimp only
  split
  · refine foldl (fun d e => ?_) _ _
    split
    · exact onJob d _ _
    · exact (scrub d _).trans (dropJob _ _)
  · exact (dropJobs d r).trans (complete _ _ _)

theorem dropReq (d : Dev) (r : Nat) (slag : Bool) : LinkKept d (d.dropReq r slag) := by
  have hq (d : Dev) (q : Nat) : LinkKept d (d.qpSettled q) := by
    unfold Dev.qpSettled
    split
    · exact onQp d _ _
    · exact refl d
  have h (f : DispSt → DispSt) (q : Nat) (g : Qp → Qp) : LinkKept d ((((d.dropJobs r).onDisp f).onQp q g).qpSettled q) :=
    (((dropJobs d r).trans (onDisp _ _)).trans (onQp _ _ _)).trans (hq _ _)
  unfold Dev.dropReq
  split
  · exact refl d
  · dsimp only
    split
    · refine trans ?_ (onSlice _ _ _ ?_)
      · exact (h _ _ _).trans (setNum _ _ _ _)
      · exact fun _ => ⟨rfl, rfl⟩
    · exact h _ _ _

end LinkKept

/-! ### The slices and the queue pairs -/

/-- What a slice reset does before its state changes: a save that has not committed is given up, the generation grows, the queue pairs are DISABLED. -/
def Dev.sliceStops (d : Dev) (i : Nat) : Dev :=
  let gone := d.vault.updates.filter (fun u => u.kind == .storeImage && u.slice == i)
  let d := d.onVault (fun v => { v with updates := v.updates.filter (fun u => !gone.contains u) })
  let d := gone.foldl (fun d u => match u.ticket with | some (src, id) => d.respondLate src id (Reply.err resState) | none => d) d
  let d := d.setNum P.slcGeneration i ((d.num P.slcGeneration i + 1) % 65536)
  (d.qpsOf i).foldl (fun d q => if (d.qp q).state == .unconfigured then d else d.onQp q (fun p => { p with state := .disabled, disabling := false, parked := false })) d

/-- What it does after: its requests are discarded or set to abort, its windows abandoned, its placements dropped. -/
def Dev.sliceEmpties (d : Dev) (i : Nat) : Dev :=
  let d := (d.disp.reqs.filter (fun e => e.2.slice == i)).foldl (fun d e =>
    if e.2.phase == .staged then d.dropReq e.1 true
    else if (d.jobsOf e.1).any (fun j => j.2.runs) then d.abortReq e.1 0x0204
    else if d.serving e.1 e.2 then d
    else d.dropReq e.1 false) d
  let d := d.abandonWindows (fun x => x.slice == i)
  d.dropPlacements (fun _ n => match d.node? n with | some x => x.slice == i | none => false)

theorem Dev.beginSliceReset_eq (d : Dev) (i : Nat) (k : EdgeKind) : d.beginSliceReset i k =
    ((d.sliceStops i).onSlice i (fun s => { s with state := .resetting, edge := k, resetDrops := 0, reissue := [], restoring := none })).sliceEmpties i := by
  unfold Dev.beginSliceReset Dev.sliceEmpties Dev.sliceStops
  rfl

theorem LinkKept.sliceStops (d : Dev) (i : Nat) : LinkKept d (d.sliceStops i) := by
  have late (l : List Update) (d : Dev) :
      LinkKept d (l.foldl (fun d u => match u.ticket with | some (src, id) => d.respondLate src id (Reply.err resState) | none => d) d) := by
    refine LinkKept.foldl (fun d u => ?_) l d
    split
    · exact LinkKept.respondLate d _ _ _
    · exact LinkKept.refl d
  have stop (l : List Nat) (d : Dev) : LinkKept d
      (l.foldl (fun d q => if (d.qp q).state == .unconfigured then d else d.onQp q (fun p => { p with state := .disabled, disabling := false, parked := false })) d) := by
    refine LinkKept.foldl (fun d q => ?_) l d
    split
    · exact LinkKept.refl d
    · exact LinkKept.onQp d _ _
  unfold Dev.sliceStops
  extract_lets gone d1 d2 d3
  exact (((LinkKept.onVault d _).trans (late gone d1)).trans (LinkKept.setNum d2 _ _ _)).trans (stop _ d3)

theorem LinkKept.sliceEmpties (d : Dev) (i : Nat) : LinkKept d (d.sliceEmpties i) := by
  have drop (l : List (Nat × Request)) (d : Dev) : LinkKept d (l.foldl (fun d e =>
      if e.2.phase == .staged then d.dropReq e.1 true
      else if (d.jobsOf e.1).any (fun j => j.2.runs) then d.abortReq e.1 0x0204
      else if d.serving e.1 e.2 then d
      else d.dropReq e.1 false) d) := by
    refine LinkKept.foldl (fun d e => ?_) l d
    split
    · exact LinkKept.dropReq d _ _
    · split
      · exact LinkKept.abortReq d _ _
      · split
        · exact LinkKept.refl d
        · exact LinkKept.dropReq d _ _
  unfold Dev.sliceEmpties
  extract_lets d1 d2
  exact ((drop _ d).trans (LinkKept.abandonWindows d1 _)).trans (LinkKept.dropPlacements d2 _)

/-- A slice reset that begins takes its slice to RESETTING by its edge, and every other slice stays (R401). -/
theorem Dev.beginSliceReset_spec (d : Dev) (i : Nat) (k : EdgeKind) :
    let e := d.beginSliceReset i k
    e.modes.lastReset = d.modes.lastReset ∧ e.host.translations = d.host.translations ∧ e.host.functionMask = d.host.functionMask ∧
    ((e.sliceSt i).state = .resetting ∧ (e.sliceSt i).edge = k) ∧
    ∀ j, j ≠ i → (e.sliceSt j).state = (d.sliceSt j).state ∧ (e.sliceSt j).edge = (d.sliceSt j).edge := by
  intro e
  have hstop := LinkKept.sliceStops d i
  have hend : LinkKept ((d.sliceStops i).onSlice i (fun s => { s with state := .resetting, edge := k, resetDrops := 0, reissue := [], restoring := none }))
      (d.beginSliceReset i k) := by
    rw [Dev.beginSliceReset_eq]
    exact LinkKept.sliceEmpties _ i
  change LinkKept _ e at hend
  clear_value e
  generalize d.sliceStops i = a at *
  refine ⟨hend.lastReset.trans hstop.lastReset, hend.translations.trans hstop.translations, hend.functionMask.trans hstop.functionMask, ?_, fun j hj => ?_⟩
  · have h := hend.slice i
    rw [Dev.sliceSt_onSlice, if_pos rfl] at h
    exact h
  · have h := hend.slice j
    rw [Dev.sliceSt_onSlice, if_neg (Ne.symm hj)] at h
    exact ⟨h.1.trans (hstop.slice j).1, h.2.trans (hstop.slice j).2⟩

/-- Slice resets that begin one after the other. -/
theorem Dev.beginSliceResets (l : List Nat) (k : EdgeKind) (d : Dev) :
    let e := l.foldl (fun d i => d.beginSliceReset i k) d
    e.modes.lastReset = d.modes.lastReset ∧ e.host.translations = d.host.translations ∧ e.host.functionMask = d.host.functionMask ∧
    (∀ i ∈ l, (e.sliceSt i).state = .resetting ∧ (e.sliceSt i).edge = k) ∧
    ∀ j, j ∉ l → (e.sliceSt j).state = (d.sliceSt j).state ∧ (e.sliceSt j).edge = (d.sliceSt j).edge := by
  induction l generalizing d with
  | nil => exact ⟨rfl, rfl, rfl, by simp, fun _ _ => ⟨rfl, rfl⟩⟩
  | cons i r ih =>
    obtain ⟨h1, h2, h3, hi, hj⟩ := d.beginSliceReset_spec i k
    obtain ⟨g1, g2, g3, gi, gj⟩ := ih (d.beginSliceReset i k)
    rw [List.foldl_cons]
    refine ⟨g1.trans h1, g2.trans h2, g3.trans h3, fun a ha => ?_, fun j hjl => ?_⟩
    · by_cases har : a ∈ r
      · exact gi a har
      · obtain rfl : a = i := (List.mem_cons.1 ha).resolve_right har
        exact ⟨(gj a har).1.trans hi.1, (gj a har).2.trans hi.2⟩
    · obtain ⟨hne, hnr⟩ := not_or.1 (mt List.mem_cons.2 hjl)
      exact ⟨(gj j hnr).1.trans (hj j hne).1, (gj j hnr).2.trans (hj j hne).2⟩

/-- Writing numbers of the dictionary leaves the host side as it was. -/
theorem Dev.foldl_setNum_kept (l : List Param) (q : Nat) (d : Dev) :
    LinkKept d (l.foldl (fun d p => d.setNum p q (catDefault p)) d) ∧ (l.foldl (fun d p => d.setNum p q (catDefault p)) d).host = d.host :=
  ⟨LinkKept.foldl (fun d p => LinkKept.setNum d p q _) l d,
    foldl_rel (R := fun d e => e.host = d.host) (f := fun d p => d.setNum p q (catDefault p)) (fun _ => rfl) (fun h g => g.trans h) (fun _ _ => rfl) l d⟩

/-- A queue pair that is unconfigured is as after reset, and the others stay (R24, R62). -/
theorem Dev.unconfigure_spec (d : Dev) (q : Nat) :
    LinkKept d (d.unconfigure q) ∧ ∀ p, (d.unconfigure q).qp p = if q = p then Qp.reset else d.qp p := by
  obtain ⟨hk, hh⟩ := Dev.foldl_setNum_kept qpConfig q ((d.unbindQp q).onQp q (fun _ => Qp.reset))
  refine ⟨?_, fun p => ?_⟩
  · refine LinkKept.trans ?_ hk
    exact (((LinkKept.onQp d q _).trans (LinkKept.setNum _ _ _ _)).trans (LinkKept.setNum _ _ _ _)).trans (LinkKept.onQp _ q _)
  · show tabGet Qp.reset p (d.unconfigure q).host.qps = _
    unfold Dev.unconfigure
    rw [hh]
    show ((d.unbindQp q).onQp q (fun _ => Qp.reset)).qp p = _
    rw [Dev.qp_onQp]
    by_cases h : q = p
    · rw [if_pos h, if_pos h]
    · rw [if_neg h, if_neg h]
      show (d.onQp q (fun p => { p with binding := none })).qp p = _
      rw [Dev.qp_onQp, if_neg h]

theorem Dev.unconfigures (l : List Nat) (d : Dev) :
    LinkKept d (l.foldl Dev.unconfigure d) ∧ ∀ p, (l.foldl Dev.unconfigure d).qp p = if p ∈ l then Qp.reset else d.qp p := by
  induction l generalizing d with
  | nil => exact ⟨LinkKept.refl d, fun p => by simp⟩
  | cons q r ih =>
    obtain ⟨hk, hq⟩ := d.unconfigure_spec q
    obtain ⟨gk, gq⟩ := ih (d.unconfigure q)
    rw [List.foldl_cons]
    refine ⟨hk.trans gk, fun p => ?_⟩
    rw [gq, hq]
    by_cases hp : p ∈ r <;> by_cases he : q = p <;> simp [hp, he, eq_comm]

/-- A key that a table does not list. -/
theorem tabGet?_of_not_mem {α : Type} {k : Nat} : ∀ {t : Tab Nat α}, k ∉ t.map Prod.fst → tabGet? k t = none
  | [], _ => rfl
  | e :: r, h => by
    simp only [List.map_cons, List.mem_cons, not_or] at h
    rw [tabGet?, if_neg (Ne.symm h.1), tabGet?_of_not_mem h.2]

theorem mem_of_tabGet? {α : Type} {k : Nat} {x : α} : ∀ {t : Tab Nat α}, tabGet? k t = some x → (k, x) ∈ t
  | [], h => nomatch h
  | (j, y) :: r, h => by
    rw [tabGet?] at h
    split at h
    · rename_i e; subst e; simp only [Option.some.injEq] at h; simp [h]
    · exact List.mem_cons_of_mem _ (mem_of_tabGet? h)

theorem Dev.hostLinkReset_absorbed (d : Dev) (k : EdgeKind) (h : d.modes.inReset = some 0 ∨ d.modes.inReset = some 1) : d.hostLinkReset k = d.absorbed 3 := by
  unfold Dev.hostLinkReset
  rw [if_pos (by simpa using h)]

/-- A host link reset that nothing contains: the PCIe side is as after reset, and every slice resets (R62, R402). -/
theorem Dev.hostLinkReset_spec (d : Dev) (k : EdgeKind) (h0 : d.modes.inReset ≠ some 0) (h1 : d.modes.inReset ≠ some 1) :
    let e := d.hostLinkReset k
    e.modes.lastReset = 3 ∧ e.host.translations = [] ∧ e.host.functionMask = true ∧ (∀ q, (e.qp q).state = .unconfigured) ∧
    ∀ i, (d.sliceSt i).state ≠ .free → (e.sliceSt i).state = .resetting ∧ (e.sliceSt i).edge = k := by
  have listed : ∀ i, (d.sliceSt i).state ≠ .free → i ∈ (d.slices.filter (fun e => e.2.state != .free)).map Prod.fst := by
    intro i hi
    unfold Dev.sliceSt tabGet at hi
    cases hx : tabGet? i d.slices with
    | none => rw [hx] at hi; exact absurd rfl hi
    | some x =>
      rw [hx] at hi
      exact List.mem_map.2 ⟨(i, x), List.mem_filter.2 ⟨mem_of_tabGet? hx, by simpa using hi⟩, rfl⟩
  unfold Dev.hostLinkReset
  rw [if_neg (by simp [h0, h1])]
  extract_lets d1 d2 l d3
  obtain ⟨g1, g2, g3, gin, -⟩ := Dev.beginSliceResets l k d2
  obtain ⟨hk, hq⟩ := Dev.unconfigures (d3.host.qps.map Prod.fst) d3
  refine ⟨hk.lastReset.trans g1, hk.translations.trans g2, hk.functionMask.trans g3, fun q => ?_, fun i hi => ?_⟩
  · rw [hq]
    split
    · rfl
    · rename_i hn
      show (tabGet Qp.reset q d3.host.qps).state = _
      rw [tabGet, tabGet?_of_not_mem hn]
      rfl
  · have hg := gin i (listed i hi)
    exact ⟨(hk.slice i).1.trans hg.1, (hk.slice i).2.trans hg.2⟩

end Sys2Proof.Machine
end

section
/-! SUPPORT. Domains that have drained or ramped, pins, the backup cell, and from it all O51 (R482 to R487, R494 to R498). -/

namespace Sys2Proof.Machine

theorem State.goes_of_run {s : State} {c : Instr} {f : Dev → Dev} {e : Dev} (h : exec c s = s.run f) (hf : f s.dev = e) : s.goes c e :=
  h.trans (by rw [State.run_eq, hf])

theorem State.goes_of_runPart {s : State} {c : Instr} {f : Dev → Dev} {e : Dev} {n count : Nat} (h : exec c s = s.runPart n count f) (hn : n < count) (hf : f s.dev = e) :
    s.goes c e :=
  h.trans (by rw [State.runPart_lt hn, hf])

/-! ### Domains -/

variable {d : Dev} {n : Nat}

/-- The last operation on the domain has ended, and the domains that go before it have gone (R486). -/
def Dev.drained (d : Dev) (n : Nat) : Prop :=
  (∀ u ∈ domainUnits n, d.unitIdle u = true) ∧ (12 ≤ n → d.longBusy (n % 4) = false) ∧ (n < 12 → d.domain (12 + n % 4) ≠ .draining) ∧
    (8 ≤ n → n < 12 → d.domain (4 + n % 4) ≠ .draining)

/-- The domain ramps, and those that come before it are up (R487). -/
def Dev.ramped (d : Dev) (n : Nat) : Prop :=
  d.domain n = .ramping ∧ ((n < 8 ∨ 12 ≤ n) → d.domain (8 + n % 4) ≠ .ramping) ∧ (12 ≤ n → d.domain (4 + n % 4) ≠ .ramping)

theorem not_decide_and_iff {p : Prop} [Decidable p] {b : Bool} : (!(decide p && b)) = true ↔ (p → b = false) := by
  by_cases h : p <;> simp [h]

theorem Dev.drained_iff : d.drained n ↔ ((domainUnits n).all d.unitIdle && !(decide (n ≥ 12) && d.longBusy (n % 4)) && !(decide (n < 12) && d.domain (vecDomain (n % 4)) == .draining) &&
    !(decide (8 ≤ n) && decide (n < 12) && d.domain (tileDomain (n % 4)) == .draining)) = true := by
  simp only [Dev.drained, vecDomain, tileDomain, ← Bool.decide_and, Bool.and_eq_true, not_decide_and_iff, List.all_eq_true, beq_eq_false_iff_ne, and_imp, and_assoc, ge_iff_le]

theorem domainDrained_other (h : n < 4 ∨ 15 < n) : domainDrained n d = d := by
  unfold domainDrained
  rw [if_pos (by simpa using h)]

theorem domainRampDone_other (h : n < 4 ∨ 15 < n) : domainRampDone n d = d := by
  unfold domainRampDone
  rw [if_pos (by simp; omega)]

/-- Waking tiles keeps the time, so they all wake now. -/
theorem Dev.foldl_lvWake (l : List Nat) (d : Dev) : l.foldl (fun d t => d.onTile t (fun y => { y with lv := 0, lvSince := d.now })) d =
    l.foldl (fun e t => e.onTile t (fun y => { y with lv := 0, lvSince := d.now })) d := by
  suffices h : ∀ (e : Dev) (k : Nat), e.now = k → l.foldl (fun d t => d.onTile t (fun y => { y with lv := 0, lvSince := d.now })) e =
      l.foldl (fun e t => e.onTile t (fun y => { y with lv := 0, lvSince := k })) e from h d d.now rfl
  induction l with
  | nil => exact fun _ _ _ => rfl
  | cons t r ih =>
    intro e k hk
    subst hk
    exact ih _ _ rfl

section
variable (h4 : 4 ≤ n) (h15 : n ≤ 15)
include h4 h15

theorem domainDrained_draining (hd : d.domain n = .draining) [Decidable (d.drained n)] : domainDrained n d = if d.drained n then d.domainGone n else d := by
  unfold domainDrained
  rw [if_neg (by simp; omega)]
  simp only [hd, beq_self_eq_true, if_true, ← Dev.drained_iff]

theorem domainDrained_hearth (hd : d.domain n ≠ .draining) (h8 : 8 ≤ n) : domainDrained n d = d := by
  unfold domainDrained
  rw [if_neg (by simp; omega), if_neg (by simpa using hd), if_neg (by omega)]

theorem domainDrained_tiles (hd : d.domain n ≠ .draining) (h8 : n < 8) : domainDrained n d =
    (((quadTiles (n % 4)).filter (fun t => d.power.openSwitches.contains t && (d.unit t).pool != .off && d.unitIdle t)).foldl Dev.unitOff d).rolloutStep := by
  unfold domainDrained
  rw [if_neg (by simp; omega), if_neg (by simpa using hd), if_pos h8]

theorem domainRampDone_not_ramped (h : ¬ d.ramped n) : domainRampDone n d = d := by
  unfold domainRampDone
  by_cases hr : d.domain n = .ramping
  · by_cases hh : (n < 8 ∨ 12 ≤ n) ∧ d.domain (8 + n % 4) = .ramping
    · rw [if_neg (by simp [hr]; omega), if_pos (by simpa [hearthDomain] using hh)]
    · have ht : 12 ≤ n ∧ d.domain (4 + n % 4) = .ramping :=
        Decidable.byContradiction fun hn => h ⟨hr, fun ho he => hh ⟨ho, he⟩, fun h12 he => hn ⟨h12, he⟩⟩
      rw [if_neg (by simp [hr]; omega), if_neg (by simpa [hearthDomain] using hh), if_pos (by simpa [tileDomain] using ht)]
  · rw [if_pos (by simp [hr])]

theorem domainRampDone_ramped (h : d.ramped n) : domainRampDone n d =
    let on := d.setDomain n .on
    let closed := if n < 8 then on.onPower (fun p => { p with openSwitches := p.openSwitches.filter (fun t => unitDomain t != n) }) else on
    let woken := if 12 ≤ n then (quadTiles (n % 4)).foldl (fun e t => e.onTile t (fun y => { y with lv := 0, lvSince := d.now })) closed else closed
    (domainUnits n).foldl Dev.powerUnit woken := by
  obtain ⟨hr, hh, ht⟩ := h
  unfold domainRampDone
  rw [if_neg (by simp [hr]; omega), if_neg (by simpa [hearthDomain] using hh), if_neg (by simpa [tileDomain] using ht)]
  dsimp only
  by_cases h12 : 12 ≤ n
  · simp only [h12, if_neg (show ¬ n < 8 by omega), if_true]
    rw [Dev.foldl_lvWake]
    rfl
  · simp only [h12, if_false]

end

/-! ### Pins, supplies and the backup cell -/

theorem Dev.contained_cold (d : Dev) : d.contained 1 = decide (d.modes.inReset = some 0) := by
  unfold Dev.contained
  cases h : d.modes.inReset with
  | none => rfl
  | some k => simp

theorem Mode.powered_of_off {m : Mode} (h : m = .off) : m.powered = false := h ▸ rfl
theorem Mode.powered_of_backup {m : Mode} (h : m = .backup) : m.powered = false := h ▸ rfl

theorem backupReset_powered (h : d.modes.mode.powered = true) : backupReset d = d := if_pos h

theorem backupReset_off (h : d.modes.mode = .off) : backupReset d = d.backupReset := by
  unfold backupReset
  rw [if_neg (by simp [Mode.powered_of_off h])]
  simp [h]

theorem backupReset_backup (h : d.modes.mode = .backup) : backupReset d = (d.takeEdge .off .power 0).backupReset := by
  unfold backupReset
  rw [if_neg (by simp [Mode.powered_of_backup h])]
  simp [h]

theorem backupCellRemoved_absent (h : d.power.cell = false) : backupCellRemoved d = d := by
  unfold backupCellRemoved
  rw [if_pos (by simp [h])]

theorem backupCellRemoved_present (h : d.power.cell = true) : backupCellRemoved d =
    if d.modes.mode.powered then (d.onPower (fun p => { p with cell := false })).raise 0x720 0 else backupReset (d.onPower (fun p => { p with cell := false })) := by
  unfold backupCellRemoved
  rw [if_neg (by simp [h])]
  rfl

/-! ### O51 -/

/-- A domain's two reports. -/
theorem powerEvents_domains (s : State) (n : Nat) (hn : n < 21) :
    let d := s.dev
    let on := d.setDomain n .on
    let closed := if n < 8 then on.onPower (fun p => { p with openSwitches := p.openSwitches.filter (fun t => unitDomain t != n) }) else on
    let woken := if 12 ≤ n then (quadTiles (n % 4)).foldl (fun e t => e.onTile t (fun y => { y with lv := 0, lvSince := s.dev.now })) closed else closed
    ((n < 4 ∨ 15 < n) → s.goes (.domainDrained n) d ∧ s.goes (.domainRampDone n) d) ∧
    (4 ≤ n → n ≤ 15 →
      (d.domain n = .draining → d.drained n → s.goes (.domainDrained n) (d.domainGone n)) ∧
      (d.domain n = .draining → ¬ d.drained n → s.goes (.domainDrained n) d) ∧
      (d.domain n ≠ .draining → 8 ≤ n → s.goes (.domainDrained n) d) ∧
      (d.domain n ≠ .draining → n < 8 → s.goes (.domainDrained n)
        (((quadTiles (n % 4)).filter (fun t => d.power.openSwitches.contains t && (d.unit t).pool != .off && d.unitIdle t)).foldl Dev.unitOff d).rolloutStep) ∧
      (¬ d.ramped n → s.goes (.domainRampDone n) d) ∧
      (d.ramped n → s.goes (.domainRampDone n) ((domainUnits n).foldl Dev.powerUnit woken))) := by
  intro d on closed woken
  have drains {e : Dev} (h : domainDrained n s.dev = e) : s.goes (.domainDrained n) e := State.goes_of_runPart rfl hn h
  have ramps {e : Dev} (h : domainRampDone n s.dev = e) : s.goes (.domainRampDone n) e := State.goes_of_runPart rfl hn h
  refine ⟨fun h => ⟨drains (domainDrained_other h), ramps (domainRampDone_other h)⟩,
    fun h4 h15 => ⟨fun hd h => ?_, fun hd h => ?_, fun hd h8 => ?_, fun hd h8 => ?_, fun h => ?_, fun h => ?_⟩⟩
  · exact drains (by classical rw [domainDrained_draining h4 h15 hd, if_pos h])
  · exact drains (by classical rw [domainDrained_draining h4 h15 hd, if_neg h])
  · exact drains (domainDrained_hearth h4 h15 hd h8)
  · exact drains (domainDrained_tiles h4 h15 hd h8)
  · exact ramps (domainRampDone_not_ramped h4 h15 h)
  · exact ramps (domainRampDone_ramped h4 h15 h)

/-- The pins and the main supply. -/
theorem powerEvents_pins (s : State) :
    let d := s.dev
    let por := d.onPower (fun p => { p with porN := false })
    let cold := d.onPower (fun p => { p with coldRstN := false })
    (d.modes.mode.powered = false → s.goes .porNAssert por ∧ s.goes .coldRstN cold) ∧
    (d.modes.mode.powered = true →
      s.goes .porNAssert (por.coldReset 0 0 .power) ∧ s.goes .mainPowerApplied d ∧ s.goes .backupReset d ∧
      (d.modes.inReset = some 0 → s.goes .coldRstN (cold.onModes (fun m => { m with lastReset := 1, lastResetSource := 0 }))) ∧
      (d.modes.inReset ≠ some 0 → s.goes .coldRstN (cold.coldReset 1 0 .host))) ∧
    (d.modes.mode.powered = false → s.goes .mainPowerApplied ((d.onPower (fun p => { p with mainPower := true })).coldReset 0 d.powerSource .power)) ∧
    s.goes .porNRelease (d.onPower (fun p => { p with porN := true })) ∧ s.goes .coldRstNRelease (d.onPower (fun p => { p with coldRstN := true })) ∧
    s.goes .perstNRelease ((d.onPower (fun p => { p with perstN := true })).onHost (fun h => { h with linkReset := false })) ∧
    (∀ lost,
      let p := d.onPower (fun p => { p with perstN := false })
      (d.modes.mode.powered = false → s.goes (.perstN lost) p ∧ s.goes .pcieHotReset d) ∧
      (d.modes.mode.powered = true → s.goes (.perstN lost) ((p.onHost (fun h => { h with linkReset := true })).hostLinkReset (if lost then .power else .host)) ∧
        s.goes .pcieHotReset (d.hostLinkReset .host))) := by
  intro d por cold
  have hcont : cold.contained 1 = decide (d.modes.inReset = some 0) := cold.contained_cold
  have coldPin (hp : d.modes.mode.powered = true) : coldRstN d = if cold.contained 1 then cold.absorbed 1 else cold.coldReset 1 0 .host := if_neg (by simpa using hp)
  refine ⟨fun hp => ⟨State.goes_of_run rfl (if_neg (by simpa using hp)), State.goes_of_run rfl (if_pos (by simpa using hp))⟩, fun hp => ⟨?_, ?_, ?_, fun hr => ?_, fun hr => ?_⟩, fun hp => ?_,
    rfl, rfl, rfl, fun lost => ⟨fun hp => ⟨?_, ?_⟩, fun hp => ⟨?_, ?_⟩⟩⟩
  · exact State.goes_of_run rfl (if_pos hp)
  · exact State.goes_of_run rfl (if_pos hp)
  · exact State.goes_of_run rfl (backupReset_powered hp)
  · exact State.goes_of_run rfl ((coldPin hp).trans (if_pos (by simp [hcont, hr])))
  · exact State.goes_of_run rfl ((coldPin hp).trans (if_neg (by simp [hcont, hr])))
  · exact State.goes_of_run rfl (if_neg (by simpa using hp))
  · exact State.goes_of_run rfl (if_neg (by simpa using hp))
  · exact State.goes_of_run rfl (if_neg (by simpa using hp))
  · exact State.goes_of_run rfl (if_pos hp)
  · exact State.goes_of_run rfl (if_pos hp)

/-- The backup cell and the reset of the backup domain. -/
theorem powerEvents_cell (s : State) :
    let d := s.dev
    let into := d.onPower (fun p => { p with cell := true })
    let gone := d.onPower (fun p => { p with cell := false })
    (d.modes.mode = .off → s.goes .backupCellInserted (into.takeEdge .backup .power 0)) ∧ (d.modes.mode ≠ .off → s.goes .backupCellInserted into) ∧
    (d.power.cell = false → s.goes .backupCellRemoved d) ∧
    (d.power.cell = true → d.modes.mode.powered = true → s.goes .backupCellRemoved (gone.raise 0x0720 0)) ∧
    (d.modes.mode = .off → s.goes .backupReset d.backupReset ∧ (d.power.cell = true → s.goes .backupCellRemoved gone.backupReset)) ∧
    (d.modes.mode = .backup → s.goes .backupReset (d.takeEdge .off .power 0).backupReset ∧
      (d.power.cell = true → s.goes .backupCellRemoved (gone.takeEdge .off .power 0).backupReset)) ∧
    d.backupReset.backup.ember = false ∧ d.backupReset.backup.tamperOut = true ∧ d.backupReset.time.stamp = 0 ∧
    d.backupReset.backup.log.map (fun b => (b.source, b.seq)) = [(0x0720, 0)] := by
  intro d into gone
  have removed (hc : d.power.cell = true) (hp : d.modes.mode.powered = false) : backupCellRemoved d = backupReset gone :=
    (backupCellRemoved_present hc).trans (if_neg (by simpa using hp))
  refine ⟨fun h => ?_, fun h => ?_, fun hc => ?_, fun hc hp => ?_, fun h => ⟨?_, fun hc => ?_⟩, fun h => ⟨?_, fun hc => ?_⟩, d.backupReset_spec⟩
  · exact State.goes_of_run rfl (if_pos (by simpa using h))
  · exact State.goes_of_run rfl (if_neg (by simpa using h))
  · exact State.goes_of_run rfl (backupCellRemoved_absent hc)
  · exact State.goes_of_run rfl ((backupCellRemoved_present hc).trans (if_pos hp))
  · exact State.goes_of_run rfl (backupReset_off h)
  · exact State.goes_of_run rfl ((removed hc (Mode.powered_of_off h)).trans (backupReset_off h))
  · exact State.goes_of_run rfl (backupReset_backup h)
  · exact State.goes_of_run rfl ((removed hc (Mode.powered_of_backup h)).trans (backupReset_backup h))

/-- Settles O51: the reports of a domain, the pins, what each reset leaves, the backup cell, and a rail below reset. -/
theorem powerEvents : Obligations.PowerEvents := by
  refine ⟨powerEvents_domains, fun d n _ _ h => d.domainGone_spec n h, powerEvents_pins, fun d kind src k hk => ?_,
    fun d k => ⟨fun h => d.hostLinkReset_absorbed k (by simpa using h), d.hostLinkReset_spec k⟩, powerEvents_cell, fun s r mv hr => ⟨fun h => ?_, fun hp hw => ?_⟩⟩
  · obtain ⟨x, c, hmode, hlast, hsource, hedge, hlcy, hbackup⟩ := d.coldReset_start kind src k hk
    exact ⟨c.mode.trans hmode, c.inReset, c.lastReset.trans hlast, c.lastResetSource.trans hsource, c.bootEdge.trans hedge, c.storeOpen, c.step, c.reqs, c.jobs, c.qps, c.nextSeq,
      c.msix, c.sessions, c.tickets, c.pllLocked, c.bellows, c.domains, c.units, c.volatile, c.fields.trans (congrArg LcySt.fields hlcy), c.backup.trans hbackup⟩
  · exact State.goes_of_runPart rfl hr (railBelowReset_unwatched mv h)
  · obtain ⟨-, hpower, hbackup, hburning, hfirm, hmarginal⟩ := s.dev.burnCut_spec
    obtain ⟨hmode, hmain, hunits, hreqs, hjobs, hpll, hdomains, hember, hlog, hnone, hfields⟩ := s.dev.burnCut.mainOff_spec r mv
    have hfield (f : Nat) : (s.dev.burnCut.mainOff r mv).field f = s.dev.burnCut.field f := congrArg (tabGet OtpField.reset f) hfields
    exact ⟨s.dev.burnCut.mainOff r mv, State.goes_of_runPart rfl hr (railBelowReset_watched mv hp hw), hmode.trans (by rw [hpower]), hmain, hunits, hreqs, hjobs, hpll, hdomains,
      hember.trans (by rw [hbackup]), hlog, hnone.trans hburning, fun f => by rw [hfield, hfirm], fun f k hb hf => by rw [hfield]; exact hmarginal f k hb hf⟩

end Sys2Proof.Machine
end

section
/-! SUPPORT. What the commands of the microprogram library and the rollout do, branch by branch (R176, R177, R182). -/

namespace Sys2Proof.Machine

variable {d : Dev} {m : Msg}

/-! ### The library -/

theorem effMpgInstall_barred {why : String} (hb : m.body = []) (h : d.mpBar d.lib.container = some why) : effMpgInstall d m = deny d (Reply.refused why 0) := by
  unfold effMpgInstall
  rw [withArg_of_nil hb]
  simp only [h]

theorem effMpgInstall_journals (hb : m.body = []) (h : d.mpBar d.lib.container = none) : effMpgInstall d m = d.libJournal m (.library d.lib.container) := by
  unfold effMpgInstall
  rw [withArg_of_nil hb]
  simp only [h]

theorem effMpgRemove_eq (hb : m.body.length = 8) : effMpgRemove d m =
    if d.mp? (leAt 0 4 m.body) (leAt 4 4 m.body) = none then deny d (Reply.range P.mpgRemove)
    else if d.mpInUse (leAt 0 4 m.body) (leAt 4 4 m.body) = true then deny d (Reply.err resState)
    else d.libJournal m (.libraryRemove (leAt 0 4 m.body) (leAt 4 4 m.body)) := by
  unfold effMpgRemove
  rw [withArg_of_length hb]
  exact ite_congr (propext Option.isNone_iff_eq_none) (fun _ => rfl) fun _ => rfl

theorem effMpgMinSvn_falls (hb : m.body.length = 4) (h : leNat m.body < d.num P.mpgMinSvn m.row.toNat) : effMpgMinSvn d m = deny d (Reply.range P.mpgMinSvn) := by
  unfold effMpgMinSvn
  rw [withArg_of_length hb]
  exact if_pos (by simp [h])

theorem effMpgMinSvn_rises (hb : m.body.length = 4) (h : d.num P.mpgMinSvn m.row.toNat ≤ leNat m.body)
    (hx : ∀ x ∈ d.lib.library, x.mpId = m.row.toNat → d.mpInUse m.row.toNat x.version = true → leNat m.body ≤ x.svn) :
    effMpgMinSvn d m = accept (d.setNum P.mpgMinSvn m.row.toNat (leNat m.body)) := by
  unfold effMpgMinSvn
  rw [withArg_of_length hb]
  exact if_neg (by simpa [Nat.not_lt.2 h] using hx)

/-! ### Rollout -/

/-- The tiles that a rollout's mask names. -/
def rolloutMask (m : Msg) : List Nat := (List.range nTiles).filter (fun t => (leNat m.body).testBit t)

/-- Those of them whose configuration changes (R179). -/
def Dev.changing (d : Dev) (m : Msg) : List Nat := (rolloutMask m).filter (fun t => tabGet (d.slots t) t d.lib.target != d.slots t)

theorem Dev.rolloutMask_ne_nil {t : Nat} (h : t ∈ d.changing m) : rolloutMask m ≠ [] := List.ne_nil_of_mem (List.mem_filter.1 h).1

/-- The checks of a rollout in their order, and what it does once they have passed. -/
theorem effRollout_eq (hb : m.body.length = 16) : effRollout d m =
    if rolloutMask m = [] then deny d (Reply.range P.mpgCmdRollout)
    else if d.lib.rolloutState = 1 then deny d (Reply.err resBusy)
    else if ∃ t ∈ d.changing m, (d.unit t).pool = .off then deny d (Reply.err resState)
    else if ∃ t ∈ d.changing m, d.slotsOk (tabGet (d.slots t) t d.lib.target) = false then deny d (Reply.range P.mpgSlotTarget)
    else if d.changing m = [] then accept (d.onLib (fun x => { x with rolloutState := 0, rolloutTiles := [], rolloutStopped := 0, rolloutReason := 0 }))
    else accept ((d.onLib (fun x => { x with rolloutState := 1, rolloutDraining := false, rolloutTiles := d.changing m, rolloutCurrent := (d.changing m).headD 0,
                                              rolloutStopped := 0, rolloutReason := 0 })).rolloutStep) := by
  have hmask : (List.range nTiles).filter (fun t => (leNat m.body).testBit t) = rolloutMask m := rfl
  have hch : (rolloutMask m).filter (fun t => tabGet (d.slots t) t d.lib.target != d.slots t) = d.changing m := rfl
  unfold effRollout
  rw [withArg_of_length hb]
  simp only [hmask, hch]
  refine ite_congr (propext List.isEmpty_iff) (fun _ => rfl) fun _ => ite_congr (propext beq_iff_eq) (fun _ => rfl) fun _ =>
    ite_congr (by simp) (fun _ => rfl) fun _ => ite_congr (by simp) (fun _ => rfl) fun _ => ?_
  cases d.changing m with
  | nil => rw [if_pos rfl]
  | cons n l => rw [if_neg (List.cons_ne_nil n l), List.headD_cons]

theorem effRollout_busy (hb : m.body.length = 16) (hm : rolloutMask m ≠ []) (hs : d.lib.rolloutState = 1) : effRollout d m = deny d (Reply.err resBusy) := by
  rw [effRollout_eq hb, if_neg hm, if_pos hs]

theorem effRollout_range (hb : m.body.length = 16) (hs : d.lib.rolloutState ≠ 1) (hp : ∀ t ∈ d.changing m, (d.unit t).pool ≠ .off)
    (h : ∃ t ∈ d.changing m, d.slotsOk (tabGet (d.slots t) t d.lib.target) = false) : effRollout d m = deny d (Reply.range P.mpgSlotTarget) := by
  obtain ⟨t, ht, -⟩ := id h
  rw [effRollout_eq hb, if_neg (Dev.rolloutMask_ne_nil ht), if_neg hs, if_neg (by simpa using hp), if_pos h]

theorem effRollout_unchanged (hb : m.body.length = 16) (hm : rolloutMask m ≠ []) (hc : d.changing m = []) (hs : d.lib.rolloutState ≠ 1) :
    effRollout d m = accept (d.onLib (fun x => { x with rolloutState := 0, rolloutTiles := [], rolloutStopped := 0, rolloutReason := 0 })) := by
  rw [effRollout_eq hb, if_neg hm, if_neg hs, if_neg (by simp [hc]), if_neg (by simp [hc]), if_pos hc]

theorem effRollout_starts {n : Nat} {l : List Nat} (hb : m.body.length = 16) (hc : d.changing m = n :: l) (hs : d.lib.rolloutState ≠ 1)
    (hp : ∀ t ∈ d.changing m, (d.unit t).pool ≠ .off) (ho : ∀ t ∈ d.changing m, d.slotsOk (tabGet (d.slots t) t d.lib.target) = true) :
    effRollout d m = accept ((d.onLib (fun x => { x with rolloutState := 1, rolloutDraining := false, rolloutTiles := n :: l, rolloutCurrent := n, rolloutStopped := 0,
                                                         rolloutReason := 0 })).rolloutStep) := by
  have hm : rolloutMask m ≠ [] := Dev.rolloutMask_ne_nil (d := d) (t := n) (by simp [hc])
  rw [effRollout_eq hb, if_neg hm, if_neg hs, if_neg (by simpa using hp), if_neg (by simpa using ho), hc, if_neg (List.cons_ne_nil n l), List.headD_cons]

end Sys2Proof.Machine
end

section
/-! SUPPORT. What the officer's vault commands do (R301, R325, R326, R330). -/

namespace Sys2Proof.Machine

variable {d : Dev} {m : Msg}

/-- A draw changes the generator, its count in the dictionary and the free values alone (R341, R345). -/
theorem Dev.draw_frame (d : Dev) (n : Nat) : ∃ c b k, (d.draw n).2 = { d with dict := c, bellows := b, freeCtr := k } := by
  unfold Dev.draw
  split
  · unfold Dev.generate
    dsimp only
    split <;> exact ⟨_, _, _, rfl⟩
  · exact ⟨_, _, _, rfl⟩

theorem Dev.pufSecret_draw (d : Dev) (n : Nat) : (d.draw n).2.pufSecret = d.pufSecret := by
  obtain ⟨c, b, k, h⟩ := d.draw_frame n
  rw [h]
  rfl

/-- The `i`-th 32 bytes of the 128 that a new ember key and the keys below it are drawn from (R325). -/
def Dev.keyPart (d : Dev) (i : Nat) : Bytes := slice (32 * i) 32 (d.draw 128).1

/-- A new ember key in its mask (R297, R325). -/
def Dev.newEmber (d : Dev) : Dev :=
  (d.draw 128).2.onBackup (fun b => { b with emberShares := [xorBytes (d.keyPart 0) (d.keyPart 1), d.keyPart 1], reprovisioned := true })

/-- A new vault master and device-domain root under it, and no placement left (R325, R326). -/
def Dev.rekeyed (d : Dev) : Dev :=
  (d.newEmber.onVault (fun v => { v with
    deviceRoot := none, master := some (d.keyPart 2), domainRoot := some (d.keyPart 3)
    masterWrapped := wrapKey (kmac256 d.pufSecret d.newEmber.backup.emberKey "OQ7168-ROOT") (d.keyPart 2), domainWrapped := wrapKey (d.keyPart 2) (d.keyPart 3)
    recovered := true, updates := [], journalUsed := 0, journalHigh := false })).dropPlacements (fun _ _ => true)

/-- The device root that wraps the new master is that of the new ember key, which is held. -/
theorem Dev.newEmber_rootOfBoot (d : Dev) : d.newEmber.rootOfBoot = some (kmac256 d.pufSecret d.newEmber.backup.emberKey "OQ7168-ROOT") := by
  have hp : d.newEmber.pufSecret = d.pufSecret := d.pufSecret_draw 128
  unfold Dev.rootOfBoot
  rw [hp]
  exact if_pos rfl

theorem Dev.newMaster_rekeyed (d : Dev) : d.newMaster.dropPlacements (fun _ _ => true) = d.rekeyed := by
  unfold Dev.rekeyed
  rw [← Option.getD_some (a := kmac256 d.pufSecret _ _) (b := []), ← d.newEmber_rootOfBoot]
  rfl

/-- Every index keeps the last check tag of its object (R301). -/
def VaultSt.tagged (v : VaultSt) : Tab Nat Nat := v.nodes.foldl (fun t e => tabSet e.1 e.2.tag t) v.tags

theorem effVltInit_sealed (hb : m.body = []) (hs : d.modes.mode = .sealed) (hl : d.lcState < 4) : effVltInit d m = accept (d.rekeyed.onVault (fun v =>
    { v with nodes := [], tags := v.tagged, roots := [], retained := [], lowMarks := [], misses := [], roomless := [], store := [], marks := [], reserved := [],
             invalidations := [], seqs := [], transport := [], recovering := false, homeMoves := [] })) := by
  unfold effVltInit
  rw [withArg_of_nil hb, if_neg (by simp [hs, hl]), ← d.newMaster_rekeyed]
  rfl

theorem effVltRecover_sealed (hb : m.body = []) (hs : d.modes.mode = .sealed) (hl : d.lcState < 4) : effVltRecover d m = accept (d.rekeyed.onVault (fun v =>
    { v with recovering := true, roots := v.roots.map (fun e => (e.1, { e.2 with closed := true, key := [] })), seqs := v.marks, misses := [], roomless := [], invalidations := [],
             tags := v.tagged, nodes := (v.store.filter (fun e => e.2.stateful = none)).map (fun e => (e.1, { e.2 with resident := false, shares := [] })) })) := by
  have hf : (fun e : Nat × Node => !e.2.isStateful) = fun e => decide (e.2.stateful = none) := by
    funext e
    unfold Node.isStateful
    cases e.2.stateful <;> rfl
  unfold effVltRecover
  rw [withArg_of_nil hb, if_neg (by simp [hs, hl]), ← d.newMaster_rekeyed]
  simp only [hf]
  rfl

theorem effVltInit_refused (hb : m.body = []) (h : d.modes.mode ≠ .sealed ∨ 4 ≤ d.lcState) : effVltInit d m = deny d (Reply.err resState) := by
  unfold effVltInit
  rw [withArg_of_nil hb, if_pos (by simpa using h)]

theorem effVltRecover_refused (hb : m.body = []) (h : d.modes.mode ≠ .sealed ∨ 4 ≤ d.lcState) : effVltRecover d m = deny d (Reply.err resState) := by
  unfold effVltRecover
  rw [withArg_of_nil hb, if_pos (by simpa using h)]

theorem effVltSetHome_range (hb : m.body.length = 34) (hi : leAt 0 2 m.body < 4096) (hne : m.body.drop 2 ≠ deviceIdentity) (hg : d.groupMember (m.body.drop 2) = false) :
    effVltSetHome d m = deny d (Reply.range P.vltCmdSetHome) := by
  unfold effVltSetHome
  rw [withArg_of_length hb]
  exact (if_neg (by simpa using hi)).trans (if_pos (by simp [hne, hg]))

theorem effVltSetHome_names (hb : m.body.length = 34) (hi : leAt 0 2 m.body < 4096) (hg : m.body.drop 2 = deviceIdentity ∨ d.groupMember (m.body.drop 2) = true) :
    let i := leAt 0 2 m.body
    effVltSetHome d m = accept ((d.onVault (fun v => { v with homeMoves := v.homeMoves.filter (· != i) ++
      (if m.body.drop 2 = deviceIdentity ∧ d.isHome i = false ∧ d.replLag i ≠ 0 then [i] else []) })).setOct P.vltSliceHome i (m.body.drop 2)) := by
  intro i
  unfold effVltSetHome
  rw [withArg_of_length hb]
  refine (if_neg (by simpa using hi)).trans ((if_neg (by rcases hg with h | h <;> simp [h])).trans ?_)
  by_cases h : m.body.drop 2 = deviceIdentity ∧ d.isHome i = false ∧ d.replLag i ≠ 0
  · simp only [if_pos h]
    rw [if_pos (by simpa [and_assoc] using h)]
  · simp only [if_neg h, List.append_nil]
    rw [if_neg (by simpa [and_assoc] using h)]

end Sys2Proof.Machine
end

section
/-! SUPPORT. The library, rollout and vault commands as the statement has them (O25). -/

namespace Sys2Proof.Machine

/-- Settles O25: each command runs its effect, and the effect is read off branch by branch. -/
theorem microprogramAndVaultCommands : Obligations.MicroprogramAndVaultCommands := by
  refine ⟨⟨?installBarred, ?install, ?removeAbsent, ?removeInUse, ?remove, ?svn, ?svnFalls, ?rollout, ?rolloutUnchanged, ?rolloutRange, ?rolloutBusy⟩,
    ?init, ?recover, ?initNot, ?recoverNot, ?home, ?homeRange⟩
  case installBarred => exact fun why => refuses_of (fun _ _ => rfl) (fun _ => rfl) fun _ _ ⟨hb, h⟩ => effMpgInstall_barred hb h
  case install => exact defers_of (fun _ _ => rfl) (fun _ => rfl) fun _ _ ⟨hb, h⟩ => effMpgInstall_journals hb h
  case removeAbsent => exact refuses_of (fun _ _ => rfl) (fun _ => rfl) fun _ _ ⟨hb, h⟩ => (effMpgRemove_eq hb).trans (if_pos h)
  case removeInUse =>
    exact refuses_of (fun _ _ => rfl) (fun _ => rfl) fun _ _ ⟨hb, h, hu⟩ =>
      (effMpgRemove_eq hb).trans ((if_neg (Option.isSome_iff_ne_none.1 h)).trans (if_pos hu))
  case remove =>
    exact defers_of (fun _ _ => rfl) (fun _ => rfl) fun _ _ ⟨hb, h, hu⟩ =>
      (effMpgRemove_eq hb).trans ((if_neg (Option.isSome_iff_ne_none.1 h)).trans (if_neg (ne_true_of_eq_false hu)))
  case svn => exact accepts_of (fun _ _ => rfl) (fun _ => rfl) fun _ _ ⟨hb, h, hx⟩ => effMpgMinSvn_rises hb h hx
  case svnFalls => exact refuses_of (fun _ _ => rfl) (fun _ => rfl) fun _ _ ⟨hb, h⟩ => effMpgMinSvn_falls hb h
  case rollout => exact fun n l => accepts_of (fun _ _ => rfl) (fun _ => rfl) fun _ _ ⟨hb, hc, hs, hp, ho⟩ => effRollout_starts hb hc hs hp ho
  case rolloutUnchanged => exact accepts_of (fun _ _ => rfl) (fun _ => rfl) fun _ _ ⟨hb, hm, hc, hs⟩ => effRollout_unchanged hb hm hc hs
  case rolloutRange =>
    exact refuses_of (fun _ _ => rfl) (fun _ => rfl) fun _ _ ⟨hb, hs, hp, h⟩ => effRollout_range hb hs hp h
  case rolloutBusy => exact refuses_of (fun _ _ => rfl) (fun _ => rfl) fun _ _ ⟨hb, hm, hs⟩ => effRollout_busy hb hm hs
  case init => exact accepts_of (fun _ _ => rfl) (fun _ => rfl) fun _ _ ⟨hb, hs, hl⟩ => effVltInit_sealed hb hs hl
  case recover => exact accepts_of (fun _ _ => rfl) (fun _ => rfl) fun _ _ ⟨hb, hs, hl⟩ => effVltRecover_sealed hb hs hl
  case initNot => exact refuses_of (fun _ _ => rfl) (fun _ => rfl) fun _ _ ⟨hb, h⟩ => effVltInit_refused hb h
  case recoverNot => exact refuses_of (fun _ _ => rfl) (fun _ => rfl) fun _ _ ⟨hb, h⟩ => effVltRecover_refused hb h
  case home => exact accepts_of (fun _ _ => rfl) (fun _ => rfl) fun _ _ ⟨hb, hi, hg⟩ => effVltSetHome_names hb hi hg
  case homeRange => exact refuses_of (fun _ _ => rfl) (fun _ => rfl) fun _ _ ⟨hb, hi, hne, hg⟩ => effVltSetHome_range hb hi hne hg

end Sys2Proof.Machine
end

section
/-! SUPPORT. What a computation that is under way leaves, once for every row that computes (R90, R114, R205). -/

namespace Sys2Proof.Machine

variable {d : Dev} {j : Nat} {x : Job} {q : Request}

/-- A computation under way is for its own request. -/
theorem Dev.computing_jobReq (h : d.computing j x q) : d.jobReq x = some q := by
  obtain ⟨-, hq, -⟩ := h
  unfold Dev.jobReq
  rw [hq]

/-- A job that is there stages its result. -/
theorem Dev.finishJob_eq_staged (h : d.job? j = some x) (r : JobResult) : d.finishJob j r = d.staged j x r := by
  unfold Dev.finishJob Dev.staged
  rw [h]
  dsimp only
  split <;> rfl

theorem Dev.computeWith_stalled (h : d.computing j x q) {fam : Nat → Bool} (hf : fam q.desc.opcode = true) (f : Dev → Request → Job → JobResult) (g : Dev → Request → Job → Trace)
    (hs : ¬ d.sparkReady q x) : d.computeWith j fam f g = d.stallOn x.unit := by
  have hr := Dev.computing_jobReq h
  obtain ⟨hj, -, hb, hfin, ha⟩ := h
  have hstall : (d.drawsSpark q x && d.sparkOut x.unit) = true := by simpa [Dev.sparkReady] using hs
  unfold Dev.computeWith
  simp only [hj, hr]
  rw [if_neg (by simp [hf, Option.isSome_iff_ne_none.1 hb, hfin, ha]), if_pos hstall]

theorem Dev.computeWith_ready (h : d.computing j x q) {fam : Nat → Bool} (hf : fam q.desc.opcode = true) (f : Dev → Request → Job → JobResult) (g : Dev → Request → Job → Trace)
    (hs : d.sparkReady q x) : d.computeWith j fam f g = d.computed j x q (f d.fresh.2 q x) (g d.fresh.2 q x) := by
  have hr := Dev.computing_jobReq h
  obtain ⟨hj, -, hb, hfin, ha⟩ := h
  have hstall : ¬ (d.drawsSpark q x && d.sparkOut x.unit) = true := by rcases hs with h | h <;> simp [h]
  unfold Dev.computeWith
  simp only [hj, hr]
  rw [if_neg (by simp [hf, Option.isSome_iff_ne_none.1 hb, hfin, ha]), if_neg hstall]
  have hst := Dev.finishJob_eq_staged (d := d.fresh.2) (j := j) (x := x) hj
  unfold Dev.computed
  simp only [← hst, Bool.or_eq_true, Bool.and_eq_true, decide_eq_true_eq, beq_iff_eq]
  rfl

/-- A row that runs `computeWith` computes. -/
theorem computesWith_of {c : Nat → Instr} {op : Nat → Bool} {f : Dev → Request → Job → JobResult} {g : Dev → Request → Job → Trace}
    (h : ∀ j s, exec (c j) s = s.run (fun d => d.computeWith j op f g)) : ComputesWith c op f g :=
  fun s j _ _ hc ho => ⟨fun hs => State.goes_of_run (h j s) (Dev.computeWith_ready hc ho f g hs), fun hs => State.goes_of_run (h j s) (Dev.computeWith_stalled hc ho f g hs)⟩

/-- The same of a row whose values the manual does not follow. -/
theorem computes_of {c : Nat → Instr} {op : Nat → Bool} {f : Dev → Request → Job → JobResult}
    (h : ∀ j s, exec (c j) s = s.run (fun d => d.compute j op f)) : Computes c op f := computesWith_of h

end Sys2Proof.Machine
end

section
/-! SUPPORT. Placements in hearth memory, the software port, and a whole run of an integrator's microprogram (R181, R240, R241, R353 to R356). -/

namespace Sys2Proof.Machine

variable {d : Dev} {j : Nat} {x : Job} {q : Request}

/-! ### Placements -/

theorem place_eq (h : d.computing j x q) (hf : q.desc.opcode / 256 = 0x21) (ho : lowOp q.desc.opcode = 6) :
    let n := handleObj q.desc.keyA
    let key := d.material q.desc.keyA
    let new := (hearthsOf q.desc).filter (fun h => !(d.hearth h).objects.any (fun o => o.1 == n))
    place j d = if new.any (fun h => d.areaUsed h + key.length > 2097152) then d.finishJob j (JobResult.ofStatus 0x0330)
      else (new.foldl (fun e h => e.onHearth h (fun m => { m with objects := tabSet n key m.objects })) d).finishJob j (JobResult.good []) := by
  obtain ⟨hj, hq, hb, hfin, -⟩ := h
  unfold place
  simp only [hj, hq]
  exact if_neg (by simp [hf, ho, Option.isSome_iff_ne_none.1 hb, hfin])

/-- An operation in service on a tile of one of the descriptor's hearths that reads a copy of its key there (R241). -/
def Dev.readsPlaced (d : Dev) (k : Descriptor) (e : Nat × Job) : Prop :=
  e.2.unit < nTiles ∧ (hearthsOf k).contains (hearthOf e.2.unit) = true ∧
    ∃ r, d.req? e.2.req = some r ∧ r.desc.opcode / 256 = 0x21 ∧ lowOp r.desc.opcode = 3 ∧ r.desc.keyA ≠ 0 ∧ handleObj r.desc.keyA = handleObj k.keyA ∧ r.released = false

theorem evict_eq (h : d.computing j x q) (hf : q.desc.opcode / 256 = 0x21) (ho : lowOp q.desc.opcode = 7) [Decidable (∃ e ∈ d.disp.jobs, d.readsPlaced q.desc e)] :
    evict j d = if ∃ e ∈ d.disp.jobs, d.readsPlaced q.desc e then d
      else (d.dropPlacements (fun h k => k == handleObj q.desc.keyA && (hearthsOf q.desc).contains h)).finishJob j (JobResult.good []) := by
  obtain ⟨hj, hq, hb, hfin, -⟩ := h
  unfold evict
  simp only [hj, hq]
  rw [if_neg (by simp [hf, ho, Option.isSome_iff_ne_none.1 hb, hfin])]
  refine ite_congr (propext ?_) (fun _ => rfl) fun _ => rfl
  simp only [List.any_eq_true, Dev.readsPlaced]
  refine exists_congr fun e => and_congr_right fun _ => ?_
  cases d.req? e.2.req with
  | none => simp
  | some r => simp [and_assoc, and_left_comm]

/-! ### The software port -/

theorem portGenerate_eq (h : d.computing j x q) (hu : x.unit = portUnit) (ho : q.desc.opcode = 0x5801) (hr : q.released = false) :
    portGenerate j d =
      if d.num P.blwState 0 = blwExhausted then d.fail x.req 0x0502
      else
        let calls := ceilDiv q.desc.outCap 65536
        let e := portCalls x.req (q.desc.aux? 0) calls calls d
        (e.req? x.req).elim e (fun y => if y.calls < calls then e else e.finishJob j (JobResult.good y.port)) := by
  obtain ⟨hj, hq, hb, hfin, -⟩ := h
  unfold portGenerate
  simp only [hj, hq]
  rw [if_neg (by simp [hu, ho, hr, Option.isSome_iff_ne_none.1 hb, hfin])]
  refine ite_congr (propext beq_iff_eq) (fun _ => rfl) fun _ => ?_
  generalize portCalls x.req _ _ _ d = e
  cases e.req? x.req <;> rfl

/-- A call with prediction resistance is one after the generator has reseeded with the block (R353). -/
theorem Dev.giveBlock_call {r : Nat} (h : d.req? r = some q) (b : Bytes) : d.giveBlock (.call r) b = (d.onInst 16 (fun y => y.resisted b)).portCall r q := by
  unfold Dev.giveBlock
  simp only [h]

/-! ### An integrator's microprogram -/

/-- The whole run of an operation on its tile, from the entry that binds its opcode: its outcome, the last word it read and the spark words it drew. -/
def Dev.wholeRun (d : Dev) (x : Job) (q : Request) (m : Microprogram) (e : MpEntry) : TileOut × Nat × Nat :=
  let s := d.startTile x.unit q.desc.opcode
  let n := e.ceil.getD x.order 0
  runCode (s.tileCtx x.unit) m.code n ((n + 2) * (m.code.length / 4 + 2)) 0 0 (s.tile x.unit)

/-- What a run with the outcome `o` leaves of the device `f` that its words have been read on. -/
def Dev.afterRun (f : Dev) (t fuel : Nat) (o : TileOut × Nat × Nat) : Dev :=
  let f := { f with freeCtr := f.freeCtr + fuel }
  let f := if (f.tile t).lv ≠ 0 ∧ o.1.state.lv = 0 then (f.addNum P.tilLvWakeCount t 1).wakeDomain t else f
  (f.sparkDraw t (f.sparkUse t o.1.state.cycles o.2.2)).tileEnd t o.2.1 o.1

section
variable {m : Microprogram} {e : MpEntry} (h : d.computing j x q) (hu : x.unit < nTiles) (ho : q.desc.opcode / 256 = 0x70) (hi : d.issues x.unit = true)
  (hm : d.bound? x.unit q.desc.opcode = some (m, e)) (w : WordCheck)
include h hu ho hi hm

theorem integratorMicroprogram_eq : integratorMicroprogram j w d =
    if d.sparkOut x.unit = true ∧ 0 < (d.wholeRun x q m e).2.2 then d.stallOn x.unit
    else ((d.startTile x.unit q.desc.opcode).runWords x.unit w).elim (((d.startTile x.unit q.desc.opcode).addNum P.tilUeCount x.unit 1).wordLost x.unit)
      (fun f => f.afterRun x.unit ((e.ceil.getD x.order 0 + 2) * (m.code.length / 4 + 2)) (d.wholeRun x q m e)) := by
  have hr := Dev.computing_jobReq h
  obtain ⟨hj, -, hb, hfin, ha⟩ := h
  unfold integratorMicroprogram Dev.wholeRun
  simp only [hj, hr, hm]
  rw [if_neg (by simp [ho, hi, ha, Nat.not_le.2 hu, Option.isSome_iff_ne_none.1 hb, hfin])]
  generalize runCode _ _ _ _ _ _ _ = o
  refine ite_congr (by simp) (fun _ => rfl) fun _ => ?_
  cases (d.startTile x.unit q.desc.opcode).runWords x.unit w with
  | none => simp only [Option.elim_none]
  | some f =>
    simp only [Option.elim_some, Bool.and_eq_true, bne_iff_ne, beq_iff_eq]
    rfl

theorem integratorMicroprogram_lost (hs : ¬ (d.sparkOut x.unit = true ∧ 0 < (d.wholeRun x q m e).2.2)) (hw : (d.startTile x.unit q.desc.opcode).runWords x.unit w = none) :
    integratorMicroprogram j w d = ((d.startTile x.unit q.desc.opcode).addNum P.tilUeCount x.unit 1).wordLost x.unit := by
  rw [integratorMicroprogram_eq h hu ho hi hm, if_neg hs, hw, Option.elim_none]

theorem integratorMicroprogram_ends {f : Dev} (hs : ¬ (d.sparkOut x.unit = true ∧ 0 < (d.wholeRun x q m e).2.2))
    (hw : (d.startTile x.unit q.desc.opcode).runWords x.unit w = some f) :
    integratorMicroprogram j w d = f.afterRun x.unit ((e.ceil.getD x.order 0 + 2) * (m.code.length / 4 + 2)) (d.wholeRun x q m e) := by
  rw [integratorMicroprogram_eq h hu ho hi hm, if_neg hs, hw, Option.elim_some]

end

end Sys2Proof.Machine
end

section
/-! SUPPORT. The vault's operations on the key hierarchy (R303, R310, R311, R318). -/

namespace Sys2Proof.Machine

variable {d : Dev} {j n : Nat} {q : Request}

/-- A destruction waits while another invalidation stands (R311). -/
theorem destroy_waits {op : Nat} (h : d.vaultJob j op = some (n, q)) (hi : d.vault.invalidations ≠ []) : destroy op j d = d := by
  unfold destroy
  simp only [h]
  exact if_pos (by simpa using hi)

theorem destroy_alone {op : Nat} (h : d.vaultJob j op = some (n, q)) (hi : d.vault.invalidations = []) :
    let k := if op = 0x310E then q.desc.keyB else q.desc.keyA
    let o := handleObj k
    destroy op j d = if d.ancestorsOk o = false then d.finishJob j (JobResult.ofStatus 0x0203)
      else (d.onNode o (fun x => { x with destroyed := true, gen := (x.gen + 1) % 2 ^ 32 })).invalidate j n q (some o) k (d.below o) (.destroy o) (!isVol o) := by
  unfold destroy
  simp only [h, hi, List.isEmpty_nil, Bool.not_true, Bool.false_eq_true, if_false, Bool.not_eq_true', beq_iff_eq]

theorem revokeChildren_root (h : d.vaultJob j 0x5005 = some (n, q)) (hi : d.vault.invalidations = []) (hk : q.desc.keyA = 0) :
    revokeChildren j d = if 2 ^ 32 - 1 ≤ (d.root q.slice).gen then d.finishJob j (JobResult.ofStatus 0x020B)
      else ((d.draw 32).2.onRoot q.slice (fun r => { r with gen := r.gen + 1, key := (d.draw 32).1 })).invalidate j n q none 0 (d.ofSlice q.slice) (.revoke none) true := by
  unfold revokeChildren
  simp only [h, hi, hk, List.isEmpty_nil, Bool.not_true, Bool.false_eq_true, if_false, beq_self_eq_true, if_true, ge_iff_le]

theorem revokeChildren_node (h : d.vaultJob j 0x5005 = some (n, q)) (hi : d.vault.invalidations = []) (hk : q.desc.keyA ≠ 0) :
    let o := handleObj q.desc.keyA
    revokeChildren j d = if d.ancestorsOk o = false then d.finishJob j (JobResult.ofStatus 0x0203)
      else if (d.node? o).any (fun x => x.gen ≥ 2 ^ 32 - 1) = true then d.finishJob j (JobResult.ofStatus 0x020B)
      else (d.onNode o (fun x => { x with gen := x.gen + 1 })).invalidate j n q (some o) q.desc.keyA ((d.below o).filter (· != o)) (.revoke (some o)) (!isVol o) := by
  unfold revokeChildren
  simp only [h, hi, List.isEmpty_nil, Bool.not_true, Bool.false_eq_true, if_false, beq_eq_false_iff_ne.2 hk, Bool.not_eq_true']

theorem revokeChildren_held {x : Node} (h : d.vaultJob j 0x5005 = some (n, q)) (hi : d.vault.invalidations = []) (hk : q.desc.keyA ≠ 0)
    (ha : d.ancestorsOk (handleObj q.desc.keyA) = true) (hx : d.node? (handleObj q.desc.keyA) = some x) :
    let o := handleObj q.desc.keyA
    revokeChildren j d = if 2 ^ 32 - 1 ≤ x.gen then d.finishJob j (JobResult.ofStatus 0x020B)
      else (d.onNode o (fun x => { x with gen := x.gen + 1 })).invalidate j n q (some o) q.desc.keyA ((d.below o).filter (· != o)) (.revoke (some o)) (!isVol o) := by
  rw [revokeChildren_node h hi hk, if_neg (ne_false_of_eq_true ha), hx]
  simp only [Option.any_some, decide_eq_true_eq, ge_iff_le]

theorem restrict_eq (h : d.vaultJob j 0x5006 = some (n, q)) :
    let o := handleObj q.desc.keyA
    restrict j d = if d.ancestorsOk o = false then d.finishJob j (JobResult.ofStatus 0x0203)
      else if isVol o = true then (d.onNode o (fun x => { x with exportable := false, childExport := false })).finishJob j (JobResult.good [])
      else (d.startCommit j n).journal (vaultUpdate n q q.desc.keyA (.restrict o) 0 true) := by
  unfold restrict
  simp only [h, Bool.not_eq_true']
  rfl

/-- An invalidation tells every unit, stands until it is acknowledged, and is journaled where it is persistent (R311). -/
theorem Dev.invalidate_eq (d : Dev) (j n : Nat) (q : Request) (node : Option Nat) (k : Nat) (l : List Nat) (u : UpdateKind) (p : Bool) :
    let e := ((d.startCommit j n).broadcast l).onVault (fun v => { v with invalidations := v.invalidations ++ [{ node := node, slice := q.slice, affected := l, req := some n }] })
    d.invalidate j n q node k l u p = if p then e.journal (vaultUpdate n q k u 0 false) else e := rfl

end Sys2Proof.Machine
end

section
/-! SUPPORT. From it all of O34 (R181, R239 to R242, R303, R310, R311, R318 to R322, R353 to R356). -/

namespace Sys2Proof.Machine

/-- The placements of a public key. -/
theorem placements_of_computing (s : State) (j : Nat) (x : Job) (q : Request) (hc : s.dev.computing j x q) (hf : q.desc.opcode / 256 = 0x21) :
    let d := s.dev
    let n := handleObj q.desc.keyA
    let key := d.material q.desc.keyA
    let new := (hearthsOf q.desc).filter (fun h => !(d.hearth h).objects.any (fun o => o.1 == n))
    let full := new.any (fun h => d.areaUsed h + key.length > 2097152)
    let left := d.dropPlacements (fun h k => k == n && (hearthsOf q.desc).contains h)
    (lowOp q.desc.opcode = 6 → full = true → s.goes (.place j) (d.finishJob j (JobResult.ofStatus 0x0330))) ∧
    (lowOp q.desc.opcode = 6 → full = false →
      s.goes (.place j) ((new.foldl (fun e h => e.onHearth h (fun m => { m with objects := tabSet n key m.objects })) d).finishJob j (JobResult.good []))) ∧
    (lowOp q.desc.opcode = 7 → (∀ e ∈ d.disp.jobs, ¬ d.readsPlaced q.desc e) → s.goes (.evict j) (left.finishJob j (JobResult.good []))) ∧
    (lowOp q.desc.opcode = 7 → (∃ e ∈ d.disp.jobs, d.readsPlaced q.desc e) → s.goes (.evict j) d) := by
  classical
  intro d n key new full left
  refine ⟨fun ho hfull => ?_, fun ho hfull => ?_, fun ho hr => ?_, fun ho hr => ?_⟩
  · exact State.goes_of_run rfl ((place_eq hc hf ho).trans (if_pos hfull))
  · exact State.goes_of_run rfl ((place_eq hc hf ho).trans (if_neg (Bool.not_eq_true _ ▸ hfull)))
  · exact State.goes_of_run rfl ((evict_eq hc hf ho).trans (if_neg fun ⟨e, he, h⟩ => hr e he h))
  · exact State.goes_of_run rfl ((evict_eq hc hf ho).trans (if_pos hr))

/-- Settles O34: each row of the statement by the equation of its operation above, and the rows that compute by `computes_of`. -/
theorem keyManagementAndPlacement : Obligations.KeyManagementAndPlacement := by
  refine ⟨⟨placements_of_computing, ?port, ?call, ?run⟩, ?generate, ?wrapExport, ?unwrapImport, ?query, ?seqQuery, ?destroy, ?revoke, ?restrict, ?invalidate⟩
  case port =>
    intro s j x q hc hu ho hr d calls e
    have heq := portGenerate_eq hc hu ho hr
    refine ⟨fun hx => State.goes_of_run rfl (heq.trans (if_pos hx)), fun hx y hy => ?_⟩
    have hcall : portGenerate j d = if y.calls < calls then e else e.finishJob j (JobResult.good y.port) :=
      (heq.trans (if_neg hx)).trans (congrArg (fun o => Option.elim o e _) hy)
    exact ⟨fun hlt => State.goes_of_run rfl (hcall.trans (if_pos hlt)), fun hle => State.goes_of_run rfl (hcall.trans (if_neg (Nat.not_lt.2 hle)))⟩
  case call => exact fun d r q hq => ⟨rfl, fun b => Dev.giveBlock_call hq b⟩
  case run =>
    intro s j w x q m e hc hu ho hi hm t d n fuel o stalls
    refine ⟨fun hs => State.goes_of_run rfl ((integratorMicroprogram_eq hc hu ho hi hm w).trans (if_pos hs)), fun hs hw => ?_, fun f hs hw => ?_⟩
    · exact State.goes_of_run rfl (integratorMicroprogram_lost hc hu ho hi hm w hs hw)
    · exact State.goes_of_run rfl (integratorMicroprogram_ends hc hu ho hi hm w hs hw)
  case generate => exact computes_of fun _ _ => rfl
  case wrapExport => exact computes_of fun _ _ => rfl
  case unwrapImport => exact computes_of fun _ _ => rfl
  case query => exact computes_of fun _ _ => rfl
  case seqQuery => exact computes_of fun _ _ => rfl
  case destroy =>
    intro c op hop s j n q hv d h o
    have hrow : exec (c j) s = s.run (destroy op j) := by
      rcases List.mem_cons.1 hop with h | h
      · cases h; rfl
      · cases List.mem_singleton.1 h; rfl
    refine ⟨fun hi => State.goes_of_run hrow (destroy_waits hv hi), fun hi ha => ?_, fun hi ha => ?_⟩
    · exact State.goes_of_run hrow ((destroy_alone hv hi).trans (if_pos ha))
    · exact State.goes_of_run hrow ((destroy_alone hv hi).trans (if_neg (ne_false_of_eq_true ha)))
  case revoke =>
    intro s j n q hv hi d o
    refine ⟨fun hk hg => ?_, fun hk hg => ?_, fun hk ha => ?_, fun x hk ha hx => ⟨fun hg => ?_, fun hg => ?_⟩⟩
    · exact State.goes_of_run rfl ((revokeChildren_root hv hi hk).trans (if_neg (Nat.not_le.2 hg)))
    · exact State.goes_of_run rfl ((revokeChildren_root hv hi hk).trans (if_pos hg))
    · exact State.goes_of_run rfl ((revokeChildren_node hv hi hk).trans (if_pos ha))
    · exact State.goes_of_run rfl ((revokeChildren_held hv hi hk ha hx).trans (if_pos hg))
    · exact State.goes_of_run rfl ((revokeChildren_held hv hi hk ha hx).trans (if_neg (Nat.not_le.2 hg)))
  case restrict =>
    intro s j n q hv d o
    refine ⟨fun ha => ?_, fun ha hvol => ?_, fun ha hvol => ?_⟩
    · exact State.goes_of_run rfl ((restrict_eq hv).trans (if_pos ha))
    · exact State.goes_of_run rfl ((restrict_eq hv).trans ((if_neg (ne_false_of_eq_true ha)).trans (if_pos hvol)))
    · exact State.goes_of_run rfl ((restrict_eq hv).trans ((if_neg (ne_false_of_eq_true ha)).trans (if_neg (ne_true_of_eq_false hvol))))
  case invalidate => exact fun d j n q node h l k => ⟨d.invalidate_eq j n q node h l k false, d.invalidate_eq j n q node h l k true⟩

end Sys2Proof.Machine
end

section
/-! SUPPORT. From it all of O32: the schemes computed on tiles and the composites (R186 to R245, R211 to R214). -/

namespace Sys2Proof.Machine

/-- A row that runs a scheme by `schemeRun` computes the requests of its family and operation, and the unit holds the values of `latticeTrace` (R205, R247). -/
theorem computesWith_of_schemeRun {c : Nat → Instr} {f o : Nat} {g : Dev → Request → JobResult}
    (h : ∀ j s, exec (c j) s = s.run (schemeRun f o j g)) : ComputesWith c (famOp f o) (fun d q _ => g d q) latticeTrace :=
  computesWith_of h

/-- Settles O32: a row of a scheme's family runs `schemeRun`; a row of a composite serves the three opcodes of its operation and has a result for each half. -/
theorem latticeAndHashOperations : Obligations.LatticeAndHashOperations := by
  refine ⟨?mlKemKeygen, ?mlKemEncaps, ?mlKemDecaps, ?mlKemCheckEk, ?mlDsaKeygen, ?mlDsaSign, ?mlDsaVerify, ?fnDsaKeygen, ?fnDsaSign, ?fnDsaVerify,
    ?hybridKemEncaps, ?hybridKemDecaps, ?hybridSign, ?hybridVerify,
    ?slhDsaKeygen, ?slhDsaSign, ?slhDsaVerify, ?lmsHssKeygen, ?lmsHssSign, ?lmsHssVerify, ?lmsHssQuery, ?xmssKeygen, ?xmssSign, ?xmssVerify, ?xmssQuery,
    ?hqcKeygen, ?hqcEncaps, ?hqcDecaps, ?hqcCheckEk, ?mcElieceKeygen, ?mcElieceEncaps, ?mcElieceDecaps⟩
  case hybridKemEncaps | hybridKemDecaps | hybridSign | hybridVerify => exact computesWith_of fun _ _ => rfl
  case mlKemKeygen | mlKemEncaps | mlKemDecaps | mlKemCheckEk | mlDsaKeygen | mlDsaSign | mlDsaVerify | fnDsaKeygen | fnDsaSign | fnDsaVerify =>
    exact computesWith_of_schemeRun fun _ _ => rfl
  case slhDsaKeygen | slhDsaSign | slhDsaVerify | lmsHssKeygen | lmsHssSign | lmsHssVerify | lmsHssQuery | xmssKeygen | xmssSign | xmssVerify | xmssQuery =>
    exact computesWith_of_schemeRun fun _ _ => rfl
  case hqcKeygen | hqcEncaps | hqcDecaps | hqcCheckEk | mcElieceKeygen | mcElieceEncaps | mcElieceDecaps =>
    exact computesWith_of_schemeRun fun _ _ => rfl

end Sys2Proof.Machine
end

section
/-! SUPPORT. What a big-number engine holds of its secrets, as R251, R268 and R269 name it. -/

namespace Sys2Proof.Machine

/-- An operation computes twice where its check is always a second computation, or where it follows SLC_STRIKE_HAMMER and that is FULL; else once (R269). -/
theorem strikesOf_eq (d : Dev) (q : Request) :
    strikesOf d q = if (d.opReq q).strike = 4 ∨ ((d.opReq q).strike = 3 ∧ q.policy.strikeHammer = 1) then [0, 1] else [0] := by
  simp only [strikesOf, Bool.or_eq_true, Bool.and_eq_true, beq_iff_eq]

/-- The blinded base and the two blinded exponents of each computation (R268), with the key of the request written out. -/
theorem rsaBlinded_eq {d : Dev} {q : Request} {n e l : Nat} (hk : d.rsaKey q.slice q.desc q.input = some (n, e, l)) (x : Nat) :
    let f := rsaCrt n (ceilDiv (bitLen e) 8) (d.material q.desc.keyA)
    let w := ceilDiv (bitLen n) 16 + 8
    rsaBlinded d q x = (strikesOf d q).flatMap (fun t =>
      [keeps .blindedBase (natBE (ceilDiv (bitLen n) 8) (x * expMod (d.blinding t 0 (ceilDiv (bitLen n) 64)) e n % n)),
       keeps .blindedExponent (natBE w (f 2 + d.blinding t 1 1 * (f 0 - 1))), keeps .blindedExponent (natBE w (f 3 + d.blinding t 2 1 * (f 1 - 1)))]) := by
  unfold rsaBlinded
  rw [hk, Option.getD_some]

/-- RSA_PRIVATE raises its whole input (R252) where the modulus is that of the key object. -/
theorem hamTrace_rsaPrivate {d : Dev} {q : Request} {n e : Nat} (ho : q.desc.opcode = 0x3002) (hk : d.rsaKey q.slice q.desc q.input = some (n, e, 0)) (j : Job) :
    hamTrace d q j = rsaBlinded d q (beNat q.input) := by
  unfold hamTrace
  simp only [ho, hk, Option.getD_some, List.drop_zero]

/-- DERIVE multiplies by the scalar of the key that KEY_A names (R259). -/
theorem hamTrace_derive {d : Dev} {q : Request} (ho : q.desc.opcode = 0x3302) (j : Job) :
    hamTrace d q j = keyBlinded d (d.curveOfKey q.slice q.desc.keyA) (strikesOf d q) (d.material q.desc.keyA) := by
  unfold hamTrace
  simp only [ho]

/-- A unit that is no tile holds the values of its trace as they are, one share each (R268, R271). -/
theorem Dev.work_holdWork_engine (d : Dev) {u : Nat} (hu : nTiles ≤ u) (n order : Nat) (l : Trace) :
    ((d.holdWork u n order l).unit u).work = l.map (fun e => { name := e.1, shares := [e.2.1] }) := by
  unfold Dev.holdWork
  rw [Dev.unit_onUnit, if_pos rfl]
  simp only [if_neg (Nat.not_lt.2 hu)]
  calc (l.zip (List.range l.length)).map (fun e => ({ name := e.1.1, shares := [e.1.2.1] } : HeldValue))
      = ((l.zip (List.range l.length)).map Prod.fst).map (fun e => { name := e.1, shares := [e.2.1] }) := by rw [List.map_map]; rfl
    _ = l.map (fun e => { name := e.1, shares := [e.2.1] }) := by rw [List.map_fst_zip (by simp)]

end Sys2Proof.Machine
end

section
/-! SUPPORT. From it all of O33: the big-number engines, the symmetric engines and the payment operations (R252 to R293). -/

namespace Sys2Proof.Machine

/-- A row that runs `hamRun` computes the requests of its opcode, and the engine holds the values of `hamTrace` (R251, R268). -/
theorem computesWith_of_hamRun {c : Nat → Instr} {op : Nat} {f : Dev → Request → JobResult}
    (h : ∀ j s, exec (c j) s = s.run (hamRun op j f)) : ComputesWith c (opIs op) (fun d q _ => f d q) hamTrace :=
  computesWith_of h

/-- A row that runs `symRun` computes the requests of its opcode with the key they name (R282). -/
theorem computes_of_symRun {c : Nat → Instr} {op : Nat} (h : ∀ j s, exec (c j) s = s.run (symRun op j)) :
    Computes c (opIs op) (fun d q _ => symResult (d.material q.desc.keyA) q) :=
  computes_of h

/-- Settles O33: a row of the big-number engines runs `hamRun` and one of the symmetric engines `symRun`; the blinded values are read off `hamTrace`. -/
theorem engineOperations : Obligations.EngineOperations := by
  refine ⟨⟨?rsaKeygen, ?rsaPrivate, ?rsaPublic, ?pssSign, ?pssVerify, ?pkcs1Sign, ?pkcs1Verify, ?oaepDecrypt, ?oaepEncrypt,
      ?ecdsaKeygen, ?ecdsaSign, ?ecdsaVerify, ?ecdsaCheckPk, ?loadCurve, ?eddsaKeygen, ?eddsaSign, ?eddsaVerify,
      ?ecdhKeygen, ?derive, ?ephemeral, ?ecdhCheckPk,
      ?ecbEncrypt, ?ecbDecrypt, ?cbcEncrypt, ?cbcDecrypt, ?ctrEncrypt, ?ctrDecrypt, ?gcmEncrypt, ?gcmDecrypt, ?ccmEncrypt, ?ccmDecrypt, ?xtsEncrypt, ?xtsDecrypt,
      ?kwWrap, ?kwUnwrap, ?kwpWrap, ?kwpUnwrap, ?cmacGenerate, ?cmacVerify,
      ?tdesEcbEncrypt, ?tdesEcbDecrypt, ?tdesCbcEncrypt, ?tdesCbcDecrypt, ?macGenerate, ?macVerify,
      ?hash, ?hmacGenerate, ?hmacVerify, ?kmacGenerate, ?kmacVerify, ?hkdf, ?kdf,
      ?pinTranslate, ?dukptDerive, ?kbExport, ?kbImport⟩, ?strikes, ?rsaValues, ?deriveValues, ?held⟩
  case rsaKeygen | rsaPrivate | rsaPublic | pssSign | pssVerify | pkcs1Sign | pkcs1Verify | oaepDecrypt | oaepEncrypt =>
    exact computesWith_of_hamRun fun _ _ => rfl
  case ecdsaKeygen | ecdsaSign | ecdsaVerify | ecdsaCheckPk | loadCurve | eddsaKeygen | eddsaSign | eddsaVerify | ecdhKeygen | derive | ephemeral | ecdhCheckPk =>
    exact computesWith_of_hamRun fun _ _ => rfl
  case ecbEncrypt | ecbDecrypt | cbcEncrypt | cbcDecrypt | ctrEncrypt | ctrDecrypt | gcmEncrypt | gcmDecrypt | ccmEncrypt | ccmDecrypt | xtsEncrypt | xtsDecrypt =>
    exact computes_of_symRun fun _ _ => rfl
  case kwWrap | kwUnwrap | kwpWrap | kwpUnwrap | cmacGenerate | cmacVerify | tdesEcbEncrypt | tdesEcbDecrypt | tdesCbcEncrypt | tdesCbcDecrypt | macGenerate | macVerify =>
    exact computes_of_symRun fun _ _ => rfl
  case hash | hmacGenerate | hmacVerify | kmacGenerate | kmacVerify | hkdf | kdf => exact computes_of_symRun fun _ _ => rfl
  case pinTranslate | dukptDerive | kbExport | kbImport => exact computes_of fun _ _ => rfl
  case strikes => exact fun d q => ⟨fun h => (strikesOf_eq d q).trans (if_pos h), fun h => (strikesOf_eq d q).trans (if_neg h)⟩
  case rsaValues => exact fun d q j n e ho hk => (hamTrace_rsaPrivate ho hk j).trans (rsaBlinded_eq hk _)
  case deriveValues => exact fun d q j ho => hamTrace_derive ho j
  case held =>
    intro d u n order l hu _
    rw [Dev.work_holdWork_engine d hu, List.map_map]
    rfl

end Sys2Proof.Machine
end

section
/-! SUPPORT. What the debug and life-cycle commands do, branch by branch (R448, R449, R452, R455, R459 to R462). -/

namespace Sys2Proof.Machine

variable {d : Dev} {m : Msg}

/-- A granted request whose effect answers is answered so. -/
theorem exec_of_granted {c : Msg → Instr} {p : Param} {off : Msg → Nat} {w : Bool} {eff : Effect}
    (h : ∀ m s, exec (c m) s = s.run (fun d => d.serve d.lc p (off m) m w eff)) {s : State} (g : s.dev.granted p m = true) {r : Reply} {e : Dev}
    (he : eff s.dev m = (some r, e)) : exec (c m) s = s.answered e m r := by
  rw [serve_exec h g, he]
  rfl

/-! ### Debug authorisation -/

theorem effDbgNonce_seeded (hb : m.body = []) (hs : (tabGet Drbg.reset 0 d.bellows.instances).seeded = true) (h3 : d.num P.blwState 0 ≠ 3) (h0 : d.num P.blwState 0 ≠ 0) :
    effDbgNonce d m = accept (((d.draw 16).2.onDebug (fun g => { g with nonce := some (d.draw 16).1 })).setOct P.dbgNonce 0 (d.draw 16).1) := by
  have hi : (d.inst 0).seeded = true := hs
  unfold effDbgNonce
  rw [withArg_of_nil hb, if_neg (by simp [hi, h3, h0])]

theorem effDbgNonce_refused (hb : m.body = []) (h : (tabGet Drbg.reset 0 d.bellows.instances).seeded = false ∨ d.num P.blwState 0 = 3) :
    effDbgNonce d m = deny d (Reply.err resState) := by
  have hi : (d.inst 0).seeded = false ∨ d.num P.blwState 0 = 3 := h
  unfold effDbgNonce
  rw [withArg_of_nil hb, if_pos (by rcases hi with h | h <;> simp [h])]

/-- The role that may apply a debug certificate in the present state (R460). -/
def Dev.debugRole (d : Dev) : Nat := if d.lcState = 0 then roleMaker else roleOfficer

theorem Dev.debugRole_iff {x : Session} : (if d.lcState = 0 then x.role = roleMaker else x.role = roleOfficer) ↔ x.role = d.debugRole := by
  unfold Dev.debugRole
  split <;> rfl

/-- What a certificate that passes every check leaves: the nonce spent, the test root, its rights and digest, DEBUG, and its measurement (R461). -/
def Dev.underCert (d : Dev) (c : Bytes) : Dev :=
  (((((d.consumeNonce.enterTestRoot).onDebug (fun g => { g with certActive := true, notAfter := leAt 62 6 c })).setNum P.dbgRights 0 (leAt 68 4 c)).setOct P.dbgCertDigest 0
    (Sha2.sha384 c)).takeEdge .debug .host 0).extend 7 0x09 0 (Sha2.sha384 c)

section
variable {n : Nat} {x : Session} (hb : m.body = []) (hm : m.src = .session n) (hx : tabGet? n d.mgmt.sessions = some x)
include hb hm hx

/-- DBG_CMD_APPLY from a session: the role, then the checks of the certificate in their order (R460). -/
theorem effDbgApplyM7_eq : effDbgApplyM7 d m =
    if x.role = d.debugRole then
      match d.certBar (d.oct P.dbgCert 0) with
      | some (why, k) => deny (if k ≥ 5 then d.consumeNonce else d) (Reply.refused why k)
      | none => accept (d.underCert (d.oct P.dbgCert 0))
    else deny d (Reply.err resAccess) := by
  have hr : (if d.lcState == 0 then x.role == roleMaker else x.role == roleOfficer) = decide (x.role = d.debugRole) := by
    unfold Dev.debugRole
    by_cases h : d.lcState = 0 <;> simp [h, Bool.beq_eq_decide_eq]
  unfold effDbgApplyM7 effDbgApply
  rw [withArg_of_nil hb]
  simp only [hm, hx, hr]
  by_cases h : x.role = d.debugRole
  · simp only [h, decide_true, Bool.not_true, Bool.false_eq_true, if_false, if_true]
    rfl
  · simp only [h, decide_false, Bool.not_false, if_true, if_false]

end

theorem effDbgEnd_eq (hb : m.body = []) : effDbgEnd d m = if d.dbg.certActive = true then accept (d.setNum P.dbgRights 0 0) else deny d (Reply.err resState) := by
  unfold effDbgEnd
  rw [withArg_of_nil hb]
  rfl

/-! ### Preparing and burning -/

theorem effLcyPrepare_busy (hb : m.body.length = 1) (h : d.lcy.wiping = true ∨ d.lcy.burning.isSome = true) : effLcyPrepare d m = deny d (Reply.refused "BUSY" 0) := by
  unfold effLcyPrepare
  rw [withArg_of_length hb]
  exact if_pos (by simpa using h)

/-- Nothing is prepared, or what was has lapsed 10 s after (R448). -/
def Dev.unprepared (d : Dev) : Prop := d.lcy.prepared = none ∨ ∃ t a, d.lcy.prepared = some (t, a) ∧ a + 10 * ticksPerS < d.now

/-- LCY_CMD_PREPARE with nothing under way: the conditions, then the wipe for RETURNED or the preparation at once (R449, R452). -/
theorem effLcyPrepare_free (hb : m.body.length = 1) (hw : d.lcy.wiping = false) (hburn : d.lcy.burning = none) (hp : d.unprepared) : effLcyPrepare d m =
    match d.transitionBar m (leNat m.body) with
    | some r => deny d r
    | none =>
      let e := d.logMode 1 d.lcState (leNat m.body) 0 0
      if leNat m.body = 4 then
        accept ((((e.joinResponse 4).recordAlarm 0x900 0 4 4 1 false).respondA4 .host 0x900 false).onLcy (fun l => { l with wiping := true, prepared := none }))
      else accept (e.onLcy (fun l => { l with prepared := some (leNat m.body, e.now) })) := by
  unfold effLcyPrepare
  rw [withArg_of_length hb]
  refine (if_neg (by simp [hw, hburn])).trans ((if_neg ?_).trans ?_)
  · rcases hp with h | ⟨t, a, h, hlt⟩
    · simp [h]
    · simp [h, hlt]
  cases d.transitionBar m (leNat m.body) with
  | some r => rfl
  | none => exact ite_congr (propext beq_iff_eq) (fun _ => rfl) fun _ => rfl

theorem effLcyBurn_unprepared (hb : m.body.length = 1) (hburn : d.lcy.burning = none) (hp : d.lcy.prepared = none) :
    effLcyBurn d m = deny (d.burnResult 2 "NOT_PREPARED") (Reply.err resState) := by
  unfold effLcyBurn
  rw [withArg_of_length hb]
  simp only [hburn, hp, Option.isSome_none, Bool.false_eq_true, if_false]

/-- LCY_CMD_BURN with a transition prepared: it is the one prepared, it has not lapsed, and its conditions hold again (R448, R449). -/
theorem effLcyBurn_prepared {t a : Nat} (hb : m.body.length = 1) (hburn : d.lcy.burning = none) (hp : d.lcy.prepared = some (t, a)) : effLcyBurn d m =
    if t ≠ leNat m.body then deny (d.burnResult 2 "NOT_PREPARED") (Reply.err resState)
    else if a + 10 * ticksPerS < d.now then deny (d.burnResult 2 "EXPIRED") (Reply.err resState)
    else match d.transitionBar m (leNat m.body) with
      | some r => deny (d.burnResult 2 "CONDITION") r
      | none => match d.transitionField (leNat m.body) with
        | none => deny d (Reply.err resState)
        | some f =>
          let e := d.logMode 2 d.lcState (leNat m.body) 0 f
          accept (e.onLcy (fun l => { l with prepared := none, burning := some (f, ((e.field f).nextBit).getD 0), burnStop := false })) := by
  unfold effLcyBurn
  rw [withArg_of_length hb]
  simp only [hburn, hp, Option.isSome_none, Bool.false_eq_true, if_false]
  refine ite_congr (propext bne_iff_ne) (fun _ => rfl) fun _ => ite_congr rfl (fun _ => rfl) fun _ => ?_
  cases d.transitionBar m (leNat m.body) with
  | some r => rfl
  | none => cases d.transitionField (leNat m.body) <;> rfl

/-! ### Debug keys -/

theorem effDbgKeyBurn_burns (hb : m.body.length = 49) (hs : leAt 0 1 m.body ≤ 3) (hl : d.lcState = 2) (hboot : d.lcy.bootState = 2)
    (hk : (tabGet KeySlot.reset (leAt 0 1 m.body) d.lcy.keySlots).burned = false) (ho : d.domain 20 = .on) :
    effDbgKeyBurn d m = accept (d.onLcy (fun l =>
      { l with keySlots := tabMod KeySlot.reset (leAt 0 1 m.body) (fun k => { k with burned := true, digest := slice 1 48 m.body }) l.keySlots })) := by
  unfold effDbgKeyBurn
  rw [withArg_of_length hb]
  simp [Nat.not_lt.2 hs, Dev.bothStates, hl, hboot, hk, ho]

theorem effDbgKeyBurn_refused (hb : m.body.length = 49) (hs : leAt 0 1 m.body ≤ 3)
    (h : d.lcState ≠ 2 ∨ (tabGet KeySlot.reset (leAt 0 1 m.body) d.lcy.keySlots).burned = true) : effDbgKeyBurn d m = deny d (Reply.err resState) := by
  unfold effDbgKeyBurn
  rw [withArg_of_length hb]
  refine (if_neg (Nat.not_lt.2 hs)).trans ?_
  rcases h with h | h
  · exact if_pos (by simp [Dev.bothStates, h])
  · exact ite_eq_left_iff.2 fun _ => if_pos h

theorem effDbgKeyRevoke_revokes (hb : m.body.length = 1) (hs : leAt 0 1 m.body ≤ 3) (hl : d.lcState = 2 ∨ d.lcState = 3) (ho : d.domain 20 = .on) :
    effDbgKeyRevoke d m = accept (d.onLcy (fun l => { l with keySlots := tabMod KeySlot.reset (leAt 0 1 m.body) (fun k => { k with revoked := true }) l.keySlots })) := by
  unfold effDbgKeyRevoke
  rw [withArg_of_length hb]
  exact (if_neg (Nat.not_lt.2 hs)).trans ((if_neg (by rcases hl with h | h <;> simp [h])).trans (if_neg (by simp [ho])))

theorem effDbgKeyRevoke_refused (hb : m.body.length = 1) (hs : leAt 0 1 m.body ≤ 3) (h2 : d.lcState ≠ 2) (h3 : d.lcState ≠ 3) :
    effDbgKeyRevoke d m = deny d (Reply.err resState) := by
  unfold effDbgKeyRevoke
  rw [withArg_of_length hb]
  simp [Nat.not_lt.2 hs, h2, h3]

end Sys2Proof.Machine
end

section
/-! SUPPORT. The debug and life-cycle commands as the statement has them (O27). -/

namespace Sys2Proof.Machine

/-- DBG_CMD_APPLY as the statement has it. -/
theorem dbgCmdApply_answers (s : State) (m : Msg) (n : Nat) (x : Session) (g : s.dev.granted P.dbgCmdApply m = true) (hb : m.body = []) (hm : m.src = .session n)
    (hx : tabGet? n s.dev.mgmt.sessions = some x) :
    let d := s.dev
    let c := d.oct P.dbgCert 0
    let spent := (d.onDebug (fun g => { g with nonce := none })).setOct P.dbgNonce 0 []
    let officer := if d.lcState = 0 then x.role = roleMaker else x.role = roleOfficer
    (¬ officer → exec (.dbgCmdApply m) s = s.answered d m (Reply.err resAccess)) ∧
    (officer → ∀ why k, d.certBar c = some (why, k) → exec (.dbgCmdApply m) s = s.answered (if k ≥ 5 then spent else d) m (Reply.refused why k)) ∧
    (officer → d.certBar c = none →
      exec (.dbgCmdApply m) s = s.answered
        ((((((spent.enterTestRoot).onDebug (fun g => { g with certActive := true, notAfter := leAt 62 6 c })).setNum P.dbgRights 0 (leAt 68 4 c)).setOct P.dbgCertDigest 0
          (Sha2.sha384 c)).takeEdge .debug .host 0).extend 7 0x09 0 (Sha2.sha384 c)) m Reply.ok) := by
  intro d c spent officer
  have heq := effDbgApplyM7_eq hb hm hx
  have row {r : Reply} {e : Dev} (he : effDbgApplyM7 s.dev m = (some r, e)) : exec (.dbgCmdApply m) s = s.answered e m r := exec_of_granted (fun _ _ => rfl) g he
  refine ⟨fun ho => row (heq.trans (if_neg (mt Dev.debugRole_iff.2 ho))), fun ho why k hc => row ?_, fun ho hc => row ?_⟩
  · rw [heq, if_pos (Dev.debugRole_iff.1 ho), hc]
    rfl
  · rw [heq, if_pos (Dev.debugRole_iff.1 ho), hc]
    rfl

/-- Settles O27: each command runs its effect, and the effect is read off branch by branch. -/
theorem lifeCycleAndDebugCommands : Obligations.LifeCycleAndDebugCommands := by
  refine ⟨⟨?nonce, ?nonceNot, dbgCmdApply_answers, ?finish, ?finishNot⟩,
    ?prepare, ?prepareReturned, ?prepareBarred, ?prepareBusy, ?burn, ?burnNot, ?keyBurn, ?keyBurnNot, ?keyRevoke, ?keyRevokeNot⟩
  case nonce => exact accepts_of (fun _ _ => rfl) (fun _ => rfl) fun _ _ ⟨hb, hs, h3, h0⟩ => effDbgNonce_seeded hb hs h3 h0
  case nonceNot => exact refuses_of (fun _ _ => rfl) (fun _ => rfl) fun _ _ ⟨hb, h⟩ => effDbgNonce_refused hb h
  case finish => exact accepts_of (fun _ _ => rfl) (fun _ => rfl) fun _ _ ⟨hb, h⟩ => (effDbgEnd_eq hb).trans (if_pos h)
  case finishNot => exact refuses_of (fun _ _ => rfl) (fun _ => rfl) fun _ _ ⟨hb, h⟩ => (effDbgEnd_eq hb).trans (if_neg (ne_true_of_eq_false h))
  case prepare =>
    exact accepts_of (fun _ _ => rfl) (fun _ => rfl) fun d m ⟨⟨hb, hw, hburn, hp⟩, ht, h4⟩ => by
      rw [effLcyPrepare_free hb hw hburn hp, ht]
      exact if_neg h4
  case prepareReturned =>
    exact accepts_of (fun _ _ => rfl) (fun _ => rfl) fun d m ⟨⟨hb, hw, hburn, hp⟩, ht, h4⟩ => by
      rw [effLcyPrepare_free hb hw hburn hp, show leNat m.body = 4 from h4, ht]
      rfl
  case prepareBarred =>
    exact fun r => refuses_of (fun _ _ => rfl) (fun _ => rfl) fun d m ⟨⟨hb, hw, hburn, hp⟩, ht⟩ => by
      rw [effLcyPrepare_free hb hw hburn hp, ht]
      rfl
  case prepareBusy => exact refuses_of (fun _ _ => rfl) (fun _ => rfl) fun _ _ ⟨hb, h⟩ => effLcyPrepare_busy hb h
  case burn =>
    exact fun f a => accepts_of (fun _ _ => rfl) (fun _ => rfl) fun d m ⟨hb, hburn, hp, hlate, ht, hf⟩ => by
      rw [effLcyBurn_prepared hb hburn hp, if_neg (not_not_intro rfl), if_neg (Nat.not_lt.2 hlate), ht, hf]
      rfl
  case burnNot =>
    intro s m g hb hburn d
    have row {r : Reply} {e : Dev} (he : effLcyBurn s.dev m = (some r, e)) : exec (.lcyCmdBurn m) s = s.answered e m r := exec_of_granted (fun _ _ => rfl) g he
    refine ⟨fun hp => row (effLcyBurn_unprepared hb hburn hp), fun t a hp => ?_⟩
    have heq := effLcyBurn_prepared hb hburn hp
    refine ⟨fun ht => row (heq.trans (if_pos ht)), fun ht hlate => row (heq.trans ((if_neg (not_not_intro ht)).trans (if_pos hlate))), fun ht hlate r hr => row ?_⟩
    rw [heq, if_neg (not_not_intro ht), if_neg (Nat.not_lt.2 hlate), hr]
    rfl
  case keyBurn => exact accepts_of (fun _ _ => rfl) (fun _ => rfl) fun _ _ ⟨hb, hs, hl, hboot, hk, ho⟩ => effDbgKeyBurn_burns hb hs hl hboot hk ho
  case keyBurnNot => exact refuses_of (fun _ _ => rfl) (fun _ => rfl) fun _ _ ⟨hb, hs, h⟩ => effDbgKeyBurn_refused hb hs h
  case keyRevoke => exact accepts_of (fun _ _ => rfl) (fun _ => rfl) fun _ _ ⟨hb, hs, hl, ho⟩ => effDbgKeyRevoke_revokes hb hs hl ho
  case keyRevokeNot => exact refuses_of (fun _ _ => rfl) (fun _ => rfl) fun _ _ ⟨hb, hs, h2, h3⟩ => effDbgKeyRevoke_refused hb hs h2 h3

end Sys2Proof.Machine
end

section
/-! SUPPORT. A replicated record over a node table that lists one number twice, and from it the negation of O54 (R230, R311, R328). -/

namespace Sys2Proof.Machine

/-- A key without a state at generation 0. -/
def plainKey : Node :=
  { slice := 0, tag := 1, parent := none, source := none, level := 1, cls := 1, alg := 0, gen := 0, pgen := 0, sgen := 0, version := 0, exportable := false,
    childExport := false, seedForm := false, destroyed := false, pending := false, material := [], pub := [], tree := [], params := [], resident := false, shares := [],
    used := 0, stateful := none, stored := [] }

/-- A stateful key with its one index committed and not yet used. -/
def statefulKey : Node :=
  { plainKey with stateful := some { total := 1, committed := 1, next := 0, block := 1, reserving := false, window := true, lowRaised := false } }

/-- The key as a record of its destruction has it: of the next generation. -/
def destroyedKey : Node := { plainKey with gen := 1, destroyed := true }

/-- A node table that lists number 1 twice: as a key without a state, and behind it as a stateful one. -/
def listedTwice : Dev := Dev.reset.onVault (fun v => { v with nodes := [(1, plainKey), (1, statefulKey)] })

theorem listedTwice_node? : listedTwice.node? 1 = some plainKey := rfl

/-- The record that destroys the key abandons the window of the second entry (R230), and STATEFUL_LOW then marks every entry of the number: the first has a state now. -/
theorem listedTwice_applyChange : ((listedTwice.applyChange 0 (1, .state destroyedKey)).node? 1).map (fun w => w.stateful.isSome) = some true := by
  decide +kernel

/-- Refutes O54: the statement is of every node table, and a `Tab` may list a number twice. There a replicated state of a node is read back with the state of the stateful
entry behind it, where the statement has none. -/
theorem not_peerMessages : ¬ Obligations.PeerMessages := by
  intro ⟨_, _, change, _⟩
  obtain ⟨_, same⟩ := change listedTwice 0 1 plainKey (.state destroyedKey) (by decide) (by decide) listedTwice_node?
  obtain ⟨_, _, _, state, _⟩ := same rfl
  have low := state destroyedKey
  rw [Option.map_eq_some_iff] at low
  obtain ⟨w, hw, hfields⟩ := low
  simp only [Prod.mk.injEq] at hfields
  obtain ⟨-, -, -, -, hnone, -⟩ := hfields
  have hsome := listedTwice_applyChange
  rw [hw, Option.map_some, hnone] at hsome
  exact absurd hsome (by decide)

end Sys2Proof.Machine
end

section
/-! SUPPORT. What leaves the vault alone, and what each of its own operations does to the node table (R301, R302, R307, R313, R314). -/

namespace Sys2Proof.Machine

variable {d e : Dev}

/-! ### Operations that leave the vault alone -/

theorem foldl_vault {α : Type} {f : Dev → α → Dev} (h : ∀ d x, (f d x).vault = d.vault) (l : List α) (d : Dev) : (l.foldl f d).vault = d.vault :=
  foldl_rel (R := fun d e => e.vault = d.vault) (fun _ => rfl) (fun h g => g.trans h) h l d

@[simp] theorem Dev.onReq_vault (d : Dev) (r : Nat) (f : Request → Request) : (d.onReq r f).vault = d.vault := by
  unfold Dev.onReq
  split <;> rfl

@[simp] theorem Dev.complete_vault (d : Dev) (r : Nat) (c : Completion) : (d.complete r c).vault = d.vault := by
  unfold Dev.complete
  split
  · rfl
  · split
    · rfl
    · exact d.onReq_vault r _

theorem Dev.countRecord_vault (d : Dev) (n : Nat) : (d.countRecord n).2.vault = d.vault := by
  obtain ⟨g, h⟩ := d.countRecord_frame n
  rw [h]

theorem Dev.notifyOne_vault (d : Dev) (n kind : Nat) (data : Bytes) : (d.notifyOne n kind data).vault = d.vault := by
  obtain ⟨g, o, h⟩ := d.notifyOne_frame n kind data
  rw [h]

theorem Dev.tellOrigin_vault (d : Dev) (src : Src) (id : Nat) (r : Reply) : (d.tellOrigin src id r).vault = d.vault := by
  unfold Dev.tellOrigin
  split
  · rfl
  · exact Dev.notifyOne_vault _ _ _ _

@[simp] theorem Dev.respondTo_vault (d : Dev) (src : Src) (id : Nat) (r : Reply) : (d.respondTo src id r).vault = d.vault := by
  refine Eq.trans ?_ (d.tellOrigin_vault src id r)
  unfold Dev.respondTo
  generalize d.tellOrigin src id r = e
  dsimp only
  split
  · rename_i n
    have hc := e.countRecord_vault n
    split
    · rename_i x hx; rw [hx] at hc; exact hc
    · rename_i x hx; rw [hx] at hc; exact hc
  · rfl
  · rfl

@[simp] theorem Dev.respondLate_vault (d : Dev) (src : Src) (id : Nat) (r : Reply) : (d.respondLate src id r).vault = d.vault := by
  unfold Dev.respondLate
  dsimp only
  split
  · split
    · exact d.respondTo_vault _ _ _
    · exact d.respondTo_vault _ _ _
  · exact d.respondTo_vault _ _ _

@[simp] theorem Dev.replicate_vault (d : Dev) (i : Nat) (b : Bytes) : (d.replicate i b).vault = d.vault := by
  unfold Dev.replicate
  split
  · refine foldl_vault (fun _ _ => ?_) _ d
    rfl
  · rfl

@[simp] theorem Dev.sendRootToAll_vault (d : Dev) (i : Nat) : (d.sendRootToAll i).vault = d.vault := by
  refine foldl_vault (fun d e => ?_) _ d
  unfold Dev.sendRoot
  split <;> rfl

theorem Dev.draw_vault (d : Dev) (n : Nat) : (d.draw n).2.vault = d.vault := by
  obtain ⟨c, b, k, h⟩ := d.draw_frame n
  rw [h]

theorem Dev.draw_modes (d : Dev) (n : Nat) : (d.draw n).2.modes = d.modes := by
  obtain ⟨c, b, k, h⟩ := d.draw_frame n
  rw [h]

/-! ### The node table -/

theorem Dev.node?_of_vault (h : e.vault = d.vault) (n : Nat) : e.node? n = d.node? n := by
  unfold Dev.node?
  rw [h]

theorem Dev.onNode_frame (d : Dev) (n : Nat) (f : Node → Node) : ∃ l, d.onNode n f = d.onVault (fun v => { v with nodes := l }) := by
  unfold Dev.onNode
  split
  · exact ⟨d.vault.nodes, rfl⟩
  · exact ⟨_, rfl⟩

@[simp] theorem Dev.onNode_roomless (d : Dev) (n : Nat) (f : Node → Node) : (d.onNode n f).vault.roomless = d.vault.roomless := by
  obtain ⟨l, h⟩ := d.onNode_frame n f
  rw [h]
  rfl

@[simp] theorem Dev.isSome_node?_onNode (d : Dev) (n k : Nat) (f : Node → Node) : ((d.onNode n f).node? k).isSome = (d.node? k).isSome := by
  rw [Dev.node?_onNode]
  split
  · rename_i h; rw [Option.isSome_map, h]
  · rfl

theorem Dev.node?_freeNode (d : Dev) (n k : Nat) : (d.freeNode n).node? k = if n = k then none else d.node? k := tabGet?_erase n k d.vault.nodes

/-- A node table that lists a number has a node for it. -/
theorem tabGet?_isSome_of_mem {α : Type} {k : Nat} {t : Tab Nat α} (h : k ∈ t.map Prod.fst) : (tabGet? k t).isSome = true := by
  induction t with
  | nil => simp at h
  | cons e r ih =>
    rw [tabGet?]
    split
    · rfl
    · rename_i hne
      exact ih ((List.mem_cons.1 h).resolve_left (Ne.symm hne))

end Sys2Proof.Machine
end

section
/-! SUPPORT. Misses, room in the cache, and acknowledgements (R298, R307, R308, R311). -/

namespace Sys2Proof.Machine

variable {d e : Dev} {n : Nat}

/-! ### Room -/

/-- Evictions take no node away, and leave the list of those that wait for room. -/
theorem Dev.makeRoom_kept {i need : Nat} (k : Nat) (h : d.makeRoom i need k = some e) :
    e.vault.roomless = d.vault.roomless ∧ ∀ n, (e.node? n).isSome = (d.node? n).isSome := by
  induction k generalizing d with
  | zero =>
    unfold Dev.makeRoom at h
    split at h
    · cases h; exact ⟨rfl, fun _ => rfl⟩
    · exact nomatch h
  | succ k ih =>
    unfold Dev.makeRoom at h
    split at h
    · cases h; exact ⟨rfl, fun _ => rfl⟩
    · split at h
      · exact nomatch h
      · obtain ⟨hr, hn⟩ := ih h
        exact ⟨hr.trans (Dev.onNode_roomless _ _ _), fun m => (hn m).trans (Dev.isSome_node?_onNode _ _ _ _)⟩

theorem Dev.touch_roomless (d : Dev) (n : Nat) : (d.touch n).vault.roomless = d.vault.roomless := Dev.onNode_roomless _ _ _

theorem Dev.touch_resident (d : Dev) (n : Nat) : ((d.touch n).node? n).map Node.resident = (d.node? n).map Node.resident := by
  unfold Dev.touch
  dsimp only
  rw [Dev.node?_onNode, if_pos rfl, Option.map_map]
  rfl

/-- What is brought in is resident. -/
theorem Dev.bringIn_resident (h : d.bringIn n = some e) : (e.node? n).map Node.resident = some true ∧ e.vault.roomless = d.vault.roomless := by
  unfold Dev.bringIn at h
  split at h
  · exact nomatch h
  · rename_i x hx
    split at h
    · rename_i hres
      cases h
      exact ⟨by rw [Dev.touch_resident, hx, Option.map_some, hres], d.touch_roomless n⟩
    · split at h
      · exact nomatch h
      · rename_i f hf
        obtain ⟨hr, hn⟩ := Dev.makeRoom_kept _ hf
        cases h
        refine ⟨?_, (Dev.touch_roomless _ _).trans ((Dev.onNode_roomless _ _ _).trans hr)⟩
        rw [Dev.touch_resident, Dev.node?_onNode, if_pos rfl, Option.map_map]
        obtain ⟨y, hy⟩ := Option.isSome_iff_exists.1 ((hn n).trans (by rw [hx]; rfl))
        exact (congrArg (Option.map _) hy).trans rfl

theorem Dev.fillRoom_single (h : d.vault.roomless = [n]) : d.fillRoom = match d.bringIn n with
    | some e => e.onVault (fun v => { v with roomless := v.roomless.filter (· != n) })
    | none => d := by
  unfold Dev.fillRoom
  rw [h]
  rfl

theorem Dev.fillRoom_full (h : d.vault.roomless = [n]) (hb : d.bringIn n = none) : d.fillRoom = d := by
  rw [Dev.fillRoom_single h, hb]

theorem Dev.fillRoom_fits (h : d.vault.roomless = [n]) (hb : d.bringIn n = some e) :
    (d.fillRoom.node? n).map Node.resident = some true ∧ d.fillRoom.vault.roomless = [] := by
  obtain ⟨hres, hroom⟩ := Dev.bringIn_resident hb
  rw [Dev.fillRoom_single h, hb]
  refine ⟨hres, ?_⟩
  show e.vault.roomless.filter (· != n) = []
  rw [hroom, h]
  simp

/-! ### Misses -/

/-- The miss of an object is over. -/
def Dev.arrived (d : Dev) (n : Nat) : Dev := d.onVault (fun v => { v with misses := v.misses.filter (· != n) })

theorem cacheMissDone_none (h : d.vault.misses.contains n = false) (ok : Bool) : cacheMissDone n ok d = d := by
  unfold cacheMissDone
  rw [if_pos (by rw [h]; rfl)]

theorem cacheMissDone_absent (h : d.vault.misses.contains n = true) (hn : d.node? n = none) (ok : Bool) : cacheMissDone n ok d = (d.arrived n).prefetch := by
  have ha : (d.arrived n).node? n = none := hn
  unfold cacheMissDone
  rw [if_neg (by rw [h]; decide)]
  unfold Dev.arrived at *
  simp only [ha]

theorem cacheMissDone_node {x : Node} (h : d.vault.misses.contains n = true) (hx : d.node? n = some x) (ok : Bool) : cacheMissDone n ok d =
    if ok = true ∧ d.storedUnder x = true then ((d.arrived n).onVault (fun v => { v with roomless := v.roomless ++ [n] })).prefetch
    else
      let e := (d.arrived n).event x.slice 5 0xFFFF (mkHandle x.slice n x.tag) 0
      (e.disp.reqs.foldl (fun f r => if !r.2.keysReady && !r.2.released && (f.reqObjs r.2).contains n then f.fail r.1 0x0206 else f) e).prefetch := by
  have ha : (d.arrived n).node? n = some x := hx
  unfold cacheMissDone
  rw [if_neg (by rw [h]; decide)]
  unfold Dev.arrived at *
  simp only [ha]
  exact ite_congr (propext Bool.and_eq_true_iff) (fun _ => rfl) fun _ => rfl

/-! ### Acknowledgements -/

/-- The number of an acknowledgement names the invalidation at the front (R311): a node's, or from 2^28 on a slice root's. -/
def Invalidation.named (i : Invalidation) (n : Nat) : Prop := i.node = (if n < 2 ^ 28 then some n else none) ∧ (2 ^ 28 ≤ n → i.slice = n - 2 ^ 28)

/-- A result of another request, past its check of the generations, still uses a key that the invalidation touches (R90, R311). -/
def Dev.inUse (d : Dev) (i : Invalidation) : Prop := ∃ e ∈ d.disp.reqs, d.pastCheck2 e.1 e.2 = true ∧ some e.1 ≠ i.req ∧ ∃ g ∈ e.2.keyGens, g.1 ∈ i.affected

/-- An update that waits for the acknowledgement. -/
def Invalidation.holds (i : Invalidation) (u : Update) : Bool := u.req == i.req && !u.acked

/-- A result is past check 2, as the statement has it. -/
theorem Dev.pastCheck2_iff (d : Dev) (r : Nat) (q : Request) : d.pastCheck2 r q = true ↔
    q.released = true ∨ q.halves ≠ [] ∨ (q.phase = .committing ∧ ∀ j ∈ d.vault.invalidations, j.req ≠ some r) := by
  unfold Dev.pastCheck2
  simp [or_assoc]

theorem Invalidation.not_named_iff (i : Invalidation) (n : Nat) :
    ((i.node != (if n ≥ 2 ^ 28 then none else some n)) || ((if n ≥ 2 ^ 28 then (none : Option Nat) else some n).isNone && i.slice != n - 2 ^ 28)) = true ↔ ¬ i.named n := by
  unfold Invalidation.named
  by_cases h : n < 2 ^ 28
  · simp only [ge_iff_le, if_neg (Nat.not_le.2 h), if_pos h, Option.isNone_some, Bool.false_and, Bool.or_false, bne_iff_ne, ne_eq]
    exact not_congr ⟨fun hi => ⟨hi, fun hle => absurd hle (Nat.not_le.2 h)⟩, And.left⟩
  · simp only [ge_iff_le, Nat.not_lt.1 h, h, if_true, if_false, Option.isNone_none, Bool.true_and, Bool.or_eq_true, bne_iff_ne, ne_eq, forall_const, Classical.not_and_iff_not_or_not]

theorem invalidationAck_none (h : d.vault.invalidations = []) : invalidationAck n d = d := by
  unfold invalidationAck
  simp only [h]

/-- An acknowledgement with an invalidation at the front (R311). -/
theorem invalidationAck_front {i : Invalidation} {l : List Invalidation} (h : d.vault.invalidations = i :: l) [Decidable (i.named n)] [Decidable (d.inUse i)] :
    invalidationAck n d =
      if ¬ i.named n then d else if d.inUse i then d
      else
        let e := d.onVault (fun v => { v with invalidations := l })
        if d.vault.updates.any i.holds then e.onVault (fun v => { v with updates := v.updates.map (fun u => if i.holds u then { u with acked := true } else u) })
        else i.req.elim e (fun r => e.complete r { Completion.ofStatus 0 with engineClass := 5 }) := by
  unfold invalidationAck
  simp only [h]
  refine ite_congr (propext (i.not_named_iff n)) (fun _ => rfl) fun _ => ite_congr (propext ?_) (fun _ => rfl) fun _ => ?_
  · simp [Dev.inUse, and_assoc]
  · refine ite_congr rfl (fun _ => rfl) fun _ => ?_
    cases i.req <;> rfl

end Sys2Proof.Machine
end
section
/-! SUPPORT. Commits, reclamation and temper passes (R312, R314, R317, R323). -/

namespace Sys2Proof.Machine

variable {d e : Dev} {n : Nat} {u : Update} {other : Dev → Update → Dev}

/-! ### Groups of commits -/

theorem journalCommitDone_off (h : d.modes.mode.powered = false) (written : Bool) : journalCommitDone n written d = d := by
  unfold journalCommitDone
  rw [if_pos (by rw [h]; rfl)]

theorem journalCommitDone_written (h : d.modes.mode.powered = true) : journalCommitDone n true d = (d.commitSome Dev.applyOther (Nat.min n 64)).goOn := by
  unfold journalCommitDone
  rw [if_neg (by rw [h]; decide), if_pos rfl]

theorem journalCommitDone_lost (h : d.modes.mode.powered = true) : journalCommitDone n false d =
    ((d.reservationsFail (Nat.min n 64)).1.foldl (fun f k => ((f.disp.reqs.filter (fun x => f.waitsForIndex x.1 x.2 k)).map Prod.fst).foldl (fun f r => f.fail r 0x0321) f)
      (d.reservationsFail (Nat.min n 64)).2).goOn := by
  unfold journalCommitDone
  rw [if_neg (by rw [h]; decide), if_neg Bool.false_ne_true]

theorem Dev.commitSome_none (h : ∀ u ∈ d.vault.updates, d.mayCommit u = false) (n : Nat) : d.commitSome other (n + 1) = d := by
  have hf : d.vault.updates.find? d.mayCommit = none := List.find?_eq_none.2 fun u hu => by rw [h u hu]; exact Bool.false_ne_true
  rw [Dev.commitSome, hf]

theorem Dev.commitSome_first (h : d.vault.updates.find? d.mayCommit = some u) (n : Nat) : d.commitSome other (n + 1) =
    if 67108864 < d.vault.journalUsed + d.recordBytes u.kind then d
    else ((d.onVault (fun v => { v with updates := v.updates.eraseP d.mayCommit })).commitOne other u).commitSome other n := by
  rw [Dev.commitSome, h]
  rfl

/-! ### One commit -/

/-- The effect of a committed update: a creation under a parent that has moved on leaves nothing (R313, R314). -/
def Dev.committed (d : Dev) (other : Dev → Update → Dev) (u : Update) : Dev :=
  if d.creationStale u then (match u.kind with | .create l => l.foldl (fun d n => d.freeNode n) d | _ => d) else d.applyUpdate other u

@[simp] theorem Dev.retain_nodes (d : Dev) (r : Retained) : (d.retain r).vault.nodes = d.vault.nodes := by
  unfold Dev.retain
  split
  · rfl
  · rw [Dev.onVault_vault]
    dsimp only
    split
    · split <;> rfl
    · rfl

/-- What follows the effect of a commit leaves the node table as it is. -/
theorem Dev.commitOne_node? (d : Dev) (other : Dev → Update → Dev) (u : Update) (n : Nat) : (d.commitOne other u).node? n = (d.committed other u).node? n := by
  suffices h : (d.commitOne other u).vault.nodes = (d.committed other u).vault.nodes by unfold Dev.node?; rw [h]
  unfold Dev.commitOne
  extract_lets stale bytes st out d1 d2 d3 d4 d5 d6
  have h1 : d1.vault.nodes = (d.committed other u).vault.nodes := rfl
  have h2 : d2.vault.nodes = d1.vault.nodes := d1.retain_nodes _
  have h4 : d4.vault.nodes = d2.vault.nodes := by
    unfold d4
    rw [Dev.replicate_vault]
    rfl
  have h5 : d5.vault.nodes = d4.vault.nodes := by
    unfold d5
    split
    · rw [Dev.sendRootToAll_vault]
    · rfl
  have h6 : d6.vault.nodes = d5.vault.nodes := by
    unfold d6
    split
    · rw [Dev.respondLate_vault]
    · rfl
  refine Eq.trans ?_ (h6.trans (h5.trans (h4.trans (h2.trans h1))))
  split
  · rfl
  · split
    · rfl
    · dsimp only
      split <;> rw [Dev.complete_vault]

/-- An update of one node, its reclamation apart, leaves the node as it is after the update, with its new stored form. -/
theorem Dev.applyUpdate_node {k : UpdateKind} (hk : u.kind = k) (hn : k.nodes = [n]) (hr : ∀ m, k ≠ .reclaim m) :
    d.applyUpdate other u = d.onNode n (fun x => { k.after u.seq x with stored := tabGet x.stored n u.sealed }) := by
  subst hk
  unfold Dev.applyUpdate
  split
  · rename_i h
    rw [h] at hn
    exact nomatch hn
  · rename_i h
    exact absurd h (hr _)
  · rw [hn]
    rfl

/-- A committed update of one node that is there. -/
theorem Dev.commitOne_node {x : Node} {k : UpdateKind} (hx : d.node? n = some x) (hs : d.creationStale u = false) (hk : u.kind = k) (hn : k.nodes = [n])
    (hr : ∀ m, k ≠ .reclaim m) : (d.commitOne other u).node? n = some { k.after u.seq x with stored := tabGet x.stored n u.sealed } := by
  rw [Dev.commitOne_node?, Dev.committed, hs, if_neg Bool.false_ne_true, Dev.applyUpdate_node hk hn hr, Dev.node?_onNode, if_pos rfl, hx]
  rfl

theorem Dev.creationStale_of_ne_create {k : UpdateKind} (hk : u.kind = k) (h : ∀ l, k ≠ .create l) : d.creationStale u = false := by
  subst hk
  unfold Dev.creationStale
  split
  · rename_i hk
    exact absurd hk (h _)
  · rfl

theorem Dev.commitOne_stale (hk : u.kind = .create [n]) (hs : d.creationStale u = true) : (d.commitOne other u).node? n = none := by
  rw [Dev.commitOne_node?, Dev.committed, hs, if_pos rfl, hk]
  exact (Dev.node?_freeNode d n n).trans (if_pos rfl)

theorem Dev.commitOne_reclaim (hk : u.kind = .reclaim n) : (d.commitOne other u).node? n = none := by
  rw [Dev.commitOne_node?, Dev.committed, Dev.creationStale_of_ne_create hk nofun, if_neg Bool.false_ne_true, Dev.applyUpdate, hk]
  exact (Dev.node?_freeNode d n n).trans (if_pos rfl)

/-! ### Reclamation -/

/-- A journaled update waits for its commit, and the node table stays (R314). -/
theorem Dev.journal_spec (d : Dev) (u : Update) : ∃ w, (d.journal u).vault.updates = d.vault.updates ++ [w] ∧ w.kind = u.kind ∧ w.acked = u.acked ∧
    (d.journal u).vault.nodes = d.vault.nodes ∧ (d.journal u).modes = d.modes := by
  have hv := d.draw_vault (12 * u.kind.nodes.length)
  refine ⟨_, congrArg (fun v : VaultSt => v.updates ++ [_]) hv, rfl, rfl, ?_, d.draw_modes _⟩
  show (d.draw (12 * u.kind.nodes.length)).2.vault.nodes = d.vault.nodes
  rw [hv]

/-- One object is reclaimed: a volatile one goes, a persistent one by a journaled record (R312). -/
def Dev.reclaim (d : Dev) (n : Nat) : Dev :=
  if isVol n then d.freeNode n
  else if !d.modes.storeOpen then d
  else match d.node? n with
    | none => d
    | some x => d.journal { req := none, slice := x.slice, seq := 0, opcode := 0, parent := 0, kind := .reclaim n, parentGen := 0, acked := true,
                            status := 0, output := [], ticket := none }

theorem reclaimTask_eq (d : Dev) : reclaimTask d = d.orphans.foldl Dev.reclaim d := rfl

/-- Its reclamation is journaled and acknowledged. -/
def Dev.reclaims (d : Dev) (n : Nat) : Prop := ∃ u ∈ d.vault.updates, u.kind = .reclaim n ∧ u.acked = true

/-- What one reclamation does: the node table loses a volatile object alone, no update is lost, and the mode stays. -/
theorem Dev.reclaim_spec (d : Dev) (n : Nat) :
    (d.reclaim n).modes = d.modes ∧ (∀ u ∈ d.vault.updates, u ∈ (d.reclaim n).vault.updates) ∧
    (∀ k, (d.reclaim n).node? k = if n = k ∧ isVol n = true then none else d.node? k) ∧
    (isVol n = false → d.modes.storeOpen = true → (d.node? n).isSome = true → (d.reclaim n).reclaims n) := by
  unfold Dev.reclaim
  split
  · rename_i hv
    refine ⟨rfl, fun _ hu => hu, fun k => (Dev.node?_freeNode d n k).trans (by simp [hv]), fun h => ?_⟩
    rw [hv] at h
    exact nomatch h
  · rename_i hv
    have same : ∀ k, d.node? k = if n = k ∧ isVol n = true then none else d.node? k := fun k => by rw [if_neg fun h => hv h.2]
    split
    · rename_i ho
      exact ⟨rfl, fun _ hu => hu, same, fun _ h => by rw [h] at ho; exact nomatch ho⟩
    · split
      · rename_i hn
        exact ⟨rfl, fun _ hu => hu, same, fun _ _ h => by rw [hn] at h; exact nomatch h⟩
      · obtain ⟨w, hupd, hkind, hack, hnodes, hmodes⟩ := d.journal_spec _
        refine ⟨hmodes, fun u hu => by rw [hupd]; exact List.mem_append_left _ hu, fun k => Eq.trans ?_ (same k), fun _ _ _ => ⟨w, by rw [hupd]; simp, hkind, hack⟩⟩
        unfold Dev.node?
        rw [hnodes]

theorem Dev.reclaims_mono {e : Dev} (h : d.reclaims n) (hm : ∀ u ∈ d.vault.updates, u ∈ e.vault.updates) : e.reclaims n := by
  obtain ⟨u, hu, hk⟩ := h
  exact ⟨u, hm u hu, hk⟩

/-- What a pass over objects does that are all there. -/
theorem Dev.reclaim_all (l : List Nat) (d : Dev) :
    (∀ u ∈ d.vault.updates, u ∈ (l.foldl Dev.reclaim d).vault.updates) ∧
    (∀ k, (l.foldl Dev.reclaim d).node? k = if k ∈ l ∧ isVol k = true then none else d.node? k) ∧
    (∀ n ∈ l, isVol n = false → d.modes.storeOpen = true → (d.node? n).isSome = true → (l.foldl Dev.reclaim d).reclaims n) := by
  induction l generalizing d with
  | nil => exact ⟨fun _ hu => hu, fun k => by simp, nofun⟩
  | cons n r ih =>
    obtain ⟨hm, hu, hn, hr⟩ := d.reclaim_spec n
    obtain ⟨gu, gn, gr⟩ := ih (d.reclaim n)
    rw [List.foldl_cons]
    refine ⟨fun u h => gu u (hu u h), fun k => ?_, fun m hmem hv ho hs => ?_⟩
    · rw [gn, hn]
      by_cases hk : k ∈ r ∧ isVol k = true
      · rw [if_pos hk, if_pos ⟨List.mem_cons_of_mem n hk.1, hk.2⟩]
      · rw [if_neg hk]
        refine ite_congr (propext ⟨?_, ?_⟩) (fun _ => rfl) fun _ => rfl
        · rintro ⟨rfl, hv⟩
          exact ⟨List.mem_cons_self, hv⟩
        · rintro ⟨hmem, hv⟩
          rcases List.mem_cons.1 hmem with rfl | hr
          · exact ⟨rfl, hv⟩
          · exact absurd ⟨hr, hv⟩ hk
    · rcases List.mem_cons.1 hmem with rfl | hmr
      · exact Dev.reclaims_mono (hr hv ho hs) gu
      · exact gr m hmr hv (by rw [hm]; exact ho) (by rw [hn, if_neg fun h => by rw [h.1, hv] at h; exact nomatch h.2]; exact hs)

/-- An object that waits to be reclaimed is in the node table. -/
theorem Dev.isSome_of_mem_orphans (h : n ∈ d.orphans) : (d.node? n).isSome = true := by
  obtain ⟨e, he, rfl⟩ := List.mem_map.1 h
  exact tabGet?_isSome_of_mem (List.mem_map.2 ⟨e, (List.mem_filter.1 he).1, rfl⟩)

/-! ### Temper passes -/

theorem temperPassStart_eq (d : Dev) [Decidable (∃ x ∈ d.units, x.2.refreshing = true)] : temperPassStart d =
    let e := d.onVault (fun v => { v with temperDue := d.now + d.num P.vltTemperMs 0 * 1000 * 100 })
    if ¬ (d.modes.mode.powered = true ∧ d.vault.temperDue ≤ d.now) then d
    else if ∃ x ∈ d.units, x.2.refreshing = true then e.addNum P.vltTemperOverrunCount 0 1
    else (e.fresh.2.onVault (fun v => { v with nodes := v.nodes.map (fun y => (y.1, { y.2 with shares := remask d.freeCtr y.1 y.2.shares })) })).onUnits (tabMap (fun u x =>
      if u < nUnits ∧ (x.key ≠ none ∨ x.contexts ≠ []) then (if x.job = none then { x with refreshing := true } else { x with refreshDue := true }) else x)) := by
  unfold temperPassStart
  refine ite_congr (by cases d.modes.mode.powered <;> simp) (fun _ => rfl) fun _ => ite_congr ?_ (fun _ => rfl) fun _ => ?_
  · simp [Dev.temperRuns]
  · refine congrArg (Dev.onUnits _) (congrArg tabMap ?_)
    funext u x
    simp [Option.isSome_iff_ne_none]

/-- A mask over both shares cancels. -/
theorem xor_masked (z x y r : Byte) : (z ^^^ (x ^^^ r)) ^^^ (y ^^^ r) = (z ^^^ x) ^^^ y := by
  rw [← BitVec.xor_assoc z x r, BitVec.xor_assoc (z ^^^ x) r, BitVec.xor_comm y r, ← BitVec.xor_assoc r r y, BitVec.xor_self, BitVec.zero_xor]

/-- One mask over both shares keeps the value that they share (R323). -/
theorem remask_pair (k i : Nat) (a b : Bytes) (h : a.length = b.length) :
    (remask k i [a, b]).foldl xorBytes (zeros a.length) = [a, b].foldl xorBytes (zeros a.length) := by
  unfold remask
  simp only [List.map_cons, List.map_nil, List.foldl_cons, List.foldl_nil, ← h]
  refine List.ext_getElem (by simp [h]) fun j _ _ => ?_
  simp only [xorBytes, List.getElem_zipWith]
  exact xor_masked _ _ _ _

end Sys2Proof.Machine
end
section
/-! SUPPORT. The keys above the objects, and the cache (R296 to R298, R306, R324, R325, R328). -/

namespace Sys2Proof.Machine

variable {d : Dev}

/-! ### Opening the key store -/

theorem tabGet_map_of_listed {α : Type} {z x : α} {i : Nat} {t : Tab Nat α} (h : tabGet? i t = some x) (f : α → α) : tabGet z i (t.map (fun e => (e.1, f e.2))) = f x := by
  have hm : tabGet? i (t.map (fun e => (e.1, f e.2))) = (tabGet? i t).map f := tabGet?_map (fun _ => f) i t
  rw [tabGet, hm, h]
  rfl

/-- The key store opens exactly where the master unwraps, and the device root stays only where it does not (R297, R325). -/
theorem Dev.openStore_spec (d : Dev) :
    d.openStore.modes.storeOpen = d.masterOf.isSome ∧ d.openStore.vault.deviceRoot = (if d.masterOf = none then d.rootOfBoot else none) ∧
    d.openStore.vault.master = d.masterOf ∧ d.openStore.vault.domainRoot = d.masterOf.bind (fun m => unwrapKey m d.vault.domainWrapped) ∧
    ∀ i r, tabGet? i d.vault.roots = some r →
      (d.openStore.root i).key = (d.masterOf.bind (fun m => unwrapKey m r.wrapped)).getD [] ∧ (d.openStore.root i).gen = r.gen := by
  unfold Dev.openStore
  cases d.masterOf with
  | none =>
    refine ⟨rfl, (if_pos rfl).symm, rfl, rfl, fun i r hr => ?_⟩
    have hroot := tabGet_map_of_listed (z := SliceRoot.reset) hr (fun x => { x with key := [] })
    exact ⟨congrArg SliceRoot.key hroot, (congrArg SliceRoot.gen hroot :)⟩
  | some m =>
    refine ⟨rfl, (if_neg nofun).symm, rfl, rfl, fun i r hr => ?_⟩
    have hroot := tabGet_map_of_listed (z := SliceRoot.reset) hr (fun x => { x with key := (unwrapKey m x.wrapped).getD [] })
    exact ⟨congrArg SliceRoot.key hroot, (congrArg SliceRoot.gen hroot :)⟩

theorem Dev.rootOfBoot_ember {a b : Bytes} (h : d.backup.emberShares = [a, b]) : d.rootOfBoot = some (kmac256 d.pufSecret (xorBytes a b) "OQ7168-ROOT") := by
  unfold Dev.rootOfBoot BackupSt.ember BackupSt.emberKey
  rw [h]
  rfl

theorem Dev.rootOfBoot_none (h : d.backup.emberShares = []) : d.rootOfBoot = none := by
  unfold Dev.rootOfBoot BackupSt.ember
  rw [h]
  rfl

theorem Dev.masterOf_ember {a b : Bytes} (h : d.backup.emberShares = [a, b]) :
    d.masterOf = if d.lcState = 4 then none else unwrapKey (kmac256 d.pufSecret (xorBytes a b) "OQ7168-ROOT") d.vault.masterWrapped := by
  unfold Dev.masterOf
  rw [Dev.rootOfBoot_ember h]
  exact ite_congr (propext beq_iff_eq) (fun _ => rfl) fun _ => rfl

theorem Dev.masterOf_none (h : d.backup.emberShares = []) : d.masterOf = none := by
  unfold Dev.masterOf
  rw [Dev.rootOfBoot_none h]
  exact ite_self _

/-! ### Stored and cached objects -/

theorem Dev.storedUnder_closed {x : Node} (h : (d.root x.slice).held = false ∨ (d.root x.slice).closed = true) : d.storedUnder x = false := by
  unfold Dev.storedUnder
  rcases h with h | h <;> simp [h]

/-- Two fresh shares of a key combine to it (R279, R306). -/
theorem contextShares_pair (k i : Nat) (key : Bytes) : ∃ a b, contextShares k i key = [a, b] ∧ a.length = key.length ∧ b.length = key.length ∧ xorBytes a b = key := by
  refine ⟨_, _, rfl, by simp, by simp, List.ext_getElem (by simp) fun j _ _ => ?_⟩
  simp only [xorBytes, List.getElem_zipWith]
  rw [BitVec.xor_assoc, BitVec.xor_self, BitVec.xor_zero]

theorem Node.cached_shares_secret {x : Node} (h : x.public = false) (k : Nat) : (x.cached k).shares = contextShares k 0 x.material := if_neg (ne_true_of_eq_false h)

theorem Node.cached_shares_public {x : Node} (h : x.public = true) (k : Nat) : (x.cached k).shares = [] := if_pos h

/-! ### Roots that go to members -/

theorem Dev.sendRoot_home {i : Nat} {s : Session} (hi : i < 4096) (hh : d.isHome i = true) (hr : (d.root i).held = true) (hp : s.peer = true) :
    d.sendRoot i s = d.emit (.peer 5 i (natLE 8 (tabGet 0 i d.vault.seqs) ++ wrapKey s.transportKey (d.root i).key)) := by
  unfold Dev.sendRoot
  rw [if_pos (by simp [hi, hh, hr, hp])]

theorem Dev.sendRoot_other {i : Nat} {s : Session} (h : d.isHome i = false ∨ s.peer = false) : d.sendRoot i s = d := by
  unfold Dev.sendRoot
  rw [if_neg (by rcases h with h | h <;> simp [h])]

end Sys2Proof.Machine
end

section
/-! SUPPORT. What the vault does by itself as the statement has it, and from it all of O41 (R297, R298, R308, R311 to R317, R323 to R325, R328). -/

namespace Sys2Proof.Machine

/-- The end of a miss. -/
theorem vaultEvents_miss (s : State) (n : Nat) (ok : Bool) :
    let arrived (n : Nat) (e : Dev) : Dev := e.onVault (fun v => { v with misses := v.misses.filter (· != n) })
    let d := s.dev
    (d.vault.misses.contains n = false → s.goes (.cacheMissDone n ok) d) ∧
    (d.vault.misses.contains n = true → d.node? n = none → s.goes (.cacheMissDone n ok) (arrived n d).prefetch) ∧
    (∀ x, d.vault.misses.contains n = true → d.node? n = some x →
      (ok = true → d.storedUnder x = true → s.goes (.cacheMissDone n ok) ((arrived n d).onVault (fun v => { v with roomless := v.roomless ++ [n] })).prefetch) ∧
      ((ok = false ∨ d.storedUnder x = false) →
        let e := (arrived n d).event x.slice 5 0xFFFF (mkHandle x.slice n x.tag) 0
        s.goes (.cacheMissDone n ok)
          (e.disp.reqs.foldl (fun f r => if !r.2.keysReady && !r.2.released && (f.reqObjs r.2).contains n then f.fail r.1 0x0206 else f) e).prefetch)) := by
  intro arrived d
  refine ⟨fun h => State.goes_of_run rfl (cacheMissDone_none h ok), fun h hn => State.goes_of_run rfl (cacheMissDone_absent h hn ok), fun x h hx => ?_⟩
  have heq := cacheMissDone_node h hx ok
  refine ⟨fun hok hst => State.goes_of_run rfl (heq.trans (if_pos ⟨hok, hst⟩)), fun hbad => State.goes_of_run rfl (heq.trans (if_neg ?_))⟩
  rintro ⟨hok, hst⟩
  rcases hbad with h | h
  · exact absurd (hok.symm.trans h) (by decide)
  · exact absurd (hst.symm.trans h) (by decide)

/-- The acknowledgement of the invalidation at the front. -/
theorem vaultEvents_ack (s : State) (n : Nat) (i : Invalidation) (l : List Invalidation) (h : s.dev.vault.invalidations = i :: l) :
    let d := s.dev
    let mine := i.node = (if n < 2 ^ 28 then some n else none) ∧ (2 ^ 28 ≤ n → i.slice = n - 2 ^ 28)
    let past (e : Nat × Request) : Prop := e.2.released = true ∨ e.2.halves ≠ [] ∨ (e.2.phase = .committing ∧ ∀ j ∈ d.vault.invalidations, j.req ≠ some e.1)
    let inUse := ∃ e ∈ d.disp.reqs, past e ∧ some e.1 ≠ i.req ∧ ∃ g ∈ e.2.keyGens, g.1 ∈ i.affected
    let e := d.onVault (fun v => { v with invalidations := l })
    let waits (u : Update) : Bool := u.req == i.req && !u.acked
    (¬ mine ∨ inUse → s.goes (.invalidationAck n) d) ∧
    (mine → ¬ inUse →
      ((∃ u ∈ d.vault.updates, waits u = true) →
        s.goes (.invalidationAck n) (e.onVault (fun v => { v with updates := v.updates.map (fun u => if waits u then { u with acked := true } else u) }))) ∧
      ((∀ u ∈ d.vault.updates, waits u = false) → i.req = none → s.goes (.invalidationAck n) e) ∧
      (∀ r, (∀ u ∈ d.vault.updates, waits u = false) → i.req = some r → s.goes (.invalidationAck n) (e.complete r { Completion.ofStatus 0 with engineClass := 5 }))) := by
  classical
  intro d mine past inUse e waits
  have hmine : mine ↔ i.named n := Iff.rfl
  have huse : inUse ↔ d.inUse i := exists_congr fun e => and_congr_right fun _ => and_congr_left fun _ => (d.pastCheck2_iff e.1 e.2).symm
  have heq := invalidationAck_front (n := n) h
  have hfree (hm : mine) (hu : ¬ inUse) := heq.trans ((if_neg (not_not_intro (hmine.1 hm))).trans (if_neg (mt huse.2 hu)))
  have hnone (hw : ∀ u ∈ d.vault.updates, waits u = false) : ¬ d.vault.updates.any i.holds = true := by
    rw [List.any_eq_true]
    rintro ⟨u, hu, hh⟩
    exact absurd ((hw u hu).symm.trans hh) (by decide)
  refine ⟨fun hno => State.goes_of_run rfl ?_, fun hm hu => ⟨fun hw => ?_, fun hw hr => ?_, fun r hw hr => ?_⟩⟩
  · by_cases hm : mine
    · exact heq.trans ((if_neg (not_not_intro (hmine.1 hm))).trans (if_pos (huse.1 (hno.resolve_left (not_not_intro hm)))))
    · exact heq.trans (if_pos (mt hmine.2 hm))
  · exact State.goes_of_run rfl ((hfree hm hu).trans (if_pos (List.any_eq_true.2 hw)))
  · exact State.goes_of_run rfl ((hfree hm hu).trans ((if_neg (hnone hw)).trans (by rw [hr]; rfl)))
  · exact State.goes_of_run rfl ((hfree hm hu).trans ((if_neg (hnone hw)).trans (by rw [hr]; rfl)))

/-- Reclamation takes the volatile objects that wait and journals the persistent ones. -/
theorem vaultEvents_reclaim (s : State) : ∃ e : Dev, s.goes .reclaimTask e ∧ (∀ n ∈ s.dev.orphans, isVol n = true → e.node? n = none) ∧
    (∀ n ∈ s.dev.orphans, isVol n = false → e.node? n = s.dev.node? n ∧ (s.dev.modes.storeOpen = true → ∃ u ∈ e.vault.updates, u.kind = .reclaim n ∧ u.acked = true)) ∧
    (∀ n, n ∉ s.dev.orphans → e.node? n = s.dev.node? n) := by
  obtain ⟨-, hn, hr⟩ := Dev.reclaim_all s.dev.orphans s.dev
  refine ⟨s.dev.orphans.foldl Dev.reclaim s.dev, State.goes_of_run rfl (reclaimTask_eq s.dev), fun n hmem hv => ?_, fun n hmem hv => ⟨?_, fun ho => ?_⟩, fun n hno => ?_⟩
  · exact (hn n).trans (if_pos ⟨hmem, hv⟩)
  · exact (hn n).trans (if_neg fun h => by rw [hv] at h; exact nomatch h.2)
  · exact hr n hmem hv ho (Dev.isSome_of_mem_orphans hmem)
  · exact (hn n).trans (if_neg fun h => hno h.1)

/-- Settles O41: each event by the equation of its operation above, a commit by what it leaves of the node table, and the opening of the key store by its spec. -/
theorem vaultEvents : Obligations.VaultEvents := by
  refine ⟨⟨vaultEvents_miss, ?room, vaultEvents_ack, ?ackNone, ?group, ?some, ?one, vaultEvents_reclaim, ?compaction, ?temper⟩,
    ?ember, ?noEmber, ?testRoot, fun _ _ => rfl, fun d iv x => storedUnder_seal d iv x, fun _ _ => Dev.storedUnder_closed, ?secret, ?bare, ?send⟩
  case room => exact fun d n h => ⟨Dev.fillRoom_full h, fun e => Dev.fillRoom_fits h⟩
  case ackNone => exact fun s n h => State.goes_of_run rfl (invalidationAck_none h)
  case group =>
    intro s n written d group keys e
    exact ⟨fun h => State.goes_of_run rfl (journalCommitDone_off h written), fun h => State.goes_of_run rfl (journalCommitDone_written h),
      fun h => State.goes_of_run rfl (journalCommitDone_lost h)⟩
  case some =>
    exact fun d n => ⟨fun h => Dev.commitSome_none h n, fun u hu => ⟨fun hfull => (Dev.commitSome_first hu n).trans (if_pos hfull),
      fun hfits => (Dev.commitSome_first hu n).trans (if_neg (Nat.not_lt.2 hfits))⟩⟩
  case one =>
    intro d u n x hx e
    have kept {k : UpdateKind} (hk : u.kind = k) (hc : ∀ l, k ≠ .create l) (hn : k.nodes = [n]) (hr : ∀ m, k ≠ .reclaim m) :=
      Dev.commitOne_node (other := Dev.applyOther) hx (Dev.creationStale_of_ne_create hk hc) hk hn hr
    exact ⟨fun hk hs => Dev.commitOne_node hx hs hk rfl nofun, fun hk hs => Dev.commitOne_stale hk hs, fun hk => kept hk nofun rfl nofun,
      fun hk => kept hk nofun rfl nofun, fun _ hk => kept hk nofun rfl nofun, fun hk => Dev.commitOne_reclaim hk⟩
  case compaction => exact fun s => State.goes_of_run rfl rfl
  case temper =>
    classical
    intro s d due e running
    have heq := temperPassStart_eq d
    exact ⟨fun hd => State.goes_of_run rfl (heq.trans (if_pos hd)), fun hd hr => State.goes_of_run rfl (heq.trans ((if_neg (not_not_intro hd)).trans (if_pos hr))),
      fun hd hr => State.goes_of_run rfl (heq.trans ((if_neg (not_not_intro hd)).trans (if_neg hr))), remask_pair⟩
  case ember =>
    intro d a b h root master e
    have hm : d.masterOf = master := Dev.masterOf_ember h
    obtain ⟨hopen, hroot, hmaster, hdomain, hslices⟩ := d.openStore_spec
    rw [hm] at hopen hroot hmaster hdomain hslices
    rw [Dev.rootOfBoot_ember h] at hroot
    exact ⟨hopen, hroot, hmaster, hdomain, hslices⟩
  case noEmber =>
    intro d h
    obtain ⟨hopen, hroot, hmaster, -, -⟩ := d.openStore_spec
    rw [Dev.masterOf_none h] at hopen hroot hmaster
    rw [Dev.rootOfBoot_none h] at hroot
    exact ⟨hopen, hroot, hmaster⟩
  case testRoot => exact fun d => ⟨rfl, rfl, rfl, rfl, rfl⟩
  case secret => exact fun x k h => by rw [Node.cached_shares_secret h]; exact contextShares_pair k 0 x.material
  case bare => exact fun x k => ⟨rfl, fun h => Node.cached_shares_public h k⟩
  case send => exact fun d i s => ⟨Dev.sendRoot_home, Dev.sendRoot_other⟩

end Sys2Proof.Machine
end

section
/-! SUPPORT. What the bellows and quench settings do, branch by branch, and from it O29 (R349, R359, R365, R372, R377, R378). -/

namespace Sys2Proof.Machine

variable {d : Dev} {m : Msg}

/-! ### Bellows -/

/-- The whole command is refused where the mask names nothing or a source that does not exist (R349). -/
theorem effRetest_range (hb : m.body.length = 4) (h : leNat m.body = 0 ∨ 256 ≤ leNat m.body) : effRetest d m = deny d (Reply.range P.blwCmdSourceRetest) := by
  unfold effRetest
  rw [withArg_of_length hb]
  exact if_pos (by simpa using h)

section
variable (hb : m.body.length = 4) (h0 : 0 < leNat m.body) (h8 : leNat m.body < 256) (hn : d.bellows.retest = none)
include hb h0 h8 hn

/-- With a mask of sources that exist and no retest under way, the retest waits for its tests where every source named has failed (R349). -/
theorem effRetest_failed (hf : ∀ i, i < 8 → (leNat m.body).testBit i = true → (d.noise i).failed = true) :
    effRetest d m = (none, d.onBellows (fun b => { b with retest := some (m.src, m.reqId.toNat, leNat m.body) })) := by
  have hall : (List.range 8).all (fun i => !(leNat m.body).testBit i || (d.noise i).failed) = true :=
    List.all_eq_true.2 fun i hi => Bool.or_eq_true_iff.2 (by
      cases ht : (leNat m.body).testBit i with
      | false => exact .inl rfl
      | true => exact .inr (hf i (List.mem_range.1 hi) ht))
  unfold effRetest
  rw [withArg_of_length hb, if_neg (by simp; omega), if_neg (by simp [hn]), if_neg (by simp [hall])]

/-- It is refused where one of them has not (R349). -/
theorem effRetest_serving {i : Nat} (hi : i < 8) (ht : (leNat m.body).testBit i = true) (hf : (d.noise i).failed = false) : effRetest d m = deny d (Reply.err resState) := by
  have hall : (List.range 8).all (fun i => !(leNat m.body).testBit i || (d.noise i).failed) = false :=
    List.all_eq_false.2 ⟨i, List.mem_range.2 hi, by simp [ht, hf]⟩
  unfold effRetest
  rw [withArg_of_length hb, if_neg (by simp; omega), if_neg (by simp [hn]), if_pos (by simp [hall])]

end

/-- In MAKER and TEST_UNLOCKED a source leaves the pool and its bits are captured (R359). -/
theorem effRawCapture_captures (hb : m.body.length = 5) (hs : leAt 0 1 m.body ≤ 7) (h0 : 0 < leAt 1 4 m.body) (hn : leAt 1 4 m.body ≤ 1000000)
    (hl : d.lcState = 0 ∨ d.lcState = 1) : effRawCapture d m =
    accept ((d.fresh.2.onNoise (leAt 0 1 m.body) (fun x => { x with capturing := true, heldBlocks := [] })).setOct P.blwRawData 0
      (drawBytes d.freeCtr (ceilDiv (leAt 1 4 m.body) 8))) := by
  unfold effRawCapture
  rw [withArg_of_length hb]
  exact (if_neg (by simp; omega)).trans (if_neg (by rcases hl with h | h <;> simp [h]))

/-! ### Quench -/

theorem effQncFloor_eq (hb : m.body.length = 1) : effQncFloor d m =
    if 7 < leNat m.body ∨ d.num P.qncCeiling 0 < leNat m.body then deny d (Reply.range P.qncFloor)
    else accept (((d.pinLevels.setNum P.qncFloor 0 (leNat m.body)).boundLevels).policyWritten P.qncFloor) := by
  unfold effQncFloor
  rw [withArg_of_length hb]
  simp only [Bool.or_eq_true, decide_eq_true_eq]

theorem effQncCeiling_eq (hb : m.body.length = 1) : effQncCeiling d m =
    if 7 < leNat m.body ∨ leNat m.body < d.num P.qncFloor 0 then deny d (Reply.range P.qncCeiling)
    else accept (((d.setNum P.qncCeiling 0 (leNat m.body)).boundLevels).policyWritten P.qncCeiling) := by
  unfold effQncCeiling
  rw [withArg_of_length hb]
  simp only [Bool.or_eq_true, decide_eq_true_eq]

theorem effQncDutyExp_eq (hb : m.body.length = 1) : effQncDutyExp d m =
    if leNat m.body < 6 ∨ 12 < leNat m.body then deny d (Reply.range P.qncDutyExp)
    else accept (((d.setNum P.qncDutyExp 0 (leNat m.body)).onQuench (tabMap (fun _ q => { q with credit := 0 }))).policyWritten P.qncDutyExp) := by
  unfold effQncDutyExp
  rw [withArg_of_length hb]
  simp only [Bool.or_eq_true, decide_eq_true_eq]

/-- What a change of QNC_MODE leaves of the windows and the clean counts (R378, R379). -/
def Dev.modeChanged (d : Dev) (v : Nat) : Dev := (d.setNum P.qncMode 0 v).discardWindows.onQuench (tabMap (fun _ q => { q with cleanCount := 0 }))

/-- FIXED ends a tile's calibration well and asks for the floor (R378). -/
def Dev.heldAtFloor (x : Dev) (t : Nat) : Dev :=
  let x := if (x.q t).calibrating then x.calibrated t else x
  x.wantLevel t (x.num P.qncFloor 0)

theorem effQncMode_eq (hb : m.body.length = 1) (h1 : leNat m.body ≤ 1) : effQncMode d m =
    if leNat m.body = d.num P.qncMode 0 then accept (d.policyWritten P.qncMode)
    else if leNat m.body = 1 then accept (((List.range nTiles).foldl Dev.heldAtFloor (d.modeChanged 1)).policyWritten P.qncMode)
    else accept ((d.modeChanged 0).policyWritten P.qncMode) := by
  unfold effQncMode
  rw [withArg_of_length hb]
  refine (if_neg (by simpa using h1)).trans (ite_congr (propext beq_iff_eq) (fun _ => rfl) fun _ => ?_)
  obtain h | h : leNat m.body = 0 ∨ leNat m.body = 1 := by omega
  · rw [h]
    rfl
  · rw [h]
    rfl

/-- Settles O29: each setting is served by its effect, and the effect is read off branch by branch. -/
theorem entropyAndQuenchCommands : Obligations.EntropyAndQuenchCommands := by
  refine ⟨?retest, ?retestNot, ?retestRange, ?capture, ?floor, ?floorNot, ?ceiling, ?ceilingNot, ?duty, ?dutyNot, ?same, ?run, ?fixed⟩
  case retest =>
    exact defers_of (fun _ _ => rfl) (fun _ => rfl) fun _ _ ⟨hb, h0, h8, hn, hf⟩ => effRetest_failed hb h0 h8 hn hf
  case retestNot =>
    exact refuses_of (fun _ _ => rfl) (fun _ => rfl) fun _ _ ⟨hb, h0, h8, hn, i, hi, ht, hf⟩ =>
      effRetest_serving hb h0 h8 hn hi ht hf
  case retestRange => exact refuses_of (fun _ _ => rfl) (fun _ => rfl) fun _ _ ⟨hb, h⟩ => effRetest_range hb h
  case capture =>
    exact accepts_of (fun _ _ => rfl) (fun _ => rfl) fun _ _ ⟨hb, hs, h0, hn, hl⟩ => effRawCapture_captures hb hs h0 hn hl
  case floor => exact accepts_of (fun _ _ => rfl) (fun _ => rfl) fun _ _ ⟨hb, h7, hc⟩ => (effQncFloor_eq hb).trans (if_neg (by omega))
  case floorNot => exact refuses_of (fun _ _ => rfl) (fun _ => rfl) fun _ _ ⟨hb, h⟩ => (effQncFloor_eq hb).trans (if_pos h)
  case ceiling => exact accepts_of (fun _ _ => rfl) (fun _ => rfl) fun _ _ ⟨hb, h7, hf⟩ => (effQncCeiling_eq hb).trans (if_neg (by omega))
  case ceilingNot => exact refuses_of (fun _ _ => rfl) (fun _ => rfl) fun _ _ ⟨hb, h⟩ => (effQncCeiling_eq hb).trans (if_pos h)
  case duty => exact accepts_of (fun _ _ => rfl) (fun _ => rfl) fun _ _ ⟨hb, h6, h12⟩ => (effQncDutyExp_eq hb).trans (if_neg (by omega))
  case dutyNot => exact refuses_of (fun _ _ => rfl) (fun _ => rfl) fun _ _ ⟨hb, h⟩ => (effQncDutyExp_eq hb).trans (if_pos h)
  case same => exact accepts_of (fun _ _ => rfl) (fun _ => rfl) fun _ _ ⟨hb, h1, he⟩ => (effQncMode_eq hb h1).trans (if_pos he)
  case run =>
    exact accepts_of (fun _ _ => rfl) (fun _ => rfl) fun d m ⟨hb, hm⟩ => by
      rw [effQncMode_eq (by rw [hb]; rfl) (by rw [hb]; decide), hb]
      exact (if_neg hm.symm).trans (if_neg (by decide))
  case fixed =>
    exact accepts_of (fun _ _ => rfl) (fun _ => rfl) fun d m ⟨hb, hm⟩ => by
      rw [effQncMode_eq (by rw [hb]; rfl) (by rw [hb]; decide), hb]
      exact (if_neg hm.symm).trans (if_pos rfl)

end Sys2Proof.Machine
end

section
/-! SUPPORT. What a DRBG does: blocks asked for, reseeds, generate calls and their bytes (R340 to R342, R351, R352, R356). -/

namespace Sys2Proof.Machine

variable {d : Dev} {i : Nat}

/-! ### Blocks asked for, and the age limits -/

/-- The DRBG asks for its next block ahead of the limit (R341). -/
def Dev.asksBlock (d : Dev) (i : Nat) : Prop := (d.inst i).seeded = true ∧ 61440 ≤ (d.inst i).age ∧ (d.inst i).requested = false ∧ (d.inst i).heldBlock = none

/-- The DRBG waits for a block (R341, R351). -/
def Dev.askBlock (d : Dev) (i : Nat) : Dev :=
  (d.onInst i (fun y => { y with requested := true })).onBellows (fun b => { b with waiters := b.waiters ++ [.inst i] })

theorem Dev.asksBlock_iff : d.asksBlock i ↔
    ((d.inst i).seeded && decide ((d.inst i).age ≥ ageRequest) && !(d.inst i).requested && (d.inst i).heldBlock.isNone) = true := by
  simp only [Bool.and_eq_true, decide_eq_true_eq, Bool.not_eq_true', Option.isNone_iff_eq_none, and_assoc]
  exact Iff.rfl

theorem drbgBlockRequest_asks (h : d.asksBlock i) : drbgBlockRequest i d = (d.askBlock i).deliverAll := if_pos (Dev.asksBlock_iff.1 h)

theorem drbgBlockRequest_not (h : ¬ d.asksBlock i) : drbgBlockRequest i d = d := if_neg (mt Dev.asksBlock_iff.2 h)

/-- The DRBG has reached the age at which it reseeds (R341). -/
def Dev.reseedDue (d : Dev) (i : Nat) : Prop := (d.inst i).seeded = true ∧ 65536 ≤ (d.inst i).age

theorem Dev.reseedDue_iff : d.reseedDue i ↔ ((d.inst i).seeded && decide ((d.inst i).age ≥ ageReseed)) = true := by
  simp only [Bool.and_eq_true, decide_eq_true_eq]
  exact Iff.rfl

theorem drbgReseedDue_not (h : ¬ d.reseedDue i) : drbgReseedDue i d = d := if_neg (mt Dev.reseedDue_iff.2 h)

theorem drbgReseedDue_held {b : Bytes} (h : d.reseedDue i) (hb : (d.inst i).heldBlock = some b) : drbgReseedDue i d = d.onInst i (fun y => y.reseeded b) := by
  unfold drbgReseedDue
  rw [if_pos (Dev.reseedDue_iff.1 h), hb]

/-- Without a block it stops, or stretches where the shortage mode says so (R351, R352). -/
theorem drbgReseedDue_short (h : d.reseedDue i) (hb : (d.inst i).heldBlock = none) :
    let e := if (d.inst i).requested then d else d.askBlock i
    drbgReseedDue i d = (e.onInst i (fun y => { y with stopped := decide (e.num P.blwShortageMode 0 = 0) })).deliverAll := by
  intro e
  have hst : (!e.stretches) = decide (e.num P.blwShortageMode 0 = 0) := by unfold Dev.stretches; simp [bne, Bool.beq_eq_decide_eq]
  rw [← hst]
  unfold drbgReseedDue
  rw [if_pos (Dev.reseedDue_iff.1 h), hb]
  rfl

theorem drbgAgeLimit_below (h : (d.inst i).age < 2 ^ 32) : drbgAgeLimit i d = d := if_neg (Nat.not_le.2 h)

theorem drbgAgeLimit_reached (h : 2 ^ 32 ≤ (d.inst i).age) : drbgAgeLimit i d = d.onInst i (fun y => { y with stopped := true }) := if_pos h

/-- When a DRBG generates (R342, R351, R352). -/
theorem Dev.generates_iff : d.generates i = true ↔
    (d.inst i).seeded = true ∧ (d.inst i).age < 2 ^ 32 ∧ ((d.inst i).age < 65536 ∨ d.num P.blwShortageMode 0 ≠ 0) := by
  simp only [Dev.generates, Dev.stretches, Bool.and_eq_true, Bool.or_eq_true, decide_eq_true_eq, bne_iff_ne, and_assoc]
  exact Iff.rfl

/-! ### Blocks given -/

/-- The first block of a DRBG that is not seeded is held for the second (R340). -/
theorem Dev.giveBlock_first (hs : (d.inst i).seeded = false) (hb : (d.inst i).heldBlock = none) (b : Bytes) :
    d.giveBlock (.inst i) b = d.onInst i (fun x => { x with heldBlock := some b }) := by
  unfold Dev.giveBlock
  simp only [hs, hb, Bool.not_false, if_true]

/-- The second makes the DRBG (R340). -/
theorem Dev.giveBlock_second {a : Bytes} (hs : (d.inst i).seeded = false) (hb : (d.inst i).heldBlock = some a) (b : Bytes) :
    d.giveBlock (.inst i) b = d.onInst i (fun _ => Drbg.made i a b) := by
  unfold Dev.giveBlock
  simp only [hs, hb, Bool.not_false, if_true]

/-- A draw from a DRBG that generates (R339, R345). -/
theorem Dev.draw_generates (h : d.generates 0 = true) (n : Nat) : d.draw n = (((d.generate 0 [] n).1).stream n, (d.generate 0 [] n).2) := if_pos h

/-! ### The counter stream -/

/-- Lists of one length, joined: position `i` is in the list at `i / k`, at its position `i % k`. -/
theorem getElem?_flatMap_of_length {α β : Type} {f : α → List β} {k : Nat} (hk : 0 < k) :
    ∀ (l : List α), (∀ a, (f a).length = k) → ∀ i, (l.flatMap f)[i]? = l[i / k]?.bind (fun a => (f a)[i % k]?)
  | [], _, i => by simp
  | a :: l, h, i => by
    rw [List.flatMap_cons]
    by_cases hi : i < k
    · rw [List.getElem?_append_left (by rw [h]; exact hi), Nat.div_eq_of_lt hi, Nat.mod_eq_of_lt hi]
      rfl
    · have hle := Nat.not_lt.1 hi
      have hdiv : i / k = (i - k) / k + 1 := by rw [Nat.div_eq_sub_div hk hle]
      rw [List.getElem?_append_right (by rw [h]; exact hle), h, getElem?_flatMap_of_length hk l h, hdiv, List.getElem?_cons_succ, Nat.mod_eq_sub_mod hle]

theorem le_ceilDiv_mul (n : Nat) {k : Nat} (hk : 0 < k) : n ≤ ceilDiv n k * k := by
  have h := Nat.div_add_mod (n + k - 1) k
  have hm := Nat.mod_lt (n + k - 1) hk
  unfold ceilDiv
  rw [Nat.mul_comm]
  omega

/-- Byte `i` of the stream of a 256-bit key is byte `i % 16` of the counter's block `i / 16`, and the stream is as long as asked for (CTR_DRBG_Generate). -/
theorem CtrState.stream_spec (c : CtrState) (n : Nat) (hc : c.key.length = 32) : (c.stream n).length = n ∧ ∀ i, i < n →
    (c.stream n)[i]? = ((aes c.key).enc (natBE 16 ((beNat c.v + 1 + i / 16) % 2 ^ 128)))[i % 16]? := by
  have hblock (j : Nat) : ((aes c.key).enc (natBE 16 ((beNat c.v + 1 + j) % 2 ^ 128))).length = 16 := aes_enc_len _ _ hc
  have hn := le_ceilDiv_mul n (k := 16) (by decide)
  refine ⟨?_, fun i hi => ?_⟩
  · unfold CtrState.stream
    rw [List.length_take, List.length_flatMap, List.map_congr_left fun j _ => hblock j, List.map_const', List.length_range, List.sum_replicate_nat]
    exact Nat.min_eq_left hn
  · unfold CtrState.stream
    rw [List.getElem?_take_of_lt hi, getElem?_flatMap_of_length (by decide) _ hblock, List.getElem?_range (by omega)]
    rfl

end Sys2Proof.Machine
end

section
/-! SUPPORT. What a software port that waits and a spark generator do (R111, R250, R344, R353, R354). -/

namespace Sys2Proof.Machine

variable {d f : Dev} {r u : Nat}

/-! ### Software-port requests -/

/-- The request waits for a block past its deadline (R353). -/
def Dev.lateCall (d : Dev) (r : Nat) (q : Request) : Prop :=
  q.desc.opcode = 0x5801 ∧ q.released = false ∧ (∃ t, q.deadline = some t ∧ t ≤ (d.now : Int)) ∧ d.waitsForBlock r = true

theorem Dev.lateCall_iff {q : Request} : d.lateCall r q ↔
    (q.desc.opcode == 0x5801 && !q.released && (match q.deadline with | some t => decide ((d.now : Int) ≥ t) | none => false) && d.waitsForBlock r) = true := by
  cases hq : q.deadline <;> simp [Dev.lateCall, hq, and_assoc]

theorem shortageDeadlineExpiry_not (h : ∀ q, d.req? r = some q → ¬ d.lateCall r q) : shortageDeadlineExpiry r d = d := by
  unfold shortageDeadlineExpiry
  cases hq : d.req? r with
  | none => rfl
  | some q => exact if_neg fun hc => h q hq (Dev.lateCall_iff.2 hc)

theorem shortageDeadlineExpiry_late {q : Request} (hq : d.req? r = some q) (h : d.lateCall r q) : shortageDeadlineExpiry r d =
    ((d.onBellows (fun b => { b with waiters := b.waiters.filter (· != .call r) })).addNum P.blwShortWaitCount 0 1).fail r 0x0501 := by
  unfold shortageDeadlineExpiry
  rw [hq]
  exact if_pos (Dev.lateCall_iff.1 h)

/-! ### Seeds of a spark generator -/

/-- The generator asks for its next seed (R111, R250). -/
def Dev.asksSeed (d : Dev) (u : Nat) : Prop :=
  d.unitPowered u = true ∧ (d.unit u).spark.requested = false ∧ (d.unit u).spark.next = none ∧ ((d.unit u).spark.seeded = false ∨ 2 ^ 19 ≤ (d.unit u).spark.count)

theorem Dev.asksSeed_iff : d.asksSeed u ↔ (d.unitPowered u && !(d.unit u).spark.requested && (d.unit u).spark.next.isNone &&
    (!(d.unit u).spark.seeded || decide ((d.unit u).spark.count ≥ 2 ^ 19))) = true := by
  simp [Dev.asksSeed, and_assoc]

/-- The hearth's DRBG has a seed for the generator (R111, R344). -/
def Dev.givesSeed (d : Dev) (u : Nat) : Prop :=
  d.unitPowered u = true ∧ d.generates (hearthOf u) = true ∧ ((d.unit u).spark.requested = true ∨ (d.unit u).spark.seeded = false)

theorem Dev.givesSeed_iff : d.givesSeed u ↔
    ¬ (!d.unitPowered u || !d.generates (hearthOf u) || !((d.unit u).spark.requested || !(d.unit u).spark.seeded)) = true := by
  simp only [Dev.givesSeed, Bool.or_eq_true, Bool.not_eq_true', not_or, Bool.not_eq_false, and_assoc]

/-- The seed that the hearth's DRBG has for the generator (R344). -/
def Dev.nextSeed (d : Dev) (u : Nat) : Bytes := ((d.generate (hearthOf u) [] 32).1).stream 32

/-- The device after the hearth's DRBG has answered the call for a seed (R344). -/
def Dev.seedDrawn (d : Dev) (u : Nat) : Dev := (d.generate (hearthOf u) [] 32).2

theorem sparkSeedArrive_not (h : ¬ d.givesSeed u) : sparkSeedArrive u d = d := if_pos (Decidable.not_not.1 (mt Dev.givesSeed_iff.2 h))

/-- A seed that arrives is taken by a generator that is unseeded or stalled, and held ready by any other (R111, R344). -/
theorem sparkSeedArrive_given (h : d.givesSeed u) : sparkSeedArrive u d =
    if (d.unit u).spark.seeded = false ∨ (d.unit u).spark.stalled = true then
      (d.seedDrawn u).onUnit u (fun x => { x with spark := Spark.seededWith (d.nextSeed u) })
    else (d.seedDrawn u).onUnit u (fun x => { x with spark := { x.spark with requested := false, next := some (d.nextSeed u) } }) := by
  unfold sparkSeedArrive
  refine (if_neg (Dev.givesSeed_iff.1 h)).trans (ite_congr (propext ?_) (fun _ => rfl) fun _ => rfl)
  rw [Bool.or_eq_true, Bool.not_eq_true']

/-- What is left where a seed may arrive, from what each of the three cases leaves: no seed, one taken at once, one held ready. -/
theorem sparkSeedArrive_eq_of (hnot : ¬ d.givesSeed u → f = d)
    (htakes : d.givesSeed u → ((d.unit u).spark.seeded = false ∨ (d.unit u).spark.stalled = true) →
      f = (d.seedDrawn u).onUnit u (fun x => { x with spark := Spark.seededWith (d.nextSeed u) }))
    (hholds : d.givesSeed u → (d.unit u).spark.seeded = true → (d.unit u).spark.stalled = false →
      f = (d.seedDrawn u).onUnit u (fun x => { x with spark := { x.spark with requested := false, next := some (d.nextSeed u) } })) :
    sparkSeedArrive u d = f := by
  by_cases hg : d.givesSeed u
  · rw [sparkSeedArrive_given hg]
    by_cases ht : (d.unit u).spark.seeded = false ∨ (d.unit u).spark.stalled = true
    · exact (if_pos ht).trans (htakes hg ht).symm
    · obtain ⟨hs, hst⟩ := not_or.1 ht
      exact (if_neg ht).trans (hholds hg (Bool.of_not_eq_false hs) (Bool.of_not_eq_true hst)).symm
  · exact (sparkSeedArrive_not hg).trans (hnot hg).symm

/-- No instruction of the unit waits for the seed, or the generator still delivers nothing: the arrival ends there (R111). -/
theorem sparkSeedArrives_rests (hf : sparkSeedArrive u d = f) (h : nTiles ≤ u ∨ (f.tile u).sparkWaiting = none ∨ f.sparkOut u = true) : sparkSeedArrives u d = f := by
  unfold sparkSeedArrives
  rw [hf]
  dsimp only
  cases hw : (f.tile u).sparkWaiting with
  | none => rfl
  | some x => exact if_pos (by simpa [hw] using h)

/-- The instruction that waited runs on (R111). -/
theorem sparkSeedArrives_runs {word : Nat} {w : WordCheck} {op : TileOp} (hf : sparkSeedArrive u d = f) (hu : u < nTiles) (hw : (f.tile u).sparkWaiting = some (word, w))
    (ho : f.sparkOut u = false) (hop : tileWord word = some op) :
    sparkSeedArrives u d = (f.onTile u (fun y => { y with sparkWaiting := none })).tileRun u word w op := by
  unfold sparkSeedArrives
  rw [hf]
  simp only [hw, ho, hop, Nat.not_le.2 hu, decide_false, Bool.or_false, Bool.false_eq_true, if_false]

/-! ### A generator at its limit -/

theorem sparkSeedSwitch_below (h : (d.unit u).spark.seeded = false ∨ (d.unit u).spark.count < 2 ^ 20) : sparkSeedSwitch u d = d :=
  if_pos (by simpa using h)

/-- The operation that runs on the unit completes with 0x0502 (R354). -/
def Dev.failRunning (f : Dev) (u : Nat) : Dev := match (f.unit u).job.bind f.job? with
  | some x => f.fail x.req 0x0502
  | none => f

theorem Dev.failRunning_some {j : Nat} {x : Job} (hj : (f.unit u).job = some j) (hx : f.job? j = some x) : f.failRunning u = f.fail x.req 0x0502 := by
  simp [Dev.failRunning, hj, hx]

theorem Dev.failRunning_none (h : ∀ j x, (f.unit u).job = some j → f.job? j ≠ some x) : f.failRunning u = f := by
  have hnone : (f.unit u).job.bind f.job? = none := Option.bind_eq_none_iff.2 fun j hj => Option.eq_none_iff_forall_ne_some.2 fun x => h j x hj
  simp only [Dev.failRunning, hnone]

section
variable (hs : (d.unit u).spark.seeded = true) (hc : 2 ^ 20 ≤ (d.unit u).spark.count)
include hs hc

theorem not_sparkBelowLimit : ¬ (!(d.unit u).spark.seeded || decide ((d.unit u).spark.count < 2 ^ 20)) = true := by
  rw [hs, Bool.not_true, Bool.false_or, decide_eq_true_eq]
  exact Nat.not_lt.2 hc

theorem sparkSeedSwitch_changes {b : Bytes} (hn : (d.unit u).spark.next = some b) :
    sparkSeedSwitch u d = d.onUnit u (fun x => { x with spark := Spark.seededWith b }) := by
  unfold sparkSeedSwitch
  refine (if_neg (not_sparkBelowLimit hs hc)).trans ((if_pos (by rw [hn]; rfl)).trans ?_)
  rw [hn]
  rfl

theorem sparkSeedSwitch_stands (hn : (d.unit u).spark.next = none) (hst : (d.unit u).spark.stalled = true) : sparkSeedSwitch u d = d := by
  unfold sparkSeedSwitch
  exact (if_neg (not_sparkBelowLimit hs hc)).trans ((if_neg (by simp [hn])).trans (if_pos hst))

/-- The generator stalls, and what runs on the unit is held up (R111). -/
def Dev.stalled (d : Dev) (u : Nat) : Dev :=
  let e := d.onUnit u (fun x => { x with spark := { x.spark with stalled := true } })
  if (d.unit u).job = none then e else e.stallOn u

/-- The stall can end no more: the bellows is EXHAUSTED and the hearth's DRBG past its limit (R354). -/
def Dev.seedless (f : Dev) (u : Nat) : Prop := f.num P.blwState 0 = blwExhausted ∧ 2 ^ 32 ≤ (f.inst (hearthOf u)).age

theorem sparkSeedSwitch_stalls (hn : (d.unit u).spark.next = none) (hst : (d.unit u).spark.stalled = false) [Decidable ((d.stalled u).seedless u)] : sparkSeedSwitch u d =
    if (d.stalled u).seedless u then (d.stalled u).failRunning u
    else d.stalled u := by
  have hjob : ((d.onUnit u (fun x => { x with spark := { x.spark with stalled := true } })).unit u).job = (d.unit u).job := by
    rw [Dev.unit_onUnit, if_pos rfl]
  have hd : (if ((d.onUnit u (fun x => { x with spark := { x.spark with stalled := true } })).unit u).job.isSome = true
      then (d.onUnit u (fun x => { x with spark := { x.spark with stalled := true } })).stallOn u
      else d.onUnit u (fun x => { x with spark := { x.spark with stalled := true } })) = d.stalled u := by
    rw [hjob]
    unfold Dev.stalled
    cases (d.unit u).job <;> rfl
  have hends : ((d.stalled u).num P.blwState 0 == blwExhausted && decide (((d.stalled u).inst (hearthOf u)).age ≥ ageLimit)) = true ↔ (d.stalled u).seedless u := by
    rw [Bool.and_eq_true, beq_iff_eq, decide_eq_true_eq]
    exact Iff.rfl
  unfold sparkSeedSwitch
  refine (if_neg (not_sparkBelowLimit hs hc)).trans ((if_neg (by simp [hn])).trans ((if_neg (by simp [hst])).trans ?_))
  dsimp only
  rw [hd]
  refine ite_congr (propext hends) (fun _ => ?_) fun _ => rfl
  unfold Dev.failRunning
  cases ((d.stalled u).unit u).job <;> rfl

end

end Sys2Proof.Machine
end

section
/-! SUPPORT. From it all of O44 (R111, R250, R341, R342, R344, R351 to R354). -/

namespace Sys2Proof.Machine

/-- Settles O44: each event by the lemmas above on its operation, a generate call by its definition, and the bytes of a call by the counter stream. -/
theorem drbgAndSpark : Obligations.DrbgAndSpark := by
  classical
  refine ⟨?instances, ?late, ?generators, ?generate, fun c n hc => c.stream_spec n hc, ?first, ?second, ?draw⟩
  case instances =>
    intro s i hi d x asks ask due
    have row {c : Instr} {g : Dev → Dev} {e : Dev} (h : exec c s = s.runPart i 17 g) (hg : g d = e) : s.goes c e := State.goes_of_runPart h hi hg
    exact ⟨fun h => row rfl (drbgBlockRequest_not h), fun h => row rfl (drbgBlockRequest_asks h), fun h => row rfl (drbgReseedDue_not h),
      fun h b hb => row rfl (drbgReseedDue_held h hb), fun h hb => row rfl (drbgReseedDue_short h hb), fun h => row rfl (drbgAgeLimit_below h),
      fun h => row rfl (drbgAgeLimit_reached h), Dev.generates_iff⟩
  case late =>
    intro s r d late
    exact ⟨fun h => State.goes_of_run rfl (shortageDeadlineExpiry_not h), fun q hq h => State.goes_of_run rfl (shortageDeadlineExpiry_late hq h)⟩
  case generators =>
    intro s u hu d k put asks given seed e
    have row {c : Instr} {g : Dev → Dev} {e : Dev} (h : exec c s = s.runPart u nUnits g) (hg : g d = e) : s.goes c e := State.goes_of_runPart h hu hg
    refine ⟨fun h => row rfl (if_neg (mt Dev.asksSeed_iff.2 h)), fun h => row rfl (if_pos (Dev.asksSeed_iff.1 h)), fun f hnot htakes hholds => ?_,
      fun h => row rfl (sparkSeedSwitch_below h), fun hs hc => ⟨fun b hn => row rfl (sparkSeedSwitch_changes hs hc hn),
        fun hn hst => row rfl (sparkSeedSwitch_stands hs hc hn hst), fun hn hst => ?_⟩⟩
    · have hf : sparkSeedArrive u d = f := sparkSeedArrive_eq_of hnot htakes hholds
      exact ⟨fun h => row rfl (sparkSeedArrives_rests hf h), fun word w op ht hw ho hop => row rfl (sparkSeedArrives_runs hf ht hw ho hop)⟩
    · have heq := sparkSeedSwitch_stalls hs hc hn hst
      exact ⟨fun h => row rfl (heq.trans (if_neg h)), fun h hj => row rfl (heq.trans ((if_pos h).trans (Dev.failRunning_none hj))),
        fun h j x hj hx => row rfl (heq.trans ((if_pos h).trans (Dev.failRunning_some hj hx)))⟩
  case generate => exact fun d i n add => ⟨rfl, rfl⟩
  case first => exact fun d i b hs hb => Dev.giveBlock_first hs hb b
  case second => exact fun d i a b hs hb => Dev.giveBlock_second hs hb b
  case draw => exact fun d n h => Dev.draw_generates h n

end Sys2Proof.Machine
end

section
/-! SUPPORT. The health tests of the noise sources, and what BLW_STATE does (R333 to R335, R348, R349). -/

namespace Sys2Proof.Machine

variable {d : Dev} {i : Nat}

/-! ### The tests -/

/-- Failures of the adaptive proportion test in one window (R333): one, where the window's first bit stands in it 793 times or more. -/
def proportionFailures (w : List Bool) : Nat := if 793 ≤ (w.filter (· == w.headD false)).length then 1 else 0

theorem bnat_proportionFails (w : List Bool) : bnat (proportionFails w) = proportionFailures w := by
  simp only [bnat, proportionFails, proportionFailures, decide_eq_true_eq]

theorem proportionFails_iff (w : List Bool) : proportionFails w = true ↔ proportionFailures w = 1 := by
  rw [← bnat_proportionFails]
  cases proportionFails w <;> decide

/-- One bit of a run that stands at `r` fails the test as the 41st, and else lengthens the run (R333). -/
theorem repetitionTest_cons_same (r : Nat) (b : Bool) (l : List Bool) : repetitionTest (r, b) (b :: l) =
    ((repetitionTest (if 41 ≤ r + 1 then 0 else r + 1, b) l).1, (repetitionTest (if 41 ≤ r + 1 then 0 else r + 1, b) l).2 + if 41 ≤ r + 1 then 1 else 0) := by
  have hk : (if (decide (r > 0) && b == b) = true then r + 1 else 1) = r + 1 := by
    rcases Nat.eq_zero_or_pos r with h | h <;> simp [h]
  conv => lhs; unfold repetitionTest
  dsimp only
  rw [hk]

/-- A run of identical bits, from one that stands at `r` (R333): the test fails once in every 41. -/
theorem repetitionTest_replicate_from (b : Bool) (n : Nat) : ∀ r, r < 41 → repetitionTest (r, b) (List.replicate n b) = (((r + n) % 41, b), (r + n) / 41) := by
  induction n with
  | zero =>
    intro r hr
    rw [Nat.add_zero, Nat.mod_eq_of_lt hr, Nat.div_eq_of_lt hr]
    rfl
  | succ n ih =>
    intro r hr
    rw [List.replicate_succ, repetitionTest_cons_same]
    by_cases h : 41 ≤ r + 1
    · rw [if_pos h, if_pos h, ih 0 (by decide)]
      refine Prod.ext (Prod.ext ?_ rfl) ?_ <;> dsimp only <;> omega
    · rw [if_neg h, if_neg h, ih (r + 1) (by omega), Nat.add_zero, Nat.add_right_comm]
      rfl

/-- From the start of the test nothing has been seen, and the first bit begins a run (R333). -/
theorem repetitionTest_replicate {n : Nat} (hn : 0 < n) (b : Bool) : repetitionTest (0, false) (List.replicate n b) = ((n % 41, b), n / 41) := by
  obtain ⟨n, rfl⟩ := Nat.exists_eq_add_of_lt hn
  have hfirst : repetitionTest (0, false) (List.replicate (0 + n + 1) b) = repetitionTest (0, b) (List.replicate (0 + n + 1) b) := rfl
  rw [hfirst, repetitionTest_replicate_from b _ 0 (by decide), Nat.zero_add (0 + n + 1)]

/-! ### Failures of a source -/

/-- The windows of the last 65,536 in which a test of the source failed (R335). -/
def NoiseSource.recentFailures (x : NoiseSource) : List Nat := x.failures.filter (fun f => f + 65536 > x.windows)

/-- A test failure counted (R334). -/
def Dev.failureCounted (d : Dev) (i : Nat) : Dev :=
  (d.addNum P.blwHtFailCount i 1).onNoise i (fun y => { y with failures := (d.noise i).recentFailures ++ [(d.noise i).windows] })

theorem Dev.testFailure_failed (h : (d.noise i).failed = true) : d.testFailure i = d := if_pos h

/-- The fourth failure within 65,536 windows declares the source failed (R335). -/
theorem Dev.testFailure_serving (h : (d.noise i).failed = false) :
    d.testFailure i = if 3 ≤ (d.noise i).recentFailures.length then (d.failureCounted i).declareFailed i else d.failureCounted i := by
  have hfour : ((d.noise i).recentFailures ++ [(d.noise i).windows]).length ≥ 4 ↔ 3 ≤ (d.noise i).recentFailures.length := by
    rw [List.length_append, List.length_singleton]
    omega
  unfold Dev.testFailure
  refine (if_neg (ne_true_of_eq_false h)).trans ?_
  exact ite_congr (propext hfour) (fun _ => rfl) fun _ => rfl

/-! ### BLW_STATE -/

theorem Dev.setBlw_same {st : Nat} (h : d.num P.blwState 0 = st) (k : EdgeKind) : d.setBlw st k = d := if_pos (beq_iff_eq.2 h)

/-- BLW_STATE changes with the kind of its edge; an entry to EXHAUSTED is counted (R348). -/
theorem Dev.setBlw_changes {st : Nat} (h : d.num P.blwState 0 ≠ st) (k : EdgeKind) : d.setBlw st k =
    (d.setNum P.blwState 0 st).onBellows (fun b => { b with edge := k, exhausted := if st == blwExhausted then b.exhausted + 1 else b.exhausted }) :=
  if_neg fun hc => h (beq_iff_eq.1 hc)

theorem Dev.setBlw_num (d : Dev) (st : Nat) (k : EdgeKind) : (d.setBlw st k).num P.blwState 0 = st := by
  by_cases h : d.num P.blwState 0 = st
  · rw [Dev.setBlw_same h, h]
  · rw [Dev.setBlw_changes h]
    exact Dev.num_setNum_same _ _ _ _

theorem Dev.setBlw_edge (d : Dev) (st : Nat) (k : EdgeKind) : (d.setBlw st k).bellows.edge = if d.num P.blwState 0 = st then d.bellows.edge else k := by
  by_cases h : d.num P.blwState 0 = st
  · rw [Dev.setBlw_same h, if_pos h]
  · rw [Dev.setBlw_changes h, if_neg h]
    rfl

theorem Dev.setBlw_exhausted (d : Dev) (st : Nat) (k : EdgeKind) :
    (d.setBlw st k).bellows.exhausted = if st = blwExhausted ∧ d.num P.blwState 0 ≠ st then d.bellows.exhausted + 1 else d.bellows.exhausted := by
  by_cases h : d.num P.blwState 0 = st
  · rw [Dev.setBlw_same h, if_neg fun hc => hc.2 h]
  · rw [Dev.setBlw_changes h]
    exact ite_congr (propext (beq_iff_eq.trans (and_iff_left h).symm)) (fun _ => rfl) fun _ => rfl

theorem Dev.blwServing_all (h : d.sourcesUp = 8) : d.blwServing = blwReady := if_pos (by rw [h]; rfl)

theorem Dev.blwServing_none (h : d.sourcesUp = 0) : d.blwServing = blwExhausted := by
  unfold Dev.blwServing
  rw [h]
  rfl

/-- The way out of EXHAUSTED lasts while a DRBG waits for its block (R349). -/
theorem Dev.endLeaving_waits {w : BlockWaiter} (hw : w ∈ d.bellows.waiters) (hi : w.isCall = false) : d.endLeaving = d :=
  if_neg fun h => ne_true_of_eq_false hi (List.all_eq_true.1 (Bool.and_eq_true_iff.1 h).2 w hw)

theorem Dev.endLeaving_ends (hl : d.bellows.leaving = true) (h : ∀ w ∈ d.bellows.waiters, w.isCall = true) :
    d.endLeaving = (d.onBellows (fun b => { b with leaving := false })).setBlw d.blwServing .host :=
  if_pos (Bool.and_eq_true_iff.2 ⟨hl, List.all_eq_true.2 h⟩)

end Sys2Proof.Machine
end

section
/-! SUPPORT. What the events of a noise source and the ends of the bellows' tests leave (R334 to R338, R346, R349). -/

namespace Sys2Proof.Machine

variable {d : Dev} {i : Nat}

/-! ### The start-up test -/

/-- The source runs its start-up test (R336). -/
def Dev.noiseFresh (d : Dev) (i : Nat) : Prop := (d.noise i).started = false ∧ (d.noise i).failed = false ∧ d.modes.mode.powered = true

theorem Dev.noiseFresh_iff : d.noiseFresh i ↔ ¬ ((d.noise i).started || (d.noise i).failed || !d.modes.mode.powered) = true := by
  simp [Dev.noiseFresh, and_assoc]

theorem sourceStartupTestEnd_not (h : ¬ d.noiseFresh i) (raw : Bytes) : sourceStartupTestEnd i raw d = d := if_pos (Decidable.not_not.1 (mt Dev.noiseFresh_iff.2 h))

/-- The failures of both tests in the bits of a start-up test (R333, R336). -/
def startupFailures (raw : Bytes) : Nat := (repetitionTest (0, false) (rawBits (fitLen 128 raw))).2 + proportionFailures (rawBits (fitLen 128 raw))

/-- The source with the run that its start-up test ends in (R336). -/
def Dev.startupTested (d : Dev) (i : Nat) (raw : Bytes) : Dev :=
  let r := repetitionTest (0, false) (rawBits (fitLen 128 raw))
  d.onNoise i (fun y => { y with run := r.1.1, last := r.1.2 })

theorem sourceStartupTestEnd_fresh (h : d.noiseFresh i) (raw : Bytes) : sourceStartupTestEnd i raw d =
    let e := d.startupTested i raw
    if startupFailures raw = 0 then ((e.onNoise i (fun y => { y with started := true })).settleBellows).deliverAll
    else if (d.noise i).startupFails = 0 then (e.addNum P.blwHtFailCount i (startupFailures raw)).onNoise i (fun y => { y with startupFails := 1 })
    else ((e.addNum P.blwHtFailCount i (startupFailures raw)).declareFailed i).deliverAll := by
  have hbad : (repetitionTest (0, false) (rawBits (fitLen 128 raw))).2 + bnat (proportionFails (rawBits (fitLen 128 raw))) = startupFailures raw := by
    rw [bnat_proportionFails]
    rfl
  unfold sourceStartupTestEnd
  refine (if_neg (Dev.noiseFresh_iff.1 h)).trans ?_
  dsimp only
  rw [hbad]
  simp only [beq_iff_eq]
  rfl

/-! ### Windows -/

/-- The source is in service (R348). -/
def Dev.noiseLive (d : Dev) (i : Nat) : Prop := (d.noise i).started = true ∧ (d.noise i).failed = false ∧ d.modes.mode.powered = true

theorem Dev.noiseLive_iff : d.noiseLive i ↔ ¬ (!(d.noise i).started || (d.noise i).failed || !d.modes.mode.powered) = true := by
  simp [Dev.noiseLive, and_assoc]

/-- Its conditioning windows make blocks, while no capture takes its bits (R337, R359). -/
def Dev.makesBlocks (d : Dev) (i : Nat) : Prop := d.noiseLive i ∧ (d.noise i).capturing = false

theorem Dev.makesBlocks_iff : d.makesBlocks i ↔ ¬ (!(d.noise i).started || (d.noise i).failed || (d.noise i).capturing || !d.modes.mode.powered) = true := by
  simp only [Dev.makesBlocks, Dev.noiseLive, Bool.or_eq_true, Bool.not_eq_true', not_or, Bool.not_eq_true, Bool.not_eq_false]
  exact ⟨fun ⟨⟨hs, hf, hp⟩, hc⟩ => ⟨⟨⟨hs, hf⟩, hc⟩, hp⟩, fun ⟨⟨⟨hs, hf⟩, hc⟩, hp⟩ => ⟨⟨hs, hf, hp⟩, hc⟩⟩

theorem conditioningWindowEnd_not (h : ¬ d.makesBlocks i) (raw : Bytes) : conditioningWindowEnd i raw d = d := if_pos (Decidable.not_not.1 (mt Dev.makesBlocks_iff.2 h))

/-- The source after the repetition test of a conditioning window (R333, R335). -/
def Dev.windowTested (d : Dev) (i : Nat) (raw : Bytes) : Dev :=
  let r := repetitionTest ((d.noise i).run, (d.noise i).last) (rawBits raw)
  d.onNoise i (fun y => { y with windows := (d.noise i).windows + 1, run := r.1.1, last := r.1.2 })

theorem conditioningWindowEnd_makes (h : d.makesBlocks i) (raw : Bytes) : conditioningWindowEnd i raw d =
    let n := (repetitionTest ((d.noise i).run, (d.noise i).last) (rawBits raw)).2
    if 0 < n then (List.range n).foldl (fun e _ => e.testFailure i) (d.windowTested i raw)
    else (d.windowTested i raw).onNoise i (fun y => { y with heldBlocks := y.heldBlocks ++ [((d.noise i).windows, Keccak.sha3_256 raw)] }) := by
  unfold conditioningWindowEnd
  exact if_neg (Dev.makesBlocks_iff.1 h)

/-- The blocks that the end of adaptive-proportion window `k` keeps (R334): where the test failed, those that did not overlap it. -/
def NoiseSource.keptBlocks (x : NoiseSource) (bad : Nat) : List (Nat × Bytes) :=
  if bad = 1 then x.heldBlocks.filter (fun b => !(640 * b.1 < 1024 * (x.apWindows + 1) && 1024 * x.apWindows < 640 * (b.1 + 1))) else x.heldBlocks

/-- Of these the ones whose windows have all ended enter the pool (R338). -/
def Dev.blocksReleased (d : Dev) (i bad : Nat) : Dev :=
  let x := d.noise i
  (d.onNoise i (fun y => { y with apWindows := x.apWindows + 1, capturing := false,
                                  heldBlocks := (x.keptBlocks bad).filter (fun b => !(640 * (b.1 + 1) ≤ 1024 * (x.apWindows + 1))) })).onBellows
    (fun b => { b with pool := (b.pool ++ ((x.keptBlocks bad).filter (fun b => 640 * (b.1 + 1) ≤ 1024 * (x.apWindows + 1))).map Prod.snd).take 64 })

theorem adaptiveProportionWindowEnd_not (h : ¬ d.noiseLive i) (raw : Bytes) : adaptiveProportionWindowEnd i raw d = d := if_pos (Decidable.not_not.1 (mt Dev.noiseLive_iff.2 h))

theorem adaptiveProportionWindowEnd_live (h : d.noiseLive i) (raw : Bytes) : adaptiveProportionWindowEnd i raw d =
    let bad := proportionFailures (rawBits (fitLen 128 raw))
    (if bad = 1 then (d.blocksReleased i bad).testFailure i else d.blocksReleased i bad).deliverAll := by
  unfold adaptiveProportionWindowEnd
  refine (if_neg (Dev.noiseLive_iff.1 h)).trans ?_
  unfold Dev.blocksReleased NoiseSource.keptBlocks
  dsimp only
  simp only [proportionFails_iff]

/-! ### Known-answer tests -/

/-- The known-answer tests of start-up are still under way (R346). -/
def Dev.katDue (d : Dev) : Prop := d.num P.blwState 0 = blwStarting ∧ d.bellows.katPassed = false ∧ d.modes.mode.powered = true

theorem Dev.katDue_iff : d.katDue ↔ ¬ (d.num P.blwState 0 != blwStarting || d.bellows.katPassed || !d.modes.mode.powered) = true := by
  simp [Dev.katDue, and_assoc]

theorem bellowsKatDone_not (h : ¬ d.katDue) (n : Nat) : bellowsKatDone n d = d := if_pos (Decidable.not_not.1 (mt Dev.katDue_iff.2 h))

theorem bellowsKatDone_due (h : d.katDue) (n : Nat) : bellowsKatDone n d =
    if n = 0 then ((d.onBellows (fun b => { b with katPassed := true })).settleBellows).deliverAll
    else ((d.setNum P.blwFailCause 0 n).setBlw blwExhausted .alarm).exhaust := by
  unfold bellowsKatDone
  exact (if_neg (Dev.katDue_iff.1 h)).trans (ite_congr (propext beq_iff_eq) (fun _ => rfl) fun _ => rfl)

/-! ### Retests -/

theorem retestDone_none (h : d.bellows.retest = none) (p : Nat) (ok : Bool) : retestDone p ok d = d := by
  unfold retestDone
  rw [h]

/-- The sources of a mask come back from start-up (R349). -/
def Dev.sourcesReturned (d : Dev) (back : Nat) : Dev :=
  (List.range 8).foldl (fun f i => if back.testBit i then f.onNoise i (fun _ => { NoiseSource.reset with started := true }) else f) d

/-- The sources of a mask that failed their retest again (R349). -/
def retestFailures (mask p : Nat) : Nat := mask &&& (255 - (mask &&& p) % 256)

/-- The device that has answered a retest whose known-answer tests passed (R349). -/
def Dev.retestAnswered (d : Dev) (p id mask : Nat) (src : Src) : Dev :=
  ((d.onBellows (fun b => { b with retest := none, katPassed := true })).fresh.2.sourcesReturned (mask &&& p)).respondLate
    src id { result := resOk, detail := retestFailures mask p, data := [] }

/-- Every DRBG waits for a block to reseed from (R340, R349). -/
def Dev.leavesExhausted (e : Dev) : Dev :=
  e.onBellows (fun b => { b with
    leaving := true
    waiters := (if (e.inst 0).seeded then (List.range 17).map BlockWaiter.inst else instantiationWaiters) ++ b.waiters.filter BlockWaiter.isCall })

section
variable {p id mask : Nat} {src : Src} (h : d.bellows.retest = some (src, id, mask))
include h

/-- A known-answer test that fails sends the bellows to EXHAUSTED (R346, R349). -/
theorem retestDone_katFailed : retestDone p false d =
    (((((d.onBellows (fun b => { b with retest := none, katPassed := false })).fresh.2.setNum P.blwFailCause 0 (Config.freeNat d.freeCtr % 18 + 1)).sourcesReturned
      (mask &&& p)).respondLate src id { result := resOk, detail := retestFailures mask p + 256, data := [] }).setBlw blwExhausted .alarm).exhaust := by
  unfold retestDone
  rw [h]
  rfl

theorem retestDone_passed : retestDone p true d =
    let e := d.retestAnswered p id mask src
    if e.sourcesUp = 0 then e
    else if e.num P.blwState 0 = blwExhausted then e.leavesExhausted.deliverAll
    else e.setBlw e.blwServing .host := by
  unfold retestDone
  rw [h]
  refine (if_neg (by decide)).trans ?_
  exact ite_congr (propext beq_iff_eq) (fun _ => rfl) fun _ => ite_congr (propext beq_iff_eq) (fun _ => rfl) fun _ => rfl

end

end Sys2Proof.Machine
end

section
/-! SUPPORT. From it all of O43 (R333 to R338, R346, R348, R349). -/

namespace Sys2Proof.Machine

/-- Settles O43: each event by the equation of its operation above; the runs of the repetition test by induction on their length; BLW_STATE by what its change leaves. -/
theorem noiseSources : Obligations.NoiseSources := by
  refine ⟨?sources, fun n b hn => repetitionTest_replicate hn b, ?failure, ?tests, fun s p hn ok => State.goes_of_run rfl (retestDone_none hn p ok), ?retest, ?state⟩
  case sources =>
    intro s i raw hi d x live fresh proportion
    have row {c : Instr} {g : Dev → Dev} {e : Dev} (h : exec c s = s.runPart i 8 g) (hg : g d = e) : s.goes c e := State.goes_of_runPart h hi hg
    refine ⟨fun h => row rfl (sourceStartupTestEnd_not h raw), fun h => ?_, fun a b h => row rfl (conditioningWindowEnd_not ?_ _), fun a b hl hc => ?_,
      fun h => row rfl (adaptiveProportionWindowEnd_not h raw), fun h => row rfl (adaptiveProportionWindowEnd_live h raw)⟩
    · have heq := sourceStartupTestEnd_fresh h raw
      exact ⟨fun hb => row rfl (heq.trans (if_pos hb)), fun hb hf => row rfl (heq.trans ((if_neg (Nat.ne_of_gt hb)).trans (if_pos hf))),
        fun hb hf => row rfl (heq.trans ((if_neg (Nat.ne_of_gt hb)).trans (if_neg hf)))⟩
    · rintro ⟨hl, hc⟩
      exact h.elim (fun h => h hl) fun h => ne_true_of_eq_false hc h
    · have heq := conditioningWindowEnd_makes ⟨hl, hc⟩ (fitLen 40 a ++ fitLen 40 b)
      exact ⟨fun hn => row rfl (heq.trans (if_pos hn)), fun hn => row rfl (heq.trans (if_neg (Nat.not_lt.2 (Nat.le_of_eq hn))))⟩
  case failure =>
    exact fun d i => ⟨Dev.testFailure_failed, fun h hr => (Dev.testFailure_serving h).trans (if_neg (Nat.not_le.2 hr)),
      fun h hr => (Dev.testFailure_serving h).trans (if_pos hr), rfl⟩
  case tests =>
    exact fun s n => ⟨fun h => State.goes_of_run rfl (bellowsKatDone_not h n), fun h => State.goes_of_run rfl ((bellowsKatDone_due h 0).trans (if_pos rfl)),
      fun h hn => State.goes_of_run rfl ((bellowsKatDone_due h n).trans (if_neg (Nat.ne_of_gt hn)))⟩
  case retest =>
    intro s p id mask src h d back failed returned bad e
    have heq := retestDone_passed (p := p) h
    exact ⟨State.goes_of_run rfl (retestDone_katFailed h), fun hu => State.goes_of_run rfl (heq.trans (if_pos hu)),
      fun hu hb => State.goes_of_run rfl (heq.trans ((if_neg hu).trans (if_neg hb))),
      fun hu hb => State.goes_of_run rfl (heq.trans ((if_neg hu).trans (if_pos hb)))⟩
  case state =>
    exact fun d st k => ⟨d.setBlw_num st k, d.setBlw_edge st k, fun h => (d.setBlw_exhausted st k).trans (if_pos h), fun h => (d.setBlw_exhausted st k).trans (if_neg h),
      Dev.blwServing_all, Dev.blwServing_none, fun _ ⟨_, hw, hi⟩ => Dev.endLeaving_waits hw hi, Dev.endLeaving_ends⟩

end Sys2Proof.Machine
end

section
/-! SUPPORT. What a monitor's record takes up, its bins, and the commands on it, and from it O30 (R381 to R388). -/

namespace Sys2Proof.Machine

variable {d : Dev} {m : Msg}

/-! ### A sample in a record -/

section
variable (r : MonRecord) (log : Bool) (base : Int) (k : Nat) (x : Int)

theorem MonRecord.add_min : (r.add log base k x).min = Min.min r.min x := by
  show (if x < r.min then x else r.min) = _
  split <;> omega

theorem MonRecord.add_max : (r.add log base k x).max = Max.max r.max x := by
  show (if r.max < x then x else r.max) = _
  split <;> omega

theorem MonRecord.add_sum : (r.add log base k x).sum = if 2 ^ 63 ≤ r.sum + x then 2 ^ 63 - 1 else if r.sum + x < -2 ^ 63 then -2 ^ 63 else r.sum + x :=
  ite_congr (propext (Int.sub_one_lt_iff (m := 2 ^ 63))) (fun _ => rfl) fun _ => rfl

theorem MonRecord.add_sumSat : (r.add log base k x).sumSat = (r.sumSat || decide (2 ^ 63 ≤ r.sum + x) || decide (r.sum + x < -2 ^ 63)) := by
  have hhi : r.sum + x > 0x7FFFFFFFFFFFFFFF ↔ 2 ^ 63 ≤ r.sum + x := Int.sub_one_lt_iff (m := 2 ^ 63)
  rw [← decide_eq_decide.2 hhi]
  rfl

/-- The bin of a sample counts up to its bound; every other bin stays (R385). -/
theorem MonRecord.add_bins (j : Nat) : tabGet 0 j (r.add log base k x).bins =
    if monBin log base k x = j then Nat.min (tabGet 0 j r.bins + 1) 0xFFFFFFFF else tabGet 0 j r.bins := by
  refine (tabGet_set 0 _ j _ r.bins).trans (ite_congr rfl (fun h => ?_) fun _ => rfl)
  rw [h]
  show _ = Min.min (tabGet 0 j r.bins + 1) 0xFFFFFFFF
  split <;> omega

/-- What a record sums up after a sample depends on what it summed up before, and on nothing else of it. -/
theorem MonRecord.add_sums_congr {r q : MonRecord} (h : q.sums = r.sums) : (q.add log base k x).sums = (r.add log base k x).sums := by
  simp only [MonRecord.sums, MonSums.mk.injEq] at h
  obtain ⟨hc, hs, hn, hm, ht, hb, hi⟩ := h
  simp only [MonRecord.sums, MonRecord.add, hc, hs, hn, hm, ht, hb, hi]

end

theorem MonRecord.foldl_add_count (log : Bool) (base : Int) (k : Nat) (l : List Int) :
    ∀ r : MonRecord, (l.foldl (fun x v => x.add log base k v) r).count = r.count + l.length := by
  induction l with
  | nil => exact fun _ => rfl
  | cons v l ih => exact fun r => (ih _).trans (by rw [List.length_cons]; exact Nat.add_right_comm _ 1 _)

/-! ### Bins (R384) -/

theorem monBin_lt (log : Bool) (base : Int) (k : Nat) (x : Int) : monBin log base k x < 64 := by
  have hmin (n : Nat) : Nat.min n 63 < 64 := Nat.lt_succ_of_le (Nat.min_le_right n 63)
  unfold monBin
  dsimp only
  split
  · split
    · decide
    · exact hmin _
  · split
    · decide
    · exact hmin _

section
variable {base x : Int} {k : Nat}

theorem monBin_linear_below (h : x < base) : monBin false base k x = 0 := if_pos (show x - base < 0 by omega)

theorem monBin_linear (h : base ≤ x) : monBin false base k x = Nat.min ((x - base).toNat / 2 ^ k) 63 := if_neg (show ¬ x - base < 0 by omega)

theorem monBin_log_below (h : x - base < 2 ^ k) : monBin true base k x = 0 := if_pos (by push_cast; exact h)

/-- From 2^k on a log bin is read off the distance from the base: its greatest power of two, and the two bits below it. -/
theorem monBin_log {n l : Nat} (hn : x - base = n) (hk : 2 ^ k ≤ n) (hl : Nat.log2 n = l) : monBin true base k x =
    Nat.min (1 + 4 * (l - k) + (if l ≥ 2 then n / 2 ^ (l - 2) % 4 else if l == 1 then n % 2 * 2 else 0)) 63 := by
  have hlow : ¬ x - base < (2 ^ k : Nat) := by omega
  refine (if_neg hlow).trans ?_
  rw [hn, Int.toNat_natCast]
  simp only [log2, hl]

/-- A distance of 2 or 3 has one bit below its power of two. -/
theorem monBin_log_pair (hk : k ≤ 1) (h2 : 2 ≤ x - base) (h4 : x - base < 4) :
    monBin true base k x = 1 + 4 * (1 - k) + (if x - base = 3 then 2 else 0) := by
  obtain h | h : x - base = 2 ∨ x - base = 3 := by omega
  · rw [monBin_log (n := 2) (l := 1) h (Nat.pow_le_pow_right (by decide) hk) (by decide), h]
    obtain rfl | rfl : k = 0 ∨ k = 1 := by omega
    all_goals rfl
  · rw [monBin_log (n := 3) (l := 1) h (Nat.le_trans (Nat.pow_le_pow_right (by decide) hk) (by decide)) (by decide), h]
    obtain rfl | rfl : k = 0 ∨ k = 1 := by omega
    all_goals rfl

theorem monBin_log_quarter {l q : Nat} (hl : 2 ≤ l) (hk : k ≤ l) (hq : q < 4) (hlo : (2 ^ l + q * 2 ^ (l - 2) : Int) ≤ x - base)
    (hhi : x - base < (2 ^ l + (q + 1) * 2 ^ (l - 2) : Int)) : monBin true base k x = Nat.min (1 + 4 * (l - k) + q) 63 := by
  obtain ⟨e, rfl⟩ : ∃ e, l = e + 2 := ⟨l - 2, by omega⟩
  rw [Nat.add_sub_cancel] at hlo hhi
  have hzero : (0 : Int) ≤ 2 ^ (e + 2) + q * 2 ^ e := by exact_mod_cast Nat.zero_le _
  obtain ⟨n, hn⟩ := Int.eq_ofNat_of_zero_le (Int.le_trans hzero hlo)
  rw [hn] at hlo hhi
  have hlo : 2 ^ (e + 2) + q * 2 ^ e ≤ n := by exact_mod_cast hlo
  have hhi : n < 2 ^ (e + 2) + (q + 1) * 2 ^ e := by exact_mod_cast hhi
  have hfour : 2 ^ (e + 2) = 4 * 2 ^ e := by rw [Nat.pow_add, Nat.mul_comm]
  have hge : 2 ^ (e + 2) ≤ n := by omega
  have hdiv : n / 2 ^ e = 4 + q := Nat.div_eq_of_lt_le (by rw [Nat.add_mul]; omega) (by rw [Nat.add_assoc, Nat.add_mul]; omega)
  have hquarters : (q + 1) * 2 ^ e ≤ 4 * 2 ^ e := Nat.mul_le_mul_right _ hq
  have hlog : Nat.log2 n = e + 2 := (Nat.log2_eq_iff (by have := Nat.two_pow_pos (e + 2); omega)).2 ⟨hge, by rw [Nat.pow_succ]; omega⟩
  rw [monBin_log hn (Nat.le_trans (Nat.pow_le_pow_right (by decide) hk) hge) hlog, if_pos (by omega), Nat.add_sub_cancel, hdiv,
    show (4 + q) % 4 = q by omega]

end

/-! ### A record at a time (R386) -/

theorem MonRecord.expired_iff (r : MonRecord) (now : Nat) : r.expired now = true ↔ r.running = true ∧ 0 < r.window ∧ r.armedAt + r.window ≤ now := by
  simp only [MonRecord.expired, Bool.and_eq_true, decide_eq_true_eq, and_assoc]

theorem Dev.monitor_expired {n : Nat} (h : (d.monitorHeld n).expired d.now = true) : d.monitor n =
    { d.monitorHeld n with running := false, stop := (d.monitorHeld n).armedAt + (d.monitorHeld n).window, armedDone := true } := if_pos h

/-- The sample of a tick starts its list, or joins it (R387). -/
theorem MonRecord.take_eq (r : MonRecord) (now : Nat) (log : Bool) (base : Int) (k : Nat) (x : Int) : r.take now log base k x =
    { r.add log base k x with
      tick := now, tickSamples := (if r.tick = now then r.tickSamples else []) ++ [x], prior := if r.tick = now then r.prior else r.sums } := by
  unfold MonRecord.take
  by_cases h : r.tick = now
  · subst h
    simp only [beq_self_eq_true, if_true]
    rfl
  · simp only [beq_eq_false_iff_ne.2 h, Bool.false_eq_true, if_false, if_neg h]
    rfl

/-- A record with its sample limit reached is closed (R386). -/
def MonRecord.limited (r : MonRecord) (now : Nat) : MonRecord :=
  if r.limit > 0 && r.armedSamples ≥ r.limit then { r with running := false, stop := now, armedDone := true } else r

theorem MonRecord.limited_below {r : MonRecord} (h : r.limit = 0 ∨ r.armedSamples < r.limit) (now : Nat) : r.limited now = r :=
  if_neg (by simpa using by omega)

theorem MonRecord.limited_reached {r : MonRecord} (h0 : 0 < r.limit) (h : r.limit ≤ r.armedSamples) (now : Nat) :
    r.limited now = { r with running := false, stop := now, armedDone := true } :=
  if_pos (by simpa using ⟨h0, h⟩)

/-- The limit closes a record and changes nothing that it has counted. -/
theorem MonRecord.limited_counts (r : MonRecord) (now : Nat) : (r.limited now).sums = r.sums ∧ (r.limited now).tick = r.tick ∧
    (r.limited now).tickSamples = r.tickSamples ∧ (r.limited now).prior = r.prior := by
  unfold MonRecord.limited
  split <;> exact ⟨rfl, rfl, rfl, rfl⟩

/-! ### Samples (R381, R385) -/

/-- A record with a sample taken by monitor `n`. -/
def Dev.taken (d : Dev) (n : Nat) (x : Int) : MonRecord :=
  (d.monitor n).take d.now (d.num P.monBinmode n == 1) (signed64 (d.num P.monBase n)) (d.num P.monWidthExp n) x

theorem Dev.sample_closed {n : Nat} (h : (d.monitor n).running = false) (x : Int) : d.sample n x = d := by
  unfold Dev.sample
  simp only [h, Bool.not_false, if_true]

theorem Dev.sample_running {n : Nat} (h : (d.monitor n).running = true) (x : Int) : d.sample n x = d.onMonitors (tabSet n ((d.taken n x).limited d.now)) := by
  unfold Dev.sample
  simp only [h, Bool.not_true, Bool.false_eq_true, if_false]
  rfl

/-! ### Snapshots (R387) -/

/-- The samples of a snapshot's own tick that it leaves to the new interval: none where the record is a finished capture's. -/
def MonRecord.lateSamples (r : MonRecord) (now : Nat) : List Int := if r.armedDone || r.tick != now then [] else r.tickSamples

/-- There are such samples. -/
def MonRecord.late (r : MonRecord) (now : Nat) : Prop := r.armedDone = false ∧ r.tick = now ∧ r.tickSamples ≠ []

theorem MonRecord.lateSamples_late {r : MonRecord} {now : Nat} (h : r.late now) : r.lateSamples now = r.tickSamples := by
  obtain ⟨ha, ht, -⟩ := h
  exact if_neg (by simp [ha, ht])

theorem MonRecord.lateSamples_not_late {r : MonRecord} {now : Nat} (h : ¬ r.late now) : r.lateSamples now = [] := by
  unfold MonRecord.lateSamples
  split
  · rfl
  next hc =>
    simp only [Bool.or_eq_true, bne_iff_ne, not_or, Bool.not_eq_true, Classical.not_not] at hc
    exact Decidable.byContradiction fun hne => h ⟨hc.1, hc.2, hne⟩

/-- What a snapshot leaves of a record before late samples enter it: the capture goes on, nothing is counted. -/
def MonRecord.next (r : MonRecord) (now : Nat) : MonRecord :=
  { MonRecord.reset with start := now, running := r.running, armedAt := r.armedAt, window := r.window, limit := r.limit, armedSamples := r.armedSamples, tick := now }

/-- The record of the new interval, with the late samples counted in it. -/
def Dev.nextTaken (d : Dev) (n : Nat) (l : List Int) : MonRecord :=
  let z := { (d.monitor n).next d.now with tickSamples := l }
  z.withSums (l.foldl (fun x v => x.add (d.num P.monBinmode n == 1) (signed64 (d.num P.monBase n)) (d.num P.monWidthExp n) v) z).sums

theorem Dev.nextTaken_nil (n : Nat) : d.nextTaken n [] = (d.monitor n).next d.now := rfl

theorem Dev.snap_eq {n : Nat} {l : List Int} (hl : (d.monitor n).lateSamples d.now = l) : d.snap n =
    (d.monBytesOf n (if l.isEmpty then d.monitor n else (d.monitor n).withSums (d.monitor n).prior) (if (d.monitor n).armedDone then (d.monitor n).stop else d.now),
     d.onMonitors (tabSet n (d.nextTaken n l))) := by
  subst hl
  rfl

theorem Dev.snap_not_late {n : Nat} (h : ¬ (d.monitor n).late d.now) :
    d.snap n = (d.monBytes n (if (d.monitor n).armedDone then (d.monitor n).stop else d.now), d.onMonitors (tabSet n ((d.monitor n).next d.now))) := by
  rw [Dev.snap_eq (MonRecord.lateSamples_not_late h), Dev.nextTaken_nil]
  rfl

theorem Dev.snap_late {n : Nat} (h : (d.monitor n).late d.now) : (d.snap n).1 = d.monBytesOf n ((d.monitor n).withSums (d.monitor n).prior) d.now ∧
    ∃ z : MonSums, z.count = (d.monitor n).tickSamples.length ∧
      (d.snap n).2 = d.onMonitors (tabSet n ({ (d.monitor n).next d.now with tickSamples := (d.monitor n).tickSamples }.withSums z)) := by
  rw [Dev.snap_eq (MonRecord.lateSamples_late h)]
  obtain ⟨ha, -, hne⟩ := h
  refine ⟨?_, _, (MonRecord.foldl_add_count _ _ _ _ _).trans (Nat.zero_add _), rfl⟩
  rw [List.isEmpty_eq_false_iff.2 hne, ha]
  rfl

/-! ### Commands -/

section
variable (hb : m.body = []) (hn : m.row.toNat < nMonitors)
include hb hn

theorem effMonArm_eq : effMonArm d m =
    if d.num P.monCapture m.row.toNat ≠ 1 then deny d (Reply.err resState)
    else if d.num P.monWindow m.row.toNat = 0 ∧ d.num P.monLimit m.row.toNat = 0 then deny d (Reply.range P.monWindow)
    else accept (d.onMonitors (tabSet m.row.toNat { MonRecord.reset with
      start := d.now, armedAt := d.now, window := d.num P.monWindow m.row.toNat, limit := d.num P.monLimit m.row.toNat })) := by
  unfold effMonArm
  rw [withArg_of_nil hb, if_neg (Nat.not_le.2 hn)]
  simp only [bne_iff_ne, Bool.and_eq_true, beq_iff_eq]

theorem effMonSnap_eq : effMonSnap d m = (some (Reply.data' (d.snap m.row.toNat).1), (d.snap m.row.toNat).2) := by
  unfold effMonSnap
  rw [withArg_of_nil hb, if_neg (Nat.not_le.2 hn)]

end

theorem effMonSnapRange_refused (hb : m.body.length = 4) (h : leAt 2 2 m.body = 0 ∨ 6 < leAt 2 2 m.body ∨ nMonitors < leAt 0 2 m.body + leAt 2 2 m.body) :
    effMonSnapRange d m = deny d (Reply.range P.monCmdSnapRange) := by
  unfold effMonSnapRange
  rw [withArg_of_length hb, if_pos (by simpa [or_assoc] using h)]

/-- Within the bounds the records follow one another, each monitor's after those before it are cleared. -/
theorem effMonSnapRange_snaps {c : Nat} (hb : m.body.length = 4) (hc : leAt 2 2 m.body = c) (h0 : 0 < c) (h6 : c ≤ 6) (hn : leAt 0 2 m.body + c ≤ nMonitors) :
    effMonSnapRange d m =
      let x := (List.range c).foldl (fun (x : Bytes × Dev) i => (x.1 ++ (x.2.snap (leAt 0 2 m.body + i)).1, (x.2.snap (leAt 0 2 m.body + i)).2)) ([], d)
      (some (Reply.data' x.1), x.2) := by
  unfold effMonSnapRange
  rw [withArg_of_length hb]
  simp only [hc]
  rw [if_neg (by simp; omega)]

theorem effMonBase_eq (hb : m.body.length = 8) : effMonBase d m = accept ((d.setNum P.monBase m.row.toNat (leNat m.body)).monitorWritten m.row.toNat) :=
  withArg_of_length hb

theorem effMonWidth_eq (hb : m.body.length = 1) : effMonWidth d m =
    if (if d.num P.monBinmode m.row.toNat = 1 then 47 else 40) < leNat m.body then deny d (Reply.range P.monWidthExp)
    else accept ((d.setNum P.monWidthExp m.row.toNat (leNat m.body)).monitorWritten m.row.toNat) := by
  unfold effMonWidth
  rw [withArg_of_length hb]
  simp only [beq_iff_eq]

theorem effMonBinmode_accepts (hb : m.body.length = 1) (h1 : leNat m.body ≤ 1) (h : leNat m.body = 0 → d.num P.monWidthExp m.row.toNat ≤ 40) :
    effMonBinmode d m = accept ((d.setNum P.monBinmode m.row.toNat (leNat m.body)).monitorWritten m.row.toNat) := by
  unfold effMonBinmode
  rw [withArg_of_length hb]
  exact (if_neg (Nat.not_lt.2 h1)).trans (if_neg (by simpa using h))

/-- A channel may read a ring fill: nobody owns it, or its filter names a queue pair of its owner (R383). -/
def Dev.ringFits (d : Dev) (o f : Nat) : Prop := o ≠ 0xFFFF → d.ownsQp o (bits 63 48 f) = true

theorem Dev.ringFits_iff {o f : Nat} : d.ringFits o f ↔ ¬ (o != 0xFFFF && !d.ownsQp o (bits 63 48 f)) = true := by simp [Dev.ringFits]

theorem effMonChSource_eq (hb : m.body.length = 1)
    [Decidable (d.ringFits (d.num P.monChOwner m.row.toNat) (d.num P.monChFilter m.row.toNat))] : effMonChSource d m =
    if 3 < leNat m.body ∨ (leNat m.body = 3 ∧ ¬ d.ringFits (d.num P.monChOwner m.row.toNat) (d.num P.monChFilter m.row.toNat)) then deny d (Reply.range P.monChSource)
    else accept ((d.setNum P.monChSource m.row.toNat (leNat m.body)).monitorWritten m.row.toNat) := by
  unfold effMonChSource
  rw [withArg_of_length hb]
  simp only [Dev.ringFits_iff, Classical.not_not, Bool.and_assoc]
  by_cases h : 3 < leNat m.body
  · exact (if_pos h).trans (if_pos (.inl h)).symm
  · simp only [h, false_or, Bool.and_eq_true (_ == _), beq_iff_eq]
    rfl

theorem effMonChFilter_accepts (hb : m.body.length = 8) (h0 : bits 27 2 (leNat m.body) = 0)
    (hf : d.num P.monChSource m.row.toNat = 3 → d.ringFits (d.num P.monChOwner m.row.toNat) (leNat m.body)) : effMonChFilter d m =
    accept ((d.setNum P.monChFilter m.row.toNat (d.forceFilter m.row.toNat (leNat m.body))).monitorWritten m.row.toNat) := by
  unfold effMonChFilter
  rw [withArg_of_length hb]
  refine (if_neg (by simpa using h0)).trans (if_neg fun h => ?_)
  simp only [Bool.and_eq_true, beq_iff_eq] at h
  obtain ⟨⟨ho, hs⟩, hq⟩ := h
  exact Dev.ringFits_iff.1 (hf hs) (Bool.and_eq_true_iff.2 ⟨ho, hq⟩)

theorem Dev.forceFilter_unowned {n : Nat} (h : d.num P.monChOwner n = 0xFFFF) (f : Nat) : d.forceFilter n f = f := if_pos (beq_iff_eq.2 h)

theorem Dev.forceFilter_owned {n : Nat} (h : d.num P.monChOwner n ≠ 0xFFFF) (f : Nat) : d.forceFilter n f =
    f / 2 ^ 40 * 2 ^ 40 + d.num P.monChOwner n % 4096 * 2 ^ 28 + f / 2 % 2 * 2 := if_neg (mt beq_iff_eq.1 h)

theorem effMonChOwner_accepts (hb : m.body.length = 2) (ho : leNat m.body = 0xFFFF ∨ (leNat m.body < 4096 ∧ d.sliceExists (leNat m.body) = true))
    (hf : d.num P.monChSource m.row.toNat = 3 → d.ringFits (leNat m.body) (d.num P.monChFilter m.row.toNat)) : effMonChOwner d m =
    let e := d.setNum P.monChOwner m.row.toNat (leNat m.body)
    accept ((e.setNum P.monChFilter m.row.toNat (e.forceFilter m.row.toNat (e.num P.monChFilter m.row.toNat))).monitorWritten m.row.toNat) := by
  unfold effMonChOwner
  rw [withArg_of_length hb]
  refine if_neg fun h => ?_
  obtain ⟨hne, h⟩ := Bool.and_eq_true_iff.1 h
  obtain h | h := Bool.or_eq_true_iff.1 h
  · obtain he | ⟨hlt, he⟩ := ho
    · exact bne_iff_ne.1 hne he
    · simp [hlt, he] at h
  · obtain ⟨hs, hq⟩ := Bool.and_eq_true_iff.1 h
    exact Dev.ringFits_iff.1 (hf (beq_iff_eq.1 hs)) (Bool.and_eq_true_iff.2 ⟨hne, hq⟩)

theorem effMonChOwner_refused (hb : m.body.length = 2) (hne : leNat m.body ≠ 0xFFFF) (ho : ¬ (leNat m.body < 4096 ∧ d.sliceExists (leNat m.body) = true)) :
    effMonChOwner d m = deny d (Reply.range P.monChOwner) := by
  unfold effMonChOwner
  rw [withArg_of_length hb]
  refine if_pos (Bool.and_eq_true_iff.2 ⟨bne_iff_ne.2 hne, Bool.or_eq_true_iff.2 (.inl ?_)⟩)
  simpa [Classical.or_iff_not_imp_left] using ho

/-! ### The obligation -/

/-- A sample in the monitor's record: what it counts, and whether it is the last of an armed capture (R381, R386, R387). -/
theorem Dev.sample_takes {n : Nat} {x : Int} (h : (d.monitor n).running = true) :
    let r := d.monitor n
    let e := r.add (d.num P.monBinmode n == 1) (signed64 (d.num P.monBase n)) (d.num P.monWidthExp n) x
    ∃ z : MonRecord, d.sample n x = d.onMonitors (tabSet n z) ∧ z.sums = e.sums ∧ z.tick = d.now ∧
      z.tickSamples = (if r.tick = d.now then r.tickSamples else []) ++ [x] ∧ z.prior = (if r.tick = d.now then r.prior else r.sums) ∧
      (r.limit = 0 ∨ r.armedSamples + 1 < r.limit → z.running = true ∧ z.armedDone = r.armedDone) ∧
      (0 < r.limit → r.limit ≤ r.armedSamples + 1 → z.running = false ∧ z.armedDone = true ∧ z.stop = d.now) := by
  intro r e
  have htaken : d.taken n x = _ := MonRecord.take_eq r d.now _ _ _ x
  obtain ⟨hsums, htick, hlist, hprior⟩ := (d.taken n x).limited_counts d.now
  rw [htaken] at hsums htick hlist hprior
  refine ⟨_, (Dev.sample_running h x).trans (by rw [htaken]), hsums, htick, hlist, hprior, fun hl => ?_, fun h0 hl => ?_⟩
  · have hz := MonRecord.limited_below (r := d.taken n x) (now := d.now)
    rw [htaken] at hz
    rw [hz hl]
    exact ⟨h, rfl⟩
  · have hz := MonRecord.limited_reached (r := d.taken n x) (now := d.now)
    rw [htaken] at hz
    rw [hz h0 hl]
    exact ⟨rfl, rfl, rfl⟩

/-- What a sample does to the figures of a record (R385). -/
theorem MonRecord.add_counts (r : MonRecord) (log : Bool) (base : Int) (k : Nat) (x : Int) :
    let e := r.add log base k x
    let b := monBin log base k x
    e.count = r.count + 1 ∧ e.min = Min.min r.min x ∧ e.max = Max.max r.max x ∧
    (-(2 ^ 63 : Int) ≤ r.sum + x → r.sum + x < 2 ^ 63 → e.sum = r.sum + x ∧ e.sumSat = r.sumSat) ∧
    ((2 ^ 63 : Int) ≤ r.sum + x → e.sum = 2 ^ 63 - 1 ∧ e.sumSat = true) ∧ (r.sum + x < -(2 ^ 63 : Int) → e.sum = -(2 ^ 63 : Int) ∧ e.sumSat = true) ∧
    b < 64 ∧ tabGet 0 b e.bins = Nat.min (tabGet 0 b r.bins + 1) 0xFFFFFFFF ∧ (∀ j, j ≠ b → tabGet 0 j e.bins = tabGet 0 j r.bins) := by
  intro e b
  have hsum : e.sum = _ := r.add_sum log base k x
  have hsat : e.sumSat = _ := r.add_sumSat log base k x
  have hbin (j : Nat) : tabGet 0 j e.bins = _ := r.add_bins log base k x j
  rw [hsum, hsat]
  refine ⟨rfl, r.add_min log base k x, r.add_max log base k x, fun hlo hhi => ?_, fun hhi => ?_, fun hlo => ?_, monBin_lt log base k x,
    (hbin b).trans (if_pos rfl), fun j hj => (hbin j).trans (if_neg (Ne.symm hj))⟩
  · rw [if_neg (Int.not_le.2 hhi), if_neg (Int.not_lt.2 hlo), decide_eq_false (Int.not_le.2 hhi), decide_eq_false (Int.not_lt.2 hlo), Bool.or_false, Bool.or_false]
    exact ⟨rfl, rfl⟩
  · rw [if_pos hhi, decide_eq_true hhi, Bool.or_true, Bool.true_or]
    exact ⟨rfl, rfl⟩
  · rw [if_neg (by omega), if_pos hlo, decide_eq_true hlo, Bool.or_true]
    exact ⟨rfl, rfl⟩

/-- Settles O30: each command is served by its effect, read off branch by branch; a sample, a record and a bin each have their own lemma. -/
theorem monitors : Obligations.Monitors := by
  classical
  refine ⟨⟨?arm, ?armState, ?armRange, ?snap, ?snapshot, ?one, ?two, ?rangeNot, ?base, ?width, ?widthNot, ?binmode, ?source, ?filter, ?owned, ?sourceNot, ?owner, ?ownerNot⟩,
    ?expire, ?age, ?sample, fun d n hr h0 hw => congrArg MonRecord.running (Dev.monitor_expired ((MonRecord.expired_iff _ _).2 ⟨hr, h0, hw⟩)),
    MonRecord.add_counts, fun base x k => ⟨monBin_linear_below, monBin_linear, monBin_log_below, monBin_log_pair, ?unit, fun l q => monBin_log_quarter⟩⟩
  case arm =>
    exact accepts_of (fun _ _ => rfl) (fun _ => rfl) fun _ _ ⟨hb, hn, hc, h⟩ => by
      rw [effMonArm_eq hb hn, if_neg (Classical.not_not.2 hc), if_neg fun hz => h.elim (fun h => h hz.1) fun h => h hz.2]
      rfl
  case armState => exact refuses_of (fun _ _ => rfl) (fun _ => rfl) fun _ _ ⟨hb, hn, hc⟩ => (effMonArm_eq hb hn).trans (if_pos hc)
  case armRange =>
    exact refuses_of (fun _ _ => rfl) (fun _ => rfl) fun _ _ ⟨hb, hn, hc, h⟩ => (effMonArm_eq hb hn).trans ((if_neg (Classical.not_not.2 hc)).trans (if_pos h))
  case snap => exact returns_of (fun _ _ => rfl) (fun _ => rfl) fun _ _ ⟨hb, hn⟩ => effMonSnap_eq hb hn
  case snapshot =>
    intro d k r late next
    exact ⟨fun h => ⟨congrArg Prod.fst (Dev.snap_not_late h), congrArg Prod.snd (Dev.snap_not_late h)⟩, Dev.snap_late⟩
  case one =>
    exact returns_of (fun _ _ => rfl) (fun _ => rfl) fun _ _ ⟨hb, hc, hn⟩ => effMonSnapRange_snaps hb hc (by decide) (by decide) hn
  case two =>
    exact returns_of (fun _ _ => rfl) (fun _ => rfl) fun _ _ ⟨hb, hc, hn⟩ => effMonSnapRange_snaps hb hc (by decide) (by decide) hn
  case rangeNot => exact refuses_of (fun _ _ => rfl) (fun _ => rfl) fun _ _ ⟨hb, h⟩ => effMonSnapRange_refused hb h
  case base => exact accepts_of (fun _ _ => rfl) (fun _ => rfl) fun _ _ hb => effMonBase_eq hb
  case width => exact accepts_of (fun _ _ => rfl) (fun _ => rfl) fun _ _ ⟨hb, h⟩ => (effMonWidth_eq hb).trans (if_neg (Nat.not_lt.2 h))
  case widthNot => exact refuses_of (fun _ _ => rfl) (fun _ => rfl) fun _ _ ⟨hb, h⟩ => (effMonWidth_eq hb).trans (if_pos h)
  case binmode =>
    refine accepts_of (fun _ _ => rfl) (fun _ => rfl) fun _ _ h => ?_
    obtain hb | ⟨hb, hw⟩ := h
    · exact effMonBinmode_accepts (by rw [hb]; rfl) (by rw [hb]; decide) (by rw [hb]; exact fun h => absurd h (by decide))
    · exact effMonBinmode_accepts (by rw [hb]; rfl) (by rw [hb]; decide) fun _ => hw
  case source =>
    exact accepts_of (fun _ _ => rfl) (fun _ => rfl) fun _ _ ⟨hb, h3, hf⟩ => (effMonChSource_eq hb).trans (if_neg (by
      rintro (h | ⟨h, hn⟩)
      · exact Nat.not_lt.2 h3 h
      · exact hn (hf h)))
  case filter =>
    exact accepts_of (fun _ _ => rfl) (fun _ => rfl) fun _ _ ⟨hb, h0, ho⟩ => (effMonChFilter_accepts hb h0 fun _ hne => absurd ho hne).trans (by
      rw [Dev.forceFilter_unowned ho]
      rfl)
  case owned =>
    exact accepts_of (fun _ _ => rfl) (fun _ => rfl) fun _ _ ⟨hb, h0, ho, hf⟩ => (effMonChFilter_accepts hb h0 fun hs _ => hf hs).trans (by
      rw [Dev.forceFilter_owned ho]
      rfl)
  case sourceNot => exact refuses_of (fun _ _ => rfl) (fun _ => rfl) fun _ _ ⟨hb, h⟩ => (effMonChSource_eq hb).trans (if_pos h)
  case owner => exact accepts_of (fun _ _ => rfl) (fun _ => rfl) fun _ _ ⟨hb, ho, hf⟩ => effMonChOwner_accepts hb ho hf
  case ownerNot => exact refuses_of (fun _ _ => rfl) (fun _ => rfl) fun _ _ ⟨hb, hne, ho⟩ => effMonChOwner_refused hb hne ho
  case expire =>
    intro s n hn d r w ended
    have hended : r.expired d.now = true ↔ ended := r.expired_iff d.now
    exact ⟨fun h => State.goes_of_runPart rfl hn (if_neg (mt hended.1 h)),
      fun h => State.goes_of_runPart rfl hn ((if_pos (hended.2 h)).trans (by rw [Dev.monitor_expired (hended.2 h)]))⟩
  case age =>
    exact fun s => ⟨fun h => State.goes_of_run rfl (if_neg (ne_true_of_eq_false h)), fun h => State.goes_of_run rfl (if_pos h)⟩
  case sample => exact fun d n x => ⟨fun h => Dev.sample_closed h x, Dev.sample_takes⟩
  case unit =>
    intro hk h
    rw [monBin_log (n := 1) (l := 0) h (by rw [hk]; decide) (by decide), hk]
    rfl

end Sys2Proof.Machine
end

section
/-! SUPPORT. Probes of a tile's quench loop: when they start, what they draw, and what their samples add to the window (R362 to R368). -/

namespace Sys2Proof.Machine

variable {d : Dev} {t : Nat}

/-! ### The calibration key (R362, R363) -/

theorem Dev.level_setNum {p : Param} (h : p ≠ P.qncLevel) (hf : p ≠ P.qncFloor) (r v : Nat) : (d.setNum p r v).level t = d.level t := by
  have hl : tabGet? (P.qncLevel, t) (d.setNum p r v).dict.nums = tabGet? (P.qncLevel, t) d.dict.nums :=
    tabGet?_set_other (fun e => h (Prod.ext_iff.1 e).1) _ _
  unfold Dev.level
  rw [hl, Dev.num_setNum, if_neg fun e => hf e.1]

/-- What a probe's start reads of the device besides its units and its generator: the loop's records, the generation of the calibration key and the level. -/
def Dev.sameLoop (e d : Dev) (t : Nat) : Prop := e.quench = d.quench ∧ e.vault.calibration = d.vault.calibration ∧ e.level t = d.level t

theorem Dev.sameLoop.trans {a b c : Dev} (h : a.sameLoop b t) (g : b.sameLoop c t) : a.sameLoop c t :=
  ⟨h.1.trans g.1, h.2.1.trans g.2.1, h.2.2.trans g.2.2⟩

theorem Dev.draw_sameLoop (d : Dev) (t n : Nat) : (d.draw n).2.sameLoop d t := by
  refine ⟨?_, congrArg VaultSt.calibration (d.draw_vault n), ?_⟩
  · obtain ⟨c, b, k, h⟩ := d.draw_frame n
    rw [h]
  · unfold Dev.draw Dev.generate
    dsimp only
    split
    · split
      · exact Dev.level_setNum (by decide) (by decide) _ _
      · rfl
    · rfl

/-- The calibration key is drawn. -/
def Dev.keyDrawn (d : Dev) : Dev := (d.draw 256).2.onVault (fun v => { v with calibrationKey := some (d.draw 256).1 })
/-- The fixed-class input is drawn. -/
def Dev.inputDrawn (d : Dev) : Dev := (d.draw 64).2.onVault (fun v => { v with calibrationInput := some (d.draw 64).1 })

theorem Dev.keyDrawn_sameLoop (d : Dev) (t : Nat) : d.keyDrawn.sameLoop d t := d.draw_sameLoop t 256
theorem Dev.inputDrawn_sameLoop (d : Dev) (t : Nat) : d.inputDrawn.sameLoop d t := d.draw_sameLoop t 64

theorem Dev.drawCalibration_eq (d : Dev) : d.drawCalibration =
    if d.vault.calibrationKey.isSome then d else if d.vault.calibrationInput.isSome then d.keyDrawn else d.keyDrawn.inputDrawn := by
  refine ite_congr rfl (fun _ => rfl) fun _ => ite_congr ?_ (fun _ => rfl) fun _ => rfl
  show ((d.draw 256).2.vault.calibrationInput.isSome = true) = _
  rw [Dev.draw_vault]

theorem Dev.drawCalibration_sameLoop (d : Dev) (t : Nat) : d.drawCalibration.sameLoop d t := by
  rw [Dev.drawCalibration_eq]
  split
  · exact ⟨rfl, rfl, rfl⟩
  split
  · exact d.keyDrawn_sameLoop t
  · exact (d.keyDrawn.inputDrawn_sameLoop t).trans (d.keyDrawn_sameLoop t)

/-! ### A probe starts and ends (R362 to R366, R374) -/

/-- What the key register of a tile holds during a probe. -/
def Dev.calibrationHeld (d : Dev) (t : Nat) : KeyHeld :=
  { node := 2 ^ 28, gen := d.vault.calibration, slice := 0xFFFF, order := d.probeOrder t, form := 8 }

/-- The calibration key stands in the key register. -/
def Dev.calibrationLoaded (d : Dev) (t : Nat) (held : KeyHeld) : Dev :=
  if (d.unit t).key = some held then d else d.loadShares t held (d.vault.calibrationKey.getD [])

theorem Dev.calibrationLoaded_level (d : Dev) (t : Nat) (held : KeyHeld) : (d.calibrationLoaded t held).level t = d.level t := by
  unfold Dev.calibrationLoaded
  split <;> rfl

/-- The class and the input of a probe are drawn, and it begins at level `l`. -/
def Dev.probeBegun (d : Dev) (t l : Nat) (idle : Bool) : Dev :=
  (d.fresh.2.onQ t (fun q => { q with
    probing := true, idleProbe := idle, probeEnded := none, length := probeLength q.lastOrder l, fixed := !Config.freeBool d.freeCtr,
    input := if Config.freeBool d.freeCtr then drawBytes d.freeCtr 64 else d.vault.calibrationInput.getD [] })).sparkDraw t
      (if Config.freeBool d.freeCtr then 5 else 1)

/-- The two ways of choosing by the class are one. -/
theorem Dev.probeBegun_fixed (b : Dev) (t l : Nat) (idle : Bool) : b.probeBegun t l idle =
    let fixed := !Config.freeBool b.freeCtr
    (b.fresh.2.onQ t (fun q => { q with
      probing := true, idleProbe := idle, probeEnded := none, length := probeLength q.lastOrder l, fixed := fixed,
      input := if fixed then b.vault.calibrationInput.getD [] else drawBytes b.freeCtr 64 })).sparkDraw t (if fixed then 1 else 5) := by
  unfold Dev.probeBegun
  cases Config.freeBool b.freeCtr <;> rfl

theorem Dev.startProbe_eq (d : Dev) (t : Nat) (idle : Bool) :
    d.startProbe t idle = (d.drawCalibration.calibrationLoaded t (d.calibrationHeld t)).probeBegun t (d.level t) idle := by
  obtain ⟨hq, hc, hl⟩ := d.drawCalibration_sameLoop t
  have hheld : d.drawCalibration.calibrationHeld t = d.calibrationHeld t := by
    simp only [Dev.calibrationHeld, Dev.probeOrder, Dev.q, hq, hc, hl]
  have hload : (if (d.drawCalibration.unit t).key == some (d.drawCalibration.calibrationHeld t) then d.drawCalibration
      else d.drawCalibration.loadShares t (d.drawCalibration.calibrationHeld t) (d.drawCalibration.vault.calibrationKey.getD [])) =
      d.drawCalibration.calibrationLoaded t (d.drawCalibration.calibrationHeld t) := ite_congr (propext beq_iff_eq) (fun _ => rfl) fun _ => rfl
  rw [← hheld, ← hl, ← Dev.calibrationLoaded_level d.drawCalibration t (d.drawCalibration.calibrationHeld t), Dev.probeBegun_fixed, ← hload]
  rfl

/-- The loop runs on the tile, which stands between two activities with its spark generator seeded. -/
def Dev.freeToProbe (d : Dev) (t : Nat) : Prop := d.quenchRuns t = true ∧ d.tileFree t = true ∧ (d.unit t).spark.seeded = true

/-- A probe is due for its credit (R365). -/
def Dev.dueToProbe (d : Dev) (t : Nat) : Prop := d.freeToProbe t ∧ d.probeDue t ≤ (d.q t).credit ∧ (d.unit t).pool ≠ .returning

/-- A tile in service idles, or calibrates (R366, R376). -/
def Dev.idleToProbe (d : Dev) (t : Nat) : Prop :=
  d.freeToProbe t ∧ ((d.flag P.qncIdleProbe 0 = true ∧ (d.unit t).pool ≠ .returning) ∨ (d.q t).calibrating = true)

/-- A due probe's credit is spent. -/
def Dev.creditSpent (d : Dev) (t : Nat) : Dev := d.onQ t (fun q => { q with credit := q.credit - d.probeDue t })

theorem Dev.calibrationHeld_creditSpent (d : Dev) (t : Nat) : (d.creditSpent t).calibrationHeld t = d.calibrationHeld t := by
  have hq : ((d.creditSpent t).q t).lastOrder = (d.q t).lastOrder := by rw [Dev.creditSpent, Dev.q_onQ, if_pos rfl]
  simp only [Dev.calibrationHeld, Dev.probeOrder, hq]
  rfl

theorem Dev.dueToProbe_iff : d.dueToProbe t ↔
    (d.quenchRuns t && d.tileFree t && (d.unit t).spark.seeded && (d.q t).credit ≥ d.probeDue t && (d.unit t).pool != .returning) = true := by
  simp only [Dev.dueToProbe, Dev.freeToProbe, Bool.and_eq_true, decide_eq_true_eq, bne_iff_ne, and_assoc, ge_iff_le]

theorem Dev.idleToProbe_iff : d.idleToProbe t ↔
    (d.quenchRuns t && d.tileFree t && (d.unit t).spark.seeded && ((d.flag P.qncIdleProbe 0 && (d.unit t).pool != .returning) || (d.q t).calibrating)) = true := by
  simp only [Dev.idleToProbe, Dev.freeToProbe, Bool.and_eq_true, Bool.or_eq_true, bne_iff_ne, and_assoc]

theorem probeRun_not (h : ¬ d.dueToProbe t) : probeRun t d = d := if_neg (mt Dev.dueToProbe_iff.2 h)
theorem probeRun_due (h : d.dueToProbe t) : probeRun t d = (d.creditSpent t).startProbe t false := if_pos (Dev.dueToProbe_iff.1 h)
theorem idleProbeStart_not (h : ¬ d.idleToProbe t) : idleProbeStart t d = d := if_neg (mt Dev.idleToProbe_iff.2 h)
theorem idleProbeStart_idle (h : d.idleToProbe t) : idleProbeStart t d = d.startProbe t true := if_pos (Dev.idleToProbe_iff.1 h)

theorem probeEnd_not (h : (d.q t).probing = false) : probeEnd t d = d := if_neg (ne_true_of_eq_false h)
theorem probeEnd_probing (h : (d.q t).probing = true) : probeEnd t d =
    ((d.fresh.2.onQ t (fun q => { q with probing := false, probeEnded := some d.now })).sparkDraw t
      (if 1 ≤ d.level t then (d.q t).length else Config.freeNat d.freeCtr % ((d.q t).length + 1))).applyLevel t := if_pos h

/-! ### The end of a window (R369) -/

theorem quenchWindowEnd_rests (h : (d.q t).probes < 16384 ∨ (d.q t).windowEnded = true) : quenchWindowEnd t d = d :=
  if_pos (Bool.or_eq_true_iff.2 (h.imp_left decide_eq_true))

theorem quenchWindowEnd_full (h : 16384 ≤ (d.q t).probes) (hw : (d.q t).windowEnded = false) : quenchWindowEnd t d =
    if (d.q t).fixedCount < 4096 ∨ (d.q t).randomCount < 4096 then
      (d.addNum P.qncInvalidWindowCount t 1).onQ t (fun q => { q with probes := 0, fixedCount := 0, randomCount := 0, acc := [], base := [] })
    else d.onQ t (fun q => { q with windowEnded := true }) := by
  have hrests : ¬ ((d.q t).probes < windowProbes || (d.q t).windowEnded) = true := fun c =>
    (Bool.or_eq_true_iff.1 c).elim (fun c => Nat.not_lt.2 h (of_decide_eq_true c)) (ne_true_of_eq_false hw)
  refine (if_neg hrests).trans ?_
  simp only [Bool.or_eq_true, decide_eq_true_eq]

/-! ### The samples of a probe (R367, R368) -/

section
variable {α β κ : Type} {step : α → κ → α} {get : α → β} {f : β → β} {k : κ}

/-- A fold none of whose steps changes what `get` reads leaves it. -/
theorem get_foldl_same (l : List κ) (h : ∀ a, ∀ j ∈ l, get (step a j) = get a) (a : α) : get (l.foldl step a) = get a := by
  induction l generalizing a with
  | nil => rfl
  | cons j l ih => exact (ih (fun b i hi => h b i (List.mem_cons_of_mem _ hi)) _).trans (h a j List.mem_cons_self)

/-- A fold over distinct keys, of which the step at `k` alone changes what `get` reads, changes it once. -/
theorem get_foldl_once (hsame : ∀ a, get (step a k) = f (get a)) (l : List κ) (hd : l.Nodup) (hk : k ∈ l)
    (hother : ∀ a, ∀ j ∈ l, j ≠ k → get (step a j) = get a) (a : α) : get (l.foldl step a) = f (get a) := by
  obtain ⟨l₁, l₂, rfl⟩ := List.append_of_mem hk
  obtain ⟨-, hd₂, hne⟩ := List.nodup_append.1 hd
  have hne₁ (j : κ) (hj : j ∈ l₁) : j ≠ k := hne j hj k List.mem_cons_self
  have hne₂ (j : κ) (hj : j ∈ l₂) : j ≠ k := fun e => (List.nodup_cons.1 hd₂).1 (e ▸ hj)
  rw [List.foldl_append, List.foldl_cons,
    get_foldl_same l₂ fun b j hj => hother b j (List.mem_append_right _ (List.mem_cons_of_mem _ hj)) (hne₂ j hj), hsame,
    get_foldl_same l₁ fun b j hj => hother b j (List.mem_append_left _ hj) (hne₁ j hj)]

end

@[simp] theorem length_pointSums (len : Nat) (codes : List Nat) : (pointSums len codes).length = 512 := by simp [pointSums]

/-- An accumulator with no samples. -/
@[reducible] def QAcc.empty : QAcc := { sum := 0, sumSq := 0 }
/-- One sum and its square enter an accumulator. -/
def QAcc.plus (x : Nat) (o : QAcc) : QAcc := { sum := o.sum + x, sumSq := o.sumSq + x * x }

/-- The sums of a probe's points at sensor `s` enter the accumulators of a class. -/
def addSums (s : Nat) (fixed : Bool) (l : List Nat) (acc : Tab (Nat × Nat × Bool) QAcc) : Tab (Nat × Nat × Bool) QAcc :=
  l.zipIdx.foldl (fun a x => tabMod QAcc.empty (s, x.2, fixed) (QAcc.plus x.1) a) acc

/-- A sensor's codes enter the sums of its baseline. -/
def addBaseline (p : ProbeSample) (b : Tab Nat (Nat × Nat × Nat)) (s : Nat) : Tab Nat (Nat × Nat × Nat) :=
  tabMod (0, 0, 0) s (fun x => (x.1 + (p.codes.getD s []).length, x.2.1 + (p.codes.getD s []).foldl (· + ·) 0,
    x.2.2 + (p.codes.getD s []).foldl (fun a c => a + c * c) 0)) b

/-- The point sums of a probe at sensor `s` enter the accumulators of its class. -/
def QuenchSt.addSensor (q : QuenchSt) (p : ProbeSample) (acc : Tab (Nat × Nat × Bool) QAcc) (s : Nat) : Tab (Nat × Nat × Bool) QAcc :=
  addSums s q.fixed (pointSums q.length (p.codes.getD s [])) acc

/-- The accumulators and the baseline sums with the samples of the ended probe. -/
def QuenchSt.accWith (q : QuenchSt) (p : ProbeSample) : Tab (Nat × Nat × Bool) QAcc := (List.range 4).foldl (q.addSensor p) q.acc
def QuenchSt.baseWith (q : QuenchSt) (p : ProbeSample) : Tab Nat (Nat × Nat × Nat) := (List.range 4).foldl (addBaseline p) q.base

/-- The loop's record with the samples of its ended probe. -/
def QuenchSt.committed (q : QuenchSt) (p : ProbeSample) : QuenchSt :=
  { q with probeEnded := none, probes := q.probes + 1, fixedCount := q.fixedCount + bnat q.fixed, randomCount := q.randomCount + bnat (!q.fixed),
           acc := q.accWith p, base := q.baseWith p }

theorem zipIdx_eq_map_range (l : List Nat) : l.zipIdx = (List.range l.length).map (fun k => (l.getD k 0, k)) :=
  List.ext_getElem (by simp) fun i h _ => by
    have hi : i < l.length := by simpa using h
    simp [hi]

theorem tabGet_addSums (s n k : Nat) (fixed c : Bool) (l : List Nat) (acc : Tab (Nat × Nat × Bool) QAcc) (hk : k < l.length) :
    tabGet QAcc.empty (n, k, c) (addSums s fixed l acc) =
      if s = n ∧ c = fixed then QAcc.plus (l.getD k 0) (tabGet QAcc.empty (n, k, c) acc) else tabGet QAcc.empty (n, k, c) acc := by
  have hkey (j : Nat) : (s, j, fixed) = (n, k, c) ↔ j = k ∧ s = n ∧ c = fixed := by
    simp only [Prod.mk.injEq]
    exact ⟨fun ⟨hs, hj, hc⟩ => ⟨hj, hs, hc.symm⟩, fun ⟨hj, hs, hc⟩ => ⟨hs, hj, hc.symm⟩⟩
  have hstep (a : Tab (Nat × Nat × Bool) QAcc) (j : Nat) : tabGet QAcc.empty (n, k, c) (tabMod QAcc.empty (s, j, fixed) (QAcc.plus (l.getD j 0)) a) = _ :=
    tabGet_mod _ _ _ _ a
  unfold addSums
  rw [zipIdx_eq_map_range, List.foldl_map]
  by_cases h : s = n ∧ c = fixed
  · obtain ⟨rfl, rfl⟩ := h
    rw [if_pos ⟨rfl, rfl⟩]
    exact get_foldl_once (fun a => (hstep a k).trans (if_pos rfl)) _ List.nodup_range (List.mem_range.2 hk)
      (fun a j _ hj => (hstep a j).trans (if_neg fun e => hj ((hkey j).1 e).1)) acc
  · rw [if_neg h]
    exact get_foldl_same (get := tabGet QAcc.empty (n, k, c)) _ (fun a j _ => (hstep a j).trans (if_neg fun e => h ((hkey j).1 e).2)) acc

theorem QuenchSt.tabGet_accWith (q : QuenchSt) (p : ProbeSample) {n k : Nat} (hn : n < 4) (hk : k < 512) (c : Bool) :
    tabGet QAcc.empty (n, k, c) (q.accWith p) =
      if c = q.fixed then QAcc.plus ((pointSums q.length (p.codes.getD n [])).getD k 0) (tabGet QAcc.empty (n, k, c) q.acc)
      else tabGet QAcc.empty (n, k, c) q.acc := by
  have hlen (s : Nat) : k < (pointSums q.length (p.codes.getD s [])).length := (length_pointSums _ _).symm ▸ hk
  have hstep (a : Tab (Nat × Nat × Bool) QAcc) (s : Nat) : tabGet QAcc.empty (n, k, c) (q.addSensor p a s) = _ := tabGet_addSums s n k q.fixed c _ a (hlen s)
  have hfold := get_foldl_once (step := q.addSensor p) (get := tabGet QAcc.empty (n, k, c)) (k := n)
    (f := fun o => if c = q.fixed then QAcc.plus ((pointSums q.length (p.codes.getD n [])).getD k 0) o else o)
    (fun a => (hstep a n).trans (ite_congr (propext (and_iff_right rfl)) (fun _ => rfl) fun _ => rfl)) (List.range 4) List.nodup_range (List.mem_range.2 hn)
    fun a s _ hs => (hstep a s).trans (if_neg fun h => hs h.1)
  exact hfold q.acc

theorem Dev.onQ_congr {f g : QuenchSt → QuenchSt} (h : f (d.q t) = g (d.q t)) : d.onQ t f = d.onQ t g := congrArg (fun q => d.onQuench (tabSet t q)) h

section
variable {e : Nat} (p : ProbeSample) (he : (d.q t).probeEnded = some e)
include he

theorem probeSampleCommit_early (h : d.now < e + 100) : probeSampleCommit t p d = d := by
  unfold probeSampleCommit
  simp only [he]
  exact if_pos h

/-- After the microsecond the samples are lost where the window has ended, the loop is stopped or an excursion reached the probe; else they enter. -/
theorem probeSampleCommit_late (h : e + 100 ≤ d.now) : probeSampleCommit t p d =
    if (d.q t).windowEnded = true ∨ d.quenchRuns t = false ∨ d.probeDirty t (e - (d.q t).length / 16) e = true then d.onQ t (fun q => { q with probeEnded := none })
    else d.onQ t (fun q => q.committed p) := by
  unfold probeSampleCommit
  simp only [he]
  refine (if_neg (Nat.not_lt.2 h)).trans (ite_congr ?_ (fun _ => rfl) fun _ => Dev.onQ_congr rfl)
  simp only [Bool.or_eq_true, Bool.not_eq_true', or_assoc]

end

theorem probeSampleCommit_none (h : (d.q t).probeEnded = none) (p : ProbeSample) : probeSampleCommit t p d = d := by
  unfold probeSampleCommit
  simp only [h]

end Sys2Proof.Machine
end

section
/-! SUPPORT. The statistic of a window and what it does to the tile's level (R369, R373 to R376, R380), and from it and the probes O45. -/

namespace Sys2Proof.Machine

variable {d : Dev} {t : Nat}

/-! ### Welch's t squared (R369) -/

section
variable (f r : QAcc) (nF nR : Nat)

/-- The difference of the two means, with both sums scaled to one denominator. -/
def meanGap : Nat := Int.natAbs ((f.sum * nR : Nat) - (r.sum * nF : Nat) : Int)

/-- Numerator and denominator of Welch's t squared. -/
def welchNum : Nat := meanGap f r nF nR * meanGap f r nF nR * (nF - 1) * (nR - 1)
def welchDen : Nat := (f.sumSq * nF - f.sum * f.sum) * nR * nR * (nR - 1) + (r.sumSq * nR - r.sum * r.sum) * nF * nF * (nF - 1)

theorem meanGap_eq : (if f.sum * nR ≥ r.sum * nF then f.sum * nR - r.sum * nF else r.sum * nF - f.sum * nR) = meanGap f r nF nR := by
  unfold meanGap
  split <;> omega

theorem welchSquare_eq : welchSquare f r nF nR =
    if welchDen f r nF nR = 0 then (if meanGap f r nF nR = 0 then (0, 1) else (9999 * 9999, 10000))
    else if 9999 * 9999 * welchDen f r nF nR ≤ 10000 * welchNum f r nF nR then (9999 * 9999, 10000) else (welchNum f r nF nR, welchDen f r nF nR) := by
  unfold welchSquare
  simp only [meanGap_eq, beq_iff_eq]
  rfl

theorem welchSquare_den_pos : 0 < (welchSquare f r nF nR).2 := by
  rw [welchSquare_eq]
  split
  · split <;> decide
  next h =>
    split
    · decide
    · exact Nat.pos_of_ne_zero h

end

/-! ### The greatest statistic (R369) -/

/-- One ratio is below another where it is at most a third that is below it. -/
theorem ratio_lt_of_le_of_lt {a b c : Nat × Nat} (ha : 0 < a.2) (hab : a.1 * b.2 ≤ b.1 * a.2) (hbc : b.1 * c.2 < c.1 * b.2) :
    a.1 * c.2 < c.1 * a.2 := by
  refine Nat.lt_of_mul_lt_mul_right (a := b.2) ?_
  calc a.1 * c.2 * b.2 = a.1 * b.2 * c.2 := Nat.mul_right_comm _ _ _
    _ ≤ b.1 * a.2 * c.2 := Nat.mul_le_mul_right _ hab
    _ = b.1 * c.2 * a.2 := Nat.mul_right_comm _ _ _
    _ < c.1 * b.2 * a.2 := Nat.mul_lt_mul_of_pos_right hbc ha
    _ = c.1 * a.2 * b.2 := Nat.mul_right_comm _ _ _

section
variable (value : Nat → Nat × Nat)

/-- The running maximum of ratios: a later index takes over only where its ratio is greater. -/
def keepGreatest (b : (Nat × Nat) × Nat) (i : Nat) : (Nat × Nat) × Nat := if i == 0 || (value i).1 * b.1.2 > b.1.1 * (value i).2 then (value i, i) else b

/-- Of the ratios up to index `n` the greatest stands in `b`, with the lowest index that has it. -/
def GreatestUpTo (n : Nat) (b : (Nat × Nat) × Nat) : Prop :=
  b.1 = value b.2 ∧ b.2 ≤ n ∧ ∀ j, j ≤ n → (value j).1 * b.1.2 < b.1.1 * (value j).2 ∨ ((value j).1 * b.1.2 = b.1.1 * (value j).2 ∧ b.2 ≤ j)

variable {value}

theorem GreatestUpTo.keepGreatest {n : Nat} {b : (Nat × Nat) × Nat} (h : GreatestUpTo value n b) (hpos : ∀ i, 0 < (value i).2) :
    GreatestUpTo value (n + 1) (keepGreatest value b (n + 1)) := by
  obtain ⟨hb, hn, hmax⟩ := h
  by_cases hgt : b.1.1 * (value (n + 1)).2 < (value (n + 1)).1 * b.1.2
  · have hnew : Machine.keepGreatest value b (n + 1) = (value (n + 1), n + 1) := if_pos (by simpa using hgt)
    rw [hnew]
    refine ⟨rfl, Nat.le_refl _, fun j hj => ?_⟩
    obtain hj | rfl := Nat.le_succ_iff.1 hj
    · exact .inl (ratio_lt_of_le_of_lt (hpos j) ((hmax j hj).elim Nat.le_of_lt fun h => Nat.le_of_eq h.1) hgt)
    · exact .inr ⟨rfl, Nat.le_refl _⟩
  · have hold : Machine.keepGreatest value b (n + 1) = b := if_neg (by simpa using hgt)
    rw [hold]
    refine ⟨hb, Nat.le_succ_of_le hn, fun j hj => ?_⟩
    obtain hj | rfl := Nat.le_succ_iff.1 hj
    · exact hmax j hj
    · exact (Nat.lt_or_eq_of_le (Nat.not_lt.1 hgt)).imp_right fun h => ⟨h, Nat.le_succ_of_le hn⟩

theorem foldl_keepGreatest (hpos : ∀ i, 0 < (value i).2) (z : (Nat × Nat) × Nat) (n : Nat) :
    GreatestUpTo value n ((List.range (n + 1)).foldl (keepGreatest value) z) := by
  induction n with
  | zero => exact ⟨rfl, Nat.le_refl 0, fun j hj => .inr (by rw [Nat.le_zero.1 hj]; exact ⟨rfl, Nat.le_refl 0⟩)⟩
  | succ n ih =>
    rw [List.range_succ, List.foldl_append]
    exact ih.keepGreatest hpos

end

/-- The square of the statistic of the window at sensor `n` and point `k`. -/
def QuenchSt.welchAt (q : QuenchSt) (n k : Nat) : Nat × Nat :=
  welchSquare (tabGet QAcc.empty (n, k, true) q.acc) (tabGet QAcc.empty (n, k, false) q.acc) q.fixedCount q.randomCount

theorem QuenchSt.statistic_greatest (q : QuenchSt) :
    let r := q.statistic
    let best := q.welchAt r.2.1 r.2.2
    r.2.1 < 4 ∧ r.2.2 < 512 ∧ r.1 = hundredths best ∧
    ∀ n k, n < 4 → k < 512 → (q.welchAt n k).1 * best.2 < best.1 * (q.welchAt n k).2 ∨
      ((q.welchAt n k).1 * best.2 = best.1 * (q.welchAt n k).2 ∧ 512 * r.2.1 + r.2.2 ≤ 512 * n + k) := by
  have hmax := foldl_keepGreatest (value := fun i => q.welchAt (i / 512) (i % 512)) (fun _ => welchSquare_den_pos _ _ _ _) ((0, 1), 0) 2047
  have hstat : q.statistic = (fun b : (Nat × Nat) × Nat => (hundredths b.1, b.2 / 512, b.2 % 512))
      ((List.range (2047 + 1)).foldl (keepGreatest (fun i => q.welchAt (i / 512) (i % 512))) ((0, 1), 0)) := by
    unfold QuenchSt.statistic keepGreatest QuenchSt.welchAt
    rfl
  rw [hstat]
  generalize (List.range (2047 + 1)).foldl (keepGreatest (fun i => q.welchAt (i / 512) (i % 512))) ((0, 1), 0) = b at hmax
  obtain ⟨hb, hlt, hmax⟩ := hmax
  dsimp only at hb hmax ⊢
  rw [← hb]
  refine ⟨by omega, Nat.mod_lt _ (by decide), rfl, fun n k hn hk => ?_⟩
  have h := hmax (512 * n + k) (by omega)
  rw [show (512 * n + k) / 512 = n by omega, show (512 * n + k) % 512 = k by omega] at h
  rwa [Nat.div_add_mod]

/-! ### What the statistic does (R373, R375, R376, R380) -/

/-- T is reported and sampled, the baseline moves, and the next window begins. -/
def Dev.windowReported (d : Dev) (t : Nat) : Dev :=
  (((((d.setNum P.qncTLast t (d.q t).statistic.1).setNum P.qncTWhere t (0x8000 + (d.q t).statistic.2.1 * 512 + (d.q t).statistic.2.2)).sample
    (1024 + t) ((d.q t).statistic.1 : Int)).updateBaseline t).onQ t
      (fun q => { q with probes := 0, fixedCount := 0, randomCount := 0, acc := [], base := [], windowEnded := false }))

/-- The clean count of a tile. -/
def Dev.cleanSet (d : Dev) (t n : Nat) : Dev := d.onQ t (fun q => { q with cleanCount := n })

/-- The level that the result moves: the one asked for, else the one in force. -/
def Dev.levelAsked (d : Dev) (t : Nat) : Nat := (d.q t).pendingLevel.getD ((d.windowReported t).level t)

theorem Dev.num_onQ (f : QuenchSt → QuenchSt) (p : Param) (r : Nat) : (d.onQ t f).num p r = d.num p r := rfl

theorem Dev.sample_quench (d : Dev) (n : Nat) (x : Int) : (d.sample n x).quench = d.quench := by
  unfold Dev.sample
  dsimp only
  split <;> rfl

theorem Dev.windowReported_q (d : Dev) (t : Nat) : (d.windowReported t).q t =
    { d.q t with probes := 0, fixedCount := 0, randomCount := 0, acc := [], base := [], windowEnded := false } := by
  have hq (e : Dev) (n : Nat) (x : Int) : ((e.sample n x).updateBaseline t).q t = e.q t := congrArg (tabGet QuenchSt.reset t) (Dev.sample_quench e n x)
  rw [Dev.windowReported, Dev.q_onQ, if_pos rfl, hq]
  rfl

section
variable (w : WelchResult)

theorem welchStatisticDone_not (h : (d.q t).windowEnded = false) : welchStatisticDone t w d = d := if_pos (by rw [h]; rfl)

section
variable (h : (d.q t).windowEnded = true)
include h

/-- A tile in service (R373, R375). -/
theorem welchStatisticDone_serving (hc : (d.q t).calibrating = false) : welchStatisticDone t w d =
    let e := d.windowReported t
    let l := d.levelAsked t
    let T := (d.q t).statistic.1
    if e.num P.qncTTarget 0 ≤ T then (if l < e.num P.qncCeiling 0 then (e.cleanSet t 0).wantLevel t (l + 1) else (e.cleanSet t 0).leaky t)
    else if e.num P.qncTAction 0 ≤ T then e.cleanSet t 0
    else if 7 ≤ (d.q t).cleanCount then (if e.num P.qncFloor 0 < l then (e.cleanSet t 0).wantLevel t (l - 1) else e.cleanSet t 0)
    else e.cleanSet t ((d.q t).cleanCount + 1) := by
  have hclean : (d.windowReported t).onQ t (fun q => { q with cleanCount := q.cleanCount + 1 }) = (d.windowReported t).cleanSet t ((d.q t).cleanCount + 1) :=
    Dev.onQ_congr (by rw [Dev.windowReported_q])
  dsimp only
  rw [← hclean]
  unfold welchStatisticDone Dev.levelAsked Dev.windowReported
  dsimp only
  generalize (d.q t).statistic = r
  obtain ⟨T, n, k⟩ := r
  refine (if_neg (by rw [h]; decide)).trans ((if_neg (ne_true_of_eq_false hc)).trans ?_)
  simp only [Dev.num_onQ, Dev.cleanSet, ge_iff_le, gt_iff_lt, Nat.reduceLeDiff]
  rfl

/-- A tile that calibrates (R376). -/
theorem welchStatisticDone_calibrating (hc : (d.q t).calibrating = true) : welchStatisticDone t w d =
    let e := d.windowReported t
    let l := d.levelAsked t
    let T := (d.q t).statistic.1
    if e.num P.qncTTarget 0 ≤ T then
      (if e.num P.qncCeiling 0 ≤ l then
        let f := (((e.setNum P.qncLeaky t 1).addNum P.qncLeakyCount t 1).onQ t (fun q => { q with calibrating := false, passes := 0 })).raiseUnit 0x0803 t T
        if (f.unit t).pool = .returning then (f.addNum P.tilReturnFailCount t 1).setPool t .out .alarm else f
      else (e.onQ t (fun q => { q with passes := 0 })).wantLevel t (l + 1))
    else if 1 ≤ (d.q t).passes then e.calibrated t
    else e.onQ t (fun q => { q with passes := q.passes + 1 }) := by
  unfold welchStatisticDone Dev.levelAsked Dev.windowReported
  dsimp only
  generalize (d.q t).statistic = r
  obtain ⟨T, n, k⟩ := r
  refine (if_neg (by rw [h]; decide)).trans ((if_pos hc).trans ?_)
  refine ite_congr rfl (fun _ => ite_congr rfl (fun _ => ?_) fun _ => rfl) fun _ => ite_congr (propext Nat.succ_le_succ_iff) (fun _ => rfl) fun _ => rfl
  simp only [beq_iff_eq]

end
end

/-! ### Levels (R374) -/

theorem Dev.setLevel_same {l : Nat} (h : d.level t = l) : d.setLevel t l = d := if_pos (beq_iff_eq.2 h.symm)

theorem Dev.setLevel_changes {l : Nat} (h : d.level t ≠ l) : d.setLevel t l =
    ((d.setNum P.qncLevel t l).raiseUnit 0x0804 t (d.level t + l * 256 + d.num P.qncTLast t * 65536 + d.num P.qncTWhere t * 2 ^ 32)).addNum
      (if d.level t < l then P.qncRaiseCount else P.qncLowerCount) t 1 := by
  refine (if_neg (mt beq_iff_eq.1 (Ne.symm h))).trans ?_
  have hnum {p : Param} (hp : P.qncLevel ≠ p) : (d.setNum P.qncLevel t l).num p t = d.num p t := (Dev.num_setNum ..).trans (if_neg fun e => hp e.1)
  rw [hnum (by decide), hnum (by decide)]
  split <;> rfl

/-! ### The obligation -/

/-- Settles O45: each command of the loop is read off branch by branch; the statistic is the greatest of its window by induction over the points. -/
theorem quenchLoop : Obligations.QuenchLoop := by
  refine ⟨?probes, ?samples, QuenchSt.statistic_greatest, ?welch, ?results, fun d t l => ⟨Dev.setLevel_same, Dev.setLevel_changes⟩⟩
  case probes =>
    intro s t ht d q free due idle len held started
    have row {c : Instr} {g : Dev → Dev} {e : Dev} (h : exec c s = s.runPart t nTiles g) (hg : g d = e) : s.goes c e := State.goes_of_runPart h ht hg
    have hstart (e : Dev) (k : Bool) (hh : e.calibrationHeld t = held) (hl : e.level t = d.level t) : e.startProbe t k = started e k := by
      rw [Dev.startProbe_eq, hh, hl, Dev.drawCalibration_eq]
      rfl
    have hfull (hp : 16384 ≤ q.probes) (hw : q.windowEnded = false) := quenchWindowEnd_full hp hw
    exact ⟨fun h => row rfl (probeRun_not h), fun h => row rfl ((probeRun_due h).trans (hstart _ _ (d.calibrationHeld_creditSpent t) rfl)),
      fun h => row rfl (idleProbeStart_not h), fun h => row rfl ((idleProbeStart_idle h).trans (hstart _ _ rfl rfl)),
      fun h => row rfl (probeEnd_not h), fun h => row rfl (probeEnd_probing h), fun h => row rfl (quenchWindowEnd_rests h),
      fun hp hw => ⟨fun h => row rfl ((hfull hp hw).trans (if_pos h)),
        fun hF hR => row rfl ((hfull hp hw).trans (if_neg (not_or.2 ⟨Nat.not_lt.2 hF, Nat.not_lt.2 hR⟩)))⟩⟩
  case samples =>
    intro s t p ht d q len
    have row {c : Instr} {g : Dev → Dev} {e : Dev} (h : exec c s = s.runPart t nTiles g) (hg : g d = e) : s.goes c e := State.goes_of_runPart h ht hg
    refine ⟨fun h => row rfl (probeSampleCommit_none h p), fun e he => ?_⟩
    intro lost
    refine ⟨fun h => row rfl (probeSampleCommit_early p he h), fun h hlost => row rfl ((probeSampleCommit_late p he h).trans (if_pos hlost)), fun h hkept => ?_⟩
    exact ⟨q.accWith p, q.baseWith p, row rfl ((probeSampleCommit_late p he h).trans ((if_neg hkept).trans (Dev.onQ_congr rfl))),
      fun n k c hn hk => q.tabGet_accWith p hn hk c⟩
  case welch =>
    intro f r nF nR dF dR diff num den top
    have heq := welchSquare_eq f r nF nR
    exact ⟨fun h0 hd => heq.trans ((if_pos h0).trans (if_pos hd)), fun h0 hd => heq.trans ((if_pos h0).trans (if_neg hd)),
      fun h0 hn => heq.trans ((if_neg h0).trans (if_pos hn)), fun h0 hn => heq.trans ((if_neg h0).trans (if_neg (Nat.not_le.2 hn)))⟩
  case results =>
    intro s t w ht d q r e level goes clean leaks top
    have row {x : Dev} (hx : welchStatisticDone t w d = x) : goes x := State.goes_of_runPart rfl ht hx
    refine ⟨fun h => row (welchStatisticDone_not w h), fun h hc => ?_, fun h hc => ?_⟩
    · have heq := welchStatisticDone_serving w h hc
      have hbelow (hl : ¬ leaks) (ha : r.1 < e.num P.qncTAction 0) := heq.trans ((if_neg hl).trans (if_neg (Nat.not_le.2 ha)))
      exact ⟨fun hl htop => row (heq.trans ((if_pos hl).trans (if_pos (Nat.not_le.1 htop)))),
        fun hl htop => row (heq.trans ((if_pos hl).trans (if_neg (Nat.not_lt.2 htop)))), fun hl ha => row (heq.trans ((if_neg hl).trans (if_pos ha))),
        fun hl ha hn => row ((hbelow hl ha).trans (if_neg (Nat.not_le.2 hn))), fun hl ha hn => row ((hbelow hl ha).trans (if_pos hn))⟩
    · have heq := welchStatisticDone_calibrating w h hc
      exact ⟨fun hl htop => row (heq.trans ((if_pos hl).trans (if_neg htop))), fun hl htop => row (heq.trans ((if_pos hl).trans (if_pos htop))),
        fun hl hp => row (heq.trans ((if_neg hl).trans (if_neg (Nat.not_le.2 (Nat.lt_one_iff.2 hp))))), fun hl hp => row (heq.trans ((if_neg hl).trans (if_pos hp)))⟩

end Sys2Proof.Machine
end

section
/-! SUPPORT. The clocks of an idle step, and from it and the queue O56 (R16, R436, R490, R492, R510, R556). -/

namespace Sys2Proof.Machine

/-- The stamp and its fraction alone move as fractions pass (R436). -/
theorem TimeSt.addFrac_frame (t : TimeSt) (n : Nat) : ∃ f g, t.addFrac n = { t with frac := f, stamp := g } := by
  unfold TimeSt.addFrac
  split
  · exact ⟨_, _, rfl⟩
  · exact ⟨_, _, rfl⟩

theorem TimeSt.addFrac_stopped {t : TimeSt} (h : t.crystalRuns = false) (n : Nat) : t.addFrac n = t := by
  unfold TimeSt.addFrac
  rw [if_pos (by simp [h])]

/-- The stamp never goes back, and holds at its largest value (R436). -/
theorem TimeSt.addFrac_stamp {t : TimeSt} (h : t.stamp < 2 ^ 48) (n : Nat) : t.stamp ≤ (t.addFrac n).stamp ∧ (t.addFrac n).stamp < 2 ^ 48 := by
  unfold TimeSt.addFrac
  split
  · exact ⟨Nat.le_refl _, h⟩
  · show t.stamp ≤ Nat.min _ _ ∧ Nat.min _ _ < 2 ^ 48
    simp only [Nat.min_def]
    split <;> omega

/-- Device time in a tick: it runs only while the main PLL is locked (R490, R492). -/
def TimeSt.ticked (t : TimeSt) : TimeSt := if t.pllLocked then { t with dev := (t.dev + 1) % 2 ^ 64 } else t

theorem idle_eq (s : State) :
    idle s = { s with dev := { s.dev with time := s.dev.time.ticked.addFrac 128, modes := { s.dev.modes with tickAlarms := 0, tickPower := false } } } := rfl

/-- Only device time moves with a tick. -/
theorem TimeSt.ticked_kept (t : TimeSt) : t.ticked.pllLocked = t.pllLocked ∧ t.ticked.crystalRuns = t.crystalRuns ∧ t.ticked.stamp = t.stamp ∧
    t.ticked.dev = if t.pllLocked then (t.dev + 1) % 2 ^ 64 else t.dev := by
  unfold TimeSt.ticked
  split <;> exact ⟨rfl, rfl, rfl, rfl⟩

/-- Settles O56: `step_cons` for a command that waits; without one the clocks of `idle_eq` move, the stamp by `addFrac` and device time by `ticked`. -/
theorem stepRunsFrontCommand : Obligations.StepRunsFrontCommand := by
  refine ⟨fun s c l h => step_cons h, fun s h => ⟨idle s, step_nil h, h, rfl, ?_⟩⟩
  obtain ⟨hlock, hcrystal, hstamp, hdev⟩ := s.dev.time.ticked_kept
  obtain ⟨f, g, hframe⟩ := s.dev.time.ticked.addFrac_frame 128
  have htime : (idle s).dev.time = s.dev.time.ticked.addFrac 128 := rfl
  refine ⟨?_, ?_, fun hc => ?_, fun hs => ?_⟩
  · show (idle s).dev.time.dev = _
    rw [htime, hframe]
    exact hdev
  · rw [htime, hframe]
    exact hlock
  · rw [htime, TimeSt.addFrac_stopped (hcrystal.trans hc), hstamp]
  · rw [htime, ← hstamp]
    exact TimeSt.addFrac_stamp (hstamp.symm ▸ hs) 128

end Sys2Proof.Machine
end

section
/-! SUPPORT. The tests a request meets before its effect, in their order, and from it O17 (R507, R513, R514, R517, R518). -/

namespace Sys2Proof.Machine

variable {d : Dev} {m : Msg} {p : Param} {w : Bool} {eff : Effect}

/-- A repetition is answered with the stored response (R513). -/
theorem Dev.serve_repeated {b : Bytes} (hh : d.heard m.src = true) (hr : d.repeated m.src m.reqId.toNat = some b) (o : Nat) :
    d.serve d.lc p o m w eff = d.resend m.src m.reqId.toNat b := by
  unfold Dev.serve
  simp only [hh, hr, Bool.not_true, Bool.false_eq_true, if_false]

section
variable (hh : d.heard m.src = true) (hr : d.repeated m.src m.reqId.toNat = none)
include hh hr

/-- While SCG_ANCHORS is empty, nothing else may be written (R507). -/
theorem Dev.serve_alone (ha : d.alone d.lc m.src = true) (hp : p ≠ P.scgAnchors) (o : Nat) :
    d.serve d.lc p o m w eff = d.respondTo m.src m.reqId.toNat (Reply.err resState) := by
  unfold Dev.serve
  simp only [hh, hr, ha, Bool.not_true, Bool.false_eq_true, if_false]
  exact if_pos (by simpa using hp)

variable {r : CatRow} (ha : d.alone d.lc m.src = false) (hc : catFind p = some r)
include ha hc

/-- A row that the parameter does not have (R510, R518). -/
theorem Dev.serve_noRow (hrow : r.rowOk m.row.toNat = false) (hk : r.kind ≠ .cmd) (o : Nat) :
    d.serve d.lc p o m w eff = d.respondTo m.src m.reqId.toNat (Reply.err resUnknown) := by
  unfold Dev.serve
  simp only [hh, hr, ha, hc, Bool.not_true, Bool.false_eq_true, if_false, Bool.false_and]
  exact if_pos (by simp [hrow, hk])

variable (hrow : r.rowOk m.row.toNat = true ∨ r.kind = .cmd)
include hrow

/-- A sender that may not (R517, R518). -/
theorem Dev.serve_mayNot (hmay : d.mayDo d.lc m.src p (r.index m.row.toNat) true m.body = none) (o : Nat) :
    d.serve d.lc p o m w eff = d.respondTo m.src m.reqId.toNat (Reply.err resAccess) := by
  unfold Dev.serve
  simp only [hh, hr, ha, hc, Bool.not_true, Bool.false_eq_true, if_false, Bool.false_and]
  rw [if_neg (by rcases hrow with h | h <;> simp [h]), hmay]

/-- An action that needs a second officer opens a ticket (R514). -/
theorem Dev.serve_dual {n : Nat} (hmay : d.mayDo d.lc m.src p (r.index m.row.toNat) true m.body = some true) (hn : m.src = .session n) (o : Nat) :
    d.serve d.lc p o m w eff = (d.openTicket p o n m w).2.respondTo m.src m.reqId.toNat (d.openTicket p o n m w).1 := by
  unfold Dev.serve
  simp only [hh, hr, ha, hc, Bool.not_true, Bool.false_eq_true, if_false, Bool.false_and]
  rw [if_neg (by rcases hrow with h | h <;> simp [h]), hmay]
  simp only [hn, Bool.not_false, Bool.and_self, if_true]

end

/-- The ticket of a dual-control action (R514). -/
def Dev.ticketFor (d : Dev) (p : Param) (n : Nat) (m : Msg) (w : Bool) : Ticket :=
  { number := d.mgmt.nextTicket, param := p, offset := 0, origin := n, msg := m, requested := d.now, digest := Sha2.sha384 (digestBytes p 0 m w) }

theorem Dev.openTicket_full (h : 16 ≤ d.mgmt.tickets.length) (o n : Nat) : d.openTicket p o n m w = (Reply.err resBusy, d) := if_pos h

theorem Dev.openTicket_opens (h : d.mgmt.tickets.length < 16) (n : Nat) : d.openTicket p 0 n m w =
    ({ result := resDualPending, detail := (d.ticketFor p n m w).number, data := [] },
      (d.onMgmt (fun g => { g with tickets := g.tickets ++ [d.ticketFor p n m w], nextTicket := g.nextTicket + 1 })).notifyAll (fun r => r == roleOfficer) 2
        (natLE 4 (d.ticketFor p n m w).number ++ natLE 3 p ++ [0] ++ natLE 4 m.row.toNat)) := if_neg (Nat.not_le.2 h)

/-- Every WRITE row is served as a write at OFFSET 0 (R511). -/
theorem WriteRow.serves {c : Msg → Instr} (h : WriteRow p c) : ∃ eff, ∀ m s, exec (c m) s = s.run (fun d => d.serve d.lc p 0 m true eff) := by
  have all : ∀ x : Param × (Msg → Instr), WriteRow x.1 x.2 → ∃ eff, ∀ m s, exec (x.2 m) s = s.run (fun d => d.serve d.lc x.1 0 m true eff) := by
    unfold WriteRow
    repeat refine List.forall_mem_cons.2 ⟨⟨_, fun _ _ => rfl⟩, ?_⟩
    exact fun _ hx => absurd hx List.not_mem_nil
  exact all (p, c) h

/-- Every command row is served as a command (R511). -/
theorem CommandRow.serves {c : Msg → Instr} (h : CommandRow p c) : ∃ eff, ∀ m s, exec (c m) s = s.run (fun d => d.serve d.lc p 0 m false eff) := by
  have all : ∀ x : Param × (Msg → Instr), CommandRow x.1 x.2 → ∃ eff, ∀ m s, exec (x.2 m) s = s.run (fun d => d.serve d.lc x.1 0 m false eff) := by
    unfold CommandRow
    repeat refine List.forall_mem_cons.2 ⟨⟨_, fun _ _ => rfl⟩, ?_⟩
    exact fun _ hx => absurd hx List.not_mem_nil
  exact all (p, c) h

theorem row_serves {c : Msg → Instr} (h : if w then WriteRow p c else CommandRow p c) :
    ∃ eff, ∀ m s, exec (c m) s = s.run (fun d => d.serve d.lc p 0 m w eff) := by
  cases w with
  | true => exact WriteRow.serves h
  | false => exact CommandRow.serves h

/-- Settles O17: each row serves its parameter, and serving meets its tests in order. -/
theorem requestsRefused : Obligations.RequestsRefused := by
  intro p w c s m h d id no
  obtain ⟨eff, he⟩ := row_serves h
  have row {e : Dev} (hd : d.serve d.lc p 0 m w eff = e) : exec (c m) s = .next (s.withDev e) := by
    rw [he, State.run_eq, ← hd]
  refine ⟨fun hh => row (Dev.serve_unheard hh ..), fun hh b hb => row (Dev.serve_repeated hh hb 0), fun hh hr => ⟨fun ha hp => row (Dev.serve_alone hh hr ha hp 0), fun ha r hc => ?_⟩⟩
  refine ⟨fun hrow hk => row (Dev.serve_noRow hh hr ha hc hrow hk 0), fun hrow => ⟨fun hmay => row (Dev.serve_mayNot hh hr ha hc hrow hmay 0), fun hmay n hn => ?_⟩⟩
  have hdual := Dev.serve_dual (w := w) (eff := eff) hh hr ha hc hrow hmay hn 0
  refine ⟨fun hfull => row ?_, fun hroom => ⟨d.ticketFor p n m w, rfl, rfl, rfl, rfl, rfl, rfl, rfl, row ?_⟩⟩
  · rw [hdual, Dev.openTicket_full hfull]
  · rw [hdual, Dev.openTicket_opens hroom]

end Sys2Proof.Machine
end

section
/-! SUPPORT. What the slice commands do, branch by branch (R389, R391, R396, R401, R403, R405 to R407). -/

namespace Sys2Proof.Machine

variable {d : Dev} {m : Msg}

/-! ### SLC_CMD_CREATE -/

/-- The slice that an argument of SLC_CMD_CREATE names (R519). -/
def newSlice (m : Msg) : Nat := leAt 0 2 m.body

/-- An argument of SLC_CMD_CREATE of the right length, for a slice number the device has, with its reserved bytes 0. -/
def createArgument (m : Msg) : Prop := m.body.length = 64 ∧ newSlice m < 4096 ∧ allZero (m.body.drop 53) = true

theorem effSliceCreate_exists (hm : createArgument m) (he : d.sliceExists (newSlice m) = true) : effSliceCreate d m = deny d (Reply.err resState) := by
  obtain ⟨hb, hi, hz⟩ := hm
  unfold newSlice at *
  unfold effSliceCreate
  rw [withArg_of_length hb]
  exact (if_neg (by simpa [hz] using hi)).trans (if_pos (by simp [he]))

/-- A creation that no restore and no other creation stands in the way of: the parameters, then the slice root (R389, R391). -/
theorem effSliceCreate_free (hm : createArgument m) (he : d.sliceExists (newSlice m) = false) (hr : (d.sliceSt (newSlice m)).restoring = none) (hc : d.creating = false) :
    effSliceCreate d m = match d.sliceBad (newSlice m) (createArgs m.body) with
      | some p => deny d (Reply.range p)
      | none => if (d.root (newSlice m)).held then accept (d.makeInstance (newSlice m) (createArgs m.body))
        else if !d.modes.storeOpen then deny d (Reply.err resState)
        else (none, (d.draw 32).2.journal (sliceUpdate (newSlice m) .sliceRoot (m.body ++ (d.draw 32).1) (some (m.src, m.reqId.toNat)))) := by
  obtain ⟨hb, hi, hz⟩ := hm
  unfold newSlice at *
  unfold effSliceCreate
  rw [withArg_of_length hb]
  refine (if_neg (by simpa [hz] using hi)).trans ((if_neg (by simp [he, hr])).trans ((if_neg (by simp [hc])).trans ?_))
  cases d.sliceBad (leAt 0 2 m.body) (createArgs m.body) <;> rfl

/-! ### Reset and removal -/

section
variable (hi : m.row.toNat < 4096)
include hi

theorem effSliceReset_absorbed (hb : m.body = []) (hr : d.modes.inReset.isSome = true) : effSliceReset d m = accept (d.absorbed 4) := by
  unfold effSliceReset
  rw [withArg_of_nil hb]
  exact (if_neg (Nat.not_le.2 hi)).trans (if_pos hr)

/-- With no reset of the main domains under way, what SLC_CMD_RESET does follows the slice's state (R396, R401). -/
theorem effSliceReset_state (hb : m.body = []) (hr : d.modes.inReset = none) : effSliceReset d m = match (d.sliceSt m.row.toNat).state with
    | .free => deny d (Reply.err resState)
    | .resetting => deny d (Reply.err resBusy)
    | _ => accept (d.beginSliceReset m.row.toNat .host) := by
  unfold effSliceReset
  rw [withArg_of_nil hb]
  refine (if_neg (Nat.not_le.2 hi)).trans ((if_neg (by simp [hr])).trans ?_)
  cases (d.sliceSt m.row.toNat).state <;> rfl

/-- SLC_CMD_REMOVE of an ACTIVE slice: PURGE on its home alone (R403). -/
theorem effSliceRemove_active {v : Byte} (hb : m.body = [v]) (hv : v.toNat ≤ 1) (hs : (d.sliceSt m.row.toNat).state = .active) : effSliceRemove d m =
    if v.toNat = 1 ∧ d.isHome m.row.toNat = false then deny d (Reply.err resState)
    else accept ((d.beginSliceReset m.row.toNat .host).onSlice m.row.toNat (fun x => { x with removal := true, purge := v.toNat == 1 })) := by
  have hn : leNat m.body = v.toNat := by simp [hb, leNat]
  unfold effSliceRemove
  rw [withArg_of_length (by rw [hb]; rfl)]
  simp only [hn]
  exact (if_neg (Nat.not_le.2 hi)).trans ((if_neg (Nat.not_lt.2 hv)).trans ((if_neg (by simp [hs])).trans (ite_congr (by simp [hs]) (fun _ => rfl) fun _ => rfl)))

/-! ### Freeze and thaw -/

/-- The slice has just been frozen: nothing is cancelled or drained yet (R405). -/
def Dev.frozenNow (d : Dev) (i : Nat) : Dev :=
  d.onSlice i (fun x => { x with state := .frozen, edge := .host, freezeStart := d.now, limitPassed := false, cancelled := 0, drainedCount := 0, frozenDrained := false })

theorem effSliceFreeze_eq (hb : m.body = []) : effSliceFreeze d m =
    if (d.sliceSt m.row.toNat).state = .active then accept ((d.frozenNow m.row.toNat).freezeSettled m.row.toNat) else deny d (Reply.err resState) := by
  unfold effSliceFreeze
  rw [withArg_of_nil hb]
  refine (if_neg (Nat.not_le.2 hi)).trans ?_
  by_cases hs : (d.sliceSt m.row.toNat).state = .active
  · exact (if_neg (by simp [hs])).trans (if_pos hs).symm
  · exact (if_pos (by simpa using hs)).trans (if_neg hs).symm

/-- What a thaw leaves: ACTIVE, the re-issue list replayed, and admission going on (R406). -/
def Dev.thawed (d : Dev) (i : Nat) : Dev :=
  let e := ((d.onSlice i (fun x => { x with state := .active, edge := .host })).numberReissues i).replayWaiting i
  (e.qpsOf i).foldl (fun e q => e.onQp q (fun p => { p with parked := false })) e

theorem effSliceThaw_frozen (hb : m.body = []) (hs : (d.sliceSt m.row.toNat).state = .frozen) : effSliceThaw d m =
    if d.saving m.row.toNat = true then deny d (Reply.err resBusy) else accept (d.thawed m.row.toNat) := by
  unfold effSliceThaw
  rw [withArg_of_nil hb]
  exact (if_neg (Nat.not_le.2 hi)).trans (if_neg (by simp [hs]))

/-! ### The stored image -/

theorem effImageFetch_stored {im : SliceImage} (hb : m.body.length = 16) (hs : (d.sliceSt m.row.toNat).stored = some im) (hl : im.length ≤ leAt 8 8 m.body) :
    effImageFetch d m = accept (d.emit (.hostWrite none BusAttr.plain (leAt 0 8 m.body) im.bytes)) := by
  unfold effImageFetch
  rw [withArg_of_length hb]
  refine (if_neg (Nat.not_le.2 hi)).trans ?_
  rw [hs]
  exact if_neg (Nat.not_lt.2 hl)

theorem effImageDiscard_stored (hb : m.body = []) (hs : (d.sliceSt m.row.toNat).stored.isSome = true) :
    effImageDiscard d m = accept (d.onSlice m.row.toNat (fun x => { x with stored := none })) := by
  unfold effImageDiscard
  rw [withArg_of_nil hb]
  exact (if_neg (Nat.not_le.2 hi)).trans (if_neg (by cases h : (d.sliceSt m.row.toNat).stored <;> simp_all))

end

/-- Settles O23: each command runs its effect, read off branch by branch. -/
theorem sliceCommands : Obligations.SliceCommands := by
  refine ⟨?create, ?createJournals, ?createExists, ?createBad, ?reset, ?resetAbsorbed, ?resetBusy, ?remove, ?purge, ?purgeNot, ?freeze, ?freezeNot, ?thaw, ?thawBusy,
    ?fetch, ?discard⟩
  case create =>
    exact accepts_of (fun _ _ => rfl) (fun _ => rfl) fun d m ⟨⟨hb, hi, hz, he, hr, hc, hbad⟩, hroot⟩ => by
      rw [effSliceCreate_free ⟨hb, hi, hz⟩ he hr hc, show d.sliceBad (newSlice m) _ = none from hbad]
      exact if_pos hroot
  case createJournals =>
    exact defers_of (fun _ _ => rfl) (fun _ => rfl) fun d m ⟨⟨hb, hi, hz, he, hr, hc, hbad⟩, hroot, hopen⟩ => by
      rw [effSliceCreate_free ⟨hb, hi, hz⟩ he hr hc, show d.sliceBad (newSlice m) _ = none from hbad]
      exact (if_neg (ne_true_of_eq_false hroot)).trans (if_neg (by simp [hopen]))
  case createExists => exact refuses_of (fun _ _ => rfl) (fun _ => rfl) fun _ _ ⟨hb, hi, hz, he⟩ => effSliceCreate_exists ⟨hb, hi, hz⟩ he
  case createBad =>
    exact fun p => refuses_of (fun _ _ => rfl) (fun _ => rfl) fun d m ⟨hb, hi, hz, he, hr, hc, hbad⟩ => by
      rw [effSliceCreate_free ⟨hb, hi, hz⟩ he hr hc, show d.sliceBad (newSlice m) _ = some p from hbad]
      rfl
  case reset =>
    exact fun st hst => accepts_of (fun _ _ => rfl) (fun _ => rfl) fun d m ⟨hb, ⟨hi, hs⟩, hr⟩ => by
      rw [effSliceReset_state hi hb hr, hs]
      rcases hst with rfl | rfl <;> rfl
  case resetAbsorbed => exact accepts_of (fun _ _ => rfl) (fun _ => rfl) fun _ _ ⟨hb, hi, hr⟩ => effSliceReset_absorbed hi hb hr
  case resetBusy =>
    exact refuses_of (fun _ _ => rfl) (fun _ => rfl) fun d m ⟨hb, ⟨hi, hs⟩, hr⟩ => by
      rw [effSliceReset_state hi hb hr, hs]
      rfl
  case remove =>
    exact accepts_of (fun _ _ => rfl) (fun _ => rfl) fun d m ⟨hb, hi, hs⟩ =>
      (effSliceRemove_active hi hb (by decide) hs).trans (if_neg fun h => absurd h.1 (by decide))
  case purge =>
    exact accepts_of (fun _ _ => rfl) (fun _ => rfl) fun d m ⟨hb, ⟨hi, hs⟩, hh⟩ =>
      (effSliceRemove_active hi hb (by decide) hs).trans (if_neg fun h => ne_true_of_eq_false h.2 hh)
  case purgeNot =>
    exact refuses_of (fun _ _ => rfl) (fun _ => rfl) fun d m ⟨hb, ⟨hi, hs⟩, hh⟩ =>
      (effSliceRemove_active hi hb (by decide) hs).trans (if_pos ⟨by decide, hh⟩)
  case freeze => exact accepts_of (fun _ _ => rfl) (fun _ => rfl) fun _ _ ⟨hb, hi, hs⟩ => (effSliceFreeze_eq hi hb).trans (if_pos hs)
  case freezeNot =>
    exact fun st hst => refuses_of (fun _ _ => rfl) (fun _ => rfl) fun _ _ ⟨hb, hi, hs⟩ => (effSliceFreeze_eq hi hb).trans (if_neg (hs ▸ hst))
  case thaw =>
    exact accepts_of (fun _ _ => rfl) (fun _ => rfl) fun _ _ ⟨hb, ⟨hi, hs⟩, hsave⟩ => (effSliceThaw_frozen hi hb hs).trans (if_neg (ne_true_of_eq_false hsave))
  case thawBusy => exact refuses_of (fun _ _ => rfl) (fun _ => rfl) fun _ _ ⟨hb, ⟨hi, hs⟩, hsave⟩ => (effSliceThaw_frozen hi hb hs).trans (if_pos hsave)
  case fetch => exact fun im => accepts_of (fun _ _ => rfl) (fun _ => rfl) fun _ _ ⟨hb, hi, hs, hl⟩ => effImageFetch_stored hi hb hs hl
  case discard => exact accepts_of (fun _ _ => rfl) (fun _ => rfl) fun _ _ ⟨hb, hi, hs⟩ => effImageDiscard_stored hi hb hs

end Sys2Proof.Machine
end

section
/-! SUPPORT. What the tamper officer's commands and settings do, branch by branch, and from it O26 (R412, R426, R431, R437, R439, R440). -/

namespace Sys2Proof.Machine

variable {d : Dev} {m : Msg}

/-! ### Settings -/

/-- A write of an enable mask: within its bits, and from FIELDED on clearing none (R426). -/
theorem effEnableMask_eq {p : Param} {hi : Nat} (hb : m.body.length = 1) : effEnableMask p hi d m =
    if hi < leNat m.body then deny d (Reply.range p)
    else if 3 ≤ d.lcState ∧ d.num p 0 &&& leNat m.body ≠ d.num p 0 then deny d (Reply.err resState)
    else accept ((d.setNum p 0 (leNat m.body)).policyWritten p) := by
  unfold effEnableMask
  rw [withArg_of_length hb]
  exact ite_congr rfl (fun _ => rfl) fun _ => ite_congr (by simp) (fun _ => rfl) fun _ => rfl

/-- A write of TMP_A4_SCRAP: from FIELDED on it is not cleared (R437). -/
theorem effA4Scrap_eq {v : Byte} (hb : m.body = [v]) (hv : v.toNat ≤ 1) : effA4Scrap d m =
    if 3 ≤ d.lcState ∧ v.toNat = 0 then deny d (Reply.err resState) else accept ((d.setNum P.tmpA4Scrap 0 (leNat m.body)).policyWritten P.tmpA4Scrap) := by
  have hn : leNat m.body = v.toNat := by simp [hb, leNat]
  unfold effA4Scrap
  rw [withArg_of_length (by rw [hb]; rfl)]
  simp only [hn]
  exact (if_neg (Nat.not_lt.2 hv)).trans (ite_congr (by simp) (fun _ => rfl) fun _ => rfl)

/-- A write of TMP_CLASS for a listed source: not below its floor, and from FIELDED on lowering no switch (R412, R426). -/
theorem effTmpClass_listed (hb : m.body.length = 1) (hs : sourceListed m.row.toNat = true) : effTmpClass d m =
    if 4 < leNat m.body ∨ leNat m.body < sourceFloor m.row.toNat then deny d (Reply.range P.tmpClass)
    else if 3 ≤ d.lcState ∧ m.row.toNat / 16 = 0x71 ∧ leNat m.body < d.sourceClass m.row.toNat then deny d (Reply.err resState)
    else accept ((d.setNum P.tmpClass m.row.toNat (leNat m.body)).policyWritten P.tmpClass) := by
  unfold effTmpClass
  rw [withArg_of_length hb]
  exact (if_neg (by simp [hs])).trans (ite_congr (by simp) (fun _ => rfl) fun _ => ite_congr (by simp [and_assoc]) (fun _ => rfl) fun _ => rfl)

/-! ### Tests, TAMPER_OUT and acknowledgement -/

/-- The next monitor of the main domains is under test (R431). -/
def Dev.nextTested (d : Dev) : Dev :=
  d.onTamper (fun t => { t with testing := mainMonitors[t.bistNext % mainMonitors.length]?, bistNext := t.bistNext % mainMonitors.length + 1,
                                bistStart := if t.bistNext % mainMonitors.length = 0 then d.now else t.bistStart })

theorem Dev.startBist_main (d : Dev) : d.startBist false = d.nextTested := by
  unfold Dev.startBist Dev.nextTested Dev.onTamper
  simp only [Bool.false_eq_true, if_false, beq_iff_eq]

theorem effBist_eq (hb : m.body = []) : effBist d m = if d.tamper.testing.isSome = true then deny d (Reply.err resBusy) else accept d.nextTested := by
  unfold effBist
  rw [withArg_of_nil hb, Dev.startBist_main]

theorem effTamperClear_eq (hb : m.body = []) :
    effTamperClear d m = if d.backup.reprovisioned = true then accept (d.onBackup (fun b => { b with tamperOut := false })) else deny d (Reply.err resState) := by
  unfold effTamperClear
  rw [withArg_of_nil hb]

/-- The unacknowledged entries of the alarm log up to a position (R438, R439). -/
def Dev.unackedUpTo (d : Dev) (pos : Nat) : Tab Nat AlarmEntry :=
  d.tamper.log.filter (fun e => e.2.acked == false &&
    (List.range (min (pos + 1) d.tamper.logNext - (d.tamper.logNext - 1024))).any (fun i => (d.tamper.logNext - 1024 + i) % 1024 == e.1))

/-- The entries and the backup-log entries they were copied from are acknowledged (R439). -/
def Dev.acknowledged (d : Dev) (l : Tab Nat AlarmEntry) : Dev :=
  (d.onTamper (fun t => { t with log := tabMap (fun k e => if l.any (fun x => x.1 == k) then { e with acked := true } else e) t.log })).onBackup
    (fun b => { b with log := b.log.map (fun e => if (l.filterMap (fun e => e.2.blogSeq)).contains e.seq then { e with acked := true } else e) })

/-- The role a request comes with. -/
def Dev.roleOf (d : Dev) (m : Msg) : Nat := match m.src with | .session n => ((tabGet? n d.mgmt.sessions).map Session.role).getD 0 | _ => 0

theorem effAck_eq (hb : m.body.length = 4) : effAck d m =
    if d.tamper.logNext ≤ leNat m.body then deny d (Reply.range P.tmpCmdAck)
    else if d.roleOf m = roleOperator ∧ ∃ e ∈ d.unackedUpTo (leNat m.body), 3 ≤ e.2.cls then deny d (Reply.err resAccess)
    else accept (d.acknowledged (d.unackedUpTo (leNat m.body))) := by
  unfold effAck
  rw [withArg_of_length hb]
  refine ite_congr rfl (fun _ => rfl) fun _ => ite_congr (propext ?_) (fun _ => rfl) fun _ => rfl
  simp only [Bool.and_eq_true, beq_iff_eq, List.any_eq_true, decide_eq_true_eq]
  exact Iff.rfl

/-! ### O26 -/

/-- An enable mask as the statement has it. -/
theorem enableMask_settles {c : Msg → Instr} {p : Param} {hi : Nat} (h : ∀ m s, exec (c m) s = s.run (fun d => d.serve d.lc p 0 m true (effEnableMask p hi)))
    (q : dualControlled p = true → effectOf p 0 = effEnableMask p hi) :
    Accepts c p (fun d m => m.body.length = 1 ∧ leNat m.body ≤ hi ∧ (d.lcState < 3 ∨ d.num p 0 &&& leNat m.body = d.num p 0))
      (fun d m => (d.setNum p 0 (leNat m.body)).policyWritten p) ∧
    Refuses c p (fun _ m => m.body.length = 1 ∧ hi < leNat m.body) (Reply.range p) ∧
    Refuses c p (fun d m => m.body.length = 1 ∧ leNat m.body ≤ hi ∧ 3 ≤ d.lcState ∧ d.num p 0 &&& leNat m.body ≠ d.num p 0) (Reply.err resState) := by
  refine ⟨accepts_of h q fun d m ⟨hb, hv, hl⟩ => ?_, refuses_of h q fun d m ⟨hb, hv⟩ => (effEnableMask_eq hb).trans (if_pos hv), refuses_of h q fun d m ⟨hb, hv, hl⟩ => ?_⟩
  · refine (effEnableMask_eq hb).trans ((if_neg (Nat.not_lt.2 hv)).trans (if_neg fun ⟨h3, hne⟩ => ?_))
    rcases hl with h | h
    · omega
    · exact hne h
  · exact (effEnableMask_eq hb).trans ((if_neg (Nat.not_lt.2 hv)).trans (if_pos hl))

/-- Settles O26: each command runs its effect, read off branch by branch. -/
theorem tamperCommands : Obligations.TamperCommands := by
  refine ⟨?mesh, ?switch, ?scrap, ?scrapNot, ?cls, ?clsRange, ?bist, ?bistBusy, ?clear, ?clearNot, ?ackRange, ?ack⟩
  case mesh => exact enableMask_settles (fun _ _ => rfl) fun _ => rfl
  case switch => exact enableMask_settles (fun _ _ => rfl) fun _ => rfl
  case scrap =>
    refine accepts_of (fun _ _ => rfl) (fun _ => rfl) fun d m ⟨hb, hl⟩ => ?_
    rcases hb with hb | hb
    · exact (effA4Scrap_eq hb (by decide)).trans (if_neg fun h => absurd h.2 (by decide))
    · refine (effA4Scrap_eq hb (by decide)).trans (if_neg fun h => ?_)
      rcases hl with hl | hl
      · exact Nat.not_le.2 hl h.1
      · exact absurd (hb.symm.trans hl) (by decide)
  case scrapNot =>
    exact refuses_of (fun _ _ => rfl) (fun _ => rfl) fun d m ⟨hb, hl⟩ => (effA4Scrap_eq hb (by decide)).trans (if_pos ⟨hl, by decide⟩)
  case cls =>
    exact accepts_of (fun _ _ => rfl) (fun _ => rfl) fun d m ⟨hb, hs, h4, hfloor, hsw⟩ =>
      (effTmpClass_listed hb hs).trans ((if_neg (by omega)).trans (if_neg hsw))
  case clsRange => exact refuses_of (fun _ _ => rfl) (fun _ => rfl) fun d m ⟨hb, hs, h⟩ => (effTmpClass_listed hb hs).trans (if_pos h)
  case bist => exact accepts_of (fun _ _ => rfl) (fun _ => rfl) fun d m ⟨hb, ht, _⟩ => (effBist_eq hb).trans (if_neg (by simp [ht]))
  case bistBusy => exact refuses_of (fun _ _ => rfl) (fun _ => rfl) fun d m ⟨hb, ht⟩ => (effBist_eq hb).trans (if_pos ht)
  case clear => exact accepts_of (fun _ _ => rfl) (fun _ => rfl) fun d m ⟨hb, h⟩ => (effTamperClear_eq hb).trans (if_pos h)
  case clearNot => exact refuses_of (fun _ _ => rfl) (fun _ => rfl) fun d m ⟨hb, h⟩ => (effTamperClear_eq hb).trans (if_neg (ne_true_of_eq_false h))
  case ackRange => exact refuses_of (fun _ _ => rfl) (fun _ => rfl) fun d m ⟨hb, h⟩ => (effAck_eq hb).trans (if_pos h)
  case ack =>
    intro s m g hb d pos lo upTo role seqs hpos
    have heq := (effAck_eq hb).trans (if_neg (Nat.not_le.2 hpos))
    have row {r : Reply} {e : Dev} (he : effAck s.dev m = (some r, e)) : exec (.tmpCmdAck m) s = s.answered e m r := exec_of_granted (fun _ _ => rfl) g he
    refine ⟨fun hr he => row (heq.trans (if_pos ⟨hr, he⟩)), fun h => row (heq.trans (if_neg fun ⟨hr, e, he, hc⟩ => ?_))⟩
    rcases h with h | h
    · exact h hr
    · exact Nat.not_le.2 (h e he) hc

end Sys2Proof.Machine
end

section
/-! SUPPORT. What the firmware and attestation commands do, branch by branch, and from it O28 (R470, R475, R478 to R480). -/

namespace Sys2Proof.Machine

variable {d : Dev} {m : Msg}

/-! ### Staging -/

theorem effStageBegin_trial (hb : m.body.length = 4) (ht : d.boot.trial = true) : effStageBegin d m = deny d (Reply.err resBusy) := by
  unfold effStageBegin
  rw [withArg_of_length hb]
  exact if_pos ht

theorem effStageBegin_begins (hb : m.body.length = 4) (ht : d.boot.trial = false) (h0 : 0 < leNat m.body) (hn : leNat m.body ≤ 32505856) :
    effStageBegin d m = accept ((d.setNum P.fwBankState (1 - d.boot.running) 0).onBoot (fun b =>
      { b with staging := some (leNat m.body), staged := [], banks := tabSet (1 - d.boot.running) { image := [] } b.banks })) := by
  unfold effStageBegin
  rw [withArg_of_length hb]
  exact (if_neg (ne_true_of_eq_false ht)).trans (if_neg (by simp; omega))

theorem effStageData_none (hs : d.boot.staging = none) (hb : 4 ≤ m.body.length) : effStageData d m = deny d (Reply.err resState) := by
  unfold effStageData stageData
  rw [if_neg (Nat.not_lt.2 hb), hs]

/-- A chunk of the right length is taken where it follows on (R478). -/
theorem effStageData_chunk {n : Nat} (hs : d.boot.staging = some n) (h4 : 4 < m.body.length) (hb : m.body.length ≤ 1796)
    (hn : d.boot.staged.length + (m.body.length - 4) ≤ n) : effStageData d m =
    if leAt 0 4 m.body = d.boot.staged.length then accept (d.onBoot (fun x => { x with staged := x.staged ++ m.body.drop 4 }))
    else deny d (Reply.range P.fwStageData) := by
  unfold effStageData stageData
  rw [if_neg (by omega), hs]
  refine (if_neg (by simp; omega)).trans ?_
  by_cases ho : leAt 0 4 m.body = d.boot.staged.length
  · exact (if_neg (by simp [ho])).trans (if_pos ho).symm
  · exact (if_pos (by simpa using ho)).trans (if_neg ho).symm

/-- FW_CMD_STAGE_END: the staged image is whole and passes its checks, or nothing is staged any more (R478). -/
theorem effStageEnd_eq {n : Nat} (hb : m.body = []) (hs : d.boot.staging = some n) : effStageEnd d m =
    if d.boot.staged.length = n ∧ imageOk d.boot.staged d.lcy.minSvn = true then
      accept ((d.onBoot (fun b => { b with staging := none, staged := [], banks := tabSet (1 - d.boot.running) { image := d.boot.staged } b.banks })).setNum
        P.fwBankState (1 - d.boot.running) 1)
    else deny ((d.onBoot (fun b => { b with staging := none, staged := [] })).setNum P.fwBankState (1 - d.boot.running) 0) (Reply.refused "IMAGE" 0) := by
  unfold effStageEnd
  rw [withArg_of_nil hb, hs]
  exact ite_congr (by simp) (fun _ => rfl) fun _ => rfl

/-! ### Activation and confirmation -/

theorem effActivate_staged (hb : m.body = []) (hs : d.num P.fwBankState (1 - d.boot.running) = 1) (ht : d.boot.trial = false) :
    effActivate d m = accept (d.setNum P.fwPendingBank 0 (1 - d.boot.running + 1)) := by
  unfold effActivate Dev.otherBank
  rw [withArg_of_nil hb]
  exact if_neg (by simp [hs, ht])

/-- What FW_CMD_CONFIRM leaves: the running bank active, the other one staged, and no trial (R479). -/
def Dev.trialConfirmed (d : Dev) : Dev :=
  ((((d.setNum P.fwActiveBank 0 d.boot.running).setNum P.fwPendingBank 0 0).setNum P.fwBankState d.boot.running 2).setNum P.fwBankState (1 - d.boot.running) 1).onBoot
    (fun x => { x with trial := false })

theorem effConfirm_eq (hb : m.body = []) :
    effConfirm d m = if d.boot.trial = true ∧ d.boot.trialDone = true then accept d.trialConfirmed else deny d (Reply.err resState) := by
  unfold effConfirm
  rw [withArg_of_nil hb]
  exact ite_congr (by simp) (fun _ => rfl) fun _ => rfl

theorem effCancel_pending (hb : m.body = []) (hp : d.num P.fwPendingBank 0 ≠ 0) (ht : d.boot.trial = false) :
    effCancel d m = accept (d.setNum P.fwPendingBank 0 0) := by
  unfold effCancel
  rw [withArg_of_nil hb]
  exact if_pos (by simp [hp, ht])

theorem effCommitSvn_trial (hb : m.body = []) (ht : d.boot.trial = true) : effCommitSvn d m = deny d (Reply.err resState) := by
  unfold effCommitSvn
  rw [withArg_of_nil hb]
  exact if_pos ht

theorem effCommitSvn_raises (hb : m.body = []) (ht : d.boot.trial = false) (ho : d.domain 20 = .on) :
    effCommitSvn d m = accept (d.onLcy (fun l => { l with minSvn := max l.minSvn (d.bankSvn (d.num P.fwActiveBank 0)) })) := by
  unfold effCommitSvn
  rw [withArg_of_nil hb]
  exact (if_neg (ne_true_of_eq_false ht)).trans (if_neg (by simp [ho]))

/-! ### Recovery and quotes -/

/-- The image that recovery has with a chunk of it: from its start where OFFSET is 0 (R470). -/
def Dev.recovering (d : Dev) (m : Msg) : Bytes := (if leAt 0 4 m.body = 0 then [] else d.boot.recovery) ++ m.body.drop 4

/-- A chunk that follows on in recovery wait (R470). -/
def Dev.recoveryChunk (d : Dev) (m : Msg) : Prop :=
  d.boot.recoveryWait = true ∧ 4 < m.body.length ∧ m.body.length ≤ 1796 ∧ (leAt 0 4 m.body = 0 ∨ leAt 0 4 m.body = d.boot.recovery.length)

/-- FW_RECOVER with a chunk that follows on: a whole image is checked, and a good one restarts the device (R470). -/
theorem effFwRecover_chunk (h : d.recoveryChunk m) : effFwRecover d m =
    if 128 ≤ (d.recovering m).length ∧ imageLength (d.recovering m) ≤ (d.recovering m).length then
      if imageOk (d.recovering m) d.lcy.minSvn then
        accept (((d.onBoot (fun b => { b with recovery := [], banks := tabSet 0 { image := d.recovering m } b.banks })).setNum P.fwBankState 0 2).coldReset 1 0 .host)
      else deny (d.onBoot (fun b => { b with recovery := [] })) (Reply.refused "IMAGE" 0)
    else accept (d.onBoot (fun b => { b with recovery := d.recovering m })) := by
  obtain ⟨hw, h4, hb, ho⟩ := h
  have him : (if leAt 0 4 m.body == 0 then [] else d.boot.recovery) ++ m.body.drop 4 = d.recovering m := by
    simp only [beq_iff_eq]
    rfl
  unfold effFwRecover effRecover
  simp only [him]
  refine (if_neg (by simp [hw])).trans ((if_neg (by simp; omega)).trans ((if_neg ?_).trans (ite_congr (by simp) (fun _ => rfl) fun _ => rfl)))
  rcases ho with h | h <;> simp [h]

theorem effAttQuote_booted (hb : m.body.length = 32) (h8 : 8 ≤ d.boot.step) : effAttQuote d m =
    (some (Reply.data' ((d.quote m.body (d.draw 32).1).take 2024)),
      (d.draw 32).2.onBoot (fun b => { b with quotes := tabSet (srcKey m.src) (d.quote m.body (d.draw 32).1) b.quotes })) := by
  unfold effAttQuote
  rw [withArg_of_length hb]
  exact if_neg (Nat.not_lt.2 h8)

/-! ### O28 -/

theorem fwStageData_single : dualControlled P.fwStageData = false := by decide

/-- Settles O28: each command runs its effect, read off branch by branch. FW_STAGE_DATA takes no second officer (`fwStageData_single`). -/
theorem firmwareCommands : Obligations.FirmwareCommands := by
  refine ⟨?begin, ?beginBusy, ?data, ?dataRange, ?dataNot, ?finish, ?finishBad, ?activate, ?confirm, ?confirmNot, ?cancel, ?svn, ?svnNot, ?recover, ?recovered, ?quote⟩
  case begin => exact accepts_of (fun _ _ => rfl) (fun _ => rfl) fun _ _ ⟨hb, ht, h0, hn⟩ => effStageBegin_begins hb ht h0 hn
  case beginBusy => exact refuses_of (fun _ _ => rfl) (fun _ => rfl) fun _ _ ⟨hb, ht⟩ => effStageBegin_trial hb ht
  case data =>
    exact fun n => accepts_of (fun _ _ => rfl) (fun h => absurd h (by simp [fwStageData_single])) fun _ _ ⟨hs, h4, hb, hn, ho⟩ =>
      (effStageData_chunk hs h4 hb hn).trans (if_pos ho)
  case dataRange =>
    exact fun n => refuses_of (fun _ _ => rfl) (fun h => absurd h (by simp [fwStageData_single])) fun _ _ ⟨hs, h4, hb, hn, ho⟩ =>
      (effStageData_chunk hs h4 hb hn).trans (if_neg ho)
  case dataNot => exact refuses_of (fun _ _ => rfl) (fun h => absurd h (by simp [fwStageData_single])) fun _ _ ⟨hs, hb⟩ => effStageData_none hs hb
  case finish => exact fun n => accepts_of (fun _ _ => rfl) (fun _ => rfl) fun _ _ ⟨hb, hs, hn, hok⟩ => (effStageEnd_eq hb hs).trans (if_pos ⟨hn, hok⟩)
  case finishBad =>
    refine fun s m n g hb hs hbad => exec_of_granted (fun _ _ => rfl) g ((effStageEnd_eq hb hs).trans (if_neg fun ⟨hn, hok⟩ => ?_))
    rcases hbad with h | h
    · exact h hn
    · exact ne_true_of_eq_false h hok
  case activate => exact accepts_of (fun _ _ => rfl) (fun _ => rfl) fun _ _ ⟨hb, hs, ht⟩ => effActivate_staged hb hs ht
  case confirm => exact accepts_of (fun _ _ => rfl) (fun _ => rfl) fun _ _ ⟨hb, ht, hd⟩ => (effConfirm_eq hb).trans (if_pos ⟨ht, hd⟩)
  case confirmNot => exact refuses_of (fun _ _ => rfl) (fun _ => rfl) fun _ _ ⟨hb, ht⟩ => (effConfirm_eq hb).trans (if_neg fun h => ne_true_of_eq_false ht h.1)
  case cancel => exact accepts_of (fun _ _ => rfl) (fun _ => rfl) fun _ _ ⟨hb, hp, ht⟩ => effCancel_pending hb hp ht
  case svn => exact accepts_of (fun _ _ => rfl) (fun _ => rfl) fun _ _ ⟨hb, ht, ho⟩ => effCommitSvn_raises hb ht ho
  case svnNot => exact refuses_of (fun _ _ => rfl) (fun _ => rfl) fun _ _ ⟨hb, ht⟩ => effCommitSvn_trial hb ht
  case recover => exact accepts_of (fun _ _ => rfl) (fun _ => rfl) fun _ _ ⟨hc, hl⟩ => (effFwRecover_chunk hc).trans (if_neg fun h => Nat.not_le.2 hl h.2)
  case recovered =>
    exact accepts_of (fun _ _ => rfl) (fun _ => rfl) fun _ _ ⟨hc, h128, hl, hok⟩ => (effFwRecover_chunk hc).trans ((if_pos ⟨h128, hl⟩).trans (if_pos hok))
  case quote => exact returns_of (fun _ _ => rfl) (fun _ => rfl) fun _ _ ⟨hb, h8⟩ => effAttQuote_booted hb h8

end Sys2Proof.Machine
end

section
/-! SUPPORT. A tile that a power-forced edge drained, and whose last job is a shadow copy, and from it the negation of O46 (R15, R16, R81, R84, R411). The A3
response drops the copy, the tile goes OUT by the edge that drained it, and that edge takes SERVICE to PARTIAL: a power-forced edge of the same tick, after which
the alarm-forced edge to QUIESCED is not taken. -/

namespace Sys2Proof.Machine

/-- A shadow copy that runs on tile 0. -/
def shadowOnTile0 : Job :=
  { req := 7, kind := .shadow, unit := 0, epoch := 0, start := 0, stop := none, order := 0, keyReady := true, drawReady := true, result := none, abort := none,
    held := false, finished := false, begun := some 0, reported := false, expect := none, copy := none }

/-- In SERVICE, tile 0 drains by a power-forced edge and still runs a shadow copy. -/
def drainedByPower : Dev :=
  ((Dev.reset.onModes (fun m => { m with mode := .service })).onDisp (fun x => { x with jobs := [(3, shadowOnTile0)] })).onUnit 0
    (fun y => { y with pool := .draining, drainEdge := .power, job := some 3 })

/-- An over-voltage of VDD_CORE has class A3. -/
theorem drainedByPower_sourceClass : drainedByPower.sourceClass 0x120 = 3 := by decide

theorem drainedByPower_modes : drainedByPower.modes.mode = .service ∧ drainedByPower.modes.tickPower = false := ⟨rfl, rfl⟩

theorem drainedByPower_raise : (drainedByPower.raise 0x120 0).modes.mode = .partService := by decide +kernel

/-- Refutes O46: the over-voltage leaves `drainedByPower` in PARTIAL, not in QUIESCED. -/
theorem not_alarmResponses : ¬ Obligations.AlarmResponses := by
  intro h
  obtain ⟨hpowered, -, -⟩ := h drainedByPower 0x120 0
  obtain ⟨-, -, -, -, hquiesced, -⟩ := hpowered rfl
  have hq := hquiesced (.inr drainedByPower_sourceClass) (.inl drainedByPower_modes.1) drainedByPower_modes.2
  rw [drainedByPower_raise] at hq
  exact nomatch hq

end Sys2Proof.Machine
end

section
/-! SUPPORT. A handshake that this device opened with a member, while it is the home of a slice, and from it the negation of O53 (R328, R509). As the session
stands, the home sends its slice root over it: a message that the statement's device does not hold. -/

namespace Sys2Proof.Machine

/-- A handshake of this device whose REPLY has verified. -/
def peerShake : Shake :=
  { role := 5, peer := true, started := 0, initiator := true, principal := some [], hello := [], secret := [], keys := SessionKeys.none }

/-- The home of slice 0, whose root it holds, with handshake 1 standing before its ACCEPT. -/
def homeAwaitsAccept : Dev :=
  ((((Dev.reset.onModes (fun m => { m with mode := .service })).onMgmt (fun g => { g with answering := true, shakes := [(1, peerShake)] })).onBoot
    (fun b => { b with halted := false, recoveryWait := false })).setOct P.vltSliceHome 0 deviceIdentity).onRoot 0 (fun r => { r with held := true })

/-- An ACCEPT that verifies under the device key. -/
def acceptOfPeer : Handshake :=
  { session := 1, role := 5, version := 1, reserved := 0, nonce := [], kem := [], leafKey := [], rootMlDsa := [], rootP384 := [], chainsWellFormed := true, datesValid := true,
    signaturesOk := true, seq := 0, sealed := [], tag := recordTag SessionKeys.none.deviceKey SessionKeys.none.deviceSalt 4 1 0 [] }

/-- The session that the ACCEPT opens, and the device with it. -/
def acceptedSession : Session :=
  { role := 5, peer := true, principal := [], anchorRow := 16, started := 0, lastRecord := 0, nseq := 0, recent := [], sendSeq := 1, keys := SessionKeys.none }
def acceptedPeer : Dev := homeAwaitsAccept.onMgmt (fun g => { g with shakes := tabErase 1 g.shakes, sessions := tabSet 1 acceptedSession g.sessions })

/-- ACCEPT in time under the device key opens the session and greets the member (R328, R505, R509). -/
theorem acceptShake_stands {h : Handshake} {d : Dev} {k : Shake} {id : Bytes} (hk : tabGet? h.session d.mgmt.shakes = some k) (hp : k.principal = some id)
    (hi : k.initiator = true) (hup : d.scegaUp = true) (hlate : d.now < k.started + shakeTicks) (hv : recordVerifies h k.keys.deviceKey k.keys.deviceSalt 4 = true) :
    acceptShake h d = (d.openSession h.session 5 16 true id k.keys).greet h.session := by
  unfold acceptShake
  simp only [hk, hp]
  exact (if_neg (by simp [hi, hup, hlate])).trans (if_neg (by simp [hv]))

theorem acceptOfPeer_verifies : recordVerifies acceptOfPeer SessionKeys.none.deviceKey SessionKeys.none.deviceSalt 4 = true := by
  have htag : acceptOfPeer.tag = recordTag SessionKeys.none.deviceKey SessionKeys.none.deviceSalt 4 acceptOfPeer.session acceptOfPeer.seq acceptOfPeer.sealed := rfl
  unfold recordVerifies
  rw [htag, beq_self_eq_true, Bool.and_true]
  decide

theorem acceptedPeer_isHome : acceptedPeer.isHome 0 = true := by
  have ho : acceptedPeer.oct P.vltSliceHome 0 = deviceIdentity := rfl
  rw [Dev.isHome, ho, beq_self_eq_true]

/-- A session that has just opened is greeted with every root that stands (R328). -/
theorem Dev.greet_eq {d : Dev} {n : Nat} {s : Session} {r : SliceRoot} (hs : tabGet? n d.mgmt.sessions = some s) (hr : d.vault.roots = [(0, r)]) :
    d.greet n = d.sendRoot 0 s := by
  simp only [Dev.greet, hs, Dev.sendRoots, hr, List.foldl_cons, List.foldl_nil]

theorem acceptedPeer_held : (acceptedPeer.root 0).held = true := rfl

/-- With the session the root of slice 0 goes out (R328). -/
theorem acceptedPeer_greet : (acceptedPeer.greet acceptOfPeer.session).out.length = 1 := by
  have hs : tabGet? acceptOfPeer.session acceptedPeer.mgmt.sessions = some acceptedSession := rfl
  rw [Dev.greet_eq hs rfl, Dev.sendRoot_home (by decide) acceptedPeer_isHome acceptedPeer_held rfl]
  rfl

/-- Refutes O53: after the ACCEPT the home has sent its slice root, and the statement's device has sent nothing. -/
theorem not_sessionEvents : ¬ Obligations.SessionEvents := by
  intro h
  obtain ⟨-, -, hshake, -⟩ := h
  obtain ⟨-, -, -, -, -, haccept⟩ := hshake ⟨[], homeAwaitsAccept⟩ acceptOfPeer peerShake rfl
  obtain ⟨-, hstands⟩ := haccept [] rfl rfl (by decide)
  have hclaim := hstands ⟨by decide, rfl⟩
  have hmodel := acceptShake_stands (h := acceptOfPeer) (d := homeAwaitsAccept) (k := peerShake) rfl rfl rfl rfl (by decide) acceptOfPeer_verifies
  have hopen : homeAwaitsAccept.openSession acceptOfPeer.session 5 16 true [] peerShake.keys = acceptedPeer := rfl
  have hdev : acceptShake acceptOfPeer homeAwaitsAccept = acceptedPeer := congrArg State.dev (Host.Outcome.next.inj hclaim)
  rw [hmodel, hopen] at hdev
  have hout := acceptedPeer_greet
  rw [hdev] at hout
  exact absurd hout (by decide)

end Sys2Proof.Machine
end

section
/-! SUPPORT. Sessions, the network, and the second officer's CONFIRM, and from them O18 (R501, R506, R507, R508, R514). -/

namespace Sys2Proof.Machine

variable {d : Dev} {m : Msg}

/-- The tests of a CONFIRM that a session sends, in their order (R514). -/
theorem confirm_session {k : Nat} {x : Session} (hh : d.heard m.src = true) (hs : m.src = .session k) (hx : tabGet? k d.mgmt.sessions = some x)
    (hr : d.repeated m.src m.reqId.toNat = none) : confirm m d =
      if d.alone d.lc m.src then d.respondTo m.src m.reqId.toNat (Reply.err resState)
      else if x.peer || x.role != roleOfficer then d.respondTo m.src m.reqId.toNat (Reply.err resAccess)
      else if m.body.length != 52 then d.respondTo m.src m.reqId.toNat (Reply.err resLength)
      else match d.mgmt.tickets.find? (fun t => t.number == leAt 0 4 m.body && d.now ≤ t.requested + 60 * ticksPerS) with
        | none => d.respondTo m.src m.reqId.toNat (Reply.err resDualExpired)
        | some t =>
          if d.principalOf t.origin == x.principal then d.respondTo m.src m.reqId.toNat (Reply.err resDualSame)
          else if m.body.drop 4 != t.digest then d.respondTo m.src m.reqId.toNat (Reply.err resRange)
          else d.runTicket t m := by
  rw [hs] at hh hr
  unfold confirm
  simp only [hs, hh, hr, hx, Bool.not_true, Bool.false_eq_true, if_false] <;> rfl

/-- What a confirmed action does, as the state then has it (R514). -/
theorem Dev.runTicket_exec (s : State) (t : Ticket) :
    (.next (s.withDev (s.dev.runTicket t m)) : Host.Outcome State Fault Refusal) =
      match effectOf t.param t.offset (s.dev.confirmed m t) { t.msg with src := m.src, reqId := m.reqId } with
      | (some r, u) => s.answered u m r
      | (none, u) => .next (s.withDev (u.hears m.src)) := by
  have hrun : s.dev.runTicket t m =
      match effectOf t.param t.offset (s.dev.confirmed m t) { t.msg with src := m.src, reqId := m.reqId } with
      | (some r, u) => u.respondTo m.src m.reqId.toNat r
      | (none, u) => u.hears m.src := rfl
  rw [hrun]
  rcases effectOf t.param t.offset _ _ with ⟨_ | r, u⟩ <;> rfl

/-- Settles O18: the effects of the three commands, and CONFIRM test by test. -/
theorem sessionsAndConfirmations : Obligations.SessionsAndConfirmations := by
  refine ⟨⟨?close, ?closeNone, ?anchors, ?anchorsLong, ?apply⟩, ?confirm⟩
  case close =>
    exact accepts_of (fun _ _ => rfl) (fun _ => rfl) fun d m ⟨hb, hx⟩ => (withArg_of_length hb).trans (if_pos hx)
  case closeNone =>
    exact refuses_of (fun _ _ => rfl) (fun _ => rfl) fun d m ⟨hb, hx⟩ => (withArg_of_length hb).trans (if_neg (by simp [hx]))
  case anchors => exact accepts_of (fun _ _ => rfl) (fun _ => rfl) fun d m hb => if_neg (Nat.not_lt.2 hb)
  case anchorsLong => exact refuses_of (fun _ _ => rfl) (fun _ => rfl) fun d m hb => if_pos hb
  case apply => exact defers_of (fun _ _ => rfl) (fun _ => rfl) fun d m hb => withArg_of_nil hb
  case confirm =>
    intro s m k x d hh hs hx hr no ticket
    have hc := confirm_session hh hs hx hr
    have ends {e : Dev} (h : confirm m d = e) : exec (.confirm m) s = .next (s.withDev e) := congrArg (fun e => Host.Outcome.next (s.withDev e)) h
    refine ⟨fun ha => ends (hc.trans (if_pos ha)), fun ha hrole => ends ((hc.trans (if_neg (ne_true_of_eq_false ha))).trans (if_pos (by simpa using hrole))),
      fun ha hp hrole => ?_⟩
    have hofficer := (hc.trans (if_neg (ne_true_of_eq_false ha))).trans (if_neg (by simp [hp, hrole]))
    refine ⟨fun hb => ends (hofficer.trans (if_pos (by simpa using hb))), fun hb => ?_⟩
    have hlength := hofficer.trans (if_neg (by simp [hb]))
    refine ⟨fun ht => ?gone, fun t ht => ?found⟩
    case gone => exact ends (hlength.trans (by rw [show d.mgmt.tickets.find? _ = _ from ht]))
    case found =>
      rw [show d.mgmt.tickets.find? _ = _ from ht] at hlength
      refine ⟨fun hsame => ends (hlength.trans (if_pos (by simpa using hsame))), fun hother hdig => ?_, fun hother hdig => ?_⟩
      all_goals have hticket := hlength.trans (if_neg (by simpa using hother))
      · exact ends (hticket.trans (if_pos (by simpa using hdig)))
      · exact (ends (hticket.trans (if_neg (by simpa using hdig)))).trans (Dev.runTicket_exec s t)

end Sys2Proof.Machine
end

section
/-! SUPPORT. What the end of work and the clearing of an alarm leave alone. Each operation that drops or aborts work, clears a unit, takes a mode edge or tells a session keeps the setup of
the device: its clock, power, tamper and backup state, library, monitors, life cycle, rights, boot and parameters, and whether the key store is open. -/

namespace Sys2Proof.Machine

/-- What work, its end and its clearing leave alone. -/
structure Setup where
  time : TimeSt
  power : PowerSt
  tamper : TamperSt
  backup : BackupSt
  lib : LibSt
  monitors : Tab Nat MonRecord
  lcy : LcySt
  dbg : DebugSt
  boot : BootSt
  dict : Dict
  storeOpen : Bool
  answering : Bool

/-- The setup of a device. -/
def Dev.setup (d : Dev) : Setup :=
  { time := d.time, power := d.power, tamper := d.tamper, backup := d.backup, lib := d.lib, monitors := d.monitors, lcy := d.lcy, dbg := d.dbg, boot := d.boot,
    dict := d.dict, storeOpen := d.modes.storeOpen, answering := d.mgmt.answering }

/-- `e` has the setup of `d`. -/
def SetupKept (d e : Dev) : Prop := e.setup = d.setup

namespace SetupKept

variable {d e : Dev}

theorem refl (d : Dev) : SetupKept d d := rfl
theorem trans {a b c : Dev} (h : SetupKept a b) (g : SetupKept b c) : SetupKept a c := Eq.trans g h
theorem foldl {α : Type} {f : Dev → α → Dev} (h : ∀ d x, SetupKept d (f d x)) (l : List α) (d : Dev) : SetupKept d (l.foldl f d) := foldl_rel refl trans h l d

theorem ite {c : Prop} [Decidable c] {a b : Dev} (h : SetupKept d a) (g : SetupKept d b) : SetupKept d (if c then a else b) := by
  split
  · exact h
  · exact g

/-! The groups outside it. -/

theorem onDisp (d : Dev) (f : DispSt → DispSt) : SetupKept d (d.onDisp f) := rfl
theorem onHost (d : Dev) (f : HostSt → HostSt) : SetupKept d (d.onHost f) := rfl
theorem onVault (d : Dev) (f : VaultSt → VaultSt) : SetupKept d (d.onVault f) := rfl
theorem onUnit (d : Dev) (u : Nat) (f : Unit → Unit) : SetupKept d (d.onUnit u f) := rfl
theorem onEveryUnit (d : Dev) (f : Nat → Unit → Unit) : SetupKept d (d.onEveryUnit f) := rfl
theorem onBellows (d : Dev) (f : BellowsSt → BellowsSt) : SetupKept d (d.onBellows f) := rfl
theorem onSlice (d : Dev) (i : Nat) (f : SliceSt → SliceSt) : SetupKept d (d.onSlice i f) := rfl
theorem onQp (d : Dev) (q : Nat) (f : Qp → Qp) : SetupKept d (d.onQp q f) := rfl
theorem freeRegs (d : Dev) (t : Nat) : SetupKept d (d.freeRegs t) := rfl
theorem dropKey (d : Dev) (u : Nat) : SetupKept d (d.dropKey u) := rfl
theorem emit (d : Dev) (x : Emit) : SetupKept d (d.emit x) := rfl

theorem onModes (d : Dev) (f : ModeSt → ModeSt) (h : (f d.modes).storeOpen = d.modes.storeOpen) : SetupKept d (d.onModes f) :=
  congrArg (fun b => ({ d.setup with storeOpen := b } : Setup)) h
theorem onMgmt (d : Dev) (f : MgmtSt → MgmtSt) (h : (f d.mgmt).answering = d.mgmt.answering) : SetupKept d (d.onMgmt f) :=
  congrArg (fun b => ({ d.setup with answering := b } : Setup)) h

/-! The groups of the setup. -/

theorem time (h : SetupKept d e) : e.time = d.time := congrArg Setup.time h
theorem tamper (h : SetupKept d e) : e.tamper = d.tamper := congrArg Setup.tamper h
theorem backup (h : SetupKept d e) : e.backup = d.backup := congrArg Setup.backup h
theorem lcy (h : SetupKept d e) : e.lcy = d.lcy := congrArg Setup.lcy h
theorem boot (h : SetupKept d e) : e.boot = d.boot := congrArg Setup.boot h
theorem dict (h : SetupKept d e) : e.dict = d.dict := congrArg Setup.dict h
theorem storeOpen (h : SetupKept d e) : e.modes.storeOpen = d.modes.storeOpen := congrArg Setup.storeOpen h
theorem answering (h : SetupKept d e) : e.mgmt.answering = d.mgmt.answering := congrArg Setup.answering h

/-! Sessions and modes. -/

theorem countRecord (d : Dev) (n : Nat) : SetupKept d (d.countRecord n).2 := by
  unfold Dev.countRecord
  split
  · rfl
  · split <;> rfl

theorem notifyOne (d : Dev) (n kind : Nat) (data : Bytes) : SetupKept d (d.notifyOne n kind data) := by
  have hc := countRecord d n
  unfold Dev.notifyOne
  split
  · rename_i e he
    rw [he] at hc
    exact hc
  · rename_i e he
    rw [he] at hc
    split
    · exact hc
    · exact hc.trans ((onMgmt e _ rfl).trans (emit _ _))

theorem notifyAll (d : Dev) (p : Nat → Bool) (kind : Nat) (data : Bytes) : SetupKept d (d.notifyAll p kind data) := by
  refine foldl (fun d e => ?_) _ _
  split
  · exact notifyOne d _ _ _
  · rfl

theorem logMode (d : Dev) (kind old new edge cause : Nat) : SetupKept d (d.logMode kind old new edge cause) :=
  (onModes d _ rfl).trans (notifyAll _ _ _ _)

theorem takeEdge (d : Dev) (next : Mode) (k : EdgeKind) (cause : Nat) : SetupKept d (d.takeEdge next k cause) := by
  unfold Dev.takeEdge
  split
  · rfl
  · exact (onModes d _ rfl).trans (logMode _ _ _ _ _ _)

theorem settleService (d : Dev) (k : EdgeKind) (cause : Nat) : SetupKept d (d.settleService k cause) := by
  unfold Dev.settleService
  split
  · split
    · exact takeEdge d _ _ _
    · rfl
  · split
    · exact takeEdge d _ _ _
    · rfl
  · rfl

/-! Units. -/

theorem putPool (d : Dev) (u : Nat) (p : PoolState) (k : EdgeKind) : SetupKept d (d.putPool u p k) :=
  ite ((onUnit d u _).trans (settleService _ _ _)) (onUnit d u _)

theorem setPool (d : Dev) (u : Nat) (p : PoolState) (k : EdgeKind) : SetupKept d (d.setPool u p k) := by
  unfold Dev.setPool
  split
  · split <;> rfl
  · exact putPool d u p k

theorem scrub (d : Dev) (u : Nat) : SetupKept d (d.scrub u) := by
  have hm : SetupKept d (d.scrubMemory u) := by
    unfold Dev.scrubMemory
    split
    · rfl
    · dsimp only
      split <;> rfl
  unfold Dev.scrub
  split
  · exact hm.trans (freeRegs _ u)
  · exact hm

theorem wipe (d : Dev) (u : Nat) : SetupKept d (d.wipe u) := (dropKey d u).trans (scrub _ u)

/-! Jobs and requests. -/

theorem dropJob (d : Dev) (j : Nat) : SetupKept d (d.dropJob j) := by
  unfold Dev.dropJob
  split
  · rfl
  · dsimp only
    split
    · rfl
    · split
      · split
        · exact ((onDisp d _).trans (onUnit _ _ _)).trans (setPool _ _ _ _)
        · rfl
      · rfl

theorem dropJobs (d : Dev) (r : Nat) : SetupKept d (d.dropJobs r) := foldl (α := Nat × Job) (fun d e => (scrub d e.2.unit).trans (dropJob _ _)) _ _

theorem onReq (d : Dev) (r : Nat) (f : Request → Request) : SetupKept d (d.onReq r f) := by
  unfold Dev.onReq
  split <;> rfl

theorem onJob (d : Dev) (j : Nat) (f : Job → Job) : SetupKept d (d.onJob j f) := by
  unfold Dev.onJob
  split <;> rfl

theorem complete (d : Dev) (r : Nat) (c : Completion) : SetupKept d (d.complete r c) := by
  unfold Dev.complete
  split
  · rfl
  · split
    · rfl
    · exact (onReq d r _).trans (onQp _ _ _)

theorem qpSettled (d : Dev) (q : Nat) : SetupKept d (d.qpSettled q) := by
  unfold Dev.qpSettled
  split <;> rfl

/-- A request that leaves without counting as slag. -/
theorem dropReq (d : Dev) (r : Nat) : SetupKept d (d.dropReq r false) := by
  unfold Dev.dropReq
  split
  · rfl
  · exact (((dropJobs d r).trans (onDisp _ _)).trans (onQp _ _ _)).trans (qpSettled _ _)

theorem abortReq (d : Dev) (r st : Nat) : SetupKept d (d.abortReq r st) := by
  unfold Dev.abortReq
  dsimp only
  split
  · refine foldl (fun d e => ?_) _ _
    split
    · exact onJob d _ _
    · exact (scrub d _).trans (dropJob _ _)
  · exact (dropJobs d r).trans (complete _ _ _)

theorem abortAll (d : Dev) (st : Nat) : SetupKept d (d.abortAll st) := by
  refine foldl (fun d e => ?_) _ _
  split
  · rfl
  · exact abortReq d _ _

/-! Events of slices. -/

theorem eventOnly (h : EventOnly d e) : SetupKept d e := by
  obtain ⟨sl, ms, ns, o, rfl⟩ := h
  rfl

theorem freezeSettled (d : Dev) (i : Nat) : SetupKept d (d.freezeSettled i) := by
  unfold Dev.freezeSettled
  dsimp only
  split
  · exact (onSlice d i _).trans (eventOnly (EventOnly.event _ _ _ _ _ _))
  · rfl

theorem loseRecords (d : Dev) : SetupKept d d.loseRecords := by
  have hreqs : SetupKept d (d.disp.reqs.foldl (fun x e =>
      if (x.jobsOf e.1).any (fun j => j.2.runs) then (x.jobsOf e.1).foldl (fun x j => x.onJob j.1 (fun y => { y with abort := some 0 })) x else x.dropReq e.1 false) d) :=
    foldl (α := Nat × Request) (fun d e => ite (foldl (α := Nat × Job) (fun d j => onJob d j.1 _) _ d) (dropReq d e.1)) _ d
  exact hreqs.trans (foldl (α := Nat × SliceSt) (fun d e => freezeSettled d e.1) _ _)

/-! The clearing of A3 (R411). -/

theorem loseVolatile (d : Dev) : SetupKept d d.loseVolatile := onVault d _
theorem abandonWindows (d : Dev) (p : Node → Bool) : SetupKept d (d.abandonWindows p) := eventOnly (EventOnly.abandonWindows d p)
theorem unseed (d : Dev) : SetupKept d d.unseed := (onBellows d _).trans (onEveryUnit _ _)
theorem scrubHearths (d : Dev) : SetupKept d d.scrubHearths := rfl
theorem newCalibration (d : Dev) : SetupKept d d.newCalibration := rfl
theorem discardWindows (d : Dev) : SetupKept d d.discardWindows := rfl

theorem lapseRights {d e : Dev} (h : SetupKept d e) : SetupKept d.lapseRights e.lapseRights :=
  congrArg (fun s : Setup => ({ s with dict := { s.dict with nums := tabSet (P.dbgRights, 0) 0 s.dict.nums } } : Setup)) h

theorem zeroiseWorking (d : Dev) : SetupKept d.lapseRights d.zeroiseWorking := by
  have hshadow (l : List (Nat × Job)) (d : Dev) : SetupKept d (l.foldl (fun x e => x.dropJob e.1) d) := foldl (fun d e => dropJob d e.1) l d
  have hwipe (l : List Nat) (d : Dev) : SetupKept d (l.foldl (fun x u => if (x.unit u).pool != .off && !x.aborting u then x.wipe u else x) d) :=
    foldl (fun d u => ite (wipe d u) (refl d)) l d
  unfold Dev.zeroiseWorking
  extract_lets a b c e
  have hwork : SetupKept d c := ((abortAll d _).trans (hshadow _ a)).trans (hwipe _ b)
  have hvault : SetupKept c e := ((loseVolatile c).trans (abandonWindows _ _)).trans (unseed _)
  have hrest : SetupKept e e.scrubHearths.newCalibration.discardWindows := ((scrubHearths e).trans (newCalibration _)).trans (discardWindows _)
  exact lapseRights ((hwork.trans hvault).trans hrest)

/-! The device response by class (R411). -/

theorem respondA2 (d : Dev) (cause : Nat) : SetupKept d (d.respondA2 cause) := by
  unfold Dev.respondA2
  split
  · exact takeEdge d _ _ _
  · exact takeEdge d _ _ _
  · exact onModes d _ rfl
  · exact onModes d _ rfl
  · rfl

theorem respondA3 (d : Dev) (cause : Nat) : SetupKept d.lapseRights (d.respondA3 cause) := (zeroiseWorking d).trans (respondA2 _ _)

/-- The response of A4 without a scrap: the ember key goes, the store closes, the debug rights lapse. -/
theorem respondA4 (d : Dev) (k : EdgeKind) (cause : Nat) : SetupKept d.eraseEmber.lapseRights.closeStore (d.respondA4 k cause false) := by
  have hstore {a b : Dev} (h : SetupKept a b) : SetupKept a.closeStore b.closeStore := congrArg (fun s : Setup => ({ s with storeOpen := false } : Setup)) h
  unfold Dev.respondA4
  extract_lets a b c
  rw [if_neg (by simp)]
  have ha : SetupKept d.eraseEmber.lapseRights.closeStore a := hstore (zeroiseWorking d.eraseEmber)
  have hedge : SetupKept a b := by
    clear_value a
    change SetupKept a (match a.modes.mode with | .sealed => a | .off => a | .backup => a | _ => a.takeEdge .sealed k cause)
    split
    · rfl
    · rfl
    · rfl
    · exact takeEdge a _ _ _
  exact (ha.trans hedge).trans (loseRecords b)

end SetupKept

/-- A scrap comes after the rest of the response (R437). -/
theorem Dev.respondA4_scrap (d : Dev) (k : EdgeKind) (cause : Nat) (scrap : Bool) :
    d.respondA4 k cause scrap = if scrap && (d.respondA4 k cause false).flag P.tmpA4Scrap 0 then (d.respondA4 k cause false).startScrap else d.respondA4 k cause false := by
  unfold Dev.respondA4
  simp only [Bool.false_and, Bool.false_eq_true, if_false]

/-- A scrap touches the power and the life cycle. -/
theorem Dev.startScrap_dict (d : Dev) : d.startScrap.dict = d.dict := by
  unfold Dev.startScrap
  dsimp only
  split
  · split <;> rfl
  · rfl

end Sys2Proof.Machine
end

section
/-! SUPPORT. How a slice's reset, freeze and restore end, and from it O42 (R401, R403, R405, R409, R410). -/

namespace Sys2Proof.Machine

variable {d : Dev} {i : Nat}

/-! ### A cancelled request -/

theorem Dev.setPool_slices (d : Dev) (u : Nat) (p : PoolState) (k : EdgeKind) : (d.setPool u p k).slices = d.slices := by
  unfold Dev.setPool
  split
  · split <;> rfl
  · obtain ⟨m, g, o, h, -⟩ := d.putPool_frame u p k
    rw [h]; rfl

theorem Dev.scrub_slices (d : Dev) (u : Nat) : (d.scrub u).slices = d.slices := by
  have hm : (d.scrubMemory u).slices = d.slices := by
    unfold Dev.scrubMemory
    split
    · rfl
    · dsimp only
      split <;> rfl
  unfold Dev.scrub
  split
  · exact hm
  · exact hm

theorem Dev.dropJob_slices (d : Dev) (j : Nat) : (d.dropJob j).slices = d.slices := by
  unfold Dev.dropJob
  split
  · rfl
  · dsimp only
    split
    · rfl
    · split
      · split
        · exact Dev.setPool_slices _ _ _ _
        · rfl
      · rfl

theorem Dev.dropJobs_slices (d : Dev) (r : Nat) : (d.dropJobs r).slices = d.slices :=
  foldl_rel (α := Nat × Job) (R := fun a b => b.slices = a.slices) (fun _ => rfl) (fun h g => g.trans h)
    (fun d e => (Dev.dropJob_slices _ e.1).trans (Dev.scrub_slices d e.2.unit)) _ d

/-- A request that leaves without counting as slag: it is gone, and the slices are as they were. -/
theorem Dev.dropReq_gone (d : Dev) (r : Nat) : (d.dropReq r false).req? r = none ∧ (d.dropReq r false).slices = d.slices := by
  have hq (d : Dev) (q : Nat) : (d.qpSettled q).disp = d.disp ∧ (d.qpSettled q).slices = d.slices := by
    unfold Dev.qpSettled
    split <;> exact ⟨rfl, rfl⟩
  unfold Dev.dropReq
  split
  · exact ⟨‹_›, rfl⟩
  · rename_i q hr
    obtain ⟨hdisp, hsl⟩ := hq (((d.dropJobs r).onDisp (fun x => { x with reqs := tabErase r x.reqs })).onQp q.qp (fun p => p.unstage r)) q.qp
    exact ⟨(congrArg (fun x : DispSt => tabGet? r x.reqs) hdisp).trans ((tabGet?_erase _ _ _).trans (if_pos rfl)), hsl.trans (Dev.dropJobs_slices d r)⟩

/-- A cancelled request is gone, enters the re-issue list and counts (R405). -/
theorem Dev.cancel_spec (d : Dev) (i r : Nat) (q : Request) :
    (d.cancel i r q).req? r = none ∧
    (d.cancel i r q).sliceSt i = { d.sliceSt i with
      reissue := (d.sliceSt i).reissue ++ [{ read := q.read, qp := q.qp, number := q.number, deadline := q.deadline, accept := q.accept, seq := 0 }]
      cancelled := (d.sliceSt i).cancelled + 1 } ∧
    (d.cancel i r q).num P.slcCancelCount i = (d.num P.slcCancelCount i + 1) % 2 ^ 64 := by
  obtain ⟨hgone, hsl⟩ := d.dropReq_gone r
  have hdict : (d.dropReq r false).dict = d.dict := (SetupKept.dropReq d r).dict
  refine ⟨hgone, ?_, ?_⟩
  · have hs : ((d.dropReq r false).addNum P.slcCancelCount i 1).sliceSt i = d.sliceSt i := congrArg (tabGet SliceSt.reset i) hsl
    unfold Dev.cancel
    dsimp only
    rw [Dev.sliceSt_onSlice, if_pos rfl, hs]
  · have hn : (d.dropReq r false).num P.slcCancelCount i = d.num P.slcCancelCount i := by unfold Dev.num; rw [hdict]
    exact (Dev.num_setNum_same _ _ _ _).trans (by rw [hn])

/-! ### O42 -/

/-- A command on a slice that exists runs its operation. -/
theorem State.goes_part {s : State} {c : Instr} {i n : Nat} {f : Dev → Dev} {e : Dev} (hi : i < n) (hc : exec c s = s.runPart i n f) (he : f s.dev = e) : s.goes c e :=
  hc.trans ((State.runPart_lt hi f).trans (by rw [he]))

/-- Settles O42: each command by the branches of its operation, and the cancelled request by what it leaves. -/
theorem sliceEvents : Obligations.SliceEvents := by
  refine ⟨?reset, ?limit, ?cancel, ?restore⟩
  case reset =>
    intro s i hi d x a b e f
    have ends {u : Dev} (h : sliceResetComplete i d = u) : s.goes (.sliceResetComplete i) u := State.goes_part hi rfl h
    refine ⟨fun h => ends (if_pos (by simpa using h)), fun h hr => ?active, fun h hr hp => ?free, fun h hr hp => ?purge⟩
    all_goals have hreset : sliceResetComplete i d = _ := if_neg (by simpa using h)
    case active => exact ends (hreset.trans (if_neg (ne_true_of_eq_false hr)))
    case free => exact ends (hreset.trans ((if_pos hr).trans (if_neg (ne_true_of_eq_false hp))))
    case purge => exact ends (hreset.trans ((if_pos hr).trans (if_pos hp)))
  case limit =>
    intro s i hi d x due l flows kept
    have hdue : (x.state != .frozen || x.limitPassed || decide (d.now < x.freezeStart + d.num P.slcDrainLimitUs i * ticksPerUs)) = true ↔ ¬ due := by
      simp only [Bool.or_eq_true, bne_iff_ne, ne_eq, decide_eq_true_eq, due, not_and_or, Bool.not_eq_false, Nat.not_le, or_assoc]
      rfl
    exact ⟨fun h => State.goes_part hi rfl (if_pos (hdue.2 h)), fun h => State.goes_part hi rfl (if_neg fun hn => hdue.1 hn h)⟩
  case cancel => exact fun d i r q => d.cancel_spec i r q
  case restore =>
    intro s i hi d
    have ends {u : Dev} (h : restoreReplMarkReached i d = u) : s.goes (.restoreReplMarkReached i) u := State.goes_part hi rfl h
    refine ⟨fun h => ends (by unfold restoreReplMarkReached; rw [h]), ?_⟩
    intro im pasid h ready
    have hmark : restoreReplMarkReached i d =
        if tabGet 0 i d.vault.seqs < im.replMark || d.vault.updates.any (fun u => u.kind == .restoreImage && u.slice == i) || !d.modes.mode.powered ||
          (d.msixFit i (argOf P.slcMsixCount im.params)).isNone then d
        else d.journal (sliceUpdate i .restoreImage [] none) := by
      unfold restoreReplMarkReached
      rw [h]
    have hready : (tabGet 0 i d.vault.seqs < im.replMark || d.vault.updates.any (fun u => u.kind == .restoreImage && u.slice == i) || !d.modes.mode.powered ||
        (d.msixFit i (argOf P.slcMsixCount im.params)).isNone) = false ↔ ready := by
      simp only [Bool.or_eq_false_iff, decide_eq_false_iff_not, Nat.not_lt, List.any_eq_false, Bool.and_eq_true, beq_iff_eq, Bool.not_eq_eq_eq_not, Bool.not_false,
        Option.isNone_eq_false_iff, and_assoc, ready]
    exact ⟨fun hn => ends (hmark.trans (if_pos (by rw [← Bool.not_eq_false, hready]; exact hn))), fun hr => ends (hmark.trans (if_neg (ne_true_of_eq_false (hready.2 hr))))⟩

end Sys2Proof.Machine
end

section
/-! SUPPORT. What an alarm leaves of the parameters, and the events of the shield, the enclosure, the backup domain and the monitors; from them O48 (R417, R424, R425, R430, R431). -/

namespace Sys2Proof.Machine

/-! ### An alarm and the parameters -/

theorem SetupKept.num {d e : Dev} (h : SetupKept d e) (p : Param) (i : Nat) : e.num p i = d.num p i := by
  unfold Dev.num
  rw [h.dict]

theorem SetupKept.recordAlarm (d : Dev) (s u cls applied detail : Nat) (test : Bool) (p : Param) (i : Nat) :
    (d.recordAlarm s u cls applied detail test).num p i = d.num p i :=
  (SetupKept.notifyAll _ _ _ _).num p i

section
variable {p : Param} (hr : p ≠ P.dbgRights)
include hr

theorem Dev.lapseRights_num (d : Dev) (i : Nat) : d.lapseRights.num p i = d.num p i := by
  unfold Dev.lapseRights
  rw [Dev.num_setNum, if_neg fun h => hr h.1.symm]

theorem Dev.respondA4_num (d : Dev) (k : EdgeKind) (cause : Nat) (scrap : Bool) (i : Nat) : (d.respondA4 k cause scrap).num p i = d.num p i := by
  have h : (d.respondA4 k cause false).num p i = d.num p i := ((SetupKept.respondA4 d k cause).num p i).trans (Dev.lapseRights_num hr d.eraseEmber i)
  rw [Dev.respondA4_scrap]
  split
  · exact (show _ = _ by unfold Dev.num; rw [Dev.startScrap_dict]).trans h
  · exact h

/-- The device response changes no parameter but the debug rights. -/
theorem Dev.respond_num (d : Dev) (cls cause i : Nat) : (d.respond cls cause).num p i = d.num p i := by
  unfold Dev.respond
  split
  · rfl
  · rfl
  · exact (SetupKept.respondA2 d _).num p i
  · exact ((SetupKept.respondA3 d _).num p i).trans (Dev.lapseRights_num hr d i)
  · exact Dev.respondA4_num hr d _ _ _ i

end

section
variable {p : Param} (hb : p ≠ P.tmpBlogLost)
include hb

theorem Dev.logBackup_num (d : Dev) (s cls detail : Nat) (erased scrap test : Bool) (i : Nat) : (d.logBackup s cls detail erased scrap test).num p i = d.num p i := by
  unfold Dev.logBackup
  extract_lets e full anyAcked kept f
  refine (show _ = f.num p i from rfl).trans ?_
  unfold f
  split
  · rw [Dev.num_setNum, if_neg fun h => hb h.1.symm]
  · rfl

theorem Dev.logCopied_num (d : Dev) (s cls applied detail : Nat) (erased test : Bool) (i : Nat) : (d.logCopied s cls applied detail erased test).num p i = d.num p i :=
  ((SetupKept.notifyAll _ _ _ _).num p i).trans (Dev.logBackup_num hb d s cls detail erased false test i)

variable (hr : p ≠ P.dbgRights)
include hr

/-- An alarm changes no parameter but the debug rights and the count of lost backup entries. -/
theorem Dev.raise_num (d : Dev) (s detail i : Nat) : (d.raise s detail).num p i = d.num p i := by
  have ember (c : Nat) (d : Dev) : (if c ≥ 4 then d.eraseEmber else d).num p i = d.num p i := by split <;> rfl
  unfold Dev.raise
  extract_lets c e a f g scrap
  split
  · have hf : f.num p i = d.num p i := ember c d
    refine (Dev.respond_num hr _ _ _ _).trans (Eq.trans ?_ hf)
    unfold g
    split
    · exact Dev.logCopied_num hb f _ _ _ _ _ _ i
    · exact SetupKept.recordAlarm f _ _ _ _ _ _ p i
  · split
    · exact (Dev.logBackup_num hb _ _ _ _ _ _ _ i).trans (ember c d)
    · split
      · exact (SetupKept.recordAlarm _ _ _ _ _ _ _ p i).trans (ember c d)
      · rfl

/-- The alarms of one sample: the enables are those that stood before the first of them (R425). -/
theorem raise_enabled (hit : Nat → Bool) (src : Nat → Nat) (l : List Nat) {d : Dev} {v : Nat} (hv : d.num p 0 = v) :
    l.foldl (fun x w => if hit w && (x.num p 0).testBit w then x.raise (src w) w else x) d =
      (l.filter (fun w => hit w && v.testBit w)).foldl (fun x w => x.raise (src w) w) d := by
  induction l generalizing d with
  | nil => rfl
  | cons w r ih =>
    rw [List.foldl_cons, List.filter_cons, hv]
    split
    · exact ih ((Dev.raise_num hb hr d _ _ 0).trans hv)
    · exact ih hv

theorem raises_num (src : Nat → Nat) (l : List Nat) (d : Dev) (i : Nat) : (l.foldl (fun x w => x.raise (src w) w) d).num p i = d.num p i :=
  foldl_rel (R := fun a b => b.num p i = a.num p i) (fun _ => rfl) (fun h g => g.trans h) (fun d _ => Dev.raise_num hb hr d _ _ i) l d

end

/-! ### The monitors' own tests -/

theorem Dev.startBist_backup (d : Dev) : d.startBist true = d.onTamper (fun t => { t with
    testing := backupMonitors[d.tamper.bistBackupNext % backupMonitors.length]?, bistBackupNext := d.tamper.bistBackupNext % backupMonitors.length + 1
    bistBackupStart := if d.tamper.bistBackupNext % backupMonitors.length = 0 then d.time.stamp else t.bistBackupStart }) := by
  unfold Dev.startBist Dev.onTamper
  simp only [if_true, beq_iff_eq]

theorem Dev.startBist_mainDomain (d : Dev) : d.startBist false = d.onTamper (fun t => { t with
    testing := mainMonitors[d.tamper.bistNext % mainMonitors.length]?, bistNext := d.tamper.bistNext % mainMonitors.length + 1
    bistStart := if d.tamper.bistNext % mainMonitors.length = 0 then d.now else t.bistStart }) := by
  unfold Dev.startBist Dev.onTamper
  simp only [Bool.false_eq_true, if_false, beq_iff_eq]

variable {d : Dev} {b : Bool}

theorem monitorBistTick_idle (h : d.modes.mode = .off ∨ d.tamper.testing ≠ none ∨ (b = false ∧ d.modes.mode.powered = false)) : monitorBistTick b d = d := by
  refine if_pos ?_
  rcases h with h | h | ⟨hb, hp⟩
  · simp [h]
  · simp [Option.isSome_iff_ne_none.2 h]
  · simp [hb, hp]

theorem monitorBistTick_runs (hm : d.modes.mode ≠ .off) (ht : d.tamper.testing = none) (hp : b = true ∨ d.modes.mode.powered = true) :
    monitorBistTick b d = if d.bistDue b = true then d.startBist b else d := by
  unfold monitorBistTick
  have hgate : (!b && !d.modes.mode.powered) = false := by rcases hp with h | h <;> simp [h]
  rw [show (d.modes.mode == Mode.off) = false by simpa using hm, ht, hgate]
  cases d.bistDue b <;> rfl

theorem Dev.bistDue_backup : d.bistDue true = true ↔ d.tamper.bistBackupNext % backupMonitors.length ≠ 0 ∨ d.tamper.bistBackupNext = 0 ∨
    d.tamper.bistBackupStart + 2097152 ≤ d.time.stamp := by
  simp only [Dev.bistDue, if_true, Bool.or_eq_true, bne_iff_ne, beq_iff_eq, decide_eq_true_eq, or_assoc, ne_eq, Nat.reduceMul]

theorem Dev.bistDue_main : d.bistDue false = true ↔ d.tamper.bistNext % mainMonitors.length ≠ 0 ∨ d.tamper.bistNext = 0 ∨
    d.tamper.bistStart + d.num P.tmpBistPeriodS 0 * 100000000 ≤ d.now := by
  simp only [Dev.bistDue, Bool.false_eq_true, if_false, Bool.or_eq_true, bne_iff_ne, beq_iff_eq, decide_eq_true_eq, or_assoc, ne_eq]
  rfl

/-- A test window ends with its entry, marked as a test, and an alarm where the second path did not trip (R431). -/
theorem monitorTestWindowEnd_eq {m : Nat} (h : d.tamper.testing = some m) (ok : Bool) : monitorTestWindowEnd ok d =
    let a := d.onTamper (fun t => { t with testing := none })
    let e := if sourceBackup m = false then a.recordAlarm m 0 0 0 (bnat ok) true
      else if d.modes.mode.powered then a.logCopied m 0 0 (bnat ok) false true else a.logBackup m 0 (bnat ok) false false true
    if ok then e else e.raise (if sourceBackup m then 0x0724 else 0x0600) m := by
  unfold monitorTestWindowEnd
  simp only [h, Bool.not_eq_true']
  rfl

/-- An event of the backup domain that has no effect in OFF. -/
theorem State.goes_unless_off {s : State} {c : Instr} (f : Dev → Dev) (hc : exec c s = s.run (fun d => if d.modes.mode == .off then d else f d)) :
    (s.dev.modes.mode = .off → s.goes c s.dev) ∧ (s.dev.modes.mode ≠ .off → s.goes c (f s.dev)) :=
  ⟨fun h => hc.trans (congrArg (fun e => Host.Outcome.next (s.withDev e)) (if_pos (by simp [h]))),
   fun h => hc.trans (congrArg (fun e => Host.Outcome.next (s.withDev e)) (if_neg (by simpa using h)))⟩

/-- Settles O48: each event by its branches; the alarms of a sample all meet the enables that stood before it. -/
theorem enclosureEvents : Obligations.EnclosureEvents := by
  refine ⟨?shield, ?sample, ?backup, ?bist, ?window⟩
  case shield =>
    intro s bad d e
    have ends {c : Bool} {u : Dev} (h : shieldPatternChange c d = u) : s.goes (.shieldPatternChange c) u := congrArg (fun e => Host.Outcome.next (s.withDev e)) h
    exact ⟨fun h => ends (if_pos (by simp [h])), fun h => ⟨ends (if_neg (by simp [h])), ends (if_neg (by simp [h]))⟩⟩
  case sample =>
    intro s mesh sw d active was e tripped opened
    have ends {u : Dev} (h : enclosureSample mesh sw d = u) : s.goes (.enclosureSample mesh sw) u := congrArg (fun e => Host.Outcome.next (s.withDev e)) h
    refine ⟨fun h => ends (if_pos (by simp [h])), fun h => ends ((if_neg (by simpa using h)).trans ?_)⟩
    have hmesh : e.num P.tmpMeshEnable 0 = d.num P.tmpMeshEnable 0 := rfl
    have hswitch : (tripped.foldl (fun f p => f.raise (0x700 + p) p) e).num P.tmpSwitchEnable 0 = d.num P.tmpSwitchEnable 0 :=
      raises_num (by decide) (by decide) _ tripped e 0
    have h1 := raise_enabled (by decide) (by decide) (fun p => mesh.toNat.testBit p) (fun p => 0x700 + p) (List.range 8) hmesh
    have h2 := raise_enabled (by decide) (by decide) (fun w => active.testBit w && was.testBit w) (fun w => 0x710 + w) (List.range 4) hswitch
    exact (congrArg (List.foldl _ · (List.range 4)) h1).trans h2
  case backup =>
    intro s mv x d v
    have hlow := State.goes_unless_off (s := s) (c := .vbatLowWarning mv) (fun d => (d.onPower (fun p => { p with vbatMillivolts := mv })).raise 0x720 mv) rfl
    have hover := State.goes_unless_off (s := s) (c := .vbatOverVoltage mv) (fun d => (d.onPower (fun p => { p with vbatMillivolts := mv })).raise 0x721 mv) rfl
    have hcrystal := State.goes_unless_off (s := s) (c := .backupCrystalStopped) (fun d => (d.onTime (fun t => { t with crystalRuns := false })).raise 0x722 0) rfl
    have hcold := State.goes_unless_off (s := s) (c := .backupTemperatureLow x) (fun d => d.raise 0x723 (int64 x)) rfl
    exact ⟨fun h => ⟨hlow.1 h, hover.1 h, hcrystal.1 h, hcold.1 h⟩, fun h => ⟨hlow.2 h, hover.2 h, hcrystal.2 h, hcold.2 h⟩⟩
  case bist =>
    intro s d t i j dueBackup dueMain
    have ends {b : Bool} {u : Dev} (h : monitorBistTick b d = u) : s.goes (.monitorBistTick b) u := congrArg (fun e => Host.Outcome.next (s.withDev e)) h
    refine ⟨fun h => ?idle, fun h => ends (monitorBistTick_idle (.inr (.inr ⟨rfl, h⟩))), fun h ht => ends ?backup, fun h ht => ends ?main⟩
    case idle =>
      have hidle (b : Bool) : monitorBistTick b d = d := monitorBistTick_idle (h.elim .inl fun h => .inr (.inl h))
      exact ⟨ends (hidle true), ends (hidle false)⟩
    case backup =>
      refine (monitorBistTick_runs h ht (.inl rfl)).trans (ite_congr (propext Dev.bistDue_backup) (fun _ => d.startBist_backup) fun _ => rfl)
    case main =>
      have hoff : d.modes.mode ≠ .off := fun e => absurd (congrArg Mode.powered e ▸ h) (by decide)
      exact (monitorBistTick_runs hoff ht (.inr h)).trans (ite_congr (propext Dev.bistDue_main) (fun _ => d.startBist_mainDomain) fun _ => rfl)
  case window =>
    intro s ok src d
    have ends {b : Bool} {u : Dev} (h : monitorTestWindowEnd b d = u) : s.goes (.monitorTestWindowEnd b) u := congrArg (fun e => Host.Outcome.next (s.withDev e)) h
    have path {u : Dev} (h : pathDisagreement src d = u) : s.goes (.pathDisagreement src) u := congrArg (fun e => Host.Outcome.next (s.withDev e)) h
    refine ⟨fun h => ends (by unfold monitorTestWindowEnd; rw [h]), ?_, fun h => path (if_neg ?_), fun hw ht => path (if_pos ?_)⟩
    · intro m h a b
      exact ⟨ends (monitorTestWindowEnd_eq h true), ends (monitorTestWindowEnd_eq h false)⟩
    · rcases h with h | h <;> simp [h]
    · simp [hw, ht]

end Sys2Proof.Machine
end

section
/-! SUPPORT. One bit of a burn, and what JTAG reaches; from them O49 (R446, R448, R451 to R454, R457, R462, R463). -/

namespace Sys2Proof.Machine

variable {d : Dev}

/-! ### One bit of a burn -/

/-- A field after one pulse on bit `k`, which reads marginally or firmly (R442, R451). -/
def OtpField.pulsed (x : OtpField) (k : Nat) (again : Bool) : OtpField :=
  if again then { x with marginal := x.marginal ||| 2 ^ k }
  else { firm := x.firm ||| 2 ^ k, marginal := if x.marginal.testBit k then x.marginal - 2 ^ k else x.marginal }

/-- The device with the bit programmed. -/
def Dev.pulsed (d : Dev) (f k : Nat) (again : Bool) : Dev := d.onLcy (fun l => { l with fields := tabSet f ((d.field f).pulsed k again) l.fields })

/-- The first bit of F_SCR takes every A4 action (R453, R454). -/
def Dev.bitActed (d : Dev) (f k : Nat) (again : Bool) : Dev :=
  if f == 3 && d.fcls 3 == .clear then (d.pulsed f k again).respondA4 (d.pulsed f k again).modes.mode.scrapEdge 0x900 false else d.pulsed f k again

/-- The kind of its edge: alarm-forced out of BOOT and DEBUG, the host's else (R15). -/
theorem Dev.bitActed_eq (d : Dev) (f k : Nat) (again : Bool) : d.bitActed f k again =
    if f = 3 ∧ d.fcls 3 = .clear then
      (d.pulsed f k again).respondA4 (if (d.pulsed f k again).modes.mode = .boot ∨ (d.pulsed f k again).modes.mode = .debug then .alarm else .host) 0x900 false
    else d.pulsed f k again := by
  have hedge (m : Mode) : m.scrapEdge = if m = .boot ∨ m = .debug then .alarm else .host := by cases m <;> rfl
  rw [← hedge]
  exact ite_congr (by simp) (fun _ => rfl) fun _ => rfl

/-- The actions of A4 leave the life cycle to the burn. -/
theorem Dev.bitActed_lcy (d : Dev) (f k : Nat) (again : Bool) : (d.bitActed f k again).lcy = (d.pulsed f k again).lcy := by
  unfold Dev.bitActed
  split
  · exact (SetupKept.respondA4 _ _ _).lcy
  · rfl

theorem Dev.bitActed_field (d : Dev) (f k : Nat) (again : Bool) : (d.bitActed f k again).field f = (d.field f).pulsed k again := by
  have hp : (d.pulsed f k again).field f = (d.field f).pulsed k again := (tabGet_set _ _ _ _ _).trans (if_pos rfl)
  rw [← hp]
  unfold Dev.field
  rw [Dev.bitActed_lcy]

/-- What a burn does after its bit: it stops, goes on with the next bit, or ends (R451, R454). -/
def Dev.burnOn (d : Dev) (f : Nat) (y : OtpField) : Dev :=
  if d.lcy.burnStop then d.burnEnd f (if y.cls == .set then 0 else 1)
  else match y.nextBit with
    | some n => d.onLcy (fun l => { l with burning := some (f, n) })
    | none => d.burnEnd f 0

theorem otpBitDone_eq {f k : Nat} (h : d.lcy.burning = some (f, k)) (again : Bool) :
    otpBitDone d again = (d.bitActed f k again).burnOn f ((d.field f).pulsed k again) := by
  rw [← Dev.bitActed_field]
  unfold otpBitDone
  rw [h]
  rfl

/-! ### JTAG beyond base debug -/

/-- The right that an access needs, if what it names exists and may be read at all (R457, R463). -/
def jtagRight : JtagAccess → Option Nat
  | .smithHalt c => if c < 16 then some 1 else none
  | .smithStep c => if c < 16 then some 1 else none
  | .tileRead t ad => if t < 128 ∧ ad < 0x40000 then some 2 else none
  | .vectorRead t p v => if t < 128 ∧ p < 4 ∧ v < 32 then some 2 else none
  | .scalarRead t k => if t < 128 ∧ k < 32 then some 2 else none
  | .engineRead e ad => if e < 32 ∧ ad < 0x10000 then some 3 else none
  | .logRead _ => some 1
  | .smithAccess c _ => if c < 16 then some 1 else none
  | .hearthRead h ad => if h < 16 ∧ ad < 0x400000 then some 4 else none
  | .vaultRead _ => some 5
  | .flashRead ad => if ad < 0x20000000 then some 6 else none
  | .sensorTrace t => if t < 128 then some 7 else none
  | .boundaryScan => some 8
  | .keyRegisterRead _ => none

/-- What it does with its right. -/
def Dev.jtagReached (d : Dev) : JtagAccess → Dev
  | .smithHalt c => d.onDebug (fun g => { g with halted := if g.halted.contains c then g.halted else c :: g.halted })
  | .smithStep c => d.onDebug (fun g => { g with halted := g.halted.filter (· != c) })
  | .tileRead t ad => d.emit (.debugData ((List.range 32).map (fun i => (d.tile t).mem.byte (ad + i))))
  | .vectorRead t p v => d.emit (.debugData ((d.tile t).vbytes p v))
  | .scalarRead t k => d.emit (.debugData (natLE 8 ((d.tile t).sget (BitVec.ofNat 5 k))))
  | .engineRead e ad => d.emit (.debugData ((List.range 32).map (fun i => (d.unit (128 + e)).operand.byte (ad + i))))
  | .logRead i => d.emit (.debugData (((d.boot.log)[i]?.map LogEntry.digest).getD []))
  | .smithAccess _ _ => d.debugFree 8
  | .hearthRead _ _ => d.debugFree 32
  | .vaultRead _ => d.debugFree 32
  | .flashRead ad =>
    if 0x16000000 ≤ ad && ad < 0x1C000000 then d.emit (.debugData ((List.range 32).map (fun i => d.lcy.userFlash.byte (ad - 0x16000000 + i)))) else d.debugFree 32
  | .sensorTrace _ => d.debugFree 4
  | .boundaryScan => d.emit (.debugData [])
  | .keyRegisterRead _ => d

/-- The access is open: base debug with the right of its own, short of SCRAPPED (R453, R457). -/
def Dev.jtagOpen (d : Dev) (a : JtagAccess) : Prop :=
  d.rights.testBit 0 = true ∧ d.lcState ≠ 5 ∧ ∃ b, jtagRight a = some b ∧ d.rights.testBit b = true

/-- The gate of a right whose access has bounds. -/
theorem right_gate {p : Prop} [Decidable p] {c : Bool} {k r : Nat} (h : c = true ↔ r.testBit k = true ∧ p) :
    c = true ↔ ∃ b, (if p then some k else none) = some b ∧ r.testBit b = true := by
  rw [h]
  by_cases hp : p <;> simp [hp]

/-- An access acts only where it is open. -/
theorem jtag_gate {a : JtagAccess} (c : Bool) {e : Dev} (h : jtagDebugAccess d a = if !bit 0 d.rights || d.lcState == 5 then d else if c then e else d)
    (hc : c = true ↔ ∃ b, jtagRight a = some b ∧ d.rights.testBit b = true) : (d.jtagOpen a → jtagDebugAccess d a = e) ∧ (¬ d.jtagOpen a → jtagDebugAccess d a = d) := by
  unfold Dev.jtagOpen
  rw [← hc, h]
  refine ⟨fun ⟨h0, h5, hb⟩ => (if_neg (by simp [bit, h0, h5])).trans (if_pos hb), fun hn => ?_⟩
  split
  · rfl
  · rename_i h05
    have ⟨h0, h5⟩ : d.rights.testBit 0 = true ∧ d.lcState ≠ 5 := by simpa [bit] using h05
    exact if_neg fun hb => hn ⟨h0, h5, hb⟩

theorem jtagDebugAccess_eq (d : Dev) (a : JtagAccess) : (d.jtagOpen a → jtagDebugAccess d a = d.jtagReached a) ∧ (¬ d.jtagOpen a → jtagDebugAccess d a = d) := by
  cases a with
  | smithHalt c => exact jtag_gate _ rfl (right_gate (by simp [bit]))
  | smithStep c => exact jtag_gate _ rfl (right_gate (by simp [bit]))
  | tileRead t ad => exact jtag_gate _ rfl (right_gate (by simp [bit, and_assoc]))
  | vectorRead t p v => exact jtag_gate _ rfl (right_gate (by simp [bit, and_assoc]))
  | scalarRead t k => exact jtag_gate _ rfl (right_gate (by simp [bit, and_assoc]))
  | engineRead e ad => exact jtag_gate _ rfl (right_gate (by simp [bit, and_assoc]))
  | logRead i => exact jtag_gate _ rfl (by simp [bit, jtagRight])
  | smithAccess c k => exact jtag_gate _ rfl (right_gate (by simp [bit]))
  | hearthRead h ad => exact jtag_gate _ rfl (right_gate (by simp [bit, and_assoc]))
  | vaultRead k => exact jtag_gate _ rfl (by simp [bit, jtagRight])
  | flashRead ad =>
    refine jtag_gate (bit 6 d.rights && ad < 0x20000000) (ite_congr rfl (fun _ => rfl) fun _ => ?_) (right_gate (by simp [bit]))
    cases bit 6 d.rights <;> by_cases hlt : ad < 0x20000000 <;> simp [hlt, Nat.not_le.2, Dev.jtagReached]
  | sensorTrace t => exact jtag_gate _ rfl (right_gate (by simp [bit]))
  | boundaryScan => exact jtag_gate _ rfl (by simp [bit, jtagRight])
  | keyRegisterRead t => exact jtag_gate false (ite_congr rfl (fun _ => rfl) fun _ => (if_neg Bool.false_ne_true).symm) (by simp [jtagRight])

/-- Settles O49: wipes, rights and JTAG registers by their branches; a burn by its bit and what follows it; an access beyond base debug by its gate. -/
theorem lifeCycleEvents : Obligations.LifeCycleEvents := by
  refine ⟨?lapses, fun s again h => ?noBurn, ?burn, ?registers, ?access⟩
  case lapses =>
    intro s d
    have wipes {u : Dev} (h : lcyWipesDone d = u) : s.goes .lcyWipesDone u := congrArg (fun e => Host.Outcome.next (s.withDev e)) h
    have lapse {u : Dev} (h : lcyPrepareExpire d = u) : s.goes .lcyPrepareExpire u := congrArg (fun e => Host.Outcome.next (s.withDev e)) h
    have rights {u : Dev} (h : debugRightsExpiry d = u) : s.goes .debugRightsExpiry u := congrArg (fun e => Host.Outcome.next (s.withDev e)) h
    refine ⟨fun h => wipes (if_neg (ne_true_of_eq_false h)), fun h => wipes (if_pos h), fun h => lapse ?_, fun t a h hl => lapse ?_,
      fun h => rights (if_neg ?_), fun hc hs => rights (if_pos (by simp [hc, hs]))⟩
    · unfold lcyPrepareExpire
      split
      · exact if_neg (Nat.not_lt.2 (h _ _ ‹_›))
      · rfl
    · unfold lcyPrepareExpire
      rw [h]
      exact if_pos hl
    · rcases h with h | h <;> simp [h]
  case noBurn =>
    refine congrArg (fun e => Host.Outcome.next (s.withDev e)) (?_ : otpBitDone s.dev again = s.dev)
    unfold otpBitDone
    rw [h]
  case burn =>
    intro s again f k h d x y a b next
    have hb : d.bitActed f k again = b := d.bitActed_eq f k again
    have ends {u : Dev} (hu : b.burnOn f y = u) : s.goes (.otpBitDone again) u :=
      congrArg (fun e => Host.Outcome.next (s.withDev e)) ((otpBitDone_eq h again).trans (hb ▸ hu))
    refine ⟨fun hs => ends ((if_pos hs).trans ?_), fun n hs hn => ends ((if_neg (ne_true_of_eq_false hs)).trans ?_), fun hs hn => ends ((if_neg (ne_true_of_eq_false hs)).trans ?_)⟩
    · exact congrArg _ (ite_congr (by simp) (fun _ => rfl) fun _ => rfl)
    · rw [show y.nextBit = some n from hn]
    · rw [show y.nextBit = none from hn]
  case registers =>
    intro s tdi d idcode status
    have idc {u : Dev} (h : Machine.jtagIdcode d tdi = u) : s.goes (.jtagIdcode tdi) u := congrArg (fun e => Host.Outcome.next (s.withDev e)) h
    have byp {u : Dev} (h : Machine.jtagBypass d tdi = u) : s.goes (.jtagBypass tdi) u := congrArg (fun e => Host.Outcome.next (s.withDev e)) h
    have lcs {u : Dev} (h : Machine.jtagLcStatus d tdi = u) : s.goes (.jtagLcStatus tdi) u := congrArg (fun e => Host.Outcome.next (s.withDev e)) h
    exact ⟨fun h => have hn := ne_true_of_eq_false h; ⟨idc (if_neg hn), byp (if_neg hn), lcs (if_neg hn)⟩, fun h => ⟨idc (if_pos h), byp (if_pos h), lcs (if_pos h)⟩⟩
  case access =>
    intro s a d rights right open' shows
    have ends {u : Dev} (h : jtagDebugAccess d a = u) : s.goes (.jtagDebugAccess a) u := congrArg (fun e => Host.Outcome.next (s.withDev e)) h
    have hopen : open' ↔ d.jtagOpen a := Iff.rfl
    obtain ⟨hyes, hno⟩ := jtagDebugAccess_eq d a
    refine ⟨fun h => ends (hno h), fun h => ?_⟩
    have reached {x : JtagAccess} (e : a = x) : jtagDebugAccess d a = d.jtagReached x := (hyes h).trans (by rw [e])
    refine ⟨fun c e => ends (reached e), fun c e => ends (reached e), fun t ad e => ends (reached e), fun t p v e => ends (reached e), fun t k e => ends (reached e),
      fun n ad e => ends (reached e), fun c k e => ends (reached e), fun n ad e => ends (reached e), fun k e => ends (reached e), fun ad e => ⟨fun hu => ?_, fun hu => ?_⟩,
      fun t e => ends (reached e), fun i e => ends (reached e), fun e => ends (reached e)⟩
    · exact ends ((reached e).trans (if_pos (by simpa using hu)))
    · exact ends ((reached e).trans (if_neg (by simpa using hu)))

end Sys2Proof.Machine
end

section
/-! SUPPORT. What a served request leaves of the setup, and the life-cycle commands on the OTP; from them O50 (R442, R443, R455). -/

namespace Sys2Proof.Machine

/-! ### A served request -/

namespace SetupKept

theorem tellOrigin (d : Dev) (src : Src) (id : Nat) (r : Reply) : SetupKept d (d.tellOrigin src id r) := by
  unfold Dev.tellOrigin
  split
  · rfl
  · exact (onMgmt d _ rfl).trans (notifyOne _ _ _ _)

theorem respondTo (d : Dev) (src : Src) (id : Nat) (r : Reply) : SetupKept d (d.respondTo src id r) := by
  refine (tellOrigin d src id r).trans ?_
  unfold Dev.respondTo
  generalize d.tellOrigin src id r = e
  dsimp only
  split
  · rename_i n
    have hc := countRecord e n
    split
    · rename_i x hx
      rw [hx] at hc
      exact hc
    · rename_i x hx
      rw [hx] at hc
      exact hc.trans ((emit x _).trans (onMgmt _ _ rfl))
  · exact (emit e _).trans (onHost _ _)
  · exact (emit e _).trans (onHost _ _)

theorem hears (d : Dev) (src : Src) : SetupKept d (d.hears src) := by
  unfold Dev.hears
  split
  · split
    · rfl
    · exact onMgmt d _ rfl
  · rfl

theorem resend (d : Dev) (src : Src) (id : Nat) (b : Bytes) : SetupKept d (d.resend src id b) := by
  unfold Dev.resend
  split
  · rename_i n
    have hc := countRecord d n
    split
    · rename_i x hx
      rw [hx] at hc
      exact hc
    · rename_i x hx
      rw [hx] at hc
      exact hc.trans ((emit x _).trans (hears _ _))
  · rfl

theorem clearKey (d : Dev) (u : Nat) : SetupKept d (d.clearKey u) := (dropKey d u).trans (show SetupKept _ (Dev.sparkDraw _ u _) from onUnit _ _ _)

theorem openTicket (d : Dev) (p : Param) (offset n : Nat) (m : Msg) (w : Bool) : SetupKept d (d.openTicket p offset n m w).2 := by
  unfold Dev.openTicket
  split
  · rfl
  · exact (onMgmt d _ rfl).trans (notifyAll _ _ _ _)

end SetupKept

/-- Of the setup a served request changes what its effect changes. -/
theorem Dev.serve_rel {R : Dev → Dev → Prop} (hk : ∀ {a b}, SetupKept a b → R a b) (ht : ∀ {a b c}, R a b → R b c → R a c) {d : Dev} {m : Msg} {eff : Effect}
    (he : R d (eff d m).2) (lc : Nat) (p : Param) (offset : Nat) (w : Bool) : R d (d.serve lc p offset m w eff) := by
  have answer (r : Reply) : R d (d.respondTo m.src m.reqId.toNat r) := hk (SetupKept.respondTo d _ _ r)
  unfold Dev.serve
  dsimp only
  split
  · exact hk (SetupKept.refl d)
  · split
    · exact hk (SetupKept.resend d _ _ _)
    · split
      · exact answer _
      · split
        · exact answer _
        · split
          · exact answer _
          · split
            · exact answer _
            · split
              · split
                · exact hk ((SetupKept.openTicket d _ _ _ _ _).trans (SetupKept.respondTo _ _ _ _))
                · exact answer _
              · split
                · rename_i hx
                  rw [hx] at he
                  exact ht he (hk (SetupKept.respondTo _ _ _ _))
                · rename_i hx
                  rw [hx] at he
                  exact ht he (hk (SetupKept.hears _ _))

/-! ### One-way OTP -/

/-- A slot keeps its digest once it is burned, and its revocation. -/
def SlotGrows (x y : KeySlot) : Prop := (x.burned = true → y.burned = true ∧ y.digest = x.digest) ∧ (x.revoked = true → y.revoked = true)

theorem SlotGrows.refl (x : KeySlot) : SlotGrows x x := ⟨fun h => ⟨h, rfl⟩, id⟩

theorem SlotGrows.trans {x y z : KeySlot} (h : SlotGrows x y) (g : SlotGrows y z) : SlotGrows x z :=
  ⟨fun hb => ⟨(g.1 (h.1 hb).1).1, (g.1 (h.1 hb).1).2.trans (h.1 hb).2⟩, fun hr => g.2 (h.2 hr)⟩

/-- `b` has every bit that reads firmly 1 in `a`, every key slot of `a`, and its boot state and minimum version. -/
structure OtpGrows (a b : LcySt) : Prop where
  firm : ∀ f k, (tabGet OtpField.reset f a.fields).firm.testBit k = true → (tabGet OtpField.reset f b.fields).firm.testBit k = true
  slot : ∀ i, SlotGrows (tabGet KeySlot.reset i a.keySlots) (tabGet KeySlot.reset i b.keySlots)
  minSvn : a.minSvn = b.minSvn
  bootState : a.bootState = b.bootState

namespace OtpGrows

variable {a b c : LcySt}

theorem trans (h : OtpGrows a b) (g : OtpGrows b c) : OtpGrows a c where
  firm f k hk := g.firm f k (h.firm f k hk)
  slot i := (h.slot i).trans (g.slot i)
  minSvn := h.minSvn.trans g.minSvn
  bootState := h.bootState.trans g.bootState

/-- The OTP itself is as it was. -/
theorem same (hf : b.fields = a.fields) (hs : b.keySlots = a.keySlots) (hm : b.minSvn = a.minSvn) (hb : b.bootState = a.bootState) : OtpGrows a b where
  firm f k h := by rwa [hf]
  slot i := by rw [hs]; exact SlotGrows.refl _
  minSvn := hm.symm
  bootState := hb.symm

theorem refl (a : LcySt) : OtpGrows a a := same rfl rfl rfl rfl

theorem of_kept {d e : Dev} (h : SetupKept d e) : OtpGrows d.lcy e.lcy := by rw [h.lcy]; exact refl _

/-- A pulse adds at most its bit. -/
theorem pulsed (d : Dev) (f k : Nat) (again : Bool) : OtpGrows d.lcy (d.pulsed f k again).lcy where
  firm g j h := by
    show (tabGet OtpField.reset g (tabSet f ((d.field f).pulsed k again) d.lcy.fields)).firm.testBit j = true
    rw [tabGet_set]
    split
    · subst g
      unfold OtpField.pulsed
      cases again with
      | true => exact h
      | false => exact (Nat.testBit_or _ _ _).trans (by rw [show (d.field f).firm.testBit j = true from h, Bool.true_or])
    · exact h
  slot _ := SlotGrows.refl _
  minSvn := rfl
  bootState := rfl

/-- One slot grows, the others stay (R455). -/
theorem slotMod {i : Nat} {f : KeySlot → KeySlot} (h : SlotGrows (tabGet KeySlot.reset i a.keySlots) (f (tabGet KeySlot.reset i a.keySlots))) :
    OtpGrows a { a with keySlots := tabMod KeySlot.reset i f a.keySlots } where
  firm _ _ h := h
  slot j := by
    rw [tabGet_mod]
    split
    · subst j
      exact h
    · exact SlotGrows.refl _
  minSvn := rfl
  bootState := rfl

theorem ite {p : Prop} [Decidable p] {d x y : Dev} (hx : OtpGrows d.lcy x.lcy) (hy : OtpGrows d.lcy y.lcy) : OtpGrows d.lcy (if p then x else y).lcy := by
  split
  · exact hx
  · exact hy

/-- The end of a burn decodes the fields as they stand. -/
theorem burnEnd (d : Dev) (f code : Nat) : OtpGrows d.lcy (d.burnEnd f code).lcy := by
  unfold Dev.burnEnd
  extract_lets x y z w
  have hx : OtpGrows d.lcy x.lcy := by rw [(SetupKept.logMode _ _ _ _ _ _).lcy]; exact refl _
  have hy : OtpGrows d.lcy y.lcy := hx.trans (same rfl rfl rfl rfl)
  have hz : OtpGrows d.lcy z.lcy := ite (hy.trans (same rfl rfl rfl rfl)) hy
  have hw : OtpGrows d.lcy w.lcy := ite hz hz
  exact ite hw hw

/-- One bit of a burn, with all that follows it. -/
theorem otpBitDone (d : Dev) (again : Bool) : OtpGrows d.lcy (otpBitDone d again).lcy := by
  cases h : d.lcy.burning with
  | none =>
    have hd : Machine.otpBitDone d again = d := by unfold Machine.otpBitDone; rw [h]
    rw [hd]
    exact refl _
  | some x =>
    obtain ⟨f, k⟩ := x
    rw [otpBitDone_eq h]
    have hb : OtpGrows d.lcy (d.bitActed f k again).lcy := by rw [Dev.bitActed_lcy]; exact pulsed d f k again
    unfold Dev.burnOn
    split
    · exact hb.trans (burnEnd _ _ _)
    · split
      · exact hb.trans (same rfl rfl rfl rfl)
      · exact hb.trans (burnEnd _ _ _)

/-! ### The effects of the commands -/

theorem withArg {n : Nat} {f : Effect} {d : Dev} {m : Msg} (h : OtpGrows d.lcy (f d m).2.lcy) : OtpGrows d.lcy (Machine.withArg n f d m).2.lcy := by
  unfold Machine.withArg
  split
  · exact h
  · exact refl _

/-! Operations outside the OTP. -/

theorem accepts {d : Dev} (h : OtpGrows a d.lcy) : OtpGrows a (accept d).2.lcy := h
theorem onDebug {d : Dev} (f : DebugSt → DebugSt) (h : OtpGrows a d.lcy) : OtpGrows a (d.onDebug f).lcy := h
theorem setNum {d : Dev} (p : Param) (r v : Nat) (h : OtpGrows a d.lcy) : OtpGrows a (d.setNum p r v).lcy := h
theorem setOct {d : Dev} (p : Param) (r : Nat) (v : Bytes) (h : OtpGrows a d.lcy) : OtpGrows a (d.setOct p r v).lcy := h
theorem extend {d : Dev} (k event info : Nat) (x : Bytes) (h : OtpGrows a d.lcy) : OtpGrows a (d.extend k event info x).lcy := h
theorem onLcy {d : Dev} {f : LcySt → LcySt} (h : OtpGrows a d.lcy) (hf : OtpGrows d.lcy (f d.lcy)) : OtpGrows a (d.onLcy f).lcy := h.trans hf

theorem recordAlarm (d : Dev) (s u cls applied detail : Nat) (test : Bool) : OtpGrows d.lcy (d.recordAlarm s u cls applied detail test).lcy := by
  rw [show (d.recordAlarm s u cls applied detail test).lcy = d.lcy from (SetupKept.notifyAll _ _ _ _).lcy]
  exact refl _

theorem respondA4 (d : Dev) (k : EdgeKind) (cause : Nat) : OtpGrows d.lcy (d.respondA4 k cause false).lcy := by
  rw [(SetupKept.respondA4 _ _ _).lcy]
  exact refl _

theorem eff_ite {p : Prop} [Decidable p] {d : Dev} {x y : Option Reply × Dev} (hx : OtpGrows d.lcy x.2.lcy) (hy : OtpGrows d.lcy y.2.lcy) :
    OtpGrows d.lcy (if p then x else y).2.lcy := by
  split
  · exact hx
  · exact hy

theorem prepare (d : Dev) (m : Msg) : OtpGrows d.lcy (effLcyPrepare d m).2.lcy := by
  refine withArg ?_
  dsimp only
  refine eff_ite (refl _) (eff_ite (refl _) ?_)
  split
  · exact refl _
  · have hlog : OtpGrows d.lcy (d.logMode 1 d.lcState (leNat m.body) 0 0).lcy := of_kept (SetupKept.logMode d _ _ _ _ _)
    refine eff_ite ?_ (accepts (onLcy hlog (same rfl rfl rfl rfl)))
    refine accepts (onLcy ?_ ?_)
    · exact (hlog.trans (recordAlarm (Dev.joinResponse _ 4) _ _ _ _ _ _)).trans (respondA4 _ _ _)
    · generalize Dev.respondA4 _ _ _ _ = e
      exact same rfl rfl rfl rfl

theorem burn (d : Dev) (m : Msg) : OtpGrows d.lcy (effLcyBurn d m).2.lcy := by
  refine withArg ?_
  dsimp only
  refine eff_ite (refl _) ?_
  split
  · refine eff_ite (refl _) (eff_ite (refl _) ?_)
    split
    · exact refl _
    · split
      · exact refl _
      · exact (of_kept (SetupKept.logMode d _ _ _ _ _)).trans (same rfl rfl rfl rfl)
  · exact refl _

theorem keyBurn (d : Dev) (m : Msg) : OtpGrows d.lcy (effDbgKeyBurn d m).2.lcy := by
  refine withArg (eff_ite (refl _) (eff_ite (refl _) ?_))
  split
  · exact refl _
  · rename_i h
    exact eff_ite (refl _) (slotMod ⟨fun hb => absurd hb h, id⟩)

theorem keyRevoke (d : Dev) (m : Msg) : OtpGrows d.lcy (effDbgKeyRevoke d m).2.lcy :=
  withArg (eff_ite (refl _) (eff_ite (refl _) (eff_ite (refl _) (slotMod ⟨fun hb => ⟨hb, rfl⟩, fun _ => rfl⟩))))

theorem nonce (d : Dev) (m : Msg) : OtpGrows d.lcy (effDbgNonce d m).2.lcy := by
  refine withArg (eff_ite (refl _) ?_)
  obtain ⟨c, b, k, h⟩ := d.draw_frame 16
  have hl : (d.draw 16).2.lcy = d.lcy := by rw [h]
  show OtpGrows d.lcy (d.draw 16).2.lcy
  rw [hl]
  exact refl _

/-- Entry to DEBUG clears keys and forms the test root. -/
theorem enterTestRoot (d : Dev) : d.enterTestRoot.lcy = d.lcy := by
  have hclear (l : List Nat) (d : Dev) : SetupKept d (l.foldl (fun x u => x.clearKey u) d) := SetupKept.foldl SetupKept.clearKey l d
  unfold Dev.enterTestRoot
  extract_lets e
  have he : e.lcy = d.lcy := (hclear _ d).lcy
  clear_value e
  exact he

theorem apply (d : Dev) (m : Msg) : OtpGrows d.lcy (effDbgApplyM7 d m).2.lcy := by
  refine withArg ?_
  dsimp only
  refine eff_ite (refl _) ?_
  split
  · exact ite (refl _) (refl _)
  · have htake (e : Dev) : OtpGrows e.lcy (e.takeEdge .debug .host 0).lcy := of_kept (SetupKept.takeEdge e _ _ _)
    have hroot : OtpGrows d.lcy d.consumeNonce.enterTestRoot.lcy := by rw [enterTestRoot]; exact refl _
    exact accepts (extend _ _ _ _ ((setOct _ _ _ (setNum _ _ _ (onDebug _ hroot))).trans (htake _)))

theorem ends (d : Dev) (m : Msg) : OtpGrows d.lcy (effDbgEnd d m).2.lcy := withArg (eff_ite (refl _) (refl _))

/-- A command that serves a request on such an effect. -/
theorem of_serve {s u : State} {c : Instr} {p : Param} {m : Msg} {eff : Effect} (hc : exec c s = s.run (fun d => d.serve d.lc p 0 m false eff))
    (he : OtpGrows s.dev.lcy (eff s.dev m).2.lcy) (hu : exec c s = .next u) : OtpGrows s.dev.lcy u.dev.lcy := by
  have h : s.withDev (s.dev.serve s.dev.lc p 0 m false eff) = u := Host.Outcome.next.inj (hc.symm.trans hu)
  rw [← h]
  exact Dev.serve_rel (R := fun a b => OtpGrows a.lcy b.lcy) of_kept trans he _ _ _ _

theorem of_run {s u : State} {c : Instr} {f : Dev → Dev} (hc : exec c s = s.run f) (hf : OtpGrows s.dev.lcy (f s.dev).lcy) (hu : exec c s = .next u) :
    OtpGrows s.dev.lcy u.dev.lcy := by
  have h : s.withDev (f s.dev) = u := Host.Outcome.next.inj (hc.symm.trans hu)
  rw [← h]
  exact hf

theorem wipesDone (d : Dev) : OtpGrows d.lcy (lcyWipesDone d).lcy := by
  unfold lcyWipesDone
  refine ite ?_ (refl _)
  rw [(SetupKept.logMode _ _ _ _ _ _).lcy]
  exact same rfl rfl rfl rfl

theorem prepareExpire (d : Dev) : OtpGrows d.lcy (lcyPrepareExpire d).lcy := by
  unfold lcyPrepareExpire
  split
  · exact ite (same rfl rfl rfl rfl) (refl _)
  · exact refl _

end OtpGrows

/-- Settles O50: every command and every bit that ends only grows the OTP. -/
theorem otpOnlySets : Obligations.OtpOnlySets := by
  intro s u c hc hu
  have h : OtpGrows s.dev.lcy u.dev.lcy := by
    rcases hc with rfl | rfl | rfl | ⟨b, rfl⟩ | ⟨m, rfl | rfl | rfl | rfl | rfl | rfl | rfl⟩
    · exact .of_run (f := lcyWipesDone) rfl (.wipesDone _) hu
    · exact .of_run (f := lcyPrepareExpire) rfl (.prepareExpire _) hu
    · exact .of_run (f := debugRightsExpiry) rfl (.ite (.refl _) (.refl _)) hu
    · exact .of_run (f := fun d => otpBitDone d b) rfl (.otpBitDone _ b) hu
    · exact .of_serve rfl (.prepare _ m) hu
    · exact .of_serve rfl (.burn _ m) hu
    · exact .of_serve rfl (.keyBurn _ m) hu
    · exact .of_serve rfl (.keyRevoke _ m) hu
    · exact .of_serve rfl (.nonce _ m) hu
    · exact .of_serve rfl (.apply _ m) hu
    · exact .of_serve rfl (.ends _ m) hu
  exact ⟨h.firm, fun i => h.slot i, h.minSvn, h.bootState⟩

end Sys2Proof.Machine
end

section
/-! SUPPORT. The stages of an SPDM connection, its answers, and the frames of the management network; from them O55 (R472, R477, R499, R500, R516). -/

namespace Sys2Proof.Machine

variable {d : Dev} {x : SpdmSrc} {b : Bytes} {stage : Nat} {f : Dev → SpdmSt → Dev}

/-! ### The stages of a connection -/

theorem Dev.spdmServe_unheard (h : d.spdmHeard x = false) : d.spdmServe x b stage f = d := if_pos (by simp [h])

theorem Dev.spdmServe_notReady (h : d.spdmHeard x = true) (hb : d.boot.step < 8) : d.spdmServe x b stage f = d.spdmSend x (spdmError (leAt 0 1 b) 0x42 0) :=
  (if_neg (by simp [h])).trans (if_pos hb)

theorem Dev.spdmServe_version (h : d.spdmHeard x = true) (hb : 8 ≤ d.boot.step) (hs : 0 < stage) (h2 : leAt 0 1 b ≠ 0x12) (h3 : leAt 0 1 b ≠ 0x13) :
    d.spdmServe x b stage f = d.spdmSend x (spdmError 0x12 0x41 0) :=
  (if_neg (by simp [h])).trans ((if_neg (Nat.not_lt.2 hb)).trans (if_pos (by simp [hs, h2, h3])))

/-- A request of a known version, or GET_VERSION, is held against the stage of the connection. -/
theorem Dev.spdmServe_known (h : d.spdmHeard x = true) (hb : 8 ≤ d.boot.step) (hv : stage = 0 ∨ leAt 0 1 b = 0x12 ∨ leAt 0 1 b = 0x13) :
    d.spdmServe x b stage f = if (d.spdmOf x).stage < stage then d.spdmSend x (spdmError (leAt 0 1 b) 0x04 0) else f d (d.spdmOf x) :=
  (if_neg (by simp [h])).trans ((if_neg (Nat.not_lt.2 hb)).trans (if_neg (by rcases hv with hv | hv | hv <;> simp [hv])))

theorem Dev.spdmServe_reached (h : d.spdmHeard x = true) (hb : 8 ≤ d.boot.step) (hv : leAt 0 1 b = 0x12 ∨ leAt 0 1 b = 0x13) (hs : stage ≤ (d.spdmOf x).stage) :
    d.spdmServe x b stage f = f d (d.spdmOf x) := (Dev.spdmServe_known h hb (.inr hv)).trans (if_neg (Nat.not_lt.2 hs))

/-- Every request that needs a stage is served at it. -/
theorem exec_spdmServe {c : Instr}
    (h : (c, stage) ∈ [(Instr.getVersion x b, 0), (.getCapabilities x b, 1), (.negotiateAlgorithms x b, 2), (.getDigests x b, 3), (.getCertificate x b, 3),
      (.challenge x b, 3), (.getMeasurements x b, 3)]) : ∃ f, ∀ s, exec c s = s.run (fun d => d.spdmServe x b stage f) := by
  simp only [List.mem_cons, List.not_mem_nil, or_false, Prod.mk.injEq] at h
  rcases h with ⟨rfl, rfl⟩ | ⟨rfl, rfl⟩ | ⟨rfl, rfl⟩ | ⟨rfl, rfl⟩ | ⟨rfl, rfl⟩ | ⟨rfl, rfl⟩ | ⟨rfl, rfl⟩ <;> exact ⟨_, fun _ => rfl⟩

/-! ### A draw and what is attested -/

/-- A draw of random bytes changes nothing that is attested, and no connection. -/
theorem Dev.draw_attested (d : Dev) (n : Nat) : (d.draw n).2.certChain = d.certChain ∧ (d.draw n).2.signEc = d.signEc ∧ (d.draw n).2.spdmBlock = d.spdmBlock ∧
    (d.draw n).2.spdmOf = d.spdmOf := by
  obtain ⟨c, w, k, h⟩ := d.draw_frame n
  rw [h]
  exact ⟨rfl, rfl, rfl, rfl⟩

theorem Dev.spdmBlock_eq (d : Dev) (i : Nat) :
    d.spdmBlock i = natLE 1 i ++ [1] ++ natLE 2 51 ++ [0] ++ natLE 2 48 ++ (if i = 9 then d.logDigest else d.slot (i - 1)) := by
  unfold Dev.spdmBlock
  simp only [beq_iff_eq]

/-- An answer with the exchange entered in the transcripts. -/
theorem Dev.spdmAnswer_eq {y : SpdmSt} (h : d.spdmOf x = y) (f : SpdmSt → SpdmSt) (r : Bytes) :
    d.spdmAnswer x f r = (d.onMgmt (fun g => { g with spdm := tabSet x (f y) g.spdm })).spdmSend x r := by
  unfold Dev.spdmAnswer
  rw [h]

section
variable (h : d.spdmHeard x = true) (hb : 8 ≤ d.boot.step) (hv : leAt 0 1 b = 0x12 ∨ leAt 0 1 b = 0x13) (hs : 3 ≤ (d.spdmOf x).stage)
include h hb hv hs

theorem challenge_invalid (hi : leAt 2 1 b ≠ 0 ∨ b.length < 36) : challenge x b d = d.spdmSend x (spdmError (leAt 0 1 b) 0x01 0) :=
  (Dev.spdmServe_reached h hb hv hs).trans (if_pos (by simpa using hi))

theorem challenge_answered (hi : ¬ (leAt 2 1 b ≠ 0 ∨ b.length < 36)) : challenge x b d =
    let sum := if leAt 3 1 b = 0 then [] else Sha2.sha384 ((List.range 9).flatMap (fun k => d.spdmBlock (k + 1)))
    let r := b.take 1 ++ [0x03, 0, 1] ++ Sha2.sha384 (d.certChain 0) ++ (d.draw 32).1 ++ sum ++ natLE 2 0 ++ slice 36 8 b
    ((d.draw 32).2.onMgmt (fun g => { g with spdm := tabSet x { d.spdmOf x with trans := (d.spdmOf x).vca } g.spdm })).spdmSend x
      (r ++ d.signEc (ascii "responder-challenge_auth signing" ++ Sha2.sha384 ((d.spdmOf x).trans ++ b ++ r))) := by
  refine (Dev.spdmServe_reached h hb hv hs).trans ((if_neg (by simpa using hi)).trans ?_)
  obtain ⟨hc, he, hk, ho⟩ := d.draw_attested 32
  generalize d.draw 32 = w at *
  obtain ⟨nonce, e⟩ := w
  dsimp only at *
  rw [Dev.spdmAnswer_eq (congrFun ho x), hc, hk]
  unfold Dev.spdmSign
  rw [he]
  simp only [beq_iff_eq]

/-- The blocks that a request for measurements names. -/
def measured (k : Nat) : List Nat := if k = 0 then [] else if k = 255 then (List.range 9).map (· + 1) else [k]

/-- The answer to a request for measurements, before its signature. -/
def Dev.measurements (d : Dev) (b : Bytes) : Bytes :=
  b.take 1 ++ [0x60] ++ natLE 1 (if leAt 3 1 b = 0 then 9 else 0) ++ [0] ++ natLE 1 (measured (leAt 3 1 b)).length ++
    natLE 3 ((measured (leAt 3 1 b)).flatMap d.spdmBlock).length ++ (measured (leAt 3 1 b)).flatMap d.spdmBlock ++ (d.draw 32).1 ++ natLE 2 0 ++
    (if leAt 0 1 b = 0x13 then slice (if (leAt 2 1 b).testBit 0 = true then 37 else 4) 8 b else [])

theorem getMeasurements_answered
    (hi : ¬ ((9 < leAt 3 1 b ∧ leAt 3 1 b ≠ 255) ∨ ((leAt 2 1 b).testBit 0 = true ∧ (b.length < 37 ∨ leAt 36 1 b % 16 ≠ 0)))) : getMeasurements x b d =
    if (leAt 2 1 b).testBit 0 = true then
      ((d.draw 32).2.onMgmt (fun g => { g with spdm := tabSet x { d.spdmOf x with meas := [] } g.spdm })).spdmSend x
        (d.measurements b ++ d.signEc (ascii "responder-measurements signing" ++ Sha2.sha384 ((d.spdmOf x).vca ++ (d.spdmOf x).meas ++ b ++ d.measurements b)))
    else ((d.draw 32).2.onMgmt (fun g => { g with spdm := tabSet x { d.spdmOf x with meas := (d.spdmOf x).meas ++ b ++ d.measurements b } g.spdm })).spdmSend x
      (d.measurements b) := by
  refine (Dev.spdmServe_reached h hb hv hs).trans ((if_neg (by simpa [bit] using hi)).trans ?_)
  obtain ⟨hc, he, hk, ho⟩ := d.draw_attested 32
  unfold Dev.measurements measured
  generalize d.draw 32 = w at *
  obtain ⟨nonce, e⟩ := w
  dsimp only at *
  rw [Dev.spdmAnswer_eq (congrFun ho x), Dev.spdmAnswer_eq (congrFun ho x), hk]
  unfold Dev.spdmSign bit
  rw [he]
  simp only [beq_iff_eq]

end

/-! ### A message over a session -/

theorem Dev.spdmSend_plain (h : ∀ n, x ≠ .scega n) (r : Bytes) : d.spdmSend x r = d.emit (.spdm x r) := by
  unfold Dev.spdmSend
  split
  · exact absurd rfl (h _)
  · rfl

/-- Over a session a message is a record like any other, and its request was one of the client's (R503, R508). -/
theorem Dev.spdmSend_session {n : Nat} {z : Session} (h : tabGet? n d.mgmt.sessions = some z) (hz : z.sendSeq < 2 ^ 32) (r : Bytes) :
    ∃ l, d.spdmSend (.scega n) r = { d with out := d.out ++ [.spdm (.scega n) r], mgmt := { d.mgmt with sessions := l } } ∧
      tabGet? n l = some { z with sendSeq := z.sendSeq + 1, lastRecord := d.now } := by
  have hc : d.countRecord n = (true, d.onMgmt (fun g => { g with sessions := tabSet n { z with sendSeq := z.sendSeq + 1 } g.sessions })) := by
    unfold Dev.countRecord
    simp only [h]
    exact if_neg (Nat.not_le.2 hz)
  have hset : tabGet? n (tabSet n { z with sendSeq := z.sendSeq + 1 } d.mgmt.sessions) = some { z with sendSeq := z.sendSeq + 1 } := (tabGet?_set _ _ _ _).trans (if_pos rfl)
  refine ⟨tabSet n { z with sendSeq := z.sendSeq + 1, lastRecord := d.now } (tabSet n { z with sendSeq := z.sendSeq + 1 } d.mgmt.sessions), ?_, (tabGet?_set _ _ _ _).trans (if_pos rfl)⟩
  unfold Dev.spdmSend
  simp only [hc]
  unfold Dev.hears Dev.emit Dev.onMgmt
  simp only [hset]
  rfl

theorem Dev.spdmSend_ended {n : Nat} {z : Session} (h : tabGet? n d.mgmt.sessions = some z) (hz : z.sendSeq ≥ 2 ^ 32) (r : Bytes) :
    d.spdmSend (.scega n) r = d.endSession n := by
  have hc : d.countRecord n = (false, d.endSession n) := by
    unfold Dev.countRecord
    simp only [h]
    exact if_pos hz
  unfold Dev.spdmSend
  simp only [hc]

/-! ### Frames -/

section
variable {g : Frame} (hup : d.scegaUp = true)
include hup

theorem icmpEcho_up : icmpEcho g d = if g.destination ∈ d.addresses then d.emit (.frame 2 (g.source ++ g.destination ++ g.payload)) else d :=
  ite_congr (by simp [hup]) (fun _ => rfl) fun _ => rfl

theorem arp_up : arp g d = if d.ipv4 = true ∧ g.destination = (d.netOct P.netIpv4Addr).take 4 then d.emit (.frame 4 (g.source ++ g.destination ++ macAddress)) else d :=
  ite_congr (by simp [hup]) (fun _ => rfl) fun _ => rfl

theorem datagram_up : datagram g d =
    if (g.udpPort = d.netNum P.netScegaPort ∨ ((g.udpPort = 319 ∨ g.udpPort = 320) ∧ d.num P.netPtpEnable 0 = 1)) ∧ (g.source.length ≠ 4 ∨ d.ipv4 = true) then d
    else d.addNum P.netDiscardCount 0 1 := by
  rw [← ite_not]
  refine ite_congr (propext ?_) (fun _ => rfl) fun _ => rfl
  simp only [hup, Bool.true_and, Bool.not_eq_true', ← Bool.not_eq_true, Bool.and_eq_true, Bool.or_eq_true, beq_iff_eq, bne_iff_ne]

/-- A solicitation for one of the device's addresses is answered. -/
theorem neighbor_solicited (ht : leAt 0 1 g.payload = 135) : neighbor g d =
    if slice 8 16 g.payload ∈ d.addresses then d.emit (.frame 3 (g.source ++ slice 8 16 g.payload ++ macAddress)) else d := by
  refine (if_neg (by simp [hup])).trans ((if_pos (by simp [ht])).trans ?_)
  exact ite_congr (by simp) (fun _ => rfl) fun _ => rfl

theorem neighbor_other (ht : leAt 0 1 g.payload ≠ 135) (ho : leAt 0 1 g.payload ≠ 134 ∨ d.netNum P.netIpv6Mode ≠ 1) : neighbor g d = d :=
  (if_neg (by simp [hup])).trans ((if_neg (by simpa using ht)).trans (if_neg (by rcases ho with ho | ho <;> simp [ho])))

/-- Under SLAAC a router advertisement gives the global address. -/
theorem neighbor_advertised (ht : leAt 0 1 g.payload = 134) (ho : d.netNum P.netIpv6Mode = 1) : neighbor g d =
    match slaacPrefix g.payload.length (g.payload.drop 16) with
    | some p => d.onMgmt (fun g => { g with slaac := p ++ interfaceId })
    | none => d :=
  (if_neg (by simp [hup])).trans ((if_neg (by simp [ht])).trans (if_pos (by simp [ht, ho])))

end

/-! ### O55 -/

/-- Settles O55: a request by its stage and then its own branches, a message by its source, a frame by the branches of its handler. -/
theorem spdmAndNetwork : Obligations.SpdmAndNetwork := by
  refine ⟨?stages, ?requests, ?unsupported, fun d x r h => Dev.spdmSend_plain h r, ?session, ?tick, ?reassembly, ?sync, ?frames⟩
  case stages =>
    intro s x b c stage hc d v error
    obtain ⟨f, hf⟩ := exec_spdmServe hc
    have ends {u : Dev} (h : d.spdmServe x b stage f = u) : s.goes c u := (hf s).trans (congrArg (fun e => Host.Outcome.next (s.withDev e)) h)
    exact ⟨fun h => ends (Dev.spdmServe_unheard h), fun h hb => ends (Dev.spdmServe_notReady h hb), fun h hb hs h2 h3 => ends (Dev.spdmServe_version h hb hs h2 h3),
      fun h hb hv hs => ends ((Dev.spdmServe_known h hb (.inr hv)).trans (if_pos hs))⟩
  case requests =>
    intro s x b h hb d y v after one invalid
    have ends {c : Instr} {f : Dev → Dev} {u : Dev} (hc : exec c s = s.run f) (h : f d = u) : s.goes c u :=
      hc.trans (congrArg (fun e => Host.Outcome.next (s.withDev e)) h)
    refine ⟨ends rfl (Dev.spdmServe_known h hb (.inl rfl)), fun hv => ⟨fun hs => ?_, fun hs => ?_, fun hs => ?_⟩⟩
    · exact ends rfl (Dev.spdmServe_reached h hb hv hs)
    · exact ends rfl (Dev.spdmServe_reached h hb hv hs)
    · have hblock : d.spdmBlock = one := funext d.spdmBlock_eq
      refine ⟨ends rfl (Dev.spdmServe_reached h hb hv hs), ?certificate, ?challenge, ?measurements⟩
      case certificate =>
        exact ⟨fun hi => ends rfl ((Dev.spdmServe_reached h hb hv hs).trans (if_pos (by simpa [or_assoc] using hi))),
          fun h1 h8 hl => ends rfl ((Dev.spdmServe_reached h hb hv hs).trans (if_neg (by simp [h1, h8, show leAt 4 2 b < (s.dev.certChain _).length from hl])))⟩
      case challenge =>
        intro sum r
        refine ⟨fun hi => ends rfl (challenge_invalid h hb hv hs hi), fun h0 hl => ends rfl ((challenge_answered h hb hv hs (by omega)).trans ?_)⟩
        rw [hblock]
      case measurements =>
        intro signed k l blocks bad r
        have hr : d.measurements b = r := by
          unfold Dev.measurements
          rw [hblock]
          rfl
        have hanswer (hn : ¬ bad) := getMeasurements_answered h hb hv hs hn
        refine ⟨fun hi => ends rfl ((Dev.spdmServe_reached h hb hv hs).trans (if_pos (by simpa [bit, bad, k, signed] using hi))), fun hn hsig => ?_, fun hn hsig => ?_⟩
        · exact ends rfl ((hanswer hn).trans ((if_neg (ne_true_of_eq_false hsig)).trans (by rw [hr])))
        · exact ends rfl ((hanswer hn).trans ((if_pos hsig).trans (by rw [hr])))
  case unsupported =>
    intro s x b
    have ends {u : Dev} (h : spdmUnsupported x b s.dev = u) : s.goes (.spdmUnsupportedRequest x b) u := congrArg (fun e => Host.Outcome.next (s.withDev e)) h
    exact ⟨fun h => ends (if_neg (ne_true_of_eq_false h)), fun h => ends (if_pos h)⟩
  case session =>
    intro d n r z h
    refine ⟨fun hz => Dev.spdmSend_ended h hz r, fun hz => ?_⟩
    obtain ⟨l, hv, hl⟩ := Dev.spdmSend_session h hz r
    rw [hv]
    exact ⟨rfl, hl, rfl⟩
  case tick =>
    intro s ticks
    have ends {u : Dev} (h : prpTick s.dev = u) : s.goes .prpSupervisionTick u := congrArg (fun e => Host.Outcome.next (s.withDev e)) h
    exact ⟨fun h => ends (if_neg (by simpa [ticks] using h)), fun h => ends (if_pos (by simpa [ticks] using h))⟩
  case reassembly =>
    intro s k d
    have ends {u : Dev} (h : reassemblyTimeout k d = u) : s.goes (.reassemblyTimeout k) u := congrArg (fun e => Host.Outcome.next (s.withDev e)) h
    refine ⟨fun h => ends ?_, fun t ht hl => ends ?_⟩
    · unfold reassemblyTimeout
      split
      · exact if_neg (Nat.not_le.2 (h _ ‹_›))
      · rfl
    · unfold reassemblyTimeout
      rw [ht]
      exact if_pos hl
  case sync =>
    intro s p d map runs
    have ends {u : Dev} (h : ptpSync p d = u) : s.goes (.ptpSync p) u := congrArg (fun e => Host.Outcome.next (s.withDev e)) h
    have hruns : (!d.scegaUp || d.num P.netPtpEnable 0 != 1 || p.domain != d.num P.netPtpDomain 0) = false ↔ runs := by
      simp only [Bool.or_eq_false_iff, Bool.not_eq_eq_eq_not, Bool.not_false, bne_eq_false_iff_eq, and_assoc, runs]
    exact ⟨fun h => ends (if_pos (by rw [← Bool.not_eq_false, hruns]; exact h)), fun h => ends (if_neg (ne_true_of_eq_false (hruns.2 h)))⟩
  case frames =>
    intro s f d own t target listens
    have ends {c : Instr} {g : Dev → Dev} {u : Dev} (hc : exec c s = s.run g) (h : g d = u) : s.goes c u :=
      hc.trans (congrArg (fun e => Host.Outcome.next (s.withDev e)) h)
    refine ⟨fun h => ⟨ends rfl (if_neg (by simp [h])), ends rfl (if_pos (by simp [h])), ends rfl (if_neg (by simp [h])), ends rfl (if_neg (by simp [h]))⟩, fun h => ?_⟩
    refine ⟨fun ho => ends rfl ((icmpEcho_up h).trans (if_pos ho)), fun ho => ends rfl ((icmpEcho_up h).trans (if_neg ho)),
      fun ht ho => ends rfl ((neighbor_solicited h ht).trans (if_pos ho)), fun ht ho => ends rfl ((neighbor_solicited h ht).trans (if_neg ho)),
      fun ht ho => ends rfl (neighbor_other h ht ho), fun ht hm hp => ends rfl ((neighbor_advertised h ht hm).trans ?_),
      fun p ht hm hp => ends rfl ((neighbor_advertised h ht hm).trans ?_), fun hv hd => ends rfl ((arp_up h).trans (if_pos ⟨hv, hd⟩)),
      fun hn => ends rfl ((arp_up h).trans (if_neg ?_)), fun hl => ends rfl ((datagram_up h).trans (if_pos hl)), fun hl => ends rfl ((datagram_up h).trans (if_neg hl))⟩
    · rw [hp]
    · rw [hp]
    · rintro ⟨hv, hd⟩
      exact hn.elim (fun e => absurd (hv.symm.trans e) (by decide)) fun e => e hd

end Sys2Proof.Machine
end

section
/-! SUPPORT. What the stages of boot after the image leave of it (R471). -/

namespace Sys2Proof.Machine

variable {d : Dev}

/-- The course of a boot: its record of measurements apart. -/
def BootSt.course (b : BootSt) : BootSt := { b with slots := [], log := [], truncated := false }

/-- `e` has of `d` the course of its boot, the ports that answer, the backup log and the class of a level change; and the key store, unless that class is A4. -/
structure BootKept (d e : Dev) : Prop where
  course : e.boot.course = d.boot.course
  answering : e.mgmt.answering = d.mgmt.answering
  log : e.backup.log = d.backup.log
  cls : e.sourceClass 0x804 = d.sourceClass 0x804
  storeOpen : d.sourceClass 0x804 < 4 → e.modes.storeOpen = d.modes.storeOpen

namespace BootKept

variable {d e : Dev}

theorem refl (d : Dev) : BootKept d d := ⟨rfl, rfl, rfl, rfl, fun _ => rfl⟩

theorem trans {a b c : Dev} (h : BootKept a b) (g : BootKept b c) : BootKept a c :=
  ⟨g.course.trans h.course, g.answering.trans h.answering, g.log.trans h.log, g.cls.trans h.cls, fun hc => (g.storeOpen (h.cls.symm ▸ hc)).trans (h.storeOpen hc)⟩

theorem foldl {α : Type} {f : Dev → α → Dev} (h : ∀ d x, BootKept d (f d x)) (l : List α) (d : Dev) : BootKept d (l.foldl f d) := foldl_rel refl trans h l d

theorem ite {c : Prop} [Decidable c] {a b : Dev} (h : BootKept d a) (g : BootKept d b) : BootKept d (if c then a else b) := by
  split
  · exact h
  · exact g

/-- An operation outside all that. -/
theorem unchanged (hb : e.boot = d.boot) (ha : e.mgmt.answering = d.mgmt.answering) (hl : e.backup.log = d.backup.log) (hd : e.dict = d.dict)
    (hs : e.modes.storeOpen = d.modes.storeOpen) : BootKept d e :=
  ⟨congrArg BootSt.course hb, ha, hl, by unfold Dev.sourceClass; rw [hd], fun _ => hs⟩

theorem of_kept (h : SetupKept d e) : BootKept d e := unchanged h.boot h.answering (congrArg BackupSt.log h.backup) h.dict h.storeOpen

theorem extend (d : Dev) (k event info : Nat) (x : Bytes) : BootKept d (d.extend k event info x) := ⟨rfl, rfl, rfl, rfl, fun _ => rfl⟩

theorem setNum (d : Dev) {p : Param} (r v : Nat) (hp : p ≠ P.tmpClass) : BootKept d (d.setNum p r v) :=
  ⟨rfl, rfl, rfl, (tabGet_set _ _ _ _ _).trans (if_neg fun h => hp (congrArg Prod.fst h)), fun _ => rfl⟩

theorem generate (d : Dev) (i : Nat) (add : Bytes) (n : Nat) : BootKept d (d.generate i add n).2 := by
  unfold Dev.generate
  extract_lets x s e y
  exact (ite (setNum d (p := P.blwStretchCount) _ _ (by decide)) (refl d) : BootKept d e).trans (unchanged rfl rfl rfl rfl rfl)

theorem draw (d : Dev) (n : Nat) : BootKept d (d.draw n).2 := by
  unfold Dev.draw
  split
  · exact generate d 0 [] n
  · exact unchanged rfl rfl rfl rfl rfl

/-! Level changes (R374, R376). -/

theorem onTamper (d : Dev) (f : TamperSt → TamperSt) : BootKept d (d.onTamper f) := unchanged rfl rfl rfl rfl rfl
theorem onQ (d : Dev) (t : Nat) (f : QuenchSt → QuenchSt) : BootKept d (d.onQ t f) := unchanged rfl rfl rfl rfl rfl
theorem emit (d : Dev) (x : Emit) : BootKept d (d.emit x) := unchanged rfl rfl rfl rfl rfl
theorem onMgmt (d : Dev) (f : MgmtSt → MgmtSt) (h : (f d.mgmt).answering = d.mgmt.answering) : BootKept d (d.onMgmt f) := unchanged rfl h rfl rfl rfl

theorem logAlarm (d : Dev) (x : AlarmEntry) : BootKept d (d.logAlarm x) := (onTamper d _).trans (of_kept (SetupKept.notifyAll _ _ _ _))

theorem recordAlarm (d : Dev) (s u cls applied detail : Nat) (test : Bool) : BootKept d (d.recordAlarm s u cls applied detail test) := logAlarm d _

theorem lapseRights (d : Dev) : BootKept d d.lapseRights := setNum d (p := P.dbgRights) _ _ (by decide)

theorem respondA3 (d : Dev) (cause : Nat) : BootKept d (d.respondA3 cause) := (lapseRights d).trans (of_kept (SetupKept.respondA3 d cause))

/-- A response of A4 closes the key store, with the class that brings it. -/
theorem respondA4 (hc : 4 ≤ d.sourceClass 0x804) (k : EdgeKind) (cause : Nat) (scrap : Bool) : BootKept d (d.respondA4 k cause scrap) := by
  have hclose : BootKept d d.eraseEmber.lapseRights.closeStore :=
    have h := (unchanged rfl rfl rfl rfl rfl : BootKept d d.eraseEmber).trans (lapseRights _)
    ⟨h.course, h.answering, h.log, h.cls, fun hlt => absurd hlt (Nat.not_lt.2 hc)⟩
  have hact := hclose.trans (of_kept (SetupKept.respondA4 d k cause))
  have hscrap (d : Dev) : BootKept d d.startScrap := by
    unfold Dev.startScrap
    dsimp only
    split
    · split <;> exact unchanged rfl rfl rfl rfl rfl
    · exact unchanged rfl rfl rfl rfl rfl
  rw [Dev.respondA4_scrap]
  exact ite (hact.trans (hscrap _)) hact

/-- The device response of the class of a level change. -/
theorem respond {c : Nat} (hc : d.sourceClass 0x804 = c) (cause : Nat) : BootKept d (d.respond c cause) := by
  have h4 : 4 ≤ c → BootKept d (d.respondA4 .alarm cause true) := fun h => respondA4 (hc ▸ h) _ _ _
  clear hc
  unfold Dev.respond
  split
  · exact refl d
  · exact refl d
  · exact of_kept (SetupKept.respondA2 d cause)
  · exact respondA3 d cause
  · rename_i h0 h1 h2 h3
    exact h4 (by grind)

theorem raiseLevel (d : Dev) (u detail : Nat) : BootKept d (d.raiseUnit 0x804 u detail) := by
  unfold Dev.raiseUnit
  extract_lets c
  have hrec := (unchanged rfl rfl rfl rfl rfl : BootKept d (d.joinResponse c)).trans (recordAlarm (d.joinResponse c) 0x804 u c (d.applied c) detail false)
  exact ite (hrec.trans (respond hrec.cls _)) (recordAlarm d _ _ _ _ _ _)

theorem setLevel (d : Dev) (t l : Nat) : BootKept d (d.setLevel t l) := by
  unfold Dev.setLevel
  extract_lets old e det f
  have hf : BootKept d f := (setNum d (p := P.qncLevel) t l (by decide)).trans (raiseLevel _ _ _)
  exact ite (refl d) (ite (hf.trans (setNum f (p := P.qncRaiseCount) _ _ (by decide))) (hf.trans (setNum f (p := P.qncLowerCount) _ _ (by decide))))

theorem startCalibration (d : Dev) (t : Nat) : BootKept d (d.startCalibration t) := by
  have happly (d : Dev) : BootKept d (d.applyLevel t) := by
    unfold Dev.applyLevel
    split
    · exact ite ((setLevel d t _).trans (onQ _ _ _)) (refl d)
    · exact refl d
  exact ite (refl d) (((onQ d t _).trans (onQ _ t _)).trans (happly _))

/-! The network and the other members. -/

theorem openPeer (d : Dev) (r : Nat) : BootKept d (d.openPeer r) := by
  unfold Dev.openPeer
  extract_lets id n
  refine ite (refl d) ?_
  have hd := draw d 152
  generalize d.draw 152 = w at hd
  obtain ⟨b, e⟩ := w
  exact (hd.trans (onMgmt e _ rfl)).trans (emit _ _)

theorem openPeers (d : Dev) : BootKept d d.openPeers := foldl openPeer _ d

theorem measureLibrary (d : Dev) : BootKept d d.measureLibrary := foldl (fun d e => extend d 4 0x05 0 (Microprogram.measurement e)) _ d

end BootKept

/-! ### Selecting an image -/

/-- The boot of `d` has got to `e`, and no image runs yet. -/
structure Starting (d e : Dev) : Prop where
  lcy : e.lcy = { d.lcy with bootState := d.lcState }
  banks : e.boot.banks = d.boot.banks
  backup : e.backup = d.backup
  vault : e.vault = d.vault
  answering : e.mgmt.answering = d.mgmt.answering
  cls : e.sourceClass 0x804 = d.sourceClass 0x804
  waits : e.boot.recoveryWait = false
  halted : e.boot.halted = false

namespace Starting

variable {d e : Dev}

theorem extend (h : Starting d e) (k event info : Nat) (x : Bytes) : Starting d (e.extend k event info x) := { h with }

theorem setNum (h : Starting d e) {p : Param} (r v : Nat) (hp : p ≠ P.tmpClass) : Starting d (e.setNum p r v) :=
  { h with cls := ((tabGet_set _ _ _ _ _).trans (if_neg fun h => hp (congrArg Prod.fst h))).trans h.cls }

theorem ite (h : Starting d e) {f : Dev} {c : Prop} [Decidable c] (g : Starting d f) : Starting d (if c then f else e) := by
  split
  · exact g
  · exact h

theorem tryBank (h : Starting d e) (b : Nat) : Starting d (e.tryBank b).2 := by
  unfold Dev.tryBank
  split
  · dsimp only
    split
    · exact (h.extend _ _ _ _).extend _ _ _ _
    · exact h.extend _ _ _ _
  · exact h

/-- A bank is good where both stages accept its image. -/
theorem tryBank_good (h : Starting d e) (b : Nat) : (e.tryBank b).1 = true ↔ d.bankStage1 b = true ∧ d.bankStage2 b = true := by
  have h1 : e.bankStage1 b = d.bankStage1 b := by unfold Dev.bankStage1; rw [h.banks, h.lcy]
  have h2 : (e.extend 0 0x01 0 (e.bankM1 b)).bankStage2 b = d.bankStage2 b := by
    have hx := h.extend 0 0x01 0 (e.bankM1 b)
    unfold Dev.bankStage2
    rw [hx.banks, hx.lcy]
  unfold Dev.tryBank
  rw [h1]
  cases hb : d.bankStage1 b with
  | false => simp
  | true =>
    simp only [if_true, h2, true_and]
    cases d.bankStage2 b <;> simp

end Starting

/-- Boot as it starts: nothing is measured, the state decoded is in force. -/
def Dev.romStart (d : Dev) : Dev :=
  (d.onBoot (fun b => { b with slots := [], log := [], truncated := false, quotes := [], recoveryWait := false, halted := false, staging := none, staged := [] })).onLcy
    (fun l => { l with bootState := d.lcState })

theorem Dev.romStart_starting (d : Dev) : Starting d d.romStart := ⟨rfl, rfl, rfl, rfl, rfl, rfl, rfl, rfl⟩

theorem Dev.lcState_congr {e : Dev} (h : e.lcy.fields = d.lcy.fields) : e.lcState = d.lcState := by
  have hc : e.fcls = d.fcls := funext fun i => by unfold Dev.fcls Dev.field; rw [h]
  unfold Dev.lcState Dev.testBreach Dev.freached
  rw [hc]

/-- The bank tried first, and the one tried where it is not good (R470, R479). -/
def Dev.onTrial (d : Dev) : Bool := d.num P.fwPendingBank 0 != 0 && !d.boot.trial
def Dev.firstBank (d : Dev) : Nat := if d.onTrial then d.num P.fwPendingBank 0 - 1 else d.num P.fwActiveBank 0
def Dev.secondBank (d : Dev) : Nat := if d.onTrial then d.num P.fwActiveBank 0 else 1 - d.num P.fwActiveBank 0
def Dev.goodBank (d : Dev) (b : Nat) : Prop := d.bankStage1 b = true ∧ d.bankStage2 b = true

/-- The image runs: what is drawn anew, and the management ports answer. -/
def Dev.romRuns (d : Dev) : Dev :=
  ((d.newCalibration.onVault (fun v => { v with calibrationInput := none })).onMgmt (fun g => { g with answering := true })).onBoot (fun b => { b with step := 8 })

/-- What selecting an image comes to. -/
structure RomOutcome (d r : Dev) : Prop where
  first : d.goodBank d.firstBank → ∃ e, Starting d e ∧ r = (e.runBank d.firstBank d.onTrial false).romRuns
  second : ¬ d.goodBank d.firstBank → d.goodBank d.secondBank → ∃ e, Starting d e ∧ r = (e.runBank d.secondBank false true).romRuns
  none : ¬ d.goodBank d.firstBank → ¬ d.goodBank d.secondBank → ∃ e, Starting d e ∧ r = e.onBoot (fun b => { b with recoveryWait := true, step := 3, trial := false })

theorem Dev.romBoot_scrapped (h : d.lcState = 5) : d.romBoot = d.romStart.eraseEmber.onBoot (fun b => { b with halted := true, step := 2 }) := by
  unfold Dev.romBoot
  exact if_pos (beq_iff_eq.2 ((Dev.lcState_congr (e := d.romStart) rfl).trans h))

theorem Dev.romBoot_outcome (h : d.lcState ≠ 5) : RomOutcome d d.romBoot := by
  unfold Dev.romBoot
  extract_lets s1 s2 s3 pend act wasTrial usePending s4 first second
  rw [if_neg (show ¬ (s2.lcState == 5) = true from fun h5 => h ((Dev.lcState_congr (e := d.romStart) rfl).symm.trans (beq_iff_eq.1 h5)))]
  have h3 : Starting d s3 := d.romStart_starting.extend _ _ _ _
  have h4 : Starting d s4 := h3.ite (h3.setNum _ _ (by decide))
  have htrial : usePending = d.onTrial := rfl
  have hone : first = d.firstBank := rfl
  have htwo : second = d.secondBank := rfl
  clear_value s4 first second usePending
  subst htrial hone htwo
  have hrun {e : Dev} (he : Starting d e) (b : Nat) (t f : Bool) : (e.runBank b t f).boot.recoveryWait = false := he.waits
  have hfirst : (s4.tryBank d.firstBank).1 = true ↔ d.goodBank d.firstBank := h4.tryBank_good d.firstBank
  have ht := h4.tryBank d.firstBank
  generalize s4.tryBank d.firstBank = w at hfirst ht
  obtain ⟨ok, e⟩ := w
  cases ok with
  | true =>
    have hgood := hfirst.1 rfl
    refine ⟨fun _ => ⟨e, ht, ?_⟩, fun hn => absurd hgood hn, fun hn => absurd hgood hn⟩
    exact if_neg (ne_true_of_eq_false (hrun ht _ _ _))
  | false =>
    have hbad : ¬ d.goodBank d.firstBank := fun h => Bool.false_ne_true (hfirst.2 h)
    have hs : Starting d (if d.onTrial then e.setNum P.fwPendingBank 0 0 else e) := ht.ite (ht.setNum _ _ (by decide))
    have hsecond : ((if d.onTrial then e.setNum P.fwPendingBank 0 0 else e).tryBank d.secondBank).1 = true ↔ d.goodBank d.secondBank := hs.tryBank_good d.secondBank
    have ht2 := hs.tryBank d.secondBank
    dsimp only
    rw [if_neg Bool.false_ne_true]
    generalize (if d.onTrial then e.setNum P.fwPendingBank 0 0 else e).tryBank d.secondBank = w at hsecond ht2
    obtain ⟨ok, f⟩ := w
    refine ⟨fun h => absurd h hbad, fun _ hg => ?_, fun _ hn => ?_⟩
    · obtain rfl : ok = true := hsecond.2 hg
      exact ⟨f, ht2, if_neg (ne_true_of_eq_false (hrun ht2 _ _ _))⟩
    · obtain rfl : ok = false := Bool.eq_false_of_not_eq_true fun h => hn (hsecond.1 h)
      exact ⟨f, ht2, rfl⟩

/-! ### The stages after it -/

/-- Entries of the alarm log touch the log and the sessions that are told. -/
def LogOnly (d e : Dev) : Prop := ∃ t g o, e = { d with tamper := t, mgmt := g, out := o } ∧ g.answering = d.mgmt.answering

theorem LogOnly.refl (d : Dev) : LogOnly d d := ⟨_, _, _, rfl, rfl⟩

theorem LogOnly.trans {a b c : Dev} (h : LogOnly a b) (g : LogOnly b c) : LogOnly a c := by
  obtain ⟨t, m, o, rfl, hm⟩ := h
  obtain ⟨t', m', o', rfl, hm'⟩ := g
  exact ⟨t', m', o', rfl, hm'.trans hm⟩

theorem LogOnly.logAlarm (d : Dev) (x : AlarmEntry) : LogOnly d (d.logAlarm x) := by
  have ha := SetupKept.notifyAll (d.onTamper (fun t => { t with log := tabSet (d.tamper.logNext % 1024) x t.log, logNext := t.logNext + 1 })) (fun r => r == 2 || r == 3) 1 x.bytes
  obtain ⟨g, o, h⟩ := Dev.notifyAll_frame (d.onTamper (fun t => { t with log := tabSet (d.tamper.logNext % 1024) x t.log, logNext := t.logNext + 1 })) (fun r => r == 2 || r == 3) 1 x.bytes
  rw [h] at ha
  exact ⟨_, g, o, h, ha.answering⟩

/-- The backup log is copied: every entry of it is marked (R434). -/
theorem Dev.copyBackup_frame (d : Dev) : ∃ e, LogOnly d e ∧ d.copyBackup = e.onBackup (fun b => { b with log := b.log.map (fun x => { x with copied := true }) }) :=
  ⟨_, foldl_rel LogOnly.refl LogOnly.trans (fun d _ => LogOnly.logAlarm d _) _ _, rfl⟩

theorem Dev.masterOf_congr {e : Dev} (hf : e.lcy.fields = d.lcy.fields) (hb : e.backup.emberShares = d.backup.emberShares)
    (hv : e.vault.masterWrapped = d.vault.masterWrapped) : e.masterOf = d.masterOf := by
  unfold Dev.masterOf Dev.rootOfBoot Dev.pufSecret BackupSt.ember BackupSt.emberKey
  rw [Dev.lcState_congr hf, hb, hv]

theorem Dev.masterOf_isSome (d : Dev) : d.masterOf.isSome =
    (d.lcState != 4 && d.backup.ember && (unwrapKey (kmac256 d.pufSecret d.backup.emberKey "OQ7168-ROOT") d.vault.masterWrapped).isSome) := by
  unfold Dev.masterOf Dev.rootOfBoot
  cases hl : d.lcState == 4 with
  | true => simp [bne, hl]
  | false => cases hb : d.backup.ember <;> simp [bne, hl]

/-- The opening of the key store, or its test root. -/
def Dev.storeStage (d : Dev) : Dev := if d.vault.testRoot then d.formTestRoot else d.openStore

theorem Dev.storeStage_kept (d : Dev) : d.storeStage.boot = d.boot ∧ d.storeStage.mgmt = d.mgmt ∧ d.storeStage.backup = d.backup ∧ d.storeStage.dict = d.dict := by
  unfold Dev.storeStage
  split
  · exact ⟨rfl, rfl, rfl, rfl⟩
  · unfold Dev.openStore
    split <;> exact ⟨rfl, rfl, rfl, rfl⟩

theorem Dev.storeStage_open (d : Dev) : d.storeStage.modes.storeOpen = if d.vault.testRoot = true then false else d.masterOf.isSome := by
  unfold Dev.storeStage
  split
  · rfl
  · exact d.openStore_spec.1

/-- What the stages do after the store. -/
theorem Dev.bootStages_kept (h : d.boot.step = 8) : BootKept d.copyBackup.storeStage d.bootStages := by
  unfold Dev.bootStages
  rw [if_neg (by simp [h])]
  extract_lets c o m n p
  have hn : BootKept o n := ((BootKept.measureLibrary o).trans (BootKept.extend m _ _ _ _)).trans (BootKept.onMgmt _ _ rfl)
  have hp : BootKept o p := hn.trans (BootKept.ite (BootKept.setNum n _ _ (by decide)) (BootKept.refl n))
  exact hp.trans ((BootKept.openPeers p).trans (BootKept.foldl BootKept.startCalibration _ _))

theorem Starting.runBank {e : Dev} (h : Starting d e) (b : Nat) (t f : Bool) : Starting d (e.runBank b t f) := by
  have h1 : Starting d (e.onBoot (fun x => { x with running := b, trial := t, fallback := f, trialDone := false })) := { h with }
  exact (h1.extend _ _ _ _).setNum _ _ (by decide)

/-- What the stages come to: the store opens unless the test root is in force, and the backup log is copied (R324, R325, R434). -/
theorem Dev.bootStages_spec (h : d.boot.step = 8) :
    d.bootStages.boot.course = d.boot.course ∧ d.bootStages.mgmt.answering = d.mgmt.answering ∧
    (d.sourceClass 0x804 < 4 → d.bootStages.modes.storeOpen = if d.vault.testRoot = true then false else d.masterOf.isSome) ∧
    ∀ x ∈ d.bootStages.backup.log, x.copied = true := by
  have hk := Dev.bootStages_kept h
  obtain ⟨e, ⟨t, g, o, he, hg⟩, hcopy⟩ := d.copyBackup_frame
  obtain ⟨hboot, hmgmt, hbackup, hdict⟩ := d.copyBackup.storeStage_kept
  have hopen := d.copyBackup.storeStage_open
  have hmaster : d.copyBackup.masterOf = d.masterOf := by
    rw [hcopy, he]
    exact Dev.masterOf_congr rfl rfl rfl
  have hroot : d.copyBackup.vault.testRoot = d.vault.testRoot := by rw [hcopy, he]; rfl
  have hlog : d.copyBackup.backup.log = d.backup.log.map (fun x => { x with copied := true }) := by rw [hcopy, he]; rfl
  have hans : d.copyBackup.mgmt.answering = d.mgmt.answering := by rw [hcopy, he]; exact hg
  have hsame : d.copyBackup.boot = d.boot ∧ d.copyBackup.dict = d.dict := by rw [hcopy, he]; exact ⟨rfl, rfl⟩
  have hcls : d.copyBackup.storeStage.sourceClass 0x804 = d.sourceClass 0x804 := by
    unfold Dev.sourceClass
    rw [hdict, hsame.2]
  refine ⟨by rw [hk.course, hboot, hsame.1], by rw [hk.answering, hmgmt, hans], fun h4 => ?_, fun x hx => ?_⟩
  · rw [hk.storeOpen (hcls.symm ▸ h4), hopen, hroot, hmaster]
  · rw [hk.log, hbackup, hlog] at hx
    obtain ⟨y, -, rfl⟩ := List.mem_map.1 hx
    rfl

theorem Dev.romRuns_groups (d : Dev) : d.romRuns.lcy = d.lcy ∧ d.romRuns.backup = d.backup ∧ d.romRuns.dict = d.dict ∧
    d.romRuns.vault.masterWrapped = d.vault.masterWrapped ∧ d.romRuns.vault.testRoot = d.vault.testRoot := by
  simp [Dev.romRuns, Dev.newCalibration, Dev.fresh, Dev.onBoot, Dev.onMgmt, Dev.onVault]

/-- A device whose boot of the image in bank `b` has gone through its stages (R325, R434, R471). -/
structure Ran (d e : Dev) (b : Nat) (t f : Bool) : Prop where
  course : e.boot.running = b ∧ e.boot.trial = t ∧ e.boot.fallback = f ∧ e.boot.step = 8 ∧ e.boot.halted = false ∧ e.boot.recoveryWait = false
  answering : e.mgmt.answering = true
  storeOpen : d.sourceClass 0x804 < 4 → e.modes.storeOpen = if d.vault.testRoot = true then false else d.masterOf.isSome
  copied : ∀ x ∈ e.backup.log, x.copied = true

theorem Dev.bootStages_ran {r : Dev} {b : Nat} {t f : Bool} (h : Starting d r) (hr : r.boot.running = b ∧ r.boot.trial = t ∧ r.boot.fallback = f) :
    Ran d r.romRuns.bootStages b t f := by
  obtain ⟨hlcy, hbackup, hdict, hwrapped, hroot⟩ := r.romRuns_groups
  have hmaster : r.romRuns.masterOf = d.masterOf := by
    refine Dev.masterOf_congr ?_ ?_ ?_
    · rw [hlcy, h.lcy]
    · rw [hbackup, h.backup]
    · rw [hwrapped, h.vault]
  have hcls : r.romRuns.sourceClass 0x804 = d.sourceClass 0x804 := by
    rw [← h.cls]
    unfold Dev.sourceClass
    rw [hdict]
  rw [h.vault] at hroot
  obtain ⟨hcourse, hans, hopen, hcopied⟩ := Dev.bootStages_spec (d := r.romRuns) rfl
  rw [hcls, hroot, hmaster] at hopen
  generalize r.romRuns.bootStages = x at *
  exact ⟨⟨(congrArg BootSt.running hcourse).trans hr.1, (congrArg BootSt.trial hcourse).trans hr.2.1, (congrArg BootSt.fallback hcourse).trans hr.2.2,
    congrArg BootSt.step hcourse, (congrArg BootSt.halted hcourse).trans h.halted, (congrArg BootSt.recoveryWait hcourse).trans h.waits⟩, hans, hopen, hcopied⟩

/-! ### Boot from step 2 -/

/-- A boot that has halted, or waits for an image, is a reset in progress no longer. -/
def Dev.bootRests (d : Dev) : Dev := if d.boot.halted || d.boot.recoveryWait then d.onModes (fun m => { m with inReset := none }) else d

theorem Dev.bootRests_of_rest (h : d.boot.halted = true ∨ d.boot.recoveryWait = true) : d.bootRests = d.onModes (fun m => { m with inReset := none }) :=
  if_pos (by simpa using h)

theorem Dev.bootRests_of_run (h : d.boot.halted = false) (hw : d.boot.recoveryWait = false) : d.bootRests = d := if_neg (by simp [h, hw])

/-- A pending scrap comes before anything is opened (R437). -/
def Dev.bootScraps (d : Dev) : Dev :=
  ((d.onBackup (fun b => { b with log := b.log.map (fun e => { e with scrapPending := false }) })).startScrap).onBoot (fun b => { b with halted := true, step := 2 })

theorem Dev.bootRun_eq (d : Dev) : d.bootRun = (if d.backup.log.any BlogEntry.scrapPending then d.bootScraps else d.romBoot.bootStages).bootRests := rfl

theorem Dev.bootRun_scraps (h : ∃ b ∈ d.backup.log, b.scrapPending = true) : d.bootRun = d.bootScraps.bootRests := by
  rw [Dev.bootRun_eq, if_pos (List.any_eq_true.2 h)]

theorem Dev.bootRun_goes (h : ¬ ∃ b ∈ d.backup.log, b.scrapPending = true) : d.bootRun = d.romBoot.bootStages.bootRests := by
  rw [Dev.bootRun_eq, if_neg fun hn => h (List.any_eq_true.1 hn)]

theorem Dev.startScrap_frame (d : Dev) : ∃ p l, d.startScrap = { d with power := p, lcy := l } ∧ l.burning.isSome = true := by
  unfold Dev.startScrap
  dsimp only
  split
  · rename_i f k h
    split
    · exact ⟨_, _, rfl, congrArg Option.isSome h⟩
    · exact ⟨_, _, rfl, congrArg Option.isSome h⟩
  · exact ⟨_, _, rfl, rfl⟩

theorem Dev.bootScraps_spec (d : Dev) : d.bootScraps.boot.halted = true ∧ d.bootScraps.boot.step = 2 ∧ d.bootScraps.lcy.burning.isSome = true ∧
    ∀ b ∈ d.bootScraps.backup.log, b.scrapPending = false := by
  obtain ⟨p, l, h, hl⟩ := (d.onBackup (fun b => { b with log := b.log.map (fun e => { e with scrapPending := false }) })).startScrap_frame
  unfold Dev.bootScraps
  rw [h]
  refine ⟨rfl, rfl, hl, fun b hb => ?_⟩
  obtain ⟨y, -, rfl⟩ := List.mem_map.1 hb
  rfl

theorem Dev.bootStages_of_step (h : d.boot.step ≠ 8) : d.bootStages = d := if_pos (by simpa using h)

/-- The boot of an image ends its stages as they leave it. -/
theorem Dev.bootRun_ran (hs : ¬ ∃ b ∈ d.backup.log, b.scrapPending = true) {e : Dev} (he : Starting d e) {b : Nat} {t f : Bool}
    (hr : d.romBoot = (e.runBank b t f).romRuns) : Ran d d.bootRun b t f := by
  have hran := Dev.bootStages_ran (he.runBank b t f) ⟨rfl, rfl, rfl⟩
  rw [Dev.bootRun_goes hs, hr]
  obtain ⟨-, -, -, -, hhalted, hwait⟩ := hran.course
  rw [Dev.bootRests_of_run hhalted hwait]
  exact hran

/-! ### The end of boot -/

/-- Each unit of a list without repetitions is changed once. -/
theorem Dev.unit_foldl_onUnit {f : Nat → Unit → Unit} {l : List Nat} (hl : l.Nodup) (d : Dev) (u : Nat) :
    (l.foldl (fun d u => d.onUnit u (f u)) d).unit u = if u ∈ l then f u (d.unit u) else d.unit u := by
  induction l generalizing d with
  | nil => rfl
  | cons v r ih =>
    obtain ⟨hv, hr⟩ := List.nodup_cons.1 hl
    rw [List.foldl_cons, ih hr, Dev.unit_onUnit]
    by_cases huv : v = u
    · subst huv
      simp [hv]
    · simp [huv, Ne.symm huv]

/-- The units that have not ended their steps of boot end them (R15, R122, R277). -/
theorem Dev.bootUnits_unit (d : Dev) (l : List Nat) {u : Nat} (hu : u < nUnits) (hp : d.unitPowered u = true) (hs : (d.unit u).pool = .returning ∨ (d.unit u).pool = .joining) :
    ((d.bootUnits l).unit u).pool = if l.contains u && (d.unit u).pool == .returning then .out else .inPool := by
  have hq (m : List Nat) (d : Dev) : (m.foldl (fun d t => if (d.q t).calibrating then d.onQ t (fun q => { q with calibrating := false }) else d) d).units = d.units :=
    foldl_rel (R := fun a b => b.units = a.units) (fun _ => rfl) (fun h g => g.trans h) (fun d t => by split <;> rfl) m d
  have hmem : u ∈ (List.range nUnits).filter (fun u => ((d.unit u).pool == .returning || (d.unit u).pool == .joining) && d.unitPowered u) := by
    simp [hu, hp, hs]
  have hnodup : ((List.range nUnits).filter (fun u => ((d.unit u).pool == .returning || (d.unit u).pool == .joining) && d.unitPowered u)).Nodup := List.nodup_range.filter _
  unfold Dev.bootUnits
  extract_lets m e f
  have hunit : Dev.unit (List.foldl (fun d t => if (d.q t).calibrating then d.onQ t (fun q => { q with calibrating := false }) else d) f (List.range nTiles)) u = f.unit u :=
    congrArg (tabGet Unit.reset u) (hq _ f)
  rw [hunit]
  exact congrArg Unit.pool ((Dev.unit_foldl_onUnit (f := fun u x => { x with pool := if l.contains u && x.pool == .returning then .out else .inPool, scrubbing := false }) hnodup e u).trans
    (if_pos hmem))

theorem foldl_modes {α : Type} {f : Dev → α → Dev} (hf : ∀ d x, (f d x).modes = d.modes) (l : List α) (d : Dev) : (l.foldl f d).modes = d.modes :=
  foldl_rel (R := fun a b => b.modes = a.modes) (fun _ => rfl) (fun h g => g.trans h) hf l d

theorem Dev.bootUnits_modes (d : Dev) (l : List Nat) : (d.bootUnits l).modes = d.modes := by
  have hq (m : List Nat) (d : Dev) : (m.foldl (fun d t => if (d.q t).calibrating then d.onQ t (fun q => { q with calibrating := false }) else d) d).modes = d.modes :=
    foldl_modes (fun d t => by split <;> rfl) m d
  unfold Dev.bootUnits
  extract_lets m e f
  have hstep (d : Dev) (u : Nat) (x : Unit → Unit) : (d.onUnit u x).modes = d.modes := rfl
  have hf : f.modes = e.modes := foldl_modes (fun d u => hstep d u _) m e
  exact (hq _ f).trans hf

theorem Dev.measureLoaded_modes (d : Dev) : d.measureLoaded.modes = d.modes := by
  unfold Dev.measureLoaded
  have hstep (d : Dev) (x : Bytes) : (d.extend 5 0x07 0 x).modes = d.modes := rfl
  exact foldl_modes (fun d s => hstep d (d.mpMeasure s)) _ d

/-! ### O52 -/

/-- The device as boot ends its last step. -/
def Dev.bootEnded (d : Dev) (b : BootReport) : Dev :=
  ((((d.onModes (fun m => { m with storeOpen := m.storeOpen && b.storeTagOk })).bootUnits b.failedUnits).measureLoaded).extend 7 0x0B 0 (zeros 48)).onBoot
    (fun x => { x with step := 11, trialDone := true })

theorem Dev.bootEnded_mode (d : Dev) (b : BootReport) : (d.bootEnded b).modes.mode = d.modes.mode := by
  have h := (Dev.measureLoaded_modes _).trans (Dev.bootUnits_modes (d.onModes (fun m => { m with storeOpen := m.storeOpen && b.storeTagOk })) b.failedUnits)
  unfold Dev.bootEnded
  generalize Dev.measureLoaded _ = e at *
  show e.modes.mode = _
  rw [h]
  rfl

/-- The mode that boot ends in, by what it has found (R15). -/
theorem bootComplete_due {b : BootReport} (hs : d.boot.step = 8) (hh : d.boot.halted = false) (hm : d.modes.mode = .boot ∨ d.modes.mode = .sealed) :
    bootComplete b d =
      if (d.bootEnded b).modes.mode = .sealed then d.bootEnded b
      else if (d.bootEnded b).dbg.certActive = true ∨ ((d.bootEnded b).lcState = 1 ∧ (d.bootEnded b).lcy.bootState = 1) then
        ((d.bootEnded b).formTestRoot.onModes (fun m => { m with hold := m.bootAlarm })).takeEdge .debug d.modes.bootEdge 0
      else if (d.bootEnded b).modes.storeOpen = false then ((d.bootEnded b).takeEdge .sealed d.modes.bootEdge 0).abortAll 0x0F01
      else if (d.bootEnded b).modes.bootAlarm = true then (d.bootEnded b).takeEdge .quiesced .alarm 0
      else (d.bootEnded b).takeEdge (d.bootEnded b).serviceMode d.modes.bootEdge 0 := by
  have hdue : (d.boot.step != 8 || d.boot.halted || !(d.modes.mode == .boot || d.modes.mode == .sealed)) = false := by rcases hm with hm | hm <;> simp [hs, hh, hm]
  unfold bootComplete
  rw [hdue, if_neg Bool.false_ne_true]
  extract_lets k a c e
  have he : e = d.bootEnded b := rfl
  rw [← he]
  clear_value e
  refine ite_congr (by simp) (fun _ => rfl) fun _ => ite_congr ?_ (fun _ => rfl) fun _ => ite_congr (by simp) (fun _ => rfl) fun _ => rfl
  simp [Dev.bothStates]

theorem pllLock_eq (d : Dev) : pllLock d = if !d.mayBoot || d.time.pllLocked then d else
    ((d.onModes (fun m => { m with tickAlarms := 0, tickPower := false })).onTime
      (fun x => { x with pllLocked := true, dev := d.time.stamp * 100000000 / 32768, monEpoch := d.time.stamp * 100000000 / 32768 })).bootRun := by
  unfold pllLock
  simp only [Dev.onTime, Dev.onModes, ModeSt.newTick]

/-- Settles O52. -/
theorem bootEvents : Obligations.BootEvents := by
  refine ⟨?lock, ?run, ?complete, ?units⟩
  case lock =>
    intro s d may t
    have ends {u : Dev} (h : pllLock d = u) : s.goes .pllLock u := congrArg (fun e => Host.Outcome.next (s.withDev e)) h
    have hmay : (!d.mayBoot || d.time.pllLocked) = false ↔ may := by
      simp only [Dev.mayBoot, Bool.or_eq_false_iff, Bool.not_eq_eq_eq_not, Bool.not_false, Bool.and_eq_true, beq_iff_eq, and_assoc, may]
    exact ⟨fun h => ends ((pllLock_eq d).trans (if_pos (by rw [← Bool.not_eq_false, hmay]; exact h))),
      fun h => ends ((pllLock_eq d).trans (if_neg (ne_true_of_eq_false (hmay.2 h))))⟩
  case run =>
    intro d e scrap good trial active first second runs
    have hfirst : d.firstBank = first := by
      unfold Dev.firstBank Dev.onTrial
      exact ite_congr (by simp) (fun _ => rfl) fun _ => rfl
    have hsecond : d.secondBank = second := by
      unfold Dev.secondBank Dev.onTrial
      exact ite_congr (by simp) (fun _ => rfl) fun _ => rfl
    have htrial : d.onTrial = decide trial := by
      unfold Dev.onTrial
      rw [Bool.eq_iff_iff]
      simp [trial]
    have hruns {b : Nat} {t f : Bool} (h : Ran d e b t f) : runs b t f := by
      obtain ⟨hb, ht, hf, hstep, hhalted, hwait⟩ := h.course
      refine ⟨hb, ht, hf, hstep, hhalted, hwait, h.answering, fun h4 => ?_, h.copied⟩
      rw [h.storeOpen h4, Dev.masterOf_isSome]
      split <;> rfl
    refine ⟨fun hs => ?scraps, fun hs h5 => ?scrapped, fun hs h5 => ?selects⟩
    case scraps =>
      obtain ⟨hhalted, hstep, hburn, hlog⟩ := d.bootScraps_spec
      have he : e = d.bootScraps.onModes (fun m => { m with inReset := none }) := (Dev.bootRun_scraps hs).trans (Dev.bootRests_of_rest (.inl hhalted))
      rw [he]
      exact ⟨hhalted, hstep, hburn, rfl, hlog⟩
    case scrapped =>
      have he : e = (d.romStart.eraseEmber.onBoot (fun b => { b with halted := true, step := 2 })).onModes (fun m => { m with inReset := none }) := by
        refine (Dev.bootRun_goes hs).trans ?_
        rw [Dev.romBoot_scrapped h5, Dev.bootStages_of_step (show (2 : Nat) ≠ 8 by decide)]
        exact Dev.bootRests_of_rest (.inl rfl)
      rw [he]
      exact ⟨rfl, rfl, rfl, rfl, rfl⟩
    case selects =>
      obtain ⟨hone, htwo, hnone⟩ := Dev.romBoot_outcome h5
      rw [hfirst, htrial] at hone
      rw [hfirst, hsecond] at htwo hnone
      refine ⟨fun hg => ?_, fun hn hg => ?_, fun hn hn2 => ?_⟩
      · obtain ⟨x, hx, hr⟩ := hone hg
        exact hruns (Dev.bootRun_ran hs hx hr)
      · obtain ⟨x, hx, hr⟩ := htwo hn hg
        exact hruns (Dev.bootRun_ran hs hx hr)
      · obtain ⟨x, hx, hr⟩ := hnone hn hn2
        have he : e = (x.onBoot (fun b => { b with recoveryWait := true, step := 3, trial := false })).onModes (fun m => { m with inReset := none }) := by
          refine (Dev.bootRun_goes hs).trans ?_
          rw [hr, Dev.bootStages_of_step (show (3 : Nat) ≠ 8 by decide)]
          exact Dev.bootRests_of_rest (.inr rfl)
        rw [he]
        exact ⟨rfl, rfl, hx.answering, rfl⟩
  case complete =>
    intro s b d due a e debug k
    have ends {u : Dev} (h : bootComplete b d = u) : s.goes (.bootComplete b) u := congrArg (fun e => Host.Outcome.next (s.withDev e)) h
    have hdue : (d.boot.step != 8 || d.boot.halted || !(d.modes.mode == .boot || d.modes.mode == .sealed)) = false ↔ due := by
      simp only [Bool.or_eq_false_iff, bne_eq_false_iff_eq, Bool.not_eq_eq_eq_not, Bool.not_false, Bool.or_eq_true, beq_iff_eq, and_assoc, due]
    have he : d.bootEnded b = e := rfl
    have hmode := d.bootEnded_mode b
    have hends (h : due) := bootComplete_due (b := b) h.1 h.2.1 h.2.2
    rw [he] at hmode hends
    refine ⟨fun h => ends (if_pos (by rw [← Bool.not_eq_false, hdue]; exact h)), fun h hm => ends ((hends h).trans (if_pos (hmode.trans hm))), fun h hm => ?_⟩
    · have hcomplete := (hends h).trans (if_neg fun hs => absurd ((hmode.trans hm).symm.trans hs) (by decide))
      refine ⟨fun hd => ends (hcomplete.trans (if_pos hd)), fun hd ho => ?_, fun hd ho ha => ?_, fun hd ho ha => ?_⟩
      all_goals have hlocked := hcomplete.trans (if_neg hd)
      · exact ends (hlocked.trans (if_pos ho))
      · exact ends (hlocked.trans ((if_neg (ne_false_of_eq_true ho)).trans (if_pos ha)))
      · exact ends (hlocked.trans ((if_neg (ne_false_of_eq_true ho)).trans (if_neg (ne_true_of_eq_false ha))))
  case units =>
    intro d l u hu hp
    refine ⟨fun h => ?_, fun h => ?_⟩
    · rw [d.bootUnits_unit l hu hp (.inl h), h]
      simp
    · rw [d.bootUnits_unit l hu hp (.inr h), h]
      simp

end Sys2Proof.Machine
end
